-- ==== Sys2Proof/Word.lean ====
section
/-!
DEFINITION. Word.lean: the words of the part and the two plain containers the state is built from.
Registers are 32 bits wide and little-endian (R9); memories are read by the byte.
-/

namespace Sys2Proof

/-- A register's contents: 32 bits (R9). -/
abbrev Word := BitVec 32

/-- One byte of a memory, a frame or a container. -/
abbrev Byte := BitVec 8

/-- A sparse map from numbers to values. Its canonical form has strictly rising keys; a map kept by
`Store.put` also lists no entry equal to what an unlisted key reads as. -/
abbrev Store (α : Type) := List (Nat × α)

/-- A set of numbers, kept as a strictly rising list. -/
abbrev NatSet := List Nat

end Sys2Proof
end

