-- ==== Sys2Proof/Syntax.lean ====
section
/-!
DEFINITION. Syntax.lean: the commands of the part, one constructor for each row of the table of operations and
events, with what each carries. A write or read names its master and the item it addresses; an event of the
hardware (a frame's arrival, the end of a fetch, a timer) names the place it happens at and carries what the
outside world supplies (bytes received, a measured capacity, a self-test's verdict).
-/

namespace Sys2Proof

/-- A source of register requests (R20, Table 01.2). -/
inductive Master where
  /-- The operator physical function, master ID 0x0001. -/
  | pf
  /-- The virtual function of slice n, master ID 0x0040 + n. -/
  | vf (n : Fin 32)
  /-- Management engine k, master ID 0x0080 + k. -/
  | me (k : Fin 4)
  deriving DecidableEq, Repr

/-- The class a report carries (R320). -/
inductive FaultClass where
  | corr
  | cont
  | fatal
  deriving DecidableEq, Repr

/-- The tile that ends a failed interconnect path (R80): its pipe, its stage (31 when the path reaches no
stage tile), its kind and its logical number. -/
structure TilePath where
  pipe : Fin 2
  stage : Nat
  action : Bool
  tile : Nat
  deriving DecidableEq, Repr

/-- Who executes a microword: a frame in a pipe, or a management engine (R127, R136). -/
inductive Exec where
  /-- The frame in pipe context `c`. -/
  | frame (c : Nat)
  /-- Engine k. -/
  | engine (k : Fin 4)
  deriving DecidableEq, Repr

/-- The kind of element a report names (R335, Table 11.8, Table 11.10). -/
inductive Element where
  /-- A match tile; DETAIL bytes 0 and 1 give kind 0 and its logical number. -/
  | matchTile
  /-- An action tile's logic; DETAIL bytes 0 and 1 give kind 1 and its logical number. -/
  | actionTile
  /-- A control-store word (R142). -/
  | storeWord
  /-- A row of a pipe image store (R338). -/
  | imageRow
  /-- A row of any other memory. -/
  | memoryRow
  /-- An HBM channel lost by its PHY (Table 11.8). -/
  | channel
  /-- Logic, references, links and everything Table 11.10 does not test. -/
  | logic
  deriving DecidableEq, Repr

/-- What a scrub ran over (R144): a slice's stores, or an engine's. -/
inductive ScrubTarget where
  | slice (n : Fin 32)
  | engine (k : Fin 4)
  deriving DecidableEq, Repr

/-- Where a frame's bytes come from (R193): a front port, a slice's recirculation path, host injection, or what the
part makes itself (copies of egress pipes, notification and collector frames). -/
inductive RxSource where
  | port (p : Fin 1024)
  | recirc (n : Fin 32)
  | host
  | made
  deriving DecidableEq, Repr

/-- What a link-training frame asks of the transmitter (R260). -/
inductive TrainReq where
  /-- No change is asked. -/
  | hold
  /-- One step up or down of tap `tap`. -/
  | step (tap : Nat) (up : Bool)
  /-- Preset k. -/
  | preset (k : Nat)
  /-- Precoding on or off. -/
  | precode (on : Bool)
  deriving DecidableEq, Repr

/-- The commands: one constructor per row of the table of operations and events. -/
inductive Instr where
  /-- REGISTER_WRITE (R24): A master writes a register that has no row of its own; the write completes on the register's acknowledge, and any condition it carries is judged first. -/
  | registerWrite (m : Master) (addr : Nat) (data : Word)
  /-- WIDE_LOW_READ (R30): A read of the low word of a value wider than 32 bits captures the high word into a holding copy for the same master. -/
  | wideLowRead (m : Master) (addr : Nat)
  /-- UNMAPPED_ACCESS (R372): An access to an unmapped BAR0 offset is discarded or returns zero; it sets UNMAP for the PF, or is a REG violation for a VF. -/
  | unmappedAccess (m : Master) (addr : Nat) (write : Bool)
  /-- BAD_SHAPE_REQUEST (R371): A host request of a refused shape is discarded or returns zeros, and BADACC is set. -/
  | badShapeRequest (m : Master) (write : Bool) (dwords : Nat)
  /-- LOCK_READ (R35): A read of a lock register takes a free lock, or returns the holder's ID, or 0xFFFF when the lock is not available to the reader. -/
  | lockRead (m : Master) (i : Fin 64)
  /-- LOCK_WRITE (R35): A write by the holder frees the lock; a write by any other master is ignored and sets VIOL and VIOL_LOCK. -/
  | lockWrite (m : Master) (i : Fin 64) (data : Word)
  /-- LOCK_FORCE (R35): A PF write of MBX_LOCK_CTL.FORCE frees lock INDEX, whoever holds it. -/
  | lockForce (m : Master) (i : Fin 64)
  /-- FAULT_REPORT (R31): A detector's report is granted at the fault collector and opens a collection round when none is open. -/
  | faultReport (src : Nat) (cls : FaultClass) (elem : Element) (detail : Nat) (tile : Nat)
  /-- COLLECTION_ROUND_CLOSE (R324): The collector's snapshot closes the round; its reports are sorted, counted, merged or opened as records, and the safe state is started. -/
  | collectionRoundClose
  /-- SHADOW_END (R329): The reaction shadow of a record expires after TIME_US. -/
  | shadowEnd (r : Fin 64)
  /-- SELFTEST_DONE (R335): A targeted self-test ends; a pass marks the fault transient, and a failure marks it lasting and leads to sparing or HELD. -/
  | selftestDone (r : Nat) (pass : Bool)
  /-- SPARE_REPAIR_DONE (R337): The spare is mapped, filled and continuity-checked, and the scope resumes service. -/
  | spareRepairDone (r : Nat)
  /-- FIRST_FAULT_CLEAR (R324): A write of 1 to FLT_FIRST.VALID clears the first-fault register. -/
  | firstFaultClear (m : Master)
  /-- CLOSE (R326): FLT_REC_CMD.CLOSE frees a record in state DONE, or in FATAL after a core reset. -/
  | close (m : Master) (r : Fin 64)
  /-- RELEASE (R339): FLT_REC_CMD.RELEASE returns the scope of a HELD record to service after a continuity check. -/
  | release (m : Master) (r : Fin 64)
  /-- REPAIR (R337): FLT_REC_CMD.REPAIR brings a spare into service for a HELD record. -/
  | repair (m : Master) (r : Fin 64)
  /-- FATAL_RESET_TIMER (R405): 10 ms after a FATAL record opens with FATAL_RST set, a core reset starts. -/
  | fatalResetTimer
  /-- COLLECTOR_SELFCHECK_DONE (R334): The collector's self-check passes after the always-on supply becomes valid, and the ERR pair goes to good. -/
  | collectorSelfcheckDone
  /-- AVS_LOOP_PERIOD (R43): Each loop period the voltage loop compares capacity with need and raises, lowers or holds the commanded voltage. -/
  | avsLoopPeriod
  /-- AVS_TRANSACTION_DONE (R45): An AVSBus transaction is acknowledged or fails; three consecutive failures stop the loop, set BUSERR and report a CONT fault. -/
  | avsTransactionDone (ok : Bool)
  /-- AVS_VREAD_REFRESH (R43): Every 100 µs the loop reads the regulator voltage back into VREAD. -/
  | avsVreadRefresh (mv : Nat)
  /-- AVS_BUSERR_CLEAR (R45): Software clears BUSERR and the stopped voltage loop restarts. -/
  | avsBuserrClear (m : Master)
  /-- PACE_WINDOW_END (R48): A pace window ends; CAP and LOAD are refreshed, MINCAP is updated and ALARM may be set. -/
  | paceWindowEnd (n : Fin 32) (pipe : Fin 2) (st : Fin 4) (cap : Nat)
  /-- RIND_COMMIT (R56): A write of SLC_RIND_CMD.COMMIT starts checking the staging window as descriptor IDX. -/
  | rindCommit (m : Master) (n : Fin 32) (idx : Fin 16)
  /-- RIND_COMMIT_DONE (R56): The commit check ends; the descriptor takes effect or is refused with RESULT. -/
  | rindCommitDone (n : Fin 32)
  /-- QUARANTINE_WINDOW_END (R61): The 1 ms violation-counting window of the time base ends and a new one begins. -/
  | quarantineWindowEnd
  /-- QUARANTINE_RELEASE (R61): The PF writes 1 to a QUAR bit, which ends the compartment's quarantine. -/
  | quarantineRelease (m : Master) (n : Fin 32) (mask : BitVec 8)
  /-- LOAD (R69): Loader command LOAD starts fetching, checking and building a shadow from a container. -/
  | load (m : Master) (n : Fin 32)
  /-- VERIFY (R69): Loader command VERIFY fetches a container and runs checks 0x01 to 0x0C without writing the shadow. -/
  | verify (m : Master) (n : Fin 32)
  /-- SWAP (R73): Loader command SWAP starts a bank swap, or a drain swap for a DRAIN container. -/
  | swap (m : Master) (n : Fin 32)
  /-- DISCARD (R69): Loader command DISCARD drops the shadow contents and returns the loader to IDLE. -/
  | discard (m : Master) (n : Fin 32)
  /-- FORCE_RETIRE (R77): Loader command FORCE_RETIRE marks the old epoch dead and retires the old bank. -/
  | forceRetire (m : Master) (n : Fin 32)
  /-- ABORT (R69): Loader command ABORT stops a running LOAD or VERIFY and ends it with code ABORT. -/
  | abort (m : Master) (n : Fin 32)
  /-- LOADER_CMD_RESERVED (R69): A loader command code not in Table 02.9 is refused with code STATE. -/
  | loaderCmdReserved (m : Master) (n : Fin 32) (cmd : Fin 16)
  /-- LOAD_PLACE_TAKEN (R71): A waiting LOAD or VERIFY takes one of the four container places and starts its fetch. -/
  | loadPlaceTaken (n : Fin 32)
  /-- LOAD_FETCH_DONE (R441): The container fetch from host memory ends, or fails with FETCH, and the header and claim checks follow. -/
  | loadFetchDone (n : Fin 32) (bytes : Option (List Byte))
  /-- LOAD_SIGNATURES_DONE (R68): ECDSA and LMS verification of a container ends; a failure rejects the container and the place is freed. -/
  | loadSignaturesDone (n : Fin 32)
  /-- LOAD_SHADOW_DONE (R68): The frame checks and the shadow write end; the loader is LOADED, or IDLE with a code. -/
  | loadShadowDone (n : Fin 32)
  /-- EPOCH_SWITCH (R73): After any wait of R76, the new epoch becomes current at both admission arbiters and the loader enters RETIRING. -/
  | epochSwitch (n : Fin 32)
  /-- BANK_RETIRE (R75): The old epoch's in-flight counts both reach zero, the old bank is retired and the loader returns to IDLE. -/
  | bankRetire (n : Fin 32)
  /-- RETIRE_TIMEOUT (R77): RETIRE_TMO expires; RETIRE_LATE is set, and retirement is forced when AUTO_FORCE is 1. -/
  | retireTimeout (n : Fin 32)
  /-- DRAIN_START (R78): After any wait of R76, slice admission stops, dequeue toward the slice pauses, and STATE becomes DRAIN. -/
  | drainStart (n : Fin 32)
  /-- DRAIN_PIPES_DONE (R79): Frames in both pipes of the draining slice have finished. -/
  | drainPipesDone (n : Fin 32)
  /-- DRAIN_BOUND_REACHED (R79): The drain bound is reached; frames still in the pipes are discarded and counted in SLC_DRAIN_DROP. -/
  | drainBoundReached (n : Fin 32)
  /-- DRAIN_SWITCH_DONE (R78): The interconnect and tile assignment are switched to the new setting, the banks are switched, and the continuity check starts. -/
  | drainSwitchDone (n : Fin 32)
  /-- CONTINUITY_CHECK_DONE (R80): The continuity check of the new interconnect ends; a pass resumes the slice, and a failure reverts and reports a CONT fault. -/
  | continuityCheckDone (n : Fin 32) (failed : Option TilePath)
  /-- REVERT_CHECK_DONE (R80): The restored interconnect has been checked, and admission and dequeue resume with CODE SELFCHECK. -/
  | revertCheckDone (n : Fin 32)
  /-- RX_FRAME_START (R193): A frame's first byte reaches the vat from a front port, recirculation, host injection or an egress copy; its first cell and descriptor are allocated. -/
  | rxFrameStart (src : RxSource) (bytes : List Byte)
  /-- RX_FRAME_END (R236): A frame ends at the port and is closed good or errored, or is counted under its first applicable reason. -/
  | rxFrameEnd (src : RxSource) (bytes : List Byte) (bad : Bool)
  /-- RX_OVERSIZE (R235): Byte MAXLEN + 1 arrives; the frame is closed as errored and the rest of it is discarded. -/
  | rxOversize (p : Fin 1024)
  /-- REASM_TIMEOUT (R213): A frame still open REASM_TMO µs after its last byte is closed as errored. -/
  | reasmTimeout (f : Nat)
  /-- INGRESS_ADMIT (R72): A stream's admission arbiter grants a frame, which is tagged with compartment and epoch and handed to the separator. -/
  | ingressAdmit (n : Fin 32) (st : Fin 4) (ret pace : Bool)
  /-- PARSE_DONE (R92): The separator holds every byte the parse needs; the parse graph and the pattern unit complete the frame's metadata. -/
  | parseDone (c : Nat)
  /-- STAGE_ENTRY (R119): A frame enters a stage, reads its compartment sub-block, runs any ENTRY = 2 lookup and dispatches. -/
  | stageEntry (c : Nat)
  /-- NOP (R128): Microword operation NOP writes no result. -/
  | nop (x : Exec)
  /-- MOV (R128): Microword operation MOV writes operand B. -/
  | mov (x : Exec)
  /-- ADD (R128): Microword operation ADD writes A + B. -/
  | add (x : Exec)
  /-- SUB (R128): Microword operation SUB writes A − B. -/
  | sub (x : Exec)
  /-- AND (R128): Microword operation AND writes A AND B. -/
  | and (x : Exec)
  /-- OR (R128): Microword operation OR writes A OR B. -/
  | or (x : Exec)
  /-- XOR (R128): Microword operation XOR writes A XOR B. -/
  | xor (x : Exec)
  /-- SHL (R128): Microword operation SHL shifts A left by B[5:0]. -/
  | shl (x : Exec)
  /-- SHR (R128): Microword operation SHR shifts A right by B[5:0] with zero fill. -/
  | shr (x : Exec)
  /-- CMP (R128): Microword operation CMP sets the flags of A − B only. -/
  | cmp (x : Exec)
  /-- MIN (R128): Microword operation MIN writes the lower of A and B. -/
  | min (x : Exec)
  /-- MAX (R128): Microword operation MAX writes the higher of A and B. -/
  | max (x : Exec)
  /-- CSUM (R128): Microword operation CSUM writes the ones'-complement sum of the 16-bit words of A and B. -/
  | csum (x : Exec)
  /-- CRC (R128): Microword operation CRC writes the CRC-32C of A with initial value B. -/
  | crc (x : Exec)
  /-- SETB (R128): Microword operation SETB sets bit B[5:0] of A. -/
  | setb (x : Exec)
  /-- CLRB (R128): Microword operation CLRB clears bit B[5:0] of A. -/
  | clrb (x : Exec)
  /-- RSVOP (R128): A reserved OP, SEQ or MEMOP value acts as NOP, END or no operation and is counted in RSVOP. -/
  | rsvop (x : Exec)
  /-- STAGE_TABLE_LOOKUP (R121): MEMOP 1 looks up stage table 0 or 1 in the stage's own match memory. -/
  | stageTableLookup (c : Nat)
  /-- ENDPOINT_LOOKUP (R160): MEMOP 2 looks up the endpoint cache, and on a tag match parks the frame and reads HBM. -/
  | endpointLookup (c : Nat)
  /-- ROUTE_LOOKUP (R179): MEMOP 3 looks up the longest matching prefix in the slice's press bank. -/
  | routeLookup (c : Nat)
  /-- ACL_LOOKUP (R184): MEMOP 4 searches a range of the pipe's ACL memory; the lowest matching index wins. -/
  | aclLookup (c : Nat)
  /-- FLOW_CONTEXT_READ (R283): MEMOP 5 reads one quarter of a flow context into a response slot. -/
  | flowContextRead (c : Nat)
  /-- FLOW_CONTEXT_WRITE (R283): MEMOP 6 writes masked bytes of one quarter of a flow context. -/
  | flowContextWrite (c : Nat)
  /-- COUNTER_ADD (R446): MEMOP 7 adds 1 and LEN to a counter of the slice's pool. -/
  | counterAdd (c : Nat)
  /-- METER (R292): MEMOP 8 colours the frame with a meter of the slice. -/
  | meter (c : Nat)
  /-- LEARN (R171): MEMOP 9 posts a learn of the key at the frame's ORIG_PORT, refreshing TS or entering the shard's learn queue. -/
  | learn (c : Nat)
  /-- FLOW_STATE_UPDATE (R285): MEMOP 10 measures a flow context and may decide a decrease, increase or release. -/
  | flowStateUpdate (c : Nat)
  /-- MEMOP_COMPLETE (R133): A posted or awaited memory operation completes and writes its response slot and flags. -/
  | memopComplete (c i : Nat)
  /-- MISS_READ_RETURN (R160): An HBM miss read returns; a key match fills the cache line and resumes the stall flow, otherwise the next candidate is read. -/
  | missReadReturn (i : Nat) (dup : Bool) (err : Fin 3) (ch : Fin 16)
  /-- MISS_STALL_TIMEOUT (R162): A miss stall exceeds MISS_TMO or the 6 µs total, and the miss action applies to the whole stall flow. -/
  | missStallTimeout (i : Nat)
  /-- FLOW_MISS_RETURN (R280): A flow-context miss read returns, fills the flow cache and resumes the flow stall. -/
  | flowMissReturn (i : Nat) (ok : Bool) (ch : Fin 16)
  /-- FLOW_STALL_TIMEOUT (R280): A flow stall times out and every frame in it is answered as unresolved. -/
  | flowStallTimeout (i : Nat)
  /-- RESOLVE (R98): At the end of stage I23 the decision is resolved into copies, each rind-checked and admitted to the vat. -/
  | resolve (c : Nat)
  /-- DEQUEUE (R223): A destination's scheduler serves an eligible queue and dequeues its head copy toward the egress pipe or the port. -/
  | dequeue (d : Fin 1058)
  /-- COLLECTOR_FLUSH_TIMEOUT (R309): FLUSH_US after its first record, a collector's partial frame is sent. -/
  | collectorFlushTimeout (j : Fin 8)
  /-- QUEUE_HEAD_DISCARD (R205): A copy of an errored, dropped or down-port frame at a queue head is discarded and its reference released. -/
  | queueHeadDiscard (q : Fin 21396)
  /-- DEPARSE (R126): At the end of stage E23 the deparser runs program DPROG and emits the frame and its copies. -/
  | deparse (c : Nat)
  /-- TRANSMIT_START (R240): The port starts sending a copy, applying tag operation, PTP and IOAM stamping. -/
  | transmitStart (d : Fin 1058)
  /-- TRANSMIT_DONE (R209): The last byte of a copy is sent; the copy finishes, its reference is released and a two-step timestamp may be queued. -/
  | transmitDone (d : Fin 1058)
  /-- TRANSMIT_UNDERRUN (R243): The MAC needs a byte not yet in the vat; the copy is ended and CT_STEP is raised. -/
  | transmitUnderrun (p : Fin 1024)
  /-- SPILL_START (R216): The skim engine starts spilling the candidate nearest the tail of a queue over SPILL_ON. -/
  | spillStart (q : Fin 20480)
  /-- SPILL_WRITE_ACK (R217): The last spill write is acknowledged; the frame becomes SPILLED and its vat cells are released. -/
  | spillWriteAck (f : Nat)
  /-- READBACK_START (R218): A spilled frame enters its AHEAD window, or cells become free for a waiting read-back, and its HBM reads are issued. -/
  | readbackStart (q : Fin 20480)
  /-- READBACK_DONE (R218): A read-back returns its cells to the vat, or an uncorrectable error discards the frame. -/
  | readbackDone (f cells : Nat) (ok : Bool)
  /-- OBJECT_FREE (R153): Every frame in a pipe pass when an object delete completed has finished that pass, and the object becomes FREE. -/
  | objectFree (i : Fin 262144)
  /-- LB_ENTRY_WRITE (R105): SLC_LB_ACC.WR writes one indirection entry of the active bank. -/
  | lbEntryWrite (m : Master) (n : Fin 32) (acc : Word)
  /-- LB_ENTRY_READ (R105): SLC_LB_ACC.RD loads one indirection entry into SLC_LB_DATA. -/
  | lbEntryRead (m : Master) (n : Fin 32) (acc : Word)
  /-- MIRROR_CFG1_WRITE (R107): A write to SLC_MIR_CFG1 sets sampling and resets the session's sample counter. -/
  | mirrorCfg1Write (m : Master) (n : Fin 32) (i : Fin 16) (data : Word)
  /-- CS_WORD_WRITE (R145): SLC_CS_ACC.WR writes one microword or dispatch entry of the active bank in all four engine copies. -/
  | csWordWrite (m : Master) (n : Fin 32) (acc : Word)
  /-- CS_WORD_READ (R145): SLC_CS_ACC.RD loads one microword or dispatch entry into SLC_CS_DATA. -/
  | csWordRead (m : Master) (n : Fin 32) (acc : Word)
  /-- SLICE_SCRUB (R144): SLC_CS_PROT.SCRUB starts recomputing the active bank's digest of both pipes. -/
  | sliceScrub (m : Master) (n : Fin 32)
  /-- ENGINE_SCRUB (R144): MGE_CTL.SCRUB starts recomputing an engine store's digest. -/
  | engineScrub (m : Master) (k : Fin 4) (data : Word)
  /-- SCRUB_DONE (R144): A scrub ends; it records the digest when NOREF is set, or compares it and sets SMISM on a mismatch. -/
  | scrubDone (x : ScrubTarget)
  /-- ENGINE_RUN (R140): MGE_CTL.RUN = 1 starts the engine at START, or at dispatch entry 0xFE when a journal was open. -/
  | engineRun (m : Master) (k : Fin 4) (data : Word)
  /-- ENGINE_HALT_REQUEST (R146): MGE_CTL.RUN = 0 asks the engine to halt at its next microword or step boundary. -/
  | engineHaltRequest (m : Master) (k : Fin 4) (data : Word)
  /-- ENGINE_HALTED (R146): The engine reaches its boundary and halts, setting HALTED. -/
  | engineHalted (k : Fin 4)
  /-- ENGINE_CS_READ (R146): MGE_CS_ACC.RD loads one engine store word into MGE_CS_DATA. -/
  | engineCsRead (m : Master) (k : Fin 4) (acc : Word)
  /-- ENGINE_INTERRUPT (R139): An engine takes a pending interrupt after a microword, or after a step commit while a journal is open. -/
  | engineInterrupt (k : Fin 4)
  /-- JOPEN (R137): Engine operation JOPEN opens a journal for a routine. -/
  | jopen (k : Fin 4)
  /-- JCLOSE (R137): Engine operation JCLOSE closes the open journal. -/
  | jclose (k : Fin 4)
  /-- LDI (R136): Engine operation LDI loads IMM into a register. -/
  | ldi (k : Fin 4)
  /-- ENGINE_LOAD (R136): Engine memory operation LOAD reads a space into a register or an entry buffer. -/
  | engineLoad (k : Fin 4)
  /-- ENGINE_STORE (R138): Engine memory operation STORE writes a space, held as a step write while a journal is open. -/
  | engineStore (k : Fin 4)
  /-- CALL (R136): Engine sequencing CALL pushes the return address and jumps. -/
  | call (k : Fin 4)
  /-- RET (R136): Engine sequencing RET returns from the return stack. -/
  | ret (k : Fin 4)
  /-- WAIT (R136): Engine sequencing WAIT idles the engine until an interrupt. -/
  | wait (k : Fin 4)
  /-- HALT (R136): Engine sequencing HALT stops the engine. -/
  | halt (k : Fin 4)
  /-- TU_READ_INDEX (R445): Update-port operation READ by index reads an entry image. -/
  | tuReadIndex (m : Master) (port : Fin 33) (cmd : Word)
  /-- TU_WRITE (R445): Update-port operation WRITE inserts or replaces an entry, route or object. -/
  | tuWrite (m : Master) (port : Fin 33) (cmd : Word)
  /-- TU_DELETE (R445): Update-port operation DELETE removes an entry, route or object. -/
  | tuDelete (m : Master) (port : Fin 33) (cmd : Word)
  /-- TU_READ_KEY (R445): Update-port operation READ by key reads an endpoint entry or a route. -/
  | tuReadKey (m : Master) (port : Fin 33) (cmd : Word)
  /-- UPDATE_CMD_DONE (R169): An update command finishes in every bank or copy, BUSY clears and RESULT is set. -/
  | updateCmdDone (port : Fin 33)
  /-- LEARN_APPLY (R171): A queued learn is granted at its shard and installs, refreshes, moves or is refused. -/
  | learnApply (shard : Fin 16)
  /-- AGE_TICK (R175): TICK_MS ms of MONO pass and TBL_AGE.NOW rises by one. -/
  | ageTick
  /-- CHURN_VISIT (R176): Churn visits its next slot, compares replicas and finds aged entries. -/
  | churnVisit
  /-- CHURN_COMPARE_DELETE (R177): A churn compare-and-delete is granted and deletes the entry only if its key and TS are unchanged. -/
  | churnCompareDelete (slot : Nat)
  /-- PRESS_SCRUB (R183): The press scrub compares the 8 bank copies of route entries. -/
  | pressScrub
  /-- PRESS_COMPACT (R180): The background press moves holes toward the free rows. -/
  | pressCompact (b : Fin 8)
  /-- MISS_RATE_WRITE (R163): A write of TBL_MISS_RATEn is accepted or refused with RATEERR. -/
  | missRateWrite (m : Master) (n : Fin 32) (data : Word)
  /-- FLAP_REC_READ (R173): A read of TBL_FLAP_REC0 returns the record and releases both record registers. -/
  | flapRecRead (m : Master)
  /-- QUEUE_SETTINGS_WRITE (R199): VAT_QACC.WR writes one queue's admission, scheduling and shaping settings. -/
  | queueSettingsWrite (m : Master) (acc : Word)
  /-- QUEUE_READ (R198): VAT_QACC.RD loads one queue's settings and depths. -/
  | queueRead (m : Master) (acc : Word)
  /-- MC_ENTRY_WRITE (R210): VAT_MC_ACC.WR writes a group or target entry, or refuses a group range with ERR. -/
  | mcEntryWrite (m : Master) (acc : Word)
  /-- MC_ENTRY_READ (R210): VAT_MC_ACC.RD loads a group or target entry into VAT_MC_DATA. -/
  | mcEntryRead (m : Master) (acc : Word)
  /-- MC_GROUP_DRAINED (R210): Every replication that read the earlier group entry has finished, and BUSY clears. -/
  | mcGroupDrained
  /-- VAT_MODE_WRITE (R196): A write of VAT_CTL.MODE changes the buffer mode, or sets CFGERR while EN is 1. -/
  | vatModeWrite (m : Master) (data : Word)
  /-- PORT_ENABLE (R248): PORT_CTL.EN written to 1 puts the port in DOWN and starts lane bring-up. -/
  | portEnable (m : Master) (p : Fin 1024) (data : Word)
  /-- PORT_DISABLE (R248): PORT_CTL.EN written to 0 ends the copy in transmission, closes the partial frame and puts the port in DISABLED. -/
  | portDisable (m : Master) (p : Fin 1024) (data : Word)
  /-- FORCE_LF (R247): PORT_CTL.FORCE_LF written to 1 puts the port in SAFE, sending Local Fault. -/
  | forceLf (m : Master) (p : Fin 1024) (data : Word)
  /-- OCTET_MODE_WRITE (R230): A write of PORT_OCT.MODE changes the octet's mode and restarts its lanes, or sets MERR. -/
  | octetModeWrite (m : Master) (k : Fin 128) (data : Word)
  /-- CT_STEP_WRITE (R244): A software write of PORT_CT is ordered with the hardware's raise of CT_STEP. -/
  | ctStepWrite (m : Master) (p : Fin 1024) (data : Word)
  /-- LINK_FAULT (R245): The PCS loses alignment or a fault ordered set arrives; the partial frame is closed and the port goes DOWN. -/
  | linkFault (p : Fin 1024) (lf rf : Bool)
  /-- LINKUP_DEBOUNCE (R246): The port stays aligned with no fault for LINKUP_DB × 10 µs and enters UP. -/
  | linkupDebounce (p : Fin 1024)
  /-- LANE_TXFIR_WRITE (R258): A write of LANE_TXFIR sets the taps, or sets FIRERR or TWR. -/
  | laneTxfirWrite (m : Master) (l : Fin 1040) (data : Word)
  /-- LANE_CTL_WRITE (R265): A write of LANE_CTL changes function, loopback, polarity or training. -/
  | laneCtlWrite (m : Master) (l : Fin 1040) (data : Word)
  /-- SIGNAL_LOCK (R264): The partner's signal is detected and the receiver clock locks, starting training or data. -/
  | signalLock (l : Fin 1040)
  /-- TRAINING_FRAME_RX (R260): A link-training frame arrives and its requests are answered. -/
  | trainingFrameRx (l : Fin 1040) (valid : Bool) (req : TrainReq)
  /-- TRAINING_DONE (R261): Both ends signal receiver ready; the lane enters data and TRAIN_OK is counted. -/
  | trainingDone (l : Fin 1040) (ownPre : Bool)
  /-- TRAINING_TIMEOUT (R261): Training has not ended within LT_TMO; LTFAIL is set and the lane squelches for 10 ms. -/
  | trainingTimeout (l : Fin 1040)
  /-- TRAINING_RESTART (R261): The 10 ms squelch after a training timeout ends and training starts again. -/
  | trainingRestart (l : Fin 1040)
  /-- CDR_LOSS (R264): A lane in data loses receive lock and returns to awaiting signal. -/
  | cdrLoss (l : Fin 1040)
  /-- REFCLK_LOST (R254): A lane reference group's input is lost or its PLL unlocks; its lanes stop and a CONT fault is reported. -/
  | refclkLost (g : Fin 33)
  /-- PLL_LOCK (R254): A lane group's PLL locks again and its lanes restart. -/
  | pllLock (g : Fin 33)
  /-- PATTERN_WRITE (R269): A write of LANE_PAT restarts the generator from its seed when it is enabled. -/
  | patternWrite (m : Master) (l : Fin 1040) (data : Word)
  /-- INJ_ONE (R271): Writing INJ_ONE inverts the next bit sent. -/
  | injOne (m : Master) (l : Fin 1040) (data : Word)
  /-- INJECT_PERIODIC (R271): Every 2^INJ_EXP bits the generator inverts one bit. -/
  | injectPeriodic (l : Fin 1040)
  /-- MARGIN_SCAN_START (R273): LANE_MARG.START starts a margin scan, or is refused with MERR. -/
  | marginScanStart (m : Master) (l : Fin 1040) (data : Word)
  /-- MARGIN_SCAN_DONE (R273): A margin scan ends, writes its disagreements and clears BUSY. -/
  | marginScanDone (l : Fin 1040) (errors : Word)
  /-- EYE_REFRESH (R272): The receiver refreshes LANE_EYE while it holds lock. -/
  | eyeRefresh (l : Fin 1040) (eye : Word)
  /-- FLOW_ACC_WRITE (R281): FLOW_ACC.WR writes a whole flow context under its arbiter. -/
  | flowAccWrite (m : Master) (acc : Word)
  /-- FLOW_ACC_READ (R281): FLOW_ACC.RD loads a flow context into FLOW_DATA. -/
  | flowAccRead (m : Master) (acc : Word)
  /-- FLOW_CLEAR (R276): FLOW_CTL.CLR written while EN is 0 starts clearing every context and the cache. -/
  | flowClear (m : Master) (data : Word)
  /-- FLOW_CLEAR_DONE (R276): The flow clear ends and CBUSY clears. -/
  | flowClearDone
  /-- FLOW_RATE_WRITE (R278): A write of FLOW_RATEn is accepted or refused with RATEERR. -/
  | flowRateWrite (m : Master) (n : Fin 32) (data : Word)
  /-- METER_CONFIG_WRITE (R293): SLC_MTR_ACC.WR writes a meter's configuration and fills both buckets. -/
  | meterConfigWrite (m : Master) (n : Fin 32) (acc : Word)
  /-- METER_CONFIG_READ (R293): SLC_MTR_ACC.RD loads a meter's configuration. -/
  | meterConfigRead (m : Master) (n : Fin 32) (acc : Word)
  /-- COUNTER_WRITE (R447): SLC_CTR_ACC.WR replaces a counter's PKTS and BYTES. -/
  | counterWrite (m : Master) (n : Fin 32) (acc : Word)
  /-- COUNTER_READ (R447): SLC_CTR_ACC.RD loads a counter, and clears it in the same action when CLR is 1. -/
  | counterRead (m : Master) (n : Fin 32) (acc : Word)
  /-- CLOCK_STEP (R296): A write of TIME_STEP adds a signed value to CLOCK. -/
  | clockStep (m : Master) (data : Word)
  /-- CLOCK_LOAD (R296): TIME_CTL.LOAD replaces CLOCK with TIME_SET and sets LOADED. -/
  | clockLoad (m : Master) (data : Word)
  /-- CLOCK_READ (R297): A read of TIME_CLK0 captures the seconds words of CLOCK. -/
  | clockRead (m : Master)
  /-- PPSIN_READ (R297): A read of TIME_PPSIN0 captures the seconds words of the capture. -/
  | ppsinRead (m : Master)
  /-- PPS_OUT_PULSE (R299): CLOCK's nanosecond field wraps by counting and PPS_OUT rises. -/
  | ppsOutPulse
  /-- PPS_OUT_END (R299): PPS_W ms after its rise, PPS_OUT falls. -/
  | ppsOutEnd
  /-- PPS_IN_EDGE (R300): A rising edge on PPS_IN captures CLOCK and sets PPSI_VALID or PPSI_OVF. -/
  | ppsInEdge
  /-- TSQ_POP (R303): A write of PORT_TSQ0.POP removes the head two-step timestamp entry. -/
  | tsqPop (m : Master) (p : Fin 1024) (data : Word)
  /-- HIST_SNAPSHOT (R312): TELE_HIST_CMD.GO copies a port's live histogram bins into the window, clearing them when CLR is 1. -/
  | histSnapshot (m : Master) (data : Word)
  /-- HIST_SNAPSHOT_DONE (R312): The histogram snapshot finishes and BUSY clears. -/
  | histSnapshotDone
  /-- SUMMARY_HOURLY (R316): 3,600 s after the previous summary write, a ledger summary is written. -/
  | summaryHourly
  /-- FLUSH (R316): LEDG_CTL.FLUSH requests a summary write, accepted when a token is held and no summary write runs. -/
  | flush (m : Master)
  /-- LEDGER_SUMMARY_DONE (R316): A ledger summary write completes and verifies, or is retried and reported. -/
  | ledgerSummaryDone (ok : Bool)
  /-- LEDGER_FLUSH_TOKEN (R316): Every 2 hours of MONO the ledger's flush bucket gains a token. -/
  | ledgerFlushToken
  /-- LEDGER_RECORD_TOKEN (R316): Every 60 s the ledger's general-record bucket gains one record. -/
  | ledgerRecordToken
  /-- LEDGER_DATA_READ (R318): A read of LEDG_DATA returns the word at ADDR and adds 4 to ADDR. -/
  | ledgerDataRead (m : Master)
  /-- HEARTBEAT_SEND (R346): Every 5 µs the device sends a heartbeat on each rail that is up. -/
  | heartbeatSend
  /-- HEARTBEAT_RX (R360): A heartbeat arrives and is judged good or valid; it may start a rejoin or enter MISMATCH. -/
  | heartbeatRx (rail : Fin 2) (frame : List Byte)
  /-- HEARTBEAT_WINDOW_END (R360): A 5 µs heartbeat window ends; missed windows are counted and may start a takeover or SUSPECT. -/
  | heartbeatWindowEnd
  /-- RECORDS_RX (R355): A RECORDS frame arrives; its records are applied in SEQ order, or discarded with a NAK. -/
  | recordsRx (rail : Fin 2) (frame : List Byte)
  /-- ACK_RX (R355): An ACK frees the acknowledged records at the sender. -/
  | ackRx (rail : Fin 2) (frame : List Byte)
  /-- NAK_RX (R355): A NAK makes the sender send again from the named SEQ, or start a resync. -/
  | nakRx (rail : Fin 2) (frame : List Byte)
  /-- ACK_SEND (R346): At least once per µs, an ACK is sent for applied records not yet acknowledged. -/
  | ackSend
  /-- DATA_RX (R347): A DATA frame from the partner is delivered to RX_QP with a punt header, or dropped. -/
  | dataRx (rail : Fin 2) (frame : List Byte)
  /-- RECORD_SEND (R352): Delta records are scheduled and packed into RECORDS frames. -/
  | recordSend
  /-- SWEEP_VISIT (R353): A flow, meter, counter or resync sweep visits its next item and may send its record. -/
  | sweepVisit (k : Fin 4)
  /-- RAIL_CHANGE (R344): A Solyen rail comes up or goes down. -/
  | railChange (rail : Fin 2) (aligned lf rf : Bool)
  /-- PAIR_ENABLE (R349): PAIR_CTL.EN written to 1 enters ALONE with TERM 0. -/
  | pairEnable (m : Master) (data : Word)
  /-- PAIR_DISABLE (R349): PAIR_CTL.EN written to 0 enters OFF. -/
  | pairDisable (m : Master) (data : Word)
  /-- PAIR_TAKEOVER (R360): PAIR_CMD.TAKEOVER, in SUSPECT, takes over from step 3 of Table 12.4. -/
  | pairTakeover (m : Master)
  /-- RESYNC (R364): PAIR_CMD.RESYNC, in PAIRED, makes this device the only donor and starts SYNC. -/
  | resync (m : Master)
  /-- PAIR_RATE_WRITE (R352): A write of PAIR_MCFG0 or PAIR_MCFG1 is accepted or refused with RATEERR. -/
  | pairRateWrite (m : Master) (i : Fin 2) (data : Word)
  /-- QP_RESET (R380): HOST_QP_CTL.RESET stops a queue pair, zeroes its indices and discards its host queue. -/
  | qpReset (m : Master) (h : Fin 256) (data : Word)
  /-- QP_TAIL_WRITE (R375): A TAIL write posts descriptors, or halts the queue pair with cause TAIL. -/
  | qpTailWrite (m : Master) (h : Fin 256) (tx : Bool) (data : Word)
  /-- HOST_TX_FETCH (R376): When the return side is ready, a transmit descriptor and its frame are fetched and injected or rejected. -/
  | hostTxFetch (h : Fin 256) (addr len slice : Nat)
  /-- DMA_READ_COMPLETION (R379): A DMA read completes, or returns an error that halts the queue pair. -/
  | dmaReadCompletion (h : Fin 256) (bytes : Option (List Byte))
  /-- DMA_COMPLETION_TIMEOUT (R379): A DMA read gets no completion in time and the queue pair halts with CPLTMO. -/
  | dmaCompletionTimeout (h : Fin 256)
  /-- HOST_RX_DELIVERY (R377): A host queue's head copy, with enough posted buffers, is written to the receive ring. -/
  | hostRxDelivery (addrs : List Nat)
  /-- ITR_HOLD_END (R383): ITR µs after a queue pair's previous message, a held message is sent. -/
  | itrHoldEnd (h : Fin 256)
  /-- DUTYMAP_WRITE (R385): A write of MGE_DUTYMAP moves duty classes and re-raises pending wakes to the new engines. -/
  | dutymapWrite (m : Master) (data : Word)
  /-- MBX_POST (R387): The sender's POST copies the staging window into the message, sets FULL and wakes the receiver. -/
  | mbxPost (m : Master) (i : Fin 256)
  /-- MBX_MESSAGE_READ (R388): The receiver's read of word 0 captures the message and clears FULL. -/
  | mbxMessageRead (m : Master) (i : Fin 256)
  /-- MBX_TIMEOUT (R390): FULL stays set for TMO_MS and TMO is raised toward the sender. -/
  | mbxTimeout (i : Fin 256)
  /-- MBX_CFG_WRITE (R393): A write of MBX_CFGm sets the parties and discards any message. -/
  | mbxCfgWrite (m : Master) (i : Fin 256) (data : Word)
  /-- DOORBELL_RING (R394): The ringer sets doorbell bits, raising the target's source and wake. -/
  | doorbellRing (m : Master) (d : Fin 64) (bits : Word)
  /-- DOORBELL_CLEAR (R394): The target clears doorbell bits with W1C. -/
  | doorbellClear (m : Master) (d : Fin 64) (bits : Word)
  /-- DOORBELL_CFG_WRITE (R394): A write of MBX_DBCFGd sets the parties and clears the doorbell. -/
  | doorbellCfgWrite (m : Master) (d : Fin 64) (data : Word)
  /-- FLR_VF (R395): A function-level reset of VF n resets only its host-side state. -/
  | flrVf (n : Fin 32)
  /-- FLR_PF (R396): A function-level reset of the PF resets its host-side state and clears VF Enable. -/
  | flrPf
  /-- PCIE_LINK_DOWN (R398): The PCI Express link goes down; every queue pair halts and LINKDN is set. -/
  | pcieLinkDown
  /-- ATTEST_REQUEST (R417): An attestation request is taken by duty class 1 and a signed report is placed in the window. -/
  | attestRequest (i : Fin 256)
  /-- ATTEST_REPLY (R417): The report is signed and the reply is posted on the REPLY mailbox. -/
  | attestReply
  /-- ATTEST_RELEASE (R417): BOOT_ATTCTL.REL releases the attestation window. -/
  | attestRelease (m : Master)
  /-- ATTEST_WINDOW_TIMEOUT (R417): 100 ms after a report is placed, the attestation window is released. -/
  | attestWindowTimeout
  /-- ATTEST_TOKEN (R419): Every 10 minutes of MONO the attestation bucket gains one report. -/
  | attestToken
  /-- DOMAIN_OFF_REQUEST (R401): PWR_DOMd.REQ = 0 switches a domain off when its conditions hold, or is refused. -/
  | domainOffRequest (m : Master) (d : Fin 148)
  /-- DOMAIN_ON_REQUEST (R401): PWR_DOMd.REQ = 1 asks for a domain to be switched on. -/
  | domainOnRequest (m : Master) (d : Fin 148)
  /-- DOMAIN_RAMP_START (R402): A waiting domain request begins its ramp when fewer than four domains ramp. -/
  | domainRampStart
  /-- DOMAIN_RAMP_DONE (R402): A domain reaches its commanded on or off state. -/
  | domainRampDone (d : Fin 148)
  /-- DOMAIN_RAMP_TIMEOUT (R402): A domain has not reached its state 100 µs into its ramp; it is left off and HELD and a PWR fault is reported. -/
  | domainRampTimeout (d : Fin 148)
  /-- POWER_ON_RESET (R404): VDD_AON rises past its reset threshold and the whole device is reset except ledger and fuses. -/
  | powerOnReset
  /-- RESET_N_ASSERT (R404): RESET_N goes low and a core reset starts, abandoning any shutdown. -/
  | resetNAssert
  /-- RESET_N_RELEASE (R400): RESET_N rises; BOOT_SEL is sampled and domain power-up and boot begin. -/
  | resetNRelease (bootSel : Bool)
  /-- CORE (R404): DEV_RST.CORE starts a core reset. -/
  | core (m : Master)
  /-- SHUTDOWN (R406): DEV_RST.SHUTDOWN starts a controlled shutdown. -/
  | shutdown (m : Master)
  /-- SHUTDOWN_COMPLETE (R406): The shutdown's summary write and pending hard repairs complete, and SDRDY is set. -/
  | shutdownComplete
  /-- ENG (R404): DEV_RST.ENG bit k resets engine k's registers and locks. -/
  | eng (m : Master) (bits : BitVec 4)
  /-- PERST_N (R404): PERST_N low, a hot reset or a link disable gives a PCI Express fundamental reset. -/
  | perstN (pin : Bool)
  /-- BOOT_LOAD (R420): BOOT_CMD LOAD loads a signed engine image from host memory. -/
  | bootLoad (m : Master)
  /-- BOOT_REQUEST (R413): BOOT_CMD REQUEST checks and carries out a signed fuse request. -/
  | bootRequest (m : Master)
  /-- INSTALL (R412): BOOT_CMD INSTALL installs the keys in BOOT_KEYWIN into a fused slot, or ends with KEY. -/
  | install (m : Master) (arg : Fin 16)
  /-- FLASH_WRITE (R421): BOOT_CMD FLASH_WRITE writes a checked container into a flash slot or the key block. -/
  | flashWrite (m : Master) (arg : Fin 16)
  /-- BOOT_VERIFY (R409): BOOT_CMD VERIFY runs the checks of Table 14.7 only. -/
  | bootVerify (m : Master)
  /-- BOOT_CMD_RESERVED (R422): A BOOT_CMD value that names no command ends with code STATE. -/
  | bootCmdReserved (m : Master) (cmd : Fin 16)
  /-- FLASH_BOOT (R407): After power-up with BOOT_SEL = 0, the boot controller reads slot A, then slot B, and the key block. -/
  | flashBoot
  /-- BOOT_FETCH_DONE (R410): A boot container's fetch from flash or host memory ends. -/
  | bootFetchDone (bytes : Option (List Byte))
  /-- BOOT_VERIFY_DONE (R409): Both signatures of a boot container are verified, or it is rejected and the next slot is tried. -/
  | bootVerifyDone (fuseOk : Bool)
  /-- BOOT_WRITE_DONE (R409): The engine stores are written, digests recorded and START set; the engines run at boot. -/
  | bootWriteDone
  /-- FLASH_WRITE_DONE (R421): A flash write completes and BUSY clears. -/
  | flashWriteDone
  /-- SUPPLY_EXCURSION (R429): A rail stays outside its transient limits for over 2 µs and a FATAL AON fault is reported. -/
  | supplyExcursion (rail : Fin 7) (dur : Nat)
  /-- TIMEBASE_REF_LOST (R431): REFCLK_TB is lost or the 1 GHz PLL unlocks and a FATAL TIME fault is reported. -/
  | timebaseRefLost
  /-- THERMAL_TRIP (R437): A junction reaches 115 °C or a stack 105 °C; THERMTRIP_N is driven low and TRIPPED is set. -/
  | thermalTrip (tj hbm : BitVec 12)
  /-- THERMAL_REFRESH (R437): Every 1 ms the junction and stack temperatures are refreshed in DEV_THERM. -/
  | thermalRefresh (tj hbm : BitVec 12)
  /-- BYPASS (R436): IEEE 1149.1 instruction BYPASS. -/
  | bypass (bits : List Bool)
  /-- IDCODE (R436): IEEE 1149.1 instruction IDCODE returns the part's identification code. -/
  | idcode
  /-- SAMPLE (R436): IEEE 1149.1 instruction SAMPLE captures the low-speed pins. -/
  | sample (levels : List Bool)
  /-- PRELOAD (R436): IEEE 1149.1 instruction PRELOAD loads the boundary register. -/
  | preload (bits : List Bool)
  /-- EXTEST (R436): IEEE 1149.1 instruction EXTEST drives the low-speed pins from the boundary register. -/
  | extest
  /-- CLEAR_ON_READ (R12): A read of an RC field returns its value and clears it to its reset value, ordered with pending events by the arbiter. -/
  | clearOnRead (m : Master) (addr : Nat)
  /-- RX_LATER_CELL (R193): A frame still arriving fills its current cell, and the next cell is taken, charged to the compartment and queues, and cut-through copies may become ready. -/
  | rxLaterCell (src : RxSource) (bytes : List Byte)
  /-- PCS_ALIGNED (R246): The port's PCS gains alignment on every lane with no fault ordered set received, which starts the link-up debounce. -/
  | pcsAligned (p : Fin 1024)
  /-- CHECKER_LOCK (R270): The pattern checker sees 64 consecutive symbols without error and sets LOCK, starting to count bits and errors. -/
  | checkerLock (l : Fin 1040)
  /-- CHECKER_LOCK_LOSS (R270): 32 or more of 256 consecutive symbols are in error, so the checker clears LOCK, sets LOCKLOSS and resynchronises. -/
  | checkerLockLoss (l : Fin 1040) (errs : Nat)
  /-- PERST_N_RELEASE (R404): PERST_N goes high, ending the PCI Express fundamental reset so that the link may train. -/
  | perstNRelease
  /-- PCIE_LINK_UP (R398): The PCI Express link completes training and is up again, so queue pairs can be reset and enabled. -/
  | pcieLinkUp
  /-- AON_SUPPLY_LOSS (R400): VDD_AON falls below its reset threshold; the whole device is held in power-on reset, and ledger writes in progress are cut short. -/
  | aonSupplyLoss
  /-- LEDGER_RECORD_DONE (R317): A ledger event-record write completes and is verified, or is retried once and then reported as a CORR fault. -/
  | ledgerRecordDone (ok : Bool)
  /-- MSIX_UNMASK (R383): Software unmasks an MSI-X vector whose pending bit is set, and the held message is sent. -/
  | msixUnmask (m : Master) (vec : Fin 512)
  deriving DecidableEq, Repr

end Sys2Proof
end

