-- ==== Sys2Proof/Decode.lean ====
section
/-!
DEFINITION. Decode.lean: the command a word spells by the table's bits. No row of the table gives bits.
-/

namespace Sys2Proof

/-- The command of a word of `nbits` bits: the table of operations gives no row an encoding, so there is none.
DESIGN CHOICE, log entry 8. -/
def decodeTableWord (_nbits _w : Nat) : Option Instr := none

end Sys2Proof
end

