-- ==== Sys2Proof/Config.lean ====
section
/-!
DEFINITION. Config.lean: what a part fixes and the spec does not give, as constants with no body: nothing in Lean can
evaluate them, so a claim about them holds whatever they are. The free values (R16, R17 and every value the spec
leaves undefined) are read through a counter of the state; the signature and hash units (R65, R144, R411, R416) are
functions of their inputs whose standards the spec only names.
-/

namespace Sys2Proof

/-- The value of the `k`-th 32-bit word the spec leaves open. -/
opaque Config.freeWord : Nat → Word

/-- The value of the `k`-th byte the spec leaves open. -/
opaque Config.freeByte : Nat → Byte

/-- The value of the `k`-th number the spec leaves open. -/
opaque Config.freeNat : Nat → Nat

/-- The 48-byte SHA-384 digest of a message, as 48 byte positions (R144, R411). DESIGN CHOICE, log entry 6. -/
opaque Config.sha384Byte : List Byte → Fin 48 → Byte

/-- The SHA-384 digest of a message. -/
def Config.sha384 (m : List Byte) : List Byte := (List.finRange 48).map (Config.sha384Byte m)

/-- Whether `sig` (r then s, 96 bytes) is an ECDSA P-384 signature with SHA-384 of `msg` under the 97-byte public key
(R65). -/
opaque Config.ecdsaVerify (pub msg sig : List Byte) : Bool

/-- Whether `sig` is an LMS signature of `msg` under the 56-byte public key, of a type R65 accepts. -/
opaque Config.lmsVerify (pub msg sig : List Byte) : Bool

/-- Holtua's public keys of slot 0, 97 + 56 bytes in the boot controller's read-only memory (R411). -/
opaque Config.vendorKeyByte : Fin 153 → Byte

/-- The 153 bytes of slot 0's keys. -/
def Config.vendorKeys : List Byte := (List.finRange 153).map Config.vendorKeyByte

/-- The part's 16-byte unique identity (R415). -/
opaque Config.uidByte : Fin 16 → Byte

/-- The unique identity's bytes. DEDUCED, log entry 37. -/
def Config.uid : List Byte := (List.finRange 16).map Config.uidByte

/-- The 96-byte ECDSA identity signature of an attestation report (R415, R418): byte `i` of the signature of `msg`
under draw `k`. -/
opaque Config.identityEcByte : Nat → List Byte → Fin 96 → Byte

/-- The 1,772-byte LMS identity signature of an attestation report with index `q` (R415, R416, R418). -/
opaque Config.identityLmsByte : (q : Nat) → List Byte → Fin 1772 → Byte

end Sys2Proof
end

