-- ==== Sys2Proof/Machine/RegMap.lean ====
section
/-!
DEFINITION. RegMap.lean: the register map of BAR0 (R370, Table 13.2) with each register's access codes (R10), its reset
value, the bits written by the PF only (R440) and the bits whose write is a command of its own in the table of
operations. One row per register line of the spec; an array of registers is one row with its strides.
-/

namespace Sys2Proof.Machine

/-- Where a register's offset counts from (Table 13.2). -/
inductive Space where
  | global
  | slice
  | port
  | lane
  | engine
  deriving DecidableEq, Repr

/-- One register line: its name, its offset with up to two strides, its reset value and its fields' bits by access
code (R10, Table 00.7). Bits in no mask are RSVD or WO and read 0. -/
structure RegDesc where
  name : String
  space : Space
  off : Nat
  n1 : Nat := 1
  s1 : Nat := 0
  n2 : Nat := 1
  s2 : Nat := 0
  /-- The reset value of the spec's field table. -/
  reset : Nat := 0
  ro : Nat := 0
  rw : Nat := 0
  w1c : Nat := 0
  rc : Nat := 0
  /-- Bits the PF alone writes (R440). -/
  pf : Nat := 0
  /-- Bits whose write is a row of its own of the table of operations. -/
  own : Nat := 0
  deriving DecidableEq, Repr

/-- Whether offset `o` of its space names a register of the line. -/
def RegDesc.covers (d : RegDesc) (o : Nat) : Bool :=
  let i := if d.s1 = 0 then 0 else if d.n1 = 1 then 0 else min ((o - d.off) / d.s1) (d.n1 - 1)
  let r := o - d.off - i * d.s1
  let j := if d.s2 = 0 then 0 else if d.n2 = 1 then 0 else min (r / d.s2) (d.n2 - 1)
  decide (d.off ≤ o) && decide (o = d.off + i * d.s1 + j * d.s2)

/-- Register lines of the glob space, part 1. -/
def regLines_glob_1 : List RegDesc := [
  { name := "DEV_IDENT", space := .global, off := 0x0, reset := 0x1F091001, ro := 0xFFFFFFFF },
  { name := "MBX_LOCK", space := .global, off := 0x40800, n1 := 64, s1 := 0x4, ro := 0xFFFF, own := 0xFFFFFFFF },
  { name := "MBX_PEEK", space := .global, off := 0x40A00, n1 := 64, s1 := 0x4, ro := 0xFFFF },
  { name := "MBX_LOCK_CTL", space := .global, off := 0x40900, ro := 0x3F0000, w1c := 0x80000000, own := 0x13F },
  { name := "PWR_AVS_CTL", space := .global, off := 0x10100, reset := 0x49F64264, rw := 0xCFFFFFFF },
  { name := "PWR_AVS_LIMIT", space := .global, off := 0x10104, reset := 0xC32582BC, rw := 0xFFFFF3FF },
  { name := "PWR_AVS_STAT", space := .global, off := 0x10108, ro := 0x73FF03FF, w1c := 0x80000000, own := 0x80000000 },
  { name := "TBL_TU_CMD", space := .global, off := 0x2001000, ro := 0x7C000000, rw := 0x3FFF000, w1c := 0x100, own := 0x80000000 },
  { name := "TBL_TU_IDX", space := .global, off := 0x2001004, rw := 0x1FFFFFF },
  { name := "TBL_TU_DATA", space := .global, off := 0x2001040, n1 := 24, s1 := 0x4, rw := 0xFFFFFFFF },
  { name := "TBL_CTL", space := .global, off := 0x2000000, reset := 0x70400800, rw := 0xFFFFFF00 },
  { name := "TBL_HSEED1", space := .global, off := 0x2000004, reset := 0xFFFFFFFF, rw := 0xFFFFFFFF },
  { name := "TBL_HSEED2", space := .global, off := 0x2000008, reset := 0x5A5A5A5A, rw := 0xFFFFFFFF },
  { name := "TBL_AGE", space := .global, off := 0x200000C, reset := 0x3E80000, ro := 0xFFFF, rw := 0xFFFF0000 },
  { name := "TBL_MOVE", space := .global, off := 0x2000010, reset := 0x3E80000, ro := 0xFFFF, rw := 0xFFFF0000 },
  { name := "TBL_SEQ", space := .global, off := 0x2000014, ro := 0xFFFFFFFF },
  { name := "TBL_HOLD", space := .global, off := 0x2000018, rw := 0xFFFF },
  { name := "TBL_STAT", space := .global, off := 0x200001C, w1c := 0xF0000000 },
  { name := "TBL_FLAP_REC0", space := .global, off := 0x2000020, rc := 0x8FFFFFFF },
  { name := "TBL_PART_CFG", space := .global, off := 0x2020000, n1 := 4096, s1 := 0x4, reset := 0x258A800, rw := 0xFFFFFFFF, pf := 0xFFFFFFFF },
  { name := "TBL_MISS_RATE", space := .global, off := 0x2000100, n1 := 32, s1 := 0x4, reset := 0x177, rw := 0xFFFF, own := 0xFFFFFFFF },
  { name := "TBL_GCNT", space := .global, off := 0x2000C00, n1 := 6, s1 := 0x4, rc := 0xFFFFFFFF },
  { name := "PRESS_STAT", space := .global, off := 0x3000000, n1 := 8, s1 := 0x4, ro := 0xFFFFE000 },
  { name := "PRESS_SEQ", space := .global, off := 0x3000020, n1 := 8, s1 := 0x4, ro := 0xFFFFFFFF }]

/-- Register lines of the glob space, part 2. -/
def regLines_glob_2 : List RegDesc := [
  { name := "VAT_CTL", space := .global, off := 0x1000000, reset := 0x3C0003E8, rw := 0xFC00FFFF, pf := 0x80000000, own := 0x40000000 },
  { name := "VAT_FREE", space := .global, off := 0x1000004, ro := 0x1FFFFF },
  { name := "VAT_RSV", space := .global, off := 0x1000008, reset := 0x4000, rw := 0x1FFFFF },
  { name := "VAT_STAT", space := .global, off := 0x100000C, reset := 0xF, ro := 0xF, w1c := 0xF8000000 },
  { name := "VAT_POOL", space := .global, off := 0x1000010, reset := 0x8050000, rw := 0xFFFFFFFF },
  { name := "VAT_POOL", space := .global, off := 0x1000014, reset := 0x8028000, rw := 0xFFFFFFFF },
  { name := "VAT_POOL", space := .global, off := 0x1000018, reset := 0x800A000, rw := 0xFFFFFFFF },
  { name := "VAT_POOL", space := .global, off := 0x100001C, reset := 0x8005000, rw := 0xFFFFFFFF },
  { name := "VAT_POOL", space := .global, off := 0x1000020, reset := 0x8001999, rw := 0xFFFFFFFF },
  { name := "VAT_POOLFREE", space := .global, off := 0x1000030, n1 := 5, s1 := 0x4, ro := 0x1FFFFF },
  { name := "VAT_SKIM_CTL", space := .global, off := 0x1000080, reset := 0x4B0, rw := 0x80000FFF },
  { name := "VAT_SKIM_FREE", space := .global, off := 0x1000084, reset := 0x18000000, ro := 0x1FFFFFFF },
  { name := "VAT_QACC", space := .global, off := 0x1000100, rw := 0x7FFF, own := 0xC0000000 },
  { name := "VAT_QDATA0", space := .global, off := 0x1000110, reset := 0x403001, rw := 0xFFFFFFFF },
  { name := "VAT_QDATA1", space := .global, off := 0x1000114, reset := 0x40000200, rw := 0xFFFFFFFF },
  { name := "VAT_QDATA2", space := .global, off := 0x1000118, reset := 0x4010, rw := 0xFFFFFFFF },
  { name := "VAT_QDATA3", space := .global, off := 0x100011C, ro := 0x7FFFFF },
  { name := "VAT_QDATA4", space := .global, off := 0x1000120, ro := 0x1FFFFF },
  { name := "VAT_MC_ACC", space := .global, off := 0x1000200, ro := 0x10000000, rw := 0x807FFFF, w1c := 0x20000000, own := 0xC0000000 },
  { name := "VAT_MC_DATA", space := .global, off := 0x1000204, rw := 0xFFFFFFFF },
  { name := "VAT_PCFG", space := .global, off := 0x1008000, n1 := 1058, s1 := 0x4, reset := 0x80001014, rw := 0xFFFFFFFF },
  { name := "VAT_PCNT", space := .global, off := 0x1010000, n1 := 1058, s1 := 0x40, n2 := 8, s2 := 0x4, rc := 0xFFFFFFFF },
  { name := "FLOW_CTL", space := .global, off := 0x6000000, ro := 0x20000000, rw := 0x80000000, pf := 0x80000000, own := 0x40000000 },
  { name := "FLOW_STAT", space := .global, off := 0x6000004, w1c := 0xE0000000 },
  { name := "FLOW_RATE", space := .global, off := 0x6000100, n1 := 32, s1 := 0x4, reset := 0xFA, rw := 0xFFFF, pf := 0xFFFF, own := 0xFFFFFFFF },
  { name := "FLOW_ACC", space := .global, off := 0x6000200, rw := 0xFFFFF, own := 0xC0000000 },
  { name := "FLOW_DATA", space := .global, off := 0x6000240, n1 := 16, s1 := 0x4, rw := 0xFFFFFFFF },
  { name := "TIME_CTL", space := .global, off := 0x50000, reset := 0x64, ro := 0x40000000, rw := 0x300000FF, w1c := 0xC000000, own := 0x80000000 }]

/-- Register lines of the glob space, part 3. -/
def regLines_glob_3 : List RegDesc := [
  { name := "TIME_FREQ", space := .global, off := 0x50004, rw := 0xFFFFFFFF },
  { name := "TIME_STEP", space := .global, off := 0x50008, own := 0xFFFFFFFF },
  { name := "TIME_CLK0", space := .global, off := 0x50010, ro := 0x3FFFFFFF },
  { name := "TIME_SET0", space := .global, off := 0x50020, rw := 0x3FFFFFFF },
  { name := "TIME_PPSIN0", space := .global, off := 0x50040, ro := 0x3FFFFFFF },
  { name := "TIME_CLK1", space := .global, off := 0x50014, ro := 0xFFFFFFFF },
  { name := "TIME_SET1", space := .global, off := 0x50024, rw := 0xFFFFFFFF },
  { name := "TIME_PPSIN1", space := .global, off := 0x50044, ro := 0xFFFFFFFF },
  { name := "TIME_CLK2", space := .global, off := 0x50018, ro := 0xFFFF },
  { name := "TIME_SET2", space := .global, off := 0x50028, rw := 0xFFFF },
  { name := "TIME_PPSIN2", space := .global, off := 0x50048, ro := 0xFFFF },
  { name := "TIME_MONO_LO", space := .global, off := 0x50030, ro := 0xFFFFFFFF },
  { name := "TIME_MONO_HI", space := .global, off := 0x50034, ro := 0xFFFFFFFF },
  { name := "TELE_CTL", space := .global, off := 0x5000000, rw := 0xF8000000 },
  { name := "TELE_HIST_CMD", space := .global, off := 0x5000004, reset := 0x20000000, ro := 0x40000000, rw := 0x200003FF, own := 0x80000000 },
  { name := "TELE_HBIN", space := .global, off := 0x5000400, n1 := 64, s1 := 0x8, ro := 0xFFFFFFFF },
  { name := "TELE_HBIN_HI", space := .global, off := 0x5000404, n1 := 64, s1 := 0x8, ro := 0xFFFFFFFF },
  { name := "TELE_CNT", space := .global, off := 0x5000100, n1 := 8, s1 := 0x4, rc := 0xFFFFFFFF },
  { name := "LEDG_CTL", space := .global, off := 0x60000, own := 0x80000000 },
  { name := "LEDG_STAT", space := .global, off := 0x60004, ro := 0xA0FFFFFF, w1c := 0x58000000 },
  { name := "LEDG_ADDR", space := .global, off := 0x60008, rw := 0x7FFFC },
  { name := "LEDG_DATA", space := .global, off := 0x6000C, ro := 0xFFFFFFFF },
  { name := "FLT_CTL", space := .global, off := 0x30000, reset := 0xE0030000, rw := 0xE0FF0000 },
  { name := "FLT_STAT", space := .global, off := 0x30004, reset := 0x4000000, ro := 0x8600007F, w1c := 0x78000000 }]

/-- Register lines of the glob space, part 4. -/
def regLines_glob_4 : List RegDesc := [
  { name := "FLT_FIRST", space := .global, off := 0x30008, ro := 0x6000FFFF, w1c := 0x80000000, own := 0x80000000 },
  { name := "FLT_FIRST_RND", space := .global, off := 0x3000C, ro := 0xFFFFFFFF },
  { name := "FLT_SHADOW", space := .global, off := 0x30010, reset := 0x32, rw := 0xFFFF },
  { name := "FLT_REC_CMD", space := .global, off := 0x30014, ro := 0x1C000000, own := 0xE000003F },
  { name := "FLT_CAP", space := .global, off := 0x30018, ro := 0xC0000000 },
  { name := "FLT_CNT", space := .global, off := 0x30020, n1 := 6, s1 := 0x4, rc := 0xFFFFFFFF },
  { name := "FLT_SPROW", space := .global, off := 0x30100, n1 := 16, s1 := 0x4, reset := 0x1, ro := 0xFFFFFFFF },
  { name := "PAIR_CTL", space := .global, off := 0x100000, reset := 0xC800000, rw := 0xFFF0FFFF, own := 0x80000000 },
  { name := "PAIR_CMD", space := .global, off := 0x100004, ro := 0x38000000, own := 0xC0000000 },
  { name := "PAIR_STAT", space := .global, off := 0x100008, ro := 0x7F0000, w1c := 0xFC000000 },
  { name := "PAIR_TERM", space := .global, off := 0x10000C, ro := 0xFFFFFFFF },
  { name := "PAIR_OWN", space := .global, off := 0x100010, reset := 0x80000, rw := 0x1FFFFF },
  { name := "PAIR_MCFG0", space := .global, off := 0x100014, reset := 0x4000080, rw := 0xFFFFFFFF, own := 0xFFFFFFFF },
  { name := "PAIR_MCFG1", space := .global, off := 0x100018, reset := 0x200, rw := 0xFFFFFFFF, own := 0xFFFFFFFF },
  { name := "PAIR_TXSEQ", space := .global, off := 0x100020, ro := 0xFFFFFFFF },
  { name := "PAIR_ACKSEQ", space := .global, off := 0x100024, ro := 0xFFFFFFFF },
  { name := "PAIR_RXSEQ", space := .global, off := 0x100028, ro := 0xFFFFFFFF },
  { name := "PAIR_DCFG", space := .global, off := 0x100030, rw := 0x800000FF },
  { name := "PAIR_CNT", space := .global, off := 0x100100, n1 := 13, s1 := 0x4, rc := 0xFFFFFFFF },
  { name := "HOST_QP_CTL", space := .global, off := 0x210000, n1 := 256, s1 := 0x100, reset := 0x200000, rw := 0xBFFC03FF, pf := 0x3F000000, own := 0x40000000 },
  { name := "HOST_QP_SIZE", space := .global, off := 0x210004, n1 := 256, s1 := 0x100, reset := 0xA0A, rw := 0x1F1F },
  { name := "HOST_QP_RXIDX", space := .global, off := 0x210018, n1 := 256, s1 := 0x100, rw := 0x1FFFF, own := 0xFFFFFFFF },
  { name := "HOST_QP_TXIDX", space := .global, off := 0x21001C, n1 := 256, s1 := 0x100, rw := 0x1FFFF, own := 0xFFFFFFFF },
  { name := "HOST_QP_RXHEAD", space := .global, off := 0x210024, n1 := 256, s1 := 0x100, ro := 0x1FFFF }]

/-- Register lines of the glob space, part 5. -/
def regLines_glob_5 : List RegDesc := [
  { name := "HOST_QP_TXHEAD", space := .global, off := 0x210028, n1 := 256, s1 := 0x100, ro := 0x1FFFF },
  { name := "HOST_QP_STAT", space := .global, off := 0x210020, n1 := 256, s1 := 0x100, ro := 0xF8000000, w1c := 0x7000000, rc := 0xFFFF },
  { name := "HOST_IRT", space := .global, off := 0x204000, n1 := 1224, s1 := 0x4, rw := 0xFC0001FF },
  { name := "HOST_LSUM", space := .global, off := 0x206000, n1 := 32, s1 := 0x4, ro := 0xFFFFFFFF },
  { name := "HOST_STAT", space := .global, off := 0x200000, w1c := 0xF0000000 },
  { name := "HOST_UNMAP", space := .global, off := 0x200004, ro := 0xFFFFFFF },
  { name := "MGE_DUTYMAP", space := .global, off := 0x80100, rw := 0xFFFF, own := 0xFFFFFFFF },
  { name := "MBX_CTL", space := .global, off := 0x40000, reset := 0xA, rw := 0xFFFF, pf := 0xFFFFFFFF },
  { name := "MBX_GSTAT", space := .global, off := 0x40004, ro := 0x1FFFFFF, w1c := 0x80000000 },
  { name := "MBX_CFG", space := .global, off := 0x41000, n1 := 256, s1 := 0x4, rw := 0xFFFFFFFF, pf := 0xFFFFFFFF, own := 0xFFFFFFFF },
  { name := "MBX_STAT", space := .global, off := 0x41400, n1 := 256, s1 := 0x4, ro := 0x48000000, w1c := 0x34000000, own := 0x80000000 },
  { name := "MBX_DBCFG", space := .global, off := 0x40C00, n1 := 64, s1 := 0x4, rw := 0xFFFFFFFF, pf := 0xFFFFFFFF, own := 0xFFFFFFFF },
  { name := "MBX_DB", space := .global, off := 0x40D00, n1 := 64, s1 := 0x4, rw := 0xFFFFFFFF, own := 0xFFFFFFFF },
  { name := "PWR_DOM", space := .global, off := 0x10400, n1 := 148, s1 := 0x4, reset := 0x80000000, ro := 0x3F000000, rw := 0x80000000, w1c := 0x40000000, own := 0x80000000 },
  { name := "DEV_RST", space := .global, off := 0x10, ro := 0x20000000, rw := 0x10000000, pf := 0x10000000, own := 0xCF000000 },
  { name := "DEV_RSTCAUSE", space := .global, off := 0x14, reset := 0x1, ro := 0xFFFF000F },
  { name := "BOOT_STAT", space := .global, off := 0x20000, ro := 0xFFFFFC00 },
  { name := "BOOT_CMD", space := .global, off := 0x20004, ro := 0x40FF0000, w1c := 0x20000000, own := 0xF0F },
  { name := "BOOT_LEN", space := .global, off := 0x20010, rw := 0xFFFFF },
  { name := "BOOT_KEYSTAT", space := .global, off := 0x20014, ro := 0x7F03FF },
  { name := "BOOT_ATTCTL", space := .global, off := 0x20018, ro := 0x8000FFFF, own := 0x40000000 },
  { name := "BOOT_NONCE", space := .global, off := 0x20020, n1 := 4, s1 := 0x4, ro := 0xFFFFFFFF },
  { name := "DEV_THERM", space := .global, off := 0x20, ro := 0xCFFF0FFF },
  { name := "HOST_QP_RXBASE_LO", space := .global, off := 0x210008, n1 := 256, s1 := 0x100, rw := 0xFFFFF000 }]

/-- Register lines of the glob space, part 6. -/
def regLines_glob_6 : List RegDesc := [
  { name := "HOST_QP_RXBASE_HI", space := .global, off := 0x21000C, n1 := 256, s1 := 0x100, rw := 0xFFFFFFFF },
  { name := "HOST_QP_TXBASE_LO", space := .global, off := 0x210010, n1 := 256, s1 := 0x100, rw := 0xFFFFF000 },
  { name := "HOST_QP_TXBASE_HI", space := .global, off := 0x210014, n1 := 256, s1 := 0x100, rw := 0xFFFFFFFF },
  { name := "MBX_MSG", space := .global, off := 0x44000, n1 := 256, s1 := 0x40, n2 := 16, s2 := 0x4, ro := 0xFFFFFFFF },
  { name := "MBX_STAGE", space := .global, off := 0x48000, n1 := 256, s1 := 0x40, n2 := 16, s2 := 0x4, rw := 0xFFFFFFFF },
  { name := "FLT_REC", space := .global, off := 0x31000, n1 := 64, s1 := 0x20, n2 := 8, s2 := 0x4, ro := 0xFFFFFFFF },
  { name := "BOOT_ADDR_LO", space := .global, off := 0x20008, rw := 0xFFFFFFFC },
  { name := "BOOT_ADDR_HI", space := .global, off := 0x2000C, rw := 0xFFFFFFFF },
  { name := "BOOT_KEYWIN", space := .global, off := 0x20100, n1 := 40, s1 := 0x4, rw := 0xFFFFFFFF },
  { name := "BOOT_ATTWIN", space := .global, off := 0x22000, n1 := 2048, s1 := 0x4, ro := 0xFFFFFFFF },
  { name := "TBL_FLAP_REC1", space := .global, off := 0x2000024, ro := 0x1FFFFFF },
  { name := "MSIX_TABLE", space := .global, off := 0x208000, n1 := 512, s1 := 0x10, n2 := 4, s2 := 0x4, rw := 0xFFFFFFFF },
  { name := "MSIX_PBA", space := .global, off := 0x20C000, n1 := 16, s1 := 0x4, ro := 0xFFFFFFFF }]

/-- The words of the settings windows: profiles (R287), notification programs (R289), namespaces (R306) and collectors
(R309), reserved bytes left out. -/
def regLines_windows : List RegDesc := [
  { name := "FLOW_PROFILE word 0", space := .global, off := 0x6004000, n1 := 64, s1 := 0x20, rw := 0xFF0FFF07 },
  { name := "FLOW_PROFILE words 1 to 6", space := .global, off := 0x6004004, n1 := 64, s1 := 0x20, n2 := 6, s2 := 0x4, rw := 0xFFFFFFFF },
  { name := "FLOW_PROFILE word 7", space := .global, off := 0x600401C, n1 := 64, s1 := 0x20, rw := 0xFFFFFF },
  { name := "FLOW_NOTE word 0", space := .global, off := 0x6008000, n1 := 16, s1 := 0x100, rw := 0x1 },
  { name := "FLOW_NOTE commands", space := .global, off := 0x6008004, n1 := 16, s1 := 0x100, n2 := 16, s2 := 0x4, rw := 0xFFFFFFFF },
  { name := "FLOW_NOTE template", space := .global, off := 0x6008080, n1 := 16, s1 := 0x100, n2 := 32, s2 := 0x4, rw := 0xFFFFFFFF },
  { name := "TELE_NAMESPACE word 0", space := .global, off := 0x5001000, n1 := 4, s1 := 0x20, rw := 0xFFFF00FF },
  { name := "TELE_NAMESPACE words 1 to 5", space := .global, off := 0x5001004, n1 := 4, s1 := 0x20, n2 := 5, s2 := 0x4, rw := 0xFFFFFFFF },
  { name := "TELE_COLLECTOR word 0", space := .global, off := 0x5002000, n1 := 8, s1 := 0x100, rw := 0xFFFF0F01 },
  { name := "TELE_COLLECTOR words 1 to 3", space := .global, off := 0x5002004, n1 := 8, s1 := 0x100, n2 := 3, s2 := 0x4, rw := 0xFFFFFFFF },
  { name := "TELE_COLLECTOR template", space := .global, off := 0x5002080, n1 := 8, s1 := 0x100, n2 := 32, s2 := 0x4, rw := 0xFFFFFFFF }]

/-- The register lines of the glob space. -/
def regLines_glob : List RegDesc :=
  regLines_glob_1 ++ regLines_glob_2 ++ regLines_glob_3 ++ regLines_glob_4 ++ regLines_glob_5 ++ regLines_glob_6 ++
    regLines_windows

/-- Register lines of the slice space, part 1. -/
def regLines_slice_1 : List RegDesc := [
  { name := "SLC_PACE_RATE", space := .slice, off := 0x1F0000, n1 := 2, s1 := 0x40, n2 := 4, s2 := 0x10, ro := 0xFFFFFFFF },
  { name := "SLC_PACE_MIN", space := .slice, off := 0x1F0004, n1 := 2, s1 := 0x40, n2 := 4, s2 := 0x10, reset := 0xFFFF0000, w1c := 0x1, rc := 0xFFFF0000 },
  { name := "SLC_PACE_DROP", space := .slice, off := 0x1F0008, n1 := 2, s1 := 0x40, n2 := 4, s2 := 0x10, rc := 0xFFFFFFFF },
  { name := "SLC_PACE_CFG", space := .slice, off := 0x1F0080, reset := 0x9600000, rw := 0xFFFF000F },
  { name := "SLC_RIND_CTL", space := .slice, off := 0x1E1000, reset := 0x3E0000, rw := 0xFFFEFF00, pf := 0xFFFFFFFF },
  { name := "SLC_RIND_CMD", space := .slice, off := 0x1E1004, ro := 0x78000000, own := 0x8000000F },
  { name := "SLC_RIND_STAT", space := .slice, off := 0x1E1008, w1c := 0xFFFF0000, own := 0xFF000000 },
  { name := "SLC_RIND_VREC", space := .slice, off := 0x1E100C, rc := 0xFFF8FFFF },
  { name := "SLC_RIND_VCNT", space := .slice, off := 0x1E1040, n1 := 8, s1 := 0x4, rc := 0xFFFFFFFF },
  { name := "SLC_BS_ADDR_LO", space := .slice, off := 0x1E0004, rw := 0xFFFFFFFC },
  { name := "SLC_BS_ADDR_HI", space := .slice, off := 0x1E0008, rw := 0xFFFFFFFF },
  { name := "SLC_BS_LEN", space := .slice, off := 0x1E000C, rw := 0x1FFFFFF },
  { name := "SLC_BS_CMD", space := .slice, off := 0x1E0010, ro := 0xFFFF0000, own := 0xF },
  { name := "SLC_BS_STAT", space := .slice, off := 0x1E0014, reset := 0xFFF, ro := 0xF0FF2FFF, w1c := 0xD000 },
  { name := "SLC_BS_MINVER", space := .slice, off := 0x1E0040, n1 := 9, s1 := 0x4, rw := 0xFFFFFFFF, pf := 0xFFFFFFFF },
  { name := "SLC_EPOCH", space := .slice, off := 0x1E0100, ro := 0xFF800000, w1c := 0x400000 },
  { name := "SLC_EPOCH_INFL", space := .slice, off := 0x1E0104, ro := 0xFFFFFFFF },
  { name := "SLC_EPOCH_CFG", space := .slice, off := 0x1E0108, reset := 0x3E80000, rw := 0xFFFF0001 },
  { name := "SLC_EPOCH_DROP", space := .slice, off := 0x1E010C, rc := 0xFFFFFFFF },
  { name := "SLC_DRAIN_DROP", space := .slice, off := 0x1E0110, rc := 0xFFFFFFFF },
  { name := "SLC_UNOWNED_DROP", space := .slice, off := 0x1E0114, rc := 0xFFFFFFFF },
  { name := "SLC_ING_CFG", space := .slice, off := 0x1D0000, reset := 0x84, rw := 0xFF },
  { name := "SLC_LB_ACC", space := .slice, off := 0x1D0010, rw := 0xFFFF000, own := 0xC0000000 },
  { name := "SLC_LB_DATA", space := .slice, off := 0x1D0014, rw := 0xFFFF }]

/-- Register lines of the slice space, part 2. -/
def regLines_slice_2 : List RegDesc := [
  { name := "SLC_MIR_CFG0", space := .slice, off := 0x1D0100, n1 := 16, s1 := 0x8, rw := 0x87FFF0FF },
  { name := "SLC_MIR_CFG1", space := .slice, off := 0x1D0104, n1 := 16, s1 := 0x8, rw := 0xFFFFFF00, own := 0xFFFFFFFF },
  { name := "SLC_ING_CNT", space := .slice, off := 0x1D0200, n1 := 8, s1 := 0x40, n2 := 10, s2 := 0x4, rc := 0xFFFFFFFF },
  { name := "SLC_CS_ACC", space := .slice, off := 0x1C0000, rw := 0x3F8003FF, own := 0xC0000000 },
  { name := "SLC_CS_DATA", space := .slice, off := 0x1C0010, n1 := 4, s1 := 0x4, rw := 0xFFFFFFFF },
  { name := "SLC_CS_PROT", space := .slice, off := 0x1C0020, reset := 0x5, ro := 0x40000008, rw := 0x5, w1c := 0x2, pf := 0x5, own := 0x80000000 },
  { name := "SLC_STG_STAT", space := .slice, off := 0x1C0030, ro := 0x8FF00000 },
  { name := "SLC_STG_EVT", space := .slice, off := 0x1C0100, n1 := 2, s1 := 0x80, n2 := 24, s2 := 0x4, rc := 0xFFFFFFFF },
  { name := "SLC_EG_CNT", space := .slice, off := 0x1C0400, n1 := 8, s1 := 0x20, n2 := 4, s2 := 0x4, rc := 0xFFFFFFFF },
  { name := "SLC_TU_CMD", space := .slice, off := 0x1B0000, ro := 0x7C000000, rw := 0x3FFF000, w1c := 0x100, own := 0x80000000 },
  { name := "SLC_TU_IDX", space := .slice, off := 0x1B0004, rw := 0x1FFFFFF },
  { name := "SLC_TU_DATA", space := .slice, off := 0x1B0040, n1 := 24, s1 := 0x4, rw := 0xFFFFFFFF },
  { name := "SLC_TBL_CNT", space := .slice, off := 0x1B0200, n1 := 8, s1 := 0x40, n2 := 10, s2 := 0x4, rc := 0xFFFFFFFF },
  { name := "SLC_VAT_CFG", space := .slice, off := 0x1A0000, reset := 0x8000080, rw := 0xFFFFFFFF, pf := 0xFFFF0000 },
  { name := "SLC_VAT_USE", space := .slice, off := 0x1A0040, n1 := 8, s1 := 0x8, ro := 0x1FFFFF },
  { name := "SLC_VAT_SKUSE", space := .slice, off := 0x1A0044, n1 := 8, s1 := 0x8, ro := 0x1FFFFFFF },
  { name := "SLC_VAT_CNT", space := .slice, off := 0x1A0100, n1 := 8, s1 := 0x40, n2 := 13, s2 := 0x4, rc := 0xFFFFFFFF },
  { name := "SLC_FLOW_CFG", space := .slice, off := 0x190000, reset := 0x101028, rw := 0xFFFFFF3F, pf := 0xFFFFFFFF },
  { name := "SLC_MTR_ACC", space := .slice, off := 0x190010, rw := 0xFFFF, own := 0xC0000000 },
  { name := "SLC_MTR_DATA", space := .slice, off := 0x190020, n1 := 4, s1 := 0x4, rw := 0xFFFFFFFF },
  { name := "SLC_FLOW_CNT", space := .slice, off := 0x190200, n1 := 8, s1 := 0x40, n2 := 10, s2 := 0x4, rc := 0xFFFFFFFF },
  { name := "SLC_CTR_ACC", space := .slice, off := 0x170000, rw := 0x2001FFFF, own := 0xC0000000 },
  { name := "SLC_CTR_DATA", space := .slice, off := 0x170010, n1 := 4, s1 := 0x4, rw := 0xFFFFFFFF },
  { name := "SLC_CTR_LIM", space := .slice, off := 0x170040, n1 := 8, s1 := 0x4, rc := 0xFFFFFFFF }]

/-- Register lines of the slice space, part 3. -/
def regLines_slice_3 : List RegDesc := [
  { name := "SLC_FLT_DROP", space := .slice, off := 0x180000, rc := 0xFFFFFFFF },
  { name := "SLC_RIND_STAGE", space := .slice, off := 0x1E1400, n1 := 64, s1 := 0x4, rw := 0xFFFFFFFF },
  { name := "SLC_RIND_DESC", space := .slice, off := 0x1E1800, n1 := 9, s1 := 0x100, n2 := 64, s2 := 0x4, ro := 0xFFFFFFFF }]

/-- The register lines of the slice space. -/
def regLines_slice : List RegDesc :=
  regLines_slice_1 ++ regLines_slice_2 ++ regLines_slice_3

/-- Register lines of the engine space, part 1. -/
def regLines_engine_1 : List RegDesc := [
  { name := "MGE_CTL", space := .engine, off := 0x0, reset := 0x40000000, rw := 0xC0003FFF, pf := 0x40000000, own := 0xA0000000 },
  { name := "MGE_STAT", space := .engine, off := 0x4, reset := 0x80000000, ro := 0x8C003FFF, w1c := 0x70000000 },
  { name := "MGE_JRNL", space := .engine, off := 0x8, ro := 0xFFFFFFFF },
  { name := "MGE_CS_ACC", space := .engine, off := 0x10, rw := 0x20003FFF, own := 0x40000000 },
  { name := "MGE_CS_DATA", space := .engine, off := 0x20, n1 := 6, s1 := 0x4, ro := 0xFFFFFFFF }]

/-- The register lines of the engine space. -/
def regLines_engine : List RegDesc :=
  regLines_engine_1

/-- Register lines of the port space, part 1. -/
def regLines_port_1 : List RegDesc := [
  { name := "PORT_CTL", space := .port, off := 0x0, reset := 0xA2580, rw := 0xC0FF7FFF, own := 0xC0000000 },
  { name := "PORT_OCT", space := .port, off := 0x4, rw := 0x7, w1c := 0x80000000, own := 0x7 },
  { name := "PORT_TAG", space := .port, off := 0x8, rw := 0xFC00FFFF },
  { name := "PORT_TCI", space := .port, off := 0xC, rw := 0xFFFFFFFF },
  { name := "PORT_CT", space := .port, off := 0x10, reset := 0x1, rw := 0x7, w1c := 0x80000000, own := 0x7 },
  { name := "PORT_STAT", space := .port, off := 0x14, ro := 0x70FF0000, w1c := 0x80000000 },
  { name := "PORT_CNT", space := .port, off := 0x100, n1 := 16, s1 := 0x4, rc := 0xFFFFFFFF },
  { name := "PORT_GOOD", space := .port, off := 0x200, n1 := 4, s1 := 0x8, ro := 0xFFFFFFFF },
  { name := "PORT_GOOD_HI", space := .port, off := 0x204, n1 := 4, s1 := 0x8, ro := 0xFFFFFFFF },
  { name := "PORT_TEL0", space := .port, off := 0x20, rw := 0xF800FFFF },
  { name := "PORT_TEL1", space := .port, off := 0x24, rw := 0xFFFFFFFF, pf := 0xFFFFFFFF },
  { name := "PORT_TSQ0", space := .port, off := 0x28, ro := 0x8FFFFFFF, w1c := 0x40000000, own := 0x20000000 },
  { name := "PORT_TSQ1", space := .port, off := 0x2C, ro := 0x3FFFFFFF },
  { name := "PORT_TSQ2", space := .port, off := 0x30, ro := 0xFFFFFFFF }]

/-- The register lines of the port space. -/
def regLines_port : List RegDesc :=
  regLines_port_1

/-- Register lines of the lane space, part 1. -/
def regLines_lane_1 : List RegDesc := [
  { name := "LANE_CTL", space := .lane, off := 0x0, reset := 0x90001F4, rw := 0xFFE0FFFF, own := 0xFFFFFFFF },
  { name := "LANE_TXFIR", space := .lane, off := 0x4, reset := 0x6004000, rw := 0x71F7F1F, own := 0xFFFFFFFF },
  { name := "LANE_STAT", space := .lane, off := 0x8, ro := 0xFFF0000, w1c := 0xF0000000 },
  { name := "LANE_CNT", space := .lane, off := 0xC, rc := 0xFFFFFFFF },
  { name := "LANE_PAT", space := .lane, off := 0x10, reset := 0x7000000, ro := 0x20000000, rw := 0xCFFC0000, w1c := 0x10000000, own := 0xEFFFFFFF },
  { name := "LANE_PCNT", space := .lane, off := 0x20, n1 := 2, s1 := 0x8, rc := 0xFFFFFFFF },
  { name := "LANE_PCNT_HI", space := .lane, off := 0x24, n1 := 2, s1 := 0x8, rc := 0xFFFFFFFF },
  { name := "LANE_EYE", space := .lane, off := 0x40, ro := 0xFFFFFFFF },
  { name := "LANE_MARG", space := .lane, off := 0x44, reset := 0x4000000, ro := 0x40000000, rw := 0x1FC0FF00, w1c := 0x20000000, own := 0x80000000 },
  { name := "LANE_MARG_RES", space := .lane, off := 0x48, ro := 0xFFFFFFFF }]

/-- The register lines of the lane space. -/
def regLines_lane : List RegDesc :=
  regLines_lane_1

/-- The register lines of a space. DESIGN CHOICE, log entry 3. -/
def regLines : Space → List RegDesc
  | .global => regLines_glob
  | .slice => regLines_slice
  | .port => regLines_port
  | .lane => regLines_lane
  | .engine => regLines_engine

/-- The item an address belongs to and its offset there (Table 13.2). -/
def regPlace (a : Nat) : Space × Nat × Nat :=
  if 0x08000000 ≤ a ∧ a < 0x0C000000 then (.slice, (a - 0x08000000) / 0x200000, (a - 0x08000000) % 0x200000)
  else if 0x0C000000 ≤ a ∧ a < 0x0C410000 then (.lane, (a - 0x0C000000) / 0x1000, (a - 0x0C000000) % 0x1000)
  else if 0x0E000000 ≤ a ∧ a < 0x0E200000 then (.port, (a - 0x0E000000) / 0x800, (a - 0x0E000000) % 0x800)
  else if 0x80000 ≤ a ∧ a < 0xA0000 ∧ (a - 0x80000) % 0x8000 < 0x100 then
    (.engine, (a - 0x80000) / 0x8000, (a - 0x80000) % 0x8000)
  else (.global, 0, a)

/-- The register line an address names, if any. -/
def regAt (a : Nat) : Option RegDesc :=
  (regLines (regPlace a).1).find? fun d => d.covers (regPlace a).2.2

/-- The block ranges of Table 13.2; every other offset is unmapped (R372). -/
def mapped (a : Nat) : Bool :=
  decide (a ≤ 0x6FFFF) || decide (0x80000 ≤ a ∧ a ≤ 0x9FFFF) || decide (0x100000 ≤ a ∧ a ≤ 0x10FFFF) ||
  decide (0x200000 ≤ a ∧ a ≤ 0x2FFFFF) || decide (0x1000000 ≤ a ∧ a ≤ 0x6FFFFFF) ||
  decide (0x8000000 ≤ a ∧ a ≤ 0xBFFFFFF) || decide (0xC000000 ≤ a ∧ a ≤ 0xC40FFFF) ||
  decide (0xE000000 ≤ a ∧ a ≤ 0xE1FFFFF)

/-- The reset value of the word at an address: the field tables of the spec. -/
def regReset (a : Nat) : Word :=
  match regAt a with
  | none => 0
  | some d => BitVec.ofNat 32 d.reset

end Sys2Proof.Machine
end

