-- ==== Sys2Proof/Machine/Regs.lean ====
section
/-!
DEFINITION. Regs.lean: the BAR0 byte address of every register of the spec, under its own name (R9, R370, Table 13.2
and each register's own offset line). A register of a slice, port, lane or engine takes that item's number first.
-/

namespace Sys2Proof.Machine.Reg

def DEV_IDENT : Nat := 0x0
def MBX_LOCK (i : Nat) : Nat := 0x40800 + 0x4 * i
def MBX_PEEK (i : Nat) : Nat := 0x40A00 + 0x4 * i
def MBX_LOCK_CTL : Nat := 0x40900
def PWR_AVS_CTL : Nat := 0x10100
def PWR_AVS_LIMIT : Nat := 0x10104
def PWR_AVS_STAT : Nat := 0x10108
def SLC_PACE_RATE (n i j : Nat) : Nat := 0x08000000 + 0x200000 * n + 0x1F0000 + 0x40 * i + 0x10 * j
def SLC_PACE_MIN (n i j : Nat) : Nat := 0x08000000 + 0x200000 * n + 0x1F0004 + 0x40 * i + 0x10 * j
def SLC_PACE_DROP (n i j : Nat) : Nat := 0x08000000 + 0x200000 * n + 0x1F0008 + 0x40 * i + 0x10 * j
def SLC_PACE_CFG (n : Nat) : Nat := 0x08000000 + 0x200000 * n + 0x1F0080
def SLC_RIND_CTL (n : Nat) : Nat := 0x08000000 + 0x200000 * n + 0x1E1000
def SLC_RIND_CMD (n : Nat) : Nat := 0x08000000 + 0x200000 * n + 0x1E1004
def SLC_RIND_STAT (n : Nat) : Nat := 0x08000000 + 0x200000 * n + 0x1E1008
def SLC_RIND_VREC (n : Nat) : Nat := 0x08000000 + 0x200000 * n + 0x1E100C
def SLC_RIND_VCNT (n i : Nat) : Nat := 0x08000000 + 0x200000 * n + 0x1E1040 + 0x4 * i
def SLC_BS_ADDR_LO (n : Nat) : Nat := 0x08000000 + 0x200000 * n + 0x1E0004
def SLC_BS_ADDR_HI (n : Nat) : Nat := 0x08000000 + 0x200000 * n + 0x1E0008
def SLC_BS_LEN (n : Nat) : Nat := 0x08000000 + 0x200000 * n + 0x1E000C
def SLC_BS_CMD (n : Nat) : Nat := 0x08000000 + 0x200000 * n + 0x1E0010
def SLC_BS_STAT (n : Nat) : Nat := 0x08000000 + 0x200000 * n + 0x1E0014
def SLC_BS_MINVER (n i : Nat) : Nat := 0x08000000 + 0x200000 * n + 0x1E0040 + 0x4 * i
def SLC_EPOCH (n : Nat) : Nat := 0x08000000 + 0x200000 * n + 0x1E0100
def SLC_EPOCH_INFL (n : Nat) : Nat := 0x08000000 + 0x200000 * n + 0x1E0104
def SLC_EPOCH_CFG (n : Nat) : Nat := 0x08000000 + 0x200000 * n + 0x1E0108
def SLC_EPOCH_DROP (n : Nat) : Nat := 0x08000000 + 0x200000 * n + 0x1E010C
def SLC_DRAIN_DROP (n : Nat) : Nat := 0x08000000 + 0x200000 * n + 0x1E0110
def SLC_UNOWNED_DROP (n : Nat) : Nat := 0x08000000 + 0x200000 * n + 0x1E0114
def SLC_ING_CFG (n : Nat) : Nat := 0x08000000 + 0x200000 * n + 0x1D0000
def SLC_LB_ACC (n : Nat) : Nat := 0x08000000 + 0x200000 * n + 0x1D0010
def SLC_LB_DATA (n : Nat) : Nat := 0x08000000 + 0x200000 * n + 0x1D0014
def SLC_MIR_CFG0 (n i : Nat) : Nat := 0x08000000 + 0x200000 * n + 0x1D0100 + 0x8 * i
def SLC_MIR_CFG1 (n i : Nat) : Nat := 0x08000000 + 0x200000 * n + 0x1D0104 + 0x8 * i
def SLC_ING_CNT (n i j : Nat) : Nat := 0x08000000 + 0x200000 * n + 0x1D0200 + 0x40 * i + 0x4 * j
def SLC_CS_ACC (n : Nat) : Nat := 0x08000000 + 0x200000 * n + 0x1C0000
def SLC_CS_DATA (n i : Nat) : Nat := 0x08000000 + 0x200000 * n + 0x1C0010 + 0x4 * i
def SLC_CS_PROT (n : Nat) : Nat := 0x08000000 + 0x200000 * n + 0x1C0020
def SLC_STG_STAT (n : Nat) : Nat := 0x08000000 + 0x200000 * n + 0x1C0030
def SLC_STG_EVT (n i j : Nat) : Nat := 0x08000000 + 0x200000 * n + 0x1C0100 + 0x80 * i + 0x4 * j
def SLC_EG_CNT (n i j : Nat) : Nat := 0x08000000 + 0x200000 * n + 0x1C0400 + 0x20 * i + 0x4 * j
def MGE_CTL (k : Nat) : Nat := 0x80000 + 0x8000 * k + 0x0
def MGE_STAT (k : Nat) : Nat := 0x80000 + 0x8000 * k + 0x4
def MGE_JRNL (k : Nat) : Nat := 0x80000 + 0x8000 * k + 0x8
def MGE_CS_ACC (k : Nat) : Nat := 0x80000 + 0x8000 * k + 0x10
def MGE_CS_DATA (k i : Nat) : Nat := 0x80000 + 0x8000 * k + 0x20 + 0x4 * i
def SLC_TU_CMD (n : Nat) : Nat := 0x08000000 + 0x200000 * n + 0x1B0000
def TBL_TU_CMD : Nat := 0x2001000
def SLC_TU_IDX (n : Nat) : Nat := 0x08000000 + 0x200000 * n + 0x1B0004
def TBL_TU_IDX : Nat := 0x2001004
def SLC_TU_DATA (n i : Nat) : Nat := 0x08000000 + 0x200000 * n + 0x1B0040 + 0x4 * i
def TBL_TU_DATA (i : Nat) : Nat := 0x2001040 + 0x4 * i
def TBL_CTL : Nat := 0x2000000
def TBL_HSEED1 : Nat := 0x2000004
def TBL_HSEED2 : Nat := 0x2000008
def TBL_AGE : Nat := 0x200000C
def TBL_MOVE : Nat := 0x2000010
def TBL_SEQ : Nat := 0x2000014
def TBL_HOLD : Nat := 0x2000018
def TBL_STAT : Nat := 0x200001C
def TBL_FLAP_REC0 : Nat := 0x2000020
def TBL_PART_CFG (i : Nat) : Nat := 0x2020000 + 0x4 * i
def TBL_MISS_RATE (i : Nat) : Nat := 0x2000100 + 0x4 * i
def SLC_TBL_CNT (n i j : Nat) : Nat := 0x08000000 + 0x200000 * n + 0x1B0200 + 0x40 * i + 0x4 * j
def TBL_GCNT (i : Nat) : Nat := 0x2000C00 + 0x4 * i
def PRESS_STAT (i : Nat) : Nat := 0x3000000 + 0x4 * i
def PRESS_SEQ (i : Nat) : Nat := 0x3000020 + 0x4 * i
def VAT_CTL : Nat := 0x1000000
def VAT_FREE : Nat := 0x1000004
def VAT_RSV : Nat := 0x1000008
def VAT_STAT : Nat := 0x100000C
def VAT_POOL (i : Nat) : Nat := 0x1000010 + 0x4 * i
def VAT_POOLFREE (i : Nat) : Nat := 0x1000030 + 0x4 * i
def VAT_SKIM_CTL : Nat := 0x1000080
def VAT_SKIM_FREE : Nat := 0x1000084
def VAT_QACC : Nat := 0x1000100
def VAT_QDATA0 : Nat := 0x1000110
def VAT_QDATA1 : Nat := 0x1000114
def VAT_QDATA2 : Nat := 0x1000118
def VAT_QDATA3 : Nat := 0x100011C
def VAT_QDATA4 : Nat := 0x1000120
def VAT_MC_ACC : Nat := 0x1000200
def VAT_MC_DATA : Nat := 0x1000204
def VAT_PCFG (i : Nat) : Nat := 0x1008000 + 0x4 * i
def VAT_PCNT (i j : Nat) : Nat := 0x1010000 + 0x40 * i + 0x4 * j
def SLC_VAT_CFG (n : Nat) : Nat := 0x08000000 + 0x200000 * n + 0x1A0000
def SLC_VAT_USE (n i : Nat) : Nat := 0x08000000 + 0x200000 * n + 0x1A0040 + 0x8 * i
def SLC_VAT_SKUSE (n i : Nat) : Nat := 0x08000000 + 0x200000 * n + 0x1A0044 + 0x8 * i
def SLC_VAT_CNT (n i j : Nat) : Nat := 0x08000000 + 0x200000 * n + 0x1A0100 + 0x40 * i + 0x4 * j
def PORT_CTL (p : Nat) : Nat := 0x0E000000 + 0x800 * p + 0x0
def PORT_OCT (p : Nat) : Nat := 0x0E000000 + 0x800 * p + 0x4
def PORT_TAG (p : Nat) : Nat := 0x0E000000 + 0x800 * p + 0x8
def PORT_TCI (p : Nat) : Nat := 0x0E000000 + 0x800 * p + 0xC
def PORT_CT (p : Nat) : Nat := 0x0E000000 + 0x800 * p + 0x10
def PORT_STAT (p : Nat) : Nat := 0x0E000000 + 0x800 * p + 0x14
def PORT_CNT (p i : Nat) : Nat := 0x0E000000 + 0x800 * p + 0x100 + 0x4 * i
def PORT_GOOD (p i : Nat) : Nat := 0x0E000000 + 0x800 * p + 0x200 + 0x8 * i
def PORT_GOOD_HI (p i : Nat) : Nat := 0x0E000000 + 0x800 * p + 0x204 + 0x8 * i
def LANE_CTL (l : Nat) : Nat := 0x0C000000 + 0x1000 * l + 0x0
def LANE_TXFIR (l : Nat) : Nat := 0x0C000000 + 0x1000 * l + 0x4
def LANE_STAT (l : Nat) : Nat := 0x0C000000 + 0x1000 * l + 0x8
def LANE_CNT (l : Nat) : Nat := 0x0C000000 + 0x1000 * l + 0xC
def LANE_PAT (l : Nat) : Nat := 0x0C000000 + 0x1000 * l + 0x10
def LANE_PCNT (l i : Nat) : Nat := 0x0C000000 + 0x1000 * l + 0x20 + 0x8 * i
def LANE_PCNT_HI (l i : Nat) : Nat := 0x0C000000 + 0x1000 * l + 0x24 + 0x8 * i
def LANE_EYE (l : Nat) : Nat := 0x0C000000 + 0x1000 * l + 0x40
def LANE_MARG (l : Nat) : Nat := 0x0C000000 + 0x1000 * l + 0x44
def LANE_MARG_RES (l : Nat) : Nat := 0x0C000000 + 0x1000 * l + 0x48
def FLOW_CTL : Nat := 0x6000000
def FLOW_STAT : Nat := 0x6000004
def FLOW_RATE (i : Nat) : Nat := 0x6000100 + 0x4 * i
def FLOW_ACC : Nat := 0x6000200
def FLOW_DATA (i : Nat) : Nat := 0x6000240 + 0x4 * i
def SLC_FLOW_CFG (n : Nat) : Nat := 0x08000000 + 0x200000 * n + 0x190000
def SLC_MTR_ACC (n : Nat) : Nat := 0x08000000 + 0x200000 * n + 0x190010
def SLC_MTR_DATA (n i : Nat) : Nat := 0x08000000 + 0x200000 * n + 0x190020 + 0x4 * i
def SLC_FLOW_CNT (n i j : Nat) : Nat := 0x08000000 + 0x200000 * n + 0x190200 + 0x40 * i + 0x4 * j
def SLC_CTR_ACC (n : Nat) : Nat := 0x08000000 + 0x200000 * n + 0x170000
def SLC_CTR_DATA (n i : Nat) : Nat := 0x08000000 + 0x200000 * n + 0x170010 + 0x4 * i
def SLC_CTR_LIM (n i : Nat) : Nat := 0x08000000 + 0x200000 * n + 0x170040 + 0x4 * i
def TIME_CTL : Nat := 0x50000
def TIME_FREQ : Nat := 0x50004
def TIME_STEP : Nat := 0x50008
def TIME_CLK0 : Nat := 0x50010
def TIME_SET0 : Nat := 0x50020
def TIME_PPSIN0 : Nat := 0x50040
def TIME_CLK1 : Nat := 0x50014
def TIME_SET1 : Nat := 0x50024
def TIME_PPSIN1 : Nat := 0x50044
def TIME_CLK2 : Nat := 0x50018
def TIME_SET2 : Nat := 0x50028
def TIME_PPSIN2 : Nat := 0x50048
def TIME_MONO_LO : Nat := 0x50030
def TIME_MONO_HI : Nat := 0x50034
def PORT_TEL0 (p : Nat) : Nat := 0x0E000000 + 0x800 * p + 0x20
def PORT_TEL1 (p : Nat) : Nat := 0x0E000000 + 0x800 * p + 0x24
def PORT_TSQ0 (p : Nat) : Nat := 0x0E000000 + 0x800 * p + 0x28
def TELE_CTL : Nat := 0x5000000
def TELE_HIST_CMD : Nat := 0x5000004
def TELE_HBIN (i : Nat) : Nat := 0x5000400 + 0x8 * i
def TELE_HBIN_HI (i : Nat) : Nat := 0x5000404 + 0x8 * i
def TELE_CNT (i : Nat) : Nat := 0x5000100 + 0x4 * i
def LEDG_CTL : Nat := 0x60000
def LEDG_STAT : Nat := 0x60004
def LEDG_ADDR : Nat := 0x60008
def LEDG_DATA : Nat := 0x6000C
def FLT_CTL : Nat := 0x30000
def FLT_STAT : Nat := 0x30004
def FLT_FIRST : Nat := 0x30008
def FLT_FIRST_RND : Nat := 0x3000C
def FLT_SHADOW : Nat := 0x30010
def FLT_REC_CMD : Nat := 0x30014
def FLT_CAP : Nat := 0x30018
def FLT_CNT (i : Nat) : Nat := 0x30020 + 0x4 * i
def FLT_SPROW (i : Nat) : Nat := 0x30100 + 0x4 * i
def SLC_FLT_DROP (n : Nat) : Nat := 0x08000000 + 0x200000 * n + 0x180000
def PAIR_CTL : Nat := 0x100000
def PAIR_CMD : Nat := 0x100004
def PAIR_STAT : Nat := 0x100008
def PAIR_TERM : Nat := 0x10000C
def PAIR_OWN : Nat := 0x100010
def PAIR_MCFG0 : Nat := 0x100014
def PAIR_MCFG1 : Nat := 0x100018
def PAIR_TXSEQ : Nat := 0x100020
def PAIR_ACKSEQ : Nat := 0x100024
def PAIR_RXSEQ : Nat := 0x100028
def PAIR_DCFG : Nat := 0x100030
def PAIR_CNT (i : Nat) : Nat := 0x100100 + 0x4 * i
def HOST_QP_CTL (i : Nat) : Nat := 0x210000 + 0x100 * i
def HOST_QP_SIZE (i : Nat) : Nat := 0x210004 + 0x100 * i
def HOST_QP_RXIDX (i : Nat) : Nat := 0x210018 + 0x100 * i
def HOST_QP_TXIDX (i : Nat) : Nat := 0x21001C + 0x100 * i
def HOST_QP_RXHEAD (i : Nat) : Nat := 0x210024 + 0x100 * i
def HOST_QP_TXHEAD (i : Nat) : Nat := 0x210028 + 0x100 * i
def HOST_QP_STAT (i : Nat) : Nat := 0x210020 + 0x100 * i
def HOST_IRT (i : Nat) : Nat := 0x204000 + 0x4 * i
def HOST_LSUM (i : Nat) : Nat := 0x206000 + 0x4 * i
def HOST_STAT : Nat := 0x200000
def HOST_UNMAP : Nat := 0x200004
def MGE_DUTYMAP : Nat := 0x80100
def MBX_CTL : Nat := 0x40000
def MBX_GSTAT : Nat := 0x40004
def MBX_CFG (i : Nat) : Nat := 0x41000 + 0x4 * i
def MBX_STAT (i : Nat) : Nat := 0x41400 + 0x4 * i
def MBX_DBCFG (i : Nat) : Nat := 0x40C00 + 0x4 * i
def MBX_DB (i : Nat) : Nat := 0x40D00 + 0x4 * i
def PWR_DOM (i : Nat) : Nat := 0x10400 + 0x4 * i
def DEV_RST : Nat := 0x10
def DEV_RSTCAUSE : Nat := 0x14
def BOOT_STAT : Nat := 0x20000
def BOOT_CMD : Nat := 0x20004
def BOOT_LEN : Nat := 0x20010
def BOOT_KEYSTAT : Nat := 0x20014
def BOOT_ATTCTL : Nat := 0x20018
def BOOT_NONCE (i : Nat) : Nat := 0x20020 + 0x4 * i
def DEV_THERM : Nat := 0x20
def HOST_QP_RXBASE_LO (i : Nat) : Nat := 0x210008 + 0x100 * i
def HOST_QP_RXBASE_HI (i : Nat) : Nat := 0x21000C + 0x100 * i
def HOST_QP_TXBASE_LO (i : Nat) : Nat := 0x210010 + 0x100 * i
def HOST_QP_TXBASE_HI (i : Nat) : Nat := 0x210014 + 0x100 * i
def MBX_MSG (i j : Nat) : Nat := 0x44000 + 0x40 * i + 0x4 * j
def MBX_STAGE (i j : Nat) : Nat := 0x48000 + 0x40 * i + 0x4 * j
def FLT_REC (i j : Nat) : Nat := 0x31000 + 0x20 * i + 0x4 * j
def SLC_RIND_STAGE (n i : Nat) : Nat := 0x08000000 + 0x200000 * n + 0x1E1400 + 0x4 * i
def SLC_RIND_DESC (n i j : Nat) : Nat := 0x08000000 + 0x200000 * n + 0x1E1800 + 0x100 * i + 0x4 * j
def BOOT_ADDR_LO : Nat := 0x20008
def BOOT_ADDR_HI : Nat := 0x2000C
def BOOT_KEYWIN (i : Nat) : Nat := 0x20100 + 0x4 * i
def BOOT_ATTWIN (i : Nat) : Nat := 0x22000 + 0x4 * i
def PORT_TSQ1 (p : Nat) : Nat := 0x0E000000 + 0x800 * p + 0x2C
def PORT_TSQ2 (p : Nat) : Nat := 0x0E000000 + 0x800 * p + 0x30
def TBL_FLAP_REC1 : Nat := 0x2000024
def MSIX_TABLE (i j : Nat) : Nat := 0x208000 + 0x10 * i + 0x4 * j
def MSIX_PBA (i : Nat) : Nat := 0x20C000 + 0x4 * i

end Sys2Proof.Machine.Reg
end

