-- ==== Sys2Proof/Machine/State.lean ====
section
/-!
DEFINITION. State.lean: everything the spec gives the part, as plain data, with the state right after power-on reset.
Registers live in one map keyed by their BAR0 address; a register not listed holds its reset value (RegMap.lean).
Tables, buffers, queues, contexts and the hardware's own sequencers have a structure each. A default field value is
the value of that field after power-on reset.
-/

namespace Sys2Proof.Machine

/-! ### What leaves the part -/

/-- What the part sends out. -/
inductive Output where
  /-- An MSI-X message of function `fn` (0 the PF, 1 + n VF n) on vector `vec` (R383). -/
  | msix (fn vec : Nat) (addr : Nat) (data : Word)
  /-- A DMA write of function `fn` (R378). -/
  | dmaWrite (fn addr : Nat) (bytes : List Byte)
  /-- A DMA read request of function `fn` (R376, R441). -/
  | dmaRead (fn addr len : Nat)
  /-- An AVSBus Voltage write, mV (R43). -/
  | avsVoltage (mv : Nat)
  /-- A frame sent by a front port; `bad` when it ends with an inverted FCS (R237). -/
  | frame (port : Nat) (bytes : List Byte) (bad : Bool)
  /-- A link-training answer of a lane (R260). -/
  | training (lane : Nat) (status : Nat)
  /-- A frame sent over the Solyen link (R345). -/
  | solyen (rail : Nat) (bytes : List Byte)
  /-- PPS_OUT changes level (R299). -/
  | pps (level : Bool)
  /-- THERMTRIP_N is driven low (R437). -/
  | thermTrip
  /-- A bit vector shifted out on TDO (R436). -/
  | tdo (bits : List Bool)
  deriving DecidableEq, Repr

/-! ### The fault collector (chapter 11) -/

/-- A report a detector has raised (R319, R320): its source, class, the kind of element that failed and the
coordinates and detail it carries, with MONO at detection in ns. -/
structure Report where
  src : Nat
  cls : FaultClass
  elem : Element
  detail : Nat
  tile : Nat
  at_ : Nat
  deriving DecidableEq, Repr

/-- The states of a record (Table 11.6); a record in FREE is not listed. -/
inductive RecState where
  | handling
  | selftest
  | repair
  | done
  | held
  | fatal
  deriving DecidableEq, Repr

/-- The scope of a source (Table 11.4): what its safe state covers. -/
inductive Scope where
  | none
  | element
  /-- Front port `p`. -/
  | port (p : Nat)
  /-- Port 1057. -/
  | solyen
  /-- `n` lanes from `l` on. -/
  | lanes (l n : Nat)
  | slice (n : Nat)
  | device
  deriving DecidableEq, Repr

/-- A fault record (Table 11.5) with what the collector keeps beside it: the order it was opened in, the reaction
shadow's start and end (R329), and whether a core reset has come since (Table 11.6). -/
structure FltRec where
  src : Nat
  cls : FaultClass
  elem : Element
  state : RecState
  merge : Nat := 0
  sec : Nat := 0
  lasting : Bool := false
  spareUsed : Bool := false
  notest : Bool := false
  recur : Bool := false
  safe : Bool := false
  secmap : Word := 0
  round : Nat := 0
  monoUs : Nat := 0
  tile : Nat := 0
  detail : Nat := 0
  seq : Nat := 0
  shadow : Option (Nat × Nat) := none
  coreReset : Bool := false
  /-- What the safe state of the record covers. -/
  scope : Scope := .none
  /-- A pipe image store's fault is HELD until a slice-scope configuration with DELTA = 0 is loaded and swapped (R338); a
  rind store's until these descriptors are committed again (Table 11.8, LOAD). -/
  needLoad : Bool := false
  needCommit : NatSet := []
  deriving DecidableEq, Repr

/-- The fault collector (R31, R324 to R336). Records 64 to 127 stand for reactions whose report found no record
(R328); they are not readable. -/
structure Collector where
  /-- MONO at which the open round opened. -/
  round : Option Nat := none
  reports : List Report := []
  roundNo : Nat := 0
  recs : Store FltRec := []
  nextSeq : Nat := 0
  /-- Transient results: source, detail and MONO (R336). -/
  history : List (Nat × Nat × Nat) := []
  /-- Spares used: key source class × 2,048 + instance for rows, 65,536 + 4 × slice + 2 × pipe + kind for tiles. -/
  spares : Store Nat := []
  /-- MONO at which a FATAL core reset is due (R405). -/
  fatalDue : Option Nat := none
  /-- The collector's self-check has passed (R334, Table 14.2). -/
  selfChecked : Bool := false
  /-- The device is in its FATAL safe state (Table 11.4, DEVICE). -/
  deviceSafe : Bool := false
  deriving DecidableEq, Repr

/-! ### Voltage loop and pace (chapter 1) -/

/-- The voltage loop's own state (R43 to R46). -/
structure Avs where
  /-- The commanded voltage the loop holds, mV; 700 before its first command (R43). -/
  v : Nat := 700
  hold : Nat := 0
  fails : Nat := 0
  /-- A Voltage write awaits its acknowledge. -/
  awaiting : Bool := false
  /-- Power sequencing has released the core. -/
  released : Bool := false
  /-- MONO of the last evaluation, and MONO at which the next read-back is due. -/
  lastEval : Nat := 0
  readDue : Nat := 0
  deriving DecidableEq, Repr

/-- One stream's pace monitor (R48): the window's start and the packet completions counted in it, with the frames
the stream may still take before it lacks pace (R47). -/
structure Pace where
  start : Nat := 0
  completions : Nat := 0
  deriving DecidableEq, Repr

/-! ### Interrupts, mailboxes, host link (chapter 13) -/

/-- Interrupt delivery (R383): each function's MSI-X table words (key fn × 0x8000 + offset), the pending bits
(fn × 512 + vector), the sources pending at each engine, and for each queue pair the time of its last message and the
sources whose message is held by ITR. -/
structure Interrupts where
  msix : Store Word := []
  pba : NatSet := []
  engine : Store NatSet := []
  itrLast : Store Nat := []
  itrHeld : Store NatSet := []
  deriving DecidableEq, Repr

/-- Mailboxes beside their registers: the receiver's holding copy and MONO of the last post while the timeout runs
(R387 to R392). -/
structure Mailboxes where
  hold : Store (List Word) := []
  posted : Store Nat := []
  deriving DecidableEq, Repr

/-- A transmit descriptor at HEAD whose frame is being read, or is read and being stored (R376). -/
structure TxFetch where
  addr : Nat
  len : Nat
  slice : Nat
  started : Nat
  /-- Whether the frame's bytes have come. -/
  read : Bool := false
  deriving DecidableEq, Repr

/-- A queue pair's sequencer beside its registers. -/
structure Qp where
  tx : Option TxFetch := none
  deriving DecidableEq, Repr

/-- The PCI Express link: whether it is up, with the queue pairs' sequencers. DESIGN CHOICE, log entry 88. -/
structure HostLink where
  up : Bool := false
  qps : Store Qp := []
  deriving DecidableEq, Repr

/-! ### Power, reset, boot and trust (chapter 14) -/

/-- A ramp in progress (R402). -/
structure Ramp where
  dom : Nat
  up : Bool
  start : Nat
  deriving DecidableEq, Repr

/-- The steps of a controlled shutdown (Table 14.5). -/
inductive Shutdown where
  | none
  | running
  | ready
  deriving DecidableEq, Repr

/-- Pins, ramps and resets in progress. RESET_N and PERST_N are low when power comes up (R400). -/
structure Power where
  aonValid : Bool := true
  resetN : Bool := false
  perstN : Bool := false
  bootSel : Bool := false
  ramping : List Ramp := []
  waiting : List (Nat × Bool) := []
  shutdown : Shutdown := .none
  /-- Requests in the opposite direction of a ramp under way (R402), and domains a wake is switching on (R403). -/
  deferred : List (Nat × Bool) := []
  woken : NatSet := []
  /-- The boot chain of this power-up has started. -/
  bootStarted : Bool := false
  deriving DecidableEq, Repr

/-- Where the container of a boot command has come to (R409, R410). -/
inductive BootPhase where
  | fetch
  | verify
  | write
  | flash
  deriving DecidableEq, Repr

/-- Who asked for a boot operation: BOOT_CMD with its command code and ARG, or the power-up from flash (slot 0 A, slot 1
B). -/
inductive BootBy where
  | command (cmd arg : Nat)
  | flash (slot : Nat)
  deriving DecidableEq, Repr

/-- The container the boot controller works on. -/
structure BootOp where
  by_ : BootBy
  issuer : Master
  phase : BootPhase
  bytes : List Byte := []
  since : Nat := 0
  deriving DecidableEq, Repr

/-- What the boot controller keeps of an engine's last accepted image (R144, R418). -/
structure EngImage where
  body : List Byte
  digest : List Byte
  version : Word
  keyslot : Nat
  deriving DecidableEq, Repr

/-- The reply an attestation request awaits (R417): the REPLY mailbox, STATUS, LEN and Q. -/
structure AttReply where
  box : Nat
  status : Nat
  len : Nat
  q : Nat
  deriving DecidableEq, Repr

/-- Fuses, key store, flash, the boot controller's operation and attestation.
DESIGN CHOICE, log entry 3; DESIGN CHOICE, log entry 44. -/
structure Boot where
  /-- The fused hashes of slots 1 to 4; an unlisted slot's fuses are all zero (R411). -/
  hashes : Store (List Byte) := []
  revoked : NatSet := []
  floor : Nat := 0
  /-- An operator slot has at some time been fused (Table 14.8). -/
  everFused : Bool := false
  /-- Installed keys of slots 1 to 4, 153 bytes each (R412). -/
  keys : Store (List Byte) := []
  /-- The 2 MiB boot flash; an unlisted byte reads 0xFF. -/
  flash : List Host.Cell := []
  op : Option BootOp := none
  images : Store EngImage := []
  /-- Attestation: the reply to be posted, MONO at which the window is released, and the report bucket (R417, R419). -/
  attReply : Option AttReply := none
  attDue : Option Nat := none
  attTokens : Nat := 64
  attLast : Nat := 0
  deriving DecidableEq, Repr

/-! ### Slices (chapter 2) -/

/-- A configuration bank of a slice: its regions' bytes (key: `bankKey`), the stored
words whose parity is bad (key × 4 + stream), its epoch,
and what the container that filled it said. -/
structure Bank where
  mem : List Host.Cell := []
  bad : NatSet := []
  epoch : Nat := 0
  /-- FLAGS.PAIL of the last slice-scope container with DELTA = 0, and VERSION and KEYSLOT of the last slice-scope one. -/
  pail : Bool := false
  version : Word := 0
  keyslot : Nat := 0
  /-- A slice-scope container with DELTA = 0 filled it (R51). -/
  full : Bool := false
  /-- The claims of the containers that filled it: key 0 slice scope, 1 + c compartment c (R56). -/
  claims : Store (List Byte) := []
  /-- The digests of the ingress and egress pipe's protected content (R144). -/
  digestI : List Byte := []
  digestE : List Byte := []
  deriving DecidableEq, Repr

/-- Where a drain swap has come to (Table 02.12). -/
inductive DrainPhase where
  | none
  | pipes
  | switching
  | check
  | revert
  deriving DecidableEq, Repr

/-- A slice's bitstream loader beside its registers (R67 to R80). -/
structure Loader where
  bytes : List Byte := []
  issuer : Master := .pf
  isVerify : Bool := false
  place : Bool := false
  /-- The order in which waiting commands completed (R71). -/
  ticket : Nat := 0
  /-- A load has passed its claim check and is not yet swapped or discarded (R56). -/
  claimPassed : Bool := false
  /-- The first failure among codes 0x0A to 0x0C, judged with the claim (R57) and reported once both signatures have
  verified (Table 02.8). -/
  verdict : Nat := 0
  /-- The committed descriptor of the target as it stood when the claim check was granted (R63). -/
  scopeDesc : List Byte := []
  drain : Bool := false
  phase : DrainPhase := .none
  /-- MONO of step 2 of Table 02.11, or of step 1 of Table 02.12. -/
  since : Nat := 0
  /-- The epoch before a drain and SLC_CS_PROT.NOREF of that bank, for a revert (R80, R144). -/
  preEpoch : Nat := 0
  preNoref : Bool := false
  deriving DecidableEq, Repr

/-- One slice: its two banks with the one that is active, epochs, loader, rind, and the pieces of its pipes that are
not registers. -/
structure Slice where
  bankA : Bank := {}
  bankB : Bank := {}
  activeB : Bool := false
  /-- Epochs marked dead (R77, R79). -/
  dead : NatSet := []
  loader : Loader := {}
  /-- A commit being checked: the descriptor's index and its 64 words (R56). -/
  commit : Option (Nat × List Word) := none
  /-- Violations of each compartment in the current 1 ms window (R61). -/
  vwin : Store Nat := []
  /-- Held in the safe state of scope SLICE (Table 11.4). -/
  safe : Bool := false
  /-- Stage match memory by logical tile: byte b of entry e of tile t of a pipe at
  ((pipe × 128 + t) × 2,048 + e) × 32 + b (R116, R122). -/
  matchMem : List Host.Cell := []
  /-- Sample counters of the mirror sessions (R107). -/
  mirror : Store Nat := []
  /-- Excluded logical tiles, keyed pipe × 2,048 + action × 1,024 + tile, and spares in service (R50, R339). -/
  excluded : NatSet := []
  deriving DecidableEq, Repr

/-! ### The vat (chapter 6) -/

/-- Where a spilled frame's data is (R214 to R220): its stack and first slot, and whether its read-back is issued. -/
structure Spill where
  stack : Nat
  slot : Nat
  reading : Bool := false
  deriving DecidableEq, Repr

/-- What kind of copy a pointer node carries (R203). -/
inductive CopyKind where
  | unicast
  | multicast (group rid : Nat)
  | mirror (session : Nat)
  | host
  | recirc
  /-- A collector frame (R310) or a notification frame (R288). -/
  | made
  deriving DecidableEq, Repr

/-- A piece of an emitted frame (R126): given bytes, `len` bytes of frame data from `off`, or all of it from `off`. -/
inductive Piece where
  | lit (bytes : List Byte)
  | data (off len : Nat)
  | rest (off : Nat)
  deriving DecidableEq, Repr

/-- A pointer node: one copy of a frame in a queue (R190, R207). -/
structure Copy where
  frame : Nat
  kind : CopyKind
  dest : Nat
  queue : Nat
  /-- Bytes of frame data kept, when the copy is truncated (R106, R113). -/
  trunc : Option Nat := none
  /-- The punt header and CARRY bytes in front of a host copy (R114). -/
  punt : List Byte := []
  /-- MONO at its enqueue. -/
  enq : Nat := 0
  /-- Sent in cut-through (R211). -/
  ct : Bool := false
  nodes : Nat := 1
  slice : Nat := 0
  comp : Nat := 0
  /-- The copy has passed its egress pipe: what the deparser emits (R126). -/
  emitted : Option (List Piece) := none
  /-- Being sent by its port (R240). -/
  sending : Bool := false
  /-- The egress epoch tag and the egress decision's DROP_CODE. -/
  eepoch : Nat := 0
  dropCode : Nat := 0
  /-- A collector frame: its collector and records (R310). -/
  col : Option (Nat × Nat) := none
  /-- A notification, and whether it is a RELEASE (R288). -/
  note : Option Bool := none
  /-- A DATA frame of the partner (R347): it belongs to no compartment. -/
  pairData : Bool := false
  /-- Depth and delay noted at its dequeue (Table 04.4). -/
  qdepth : Nat := 0
  qdelay : Nat := 0
  deriving DecidableEq, Repr

/-- A stored frame: its descriptor (Table 06.2), its annex, and its bytes as the vat or HBM holds them. -/
structure Frame where
  bytes : List Byte := []
  cells : List Nat := []
  /-- Cells charged (Table 06.2, CELLS). -/
  charged : Nat := 0
  refcnt : Nat := 1
  /-- The receive hold is still held (R209). -/
  hold : Bool := true
  slice : Nat := 0
  comp : Nat := 0
  /-- A valid compartment owns it (R53). -/
  owned : Bool := true
  epoch : Nat := 0
  /-- 0 native; 1 to 5 pail pools 0 to 4; 6 while in a port's staging (R195). -/
  pool : Nat := 0
  isOpen : Bool := true
  err : Bool := false
  spill : Option Spill := none
  /-- Dropped under R193 or without an admitted copy (R201): no further bytes are stored. -/
  dropped : Bool := false
  /-- A read-back returned an uncorrectable error (R220). -/
  skimErr : Bool := false
  /-- Cells of a read-back that are in the vat again (R218). -/
  back : Option Nat := none
  /-- It stays resident under R216. -/
  denied : Bool := false
  inPort : Nat := 0
  orig : Nat := 0
  stream : Nat := 0
  pass : Nat := 0
  /-- The start node of this pass (R112). -/
  rnode : Option Nat := none
  /-- Annex: ingress metadata bytes 0 to 11, the CARRY bytes and the arrival timestamp. -/
  std : List Byte := []
  carry : List Byte := []
  tsSec : Nat := 0
  tsNs : Nat := 0
  /-- MONO at arrival, and HASH and MATCH_ID entry 0 for postcards (Table 10.3). -/
  arrived : Nat := 0
  hash : Nat := 0
  match0 : Nat := 0xFFFF
  dropCode : Nat := 0
  pflags : Nat := 0
  /-- MONO when its last byte was stored (R213). -/
  lastByte : Nat := 0
  /-- The separator has completed under R92; the decision is resolved, or the frame has left its pipe. -/
  parsed : Bool := false
  resolved : Bool := false
  /-- The frame waits at its stream's input, on the return side or the port side (R82), in order of `seq`. -/
  waiting : Bool := false
  ret : Bool := false
  seq : Nat := 0
  /-- The host queue pair that injected it. -/
  hostQp : Option Nat := none
  /-- Bytes of an internal frame still to be stored, and the copy admitted when it is stored (R125, R193). -/
  rest : List Byte := []
  after : Option Copy := none
  deriving DecidableEq, Repr

/-- A token bucket: how far below full it stood at a time (R224, R225). DESIGN CHOICE, log entry 44. -/
structure Bucket where
  short : Nat := 0
  last : Nat := 0
  deriving DecidableEq, Repr

/-- A spill under way: its queue, frame, stack and first slot (R217). -/
structure SpillOp where
  qid : Nat
  frame : Nat
  stack : Nat
  slot : Nat
  deriving DecidableEq, Repr

/-- The vat: stored frames by descriptor, link words (Table 06.1), queues of pointer nodes by QID, queue settings
(QID × 4 + word), schedulers, shapers, multicast tables and the skim engine. -/
structure Vat where
  frames : Store Frame := []
  links : Store Word := []
  queues : Store (List Copy) := []
  qcfg : Store Word := []
  deficit : Store Nat := []
  lastServed : Store Nat := []
  qBucket : Store Bucket := []
  pBucket : Store Bucket := []
  rcBucket : Store Bucket := []
  groups : Store Word := []
  targets : Store Word := []
  /-- Frames waiting to be stored whole, by source: 1024 + n the recirculation path of slice n, 1056 host injection,
  2048 copies of egress pipes, notifications and collector frames; with the descriptor a source stores into now. -/
  toStore : Store (List Frame) := []
  storing : Store Nat := []
  /-- Copies dequeued and past their egress pipe, waiting for or in transmission, by destination. -/
  out : Store (List Copy) := []
  spills : List SpillOp := []
  nextStack : Nat := 0
  /-- HBM stacks out of service for skim (R220, Table 11.8). -/
  stacksOut : NatSet := []
  nextSeq : Nat := 0
  deriving DecidableEq, Repr

/-! ### Ports (chapter 7) -/

/-- The frame a front port receives: its wire bytes so far, the MAXLEN in force when it began (R234), the descriptor it
is stored under, and whether the rest is discarded. -/
structure Rx where
  raw : List Byte := []
  maxlen : Nat := 9600
  desc : Option Nat := none
  discard : Bool := false
  /-- The insertion took it above 16,384 bytes (R239). -/
  tagLen : Bool := false
  /-- MONO when its last byte was stored (R213). -/
  last : Nat := 0
  deriving DecidableEq, Repr

/-- A two-step timestamp entry (R303). -/
structure TsEntry where
  msg : Nat
  dom : Nat
  seqId : Nat
  sec : Nat
  ns : Nat
  deriving DecidableEq, Repr

/-- A front port beside its registers. -/
structure Port where
  rx : Option Rx := none
  /-- MONO since when it has been aligned with no fault ordered set (R246). -/
  since : Option Nat := none
  /-- The safe state of a fault covers the port (R246). -/
  safe : Bool := false
  tsq : List TsEntry := []
  /-- CLOCK and MONO of the departure of the copy being sent (R298). -/
  txClk : Nat := 0
  txMono : Nat := 0
  /-- Live histogram bins (R311): kind × 32 + bin. -/
  hist : Store Nat := []
  deriving DecidableEq, Repr

/-- A lane beside its registers (chapter 8). -/
structure Lane where
  /-- MONO at which its training began, and MONO at which the squelch after a training timeout ends (R261). -/
  trainAt : Option Nat := none
  quietUntil : Option Nat := none
  /-- Precoding the partner has asked for, and precoding the device's own training has asked for (R256). -/
  partnerPre : Bool := false
  ownPre : Bool := false
  /-- Its reference group's input or PLL is lost (R254). -/
  noClock : Bool := false
  /-- MONO at which the generator began at its pattern's seed (R269), and the place of the last periodic injection, in
  quarter bits at the lane's rate since MONO was 0 (R271). -/
  gen : Option Nat := none
  injAt : Nat := 0
  /-- Bits inverted by injection (R271). -/
  inverted : Nat := 0
  /-- Quarter bits compared and not yet in BITS (R270). -/
  part : Nat := 0
  deriving DecidableEq, Repr

/-! ### Frames in the pipes (chapters 3 and 4) -/

/-- A memory operation of a frame that has been issued and has not completed: its place in issue order, operation,
response slot, and the response once its target has answered (R133): 16 bytes, HIT and ERR. -/
structure Outst where
  seq : Nat
  op : Nat
  slot : Nat
  resp : Option (List Byte × Bool × Bool) := none
  deriving DecidableEq, Repr

/-- A frame in a pipe: an ingress frame, or a dequeued copy in an egress pipe. -/
structure Ctx where
  slice : Nat
  pipe : Nat
  stream : Nat
  frame : Nat
  copy : Option Copy := none
  comp : Nat := 0
  epoch : Nat := 0
  /-- Metadata bytes 0 to 255 and response file bytes 0 to 127; unlisted bytes are 0. -/
  md : List Host.Cell := []
  resp : List Host.Cell := []
  z : Bool := false
  n : Bool := false
  c : Bool := false
  hit : Bool := false
  err : Bool := false
  /-- The stage the frame is in or enters next, 0 to 24; 24 is past the last stage. -/
  stage : Nat := 0
  /-- The stage's routine runs, at microword `upc`, with `steps` microsteps executed (R135). -/
  running : Bool := false
  upc : Nat := 0
  steps : Nat := 0
  /-- The memory operation of the microword at `upc` has been issued. -/
  issued : Bool := false
  outst : List Outst := []
  nextSeq : Nat := 0
  /-- HIT and ERR of the memory operation issued last, once it has completed (R133). -/
  lastFlags : Option (Bool × Bool) := none
  /-- Uses of each allowance in this pass: 0 endpoint, 1 route, 2 ACL, 3 learn, 4 flow, 5 counter, 6 meter (R148, R279,
  R291, R446). -/
  used : Store Nat := []
  /-- Nanoseconds spent parked in this pass, in stalls that have ended (R162). -/
  parked : Nat := 0
  /-- The parse is done (ingress), admission order in the stream, and MONO at admission. -/
  parsed : Bool := false
  order : Nat := 0
  since : Nat := 0
  /-- The start node of this pass, and the queue depth and delay noted at dequeue. -/
  rnode : Option Nat := none
  deriving DecidableEq, Repr

/-! ### Management engines (chapter 4) -/

/-- A journal record (R137). -/
structure JRec where
  routine : Nat
  step : Nat
  state : Nat
  nwr : Nat
  args : List Byte
  deriving DecidableEq, Repr

/-- A held step write: space, address and bytes (R138). -/
structure StepWrite where
  space : Nat
  addr : Nat
  bytes : List Byte
  deriving DecidableEq, Repr

/-- A management engine: general registers G1 to G31, entry buffers (256 bytes), return stack, control store (24 bytes a
microword from 0, dispatch entries from 0x100000), data RAM, and its always-on journal. -/
structure Engine where
  g : Store (BitVec 64) := []
  eb : List Host.Cell := []
  rstack : List Nat := []
  store : List Host.Cell := []
  bad : NatSet := []
  ram : List Host.Cell := []
  z : Bool := false
  n : Bool := false
  c : Bool := false
  hit : Bool := false
  err : Bool := false
  upc : Nat := 0
  /-- The microword at `upc` has been fetched; its memory operation and its operation have been done. -/
  memDone : Bool := false
  opDone : Bool := false
  /-- What its LOAD brought, written when the microword ends. -/
  loaded : Option (Nat × BitVec 64) := none
  waiting : Bool := false
  haltReq : Bool := false
  /-- Halted by a machine check: it runs again only after its image has been loaded (R143). -/
  blocked : Bool := false
  /-- It stands right after a step's commit (R139, R146). -/
  afterStep : Bool := false
  jopen : Bool := false
  routine : Nat := 0
  steps : Nat := 0
  stepNo : Nat := 0
  held : List StepWrite := []
  jlog : List Byte := []
  records : Store JRec := []
  nextRec : Nat := 0
  digest : List Byte := []
  deriving DecidableEq, Repr

/-! ### Package (chapter 15) -/

/-- The boundary-scan port (R436) and the low-speed pins it sees. -/
structure Package where
  ir : Nat := 0
  boundary : List Bool := []
  pins : List Bool := []
  driven : Bool := false
  deriving DecidableEq, Repr

/-- Time of the part (R295, R296): MONO in ns; CLOCK in units of 10⁻¹² ns; whether CLOCK's nanosecond field has wrapped
by counting with its pulse still to come, MONO at which PPS_OUT falls (R299), and MONO of the last edge taken on PPS_IN
(R434). -/
structure Time where
  mono : Nat := 0
  clk : Nat := 0
  wrapped : Bool := false
  ppsEnd : Option Nat := none
  ppsIn : Option Nat := none
  deriving DecidableEq, Repr

/-- A postcard collector (R309): the records of its frame in the making, MONO of the first, its next SEQ, and its
bucket in thousandths of a record below full. -/
structure PostCol where
  recs : List (List Byte) := []
  since : Nat := 0
  seq : Nat := 0
  bucket : Bucket := {}
  deriving DecidableEq, Repr

/-- Telemetry beside its registers: collectors, the sample count of each port (R307) and the device-wide histogram
bins, kind × 32 + bin (R311); counters of the slices' pools, slice × 2¹⁷ + index, PKTS and BYTES (R446); the histogram
snapshot under way. -/
structure Tele where
  cols : Store PostCol := []
  sample : Store Nat := []
  devHist : Store Nat := []
  counters : Store (Nat × Nat) := []
  deriving DecidableEq, Repr

/-- An event record waiting for the ledger: its 60 bytes and whether it is critical (R316). -/
structure LedEvent where
  bytes : List Byte
  critical : Bool
  deriving DecidableEq, Repr

/-- A ledger write under way: a summary (its copy, 0 A or 1 B, and its bytes) or a record (its byte address and
bytes), with whether its one retry has been used (R316, R317). -/
structure LedWrite where
  summary : Bool
  addr : Nat
  bytes : List Byte
  cause : Nat := 0
  retried : Bool := false
  deriving DecidableEq, Repr

/-- The lifetime ledger (R313 to R318): its non-volatile bytes, the summary counts accumulated in the always-on domain
(by their byte offset in Table 10.6, as whole fields), and the sequencer that writes it.
DESIGN CHOICE, log entry 3; DESIGN CHOICE, log entry 44. -/
structure Ledger where
  /-- Bytes 0 to 3 of the header hold MAGIC, byte 4 FMT (Table 10.5). -/
  mem : List Host.Cell := [(0, 0x4C), (1, 0x46), (2, 0x39), (3, 0x4C), (4, 1)]
  counts : Store Nat := []
  /-- Summary writes and event numbers since manufacture, records written to each ring, power-on seconds. -/
  gen : Nat := 0
  seq : Nat := 0
  crit : Nat := 0
  general : Nat := 0
  poh : Nat := 0
  /-- MONO of the last summary write, of the last token of the flush bucket and of the record bucket, and what each
  holds. -/
  lastSummary : Nat := 0
  flushTokens : Nat := 8
  flushLast : Nat := 0
  recTokens : Nat := 64
  recLast : Nat := 0
  busy : Option LedWrite := none
  queue : List LedEvent := []
  /-- A summary waits for the ledger's arbiter, with its cause. -/
  wantSummary : Option Nat := none
  deriving DecidableEq, Repr

/-! ### Forwarding tables (chapter 5) -/

/-- A route entry as a press bank holds it (Table 05.8); a quarantined one matches nothing (R183). -/
structure Route where
  af : Nat
  plen : Nat
  vrf : Nat
  addr : Nat
  nhop : Nat
  opc : Nat
  seq : Nat
  quar : Bool := false
  deriving DecidableEq, Repr

/-- A press bank: its entries, and the holes of each region (R179, R180): regions 0 to 128 are IPv6 /128 to /0, 129 to
161 IPv4 /32 to /0. -/
structure Press where
  routes : List Route := []
  holes : Store Nat := []
  deriving DecidableEq, Repr

/-- An object (Table 05.4) with its owner (slice + 32 × compartment) or SHARED mark; RETIRED since the context number
`retired` was the next to be given (R153). -/
structure Obj where
  bytes : List Byte
  owner : Nat := 0
  shared : Bool := false
  retired : Option Nat := none
  deriving DecidableEq, Repr

/-- A frame parked in a stall: its context, the operation that waits, and MONO when it parked; of a flow access also its
memory operation, IMM and the bytes it writes. -/
structure Parked where
  ctx : Nat
  seq : Nat
  at_ : Nat
  op : Nat := 0
  imm : Nat := 0
  data : List Byte := []
  deriving DecidableEq, Repr

/-- A stall flow (R160, R161): its stream, partition and key, the frames parked in order, the slot being read with the
candidates after it, and MONO of its first read. -/
structure MissStall where
  slice : Nat
  pipe : Nat
  stream : Nat
  part : Nat
  key : List Byte
  frames : List Parked
  reading : Nat
  cands : List Nat
  since : Nat
  deriving DecidableEq, Repr

/-- A learn in a shard's queue (R171). -/
structure Learn where
  slice : Nat
  comp : Nat
  port : Nat
  part : Nat
  key : List Byte
  deriving DecidableEq, Repr

/-- An update-port command that runs: the words written with its GO. -/
structure UpCmd where
  cmd : Word
  idx : Nat
  data : List Byte
  deriving DecidableEq, Repr

/-- The shared tables: endpoint entries by slot (the primary copy; slot + 2²⁵ the duplicate), the tag array, the cache by
set (lines most recently hit first), the learn queues by shard, ACL entries ((slice × 2 + pipe) × 8,192 + index), press
banks, objects, stalls, miss-read buckets in thousandths, and what aging and churn keep. -/
structure Tbl where
  ep : Store (List Byte) := []
  tags : Store Nat := []
  cache : Store (List (List Byte)) := []
  learnq : Store (List Learn) := []
  acl : Store (List Byte) := []
  press : Store Press := []
  objects : Store Obj := []
  stalls : Store MissStall := []
  nextStall : Nat := 0
  buckets : Store Bucket := []
  cmds : Store UpCmd := []
  /-- MONO of the last rise of TBL_AGE.NOW (R175). -/
  ageLast : Nat := 0
  /-- The next churn visit and MONO of the last one (R176), with the compare-and-deletes asked for: slot, its entry's
  PART and KEY bytes, and the TS churn read (R177). -/
  visit : Nat := 0
  visitLast : Nat := 0
  churned : List (Nat × List Byte × Nat) := []
  deriving DecidableEq, Repr

/-! ### Flow state and meters (chapter 9) -/

/-- A line of the flow cache: its context, its bytes, whether it differs from HBM, and the order of its last use. -/
structure FlowLine where
  index : Nat
  bytes : List Byte
  dirty : Bool := false
  used : Nat := 0
  deriving DecidableEq, Repr

/-- A flow stall (R280): the frames of one stream that access one context. -/
structure FlowStall where
  slice : Nat
  pipe : Nat
  stream : Nat
  index : Nat
  frames : List Parked
  since : Nat
  deriving DecidableEq, Repr

/-- A meter's bucket state: token counts in 1/8,000 byte, and MONO of the last fill (R292). -/
structure Meter where
  c : Nat := 0
  e : Nat := 0
  last : Nat := 0
  deriving DecidableEq, Repr

/-- Flow contexts in HBM by index, the flow cache by line number (set × 8 + way), stalls, the buckets of HBM accesses
(below full, in thousandths) and of notifications, and the meters by slice × 65,536 + index: configuration words and
bucket states. -/
structure Flow where
  hbm : Store (List Byte) := []
  cache : Store FlowLine := []
  nextUse : Nat := 0
  stalls : Store FlowStall := []
  nextStall : Nat := 0
  buckets : Store Bucket := []
  notify : Store Bucket := []
  meterCfg : Store (List Word) := []
  meters : Store Meter := []
  deriving DecidableEq, Repr

/-! ### The pair (chapter 12) -/

/-- The pair machine beside its registers. -/
structure Pair where
  /-- In the safe state of a CONT fault of class PAIR, and rejoining after one: never a donor (R365). -/
  safe : Bool := false
  neverDonor : Bool := false
  /-- Rails whose PCS is aligned, and rails that receive Local Fault or Remote Fault (R344, R360). -/
  aligned : NatSet := []
  localFault : NatSet := []
  remoteFault : NatSet := []
  /-- Endpoint event records that wait (R356); records sent and not acknowledged, with their SEQ (R355); the next of
  them to send again after a NAK. -/
  events : List (List Byte) := []
  unacked : List (Nat × List Byte) := []
  again : Option Nat := none
  /-- Flow contexts, meters and counters changed since they were last sent (R353), and the sweeps' positions. -/
  flowDirty : NatSet := []
  mtrDirty : NatSet := []
  ctrDirty : NatSet := []
  flowAt : Nat := 0
  mtrAt : Nat := 0
  ctrAt : Nat := 0
  /-- Records the sweeps have made and not yet sent. -/
  made : List (List Byte) := []
  /-- The resync sweep (R363): its position while it runs, whether it has ended, whether the partner is a donor and its
  RS_MARK has been applied. -/
  rsAt : Option Nat := none
  rsDone : Bool := false
  partnerDonor : Bool := false
  marked : Bool := false
  /-- Heartbeats (R346, R360): MONO of the last one sent, the present window's start, whether a valid one has come in it,
  and the windows missed in a row. -/
  hbLast : Nat := 0
  winStart : Nat := 0
  hbSeen : Bool := false
  missed : Nat := 0
  /-- The last SEQ the partner has been sent an ACK for; the SEQ of the last NAK and its MONO. -/
  acked : Nat := 0
  nak : Option (Nat × Nat) := none
  deriving DecidableEq, Repr

/-- The whole part. -/
structure State where
  /-- The model's own: commands waiting, first in, first out (DESIGN CHOICE, log entry 2). -/
  pending : List Instr := []
  /-- The model's own: how many free values have been drawn (DESIGN CHOICE, log entry 5). -/
  fresh : Nat := 0
  /-- The model's own: the words the last read command returned (DESIGN CHOICE, log entry 7). -/
  reply : List Word := []
  /-- The model's own: what has left the part, newest first (DESIGN CHOICE, log entry 7). -/
  out : List Output := []
  /-- Registers by BAR0 address; an unlisted register holds its reset value. -/
  regs : Store Word := []
  /-- Holding copies of high words (R30), keyed by master and address. -/
  holds : Store Word := []
  /-- Owners of the held locks (R35). -/
  locks : Store Nat := []
  time : Time := {}
  tele : Tele := {}
  ledger : Ledger := {}
  flt : Collector := {}
  avs : Avs := {}
  pace : Store Pace := []
  intr : Interrupts := {}
  mbx : Mailboxes := {}
  host : HostLink := {}
  pwr : Power := {}
  boot : Boot := {}
  slices : Store Slice := []
  vat : Vat := {}
  /-- Front ports and serial lanes. -/
  ports : Store Port := []
  lanes : Store Lane := []
  /-- Frames in pipes, by context number, and the next number and admission order. -/
  ctxs : Store Ctx := []
  nextCtx : Nat := 0
  engines : Store Engine := []
  /-- Bytes engines have stored through their space 5, by linear HBM address (Table 04.10). -/
  hbm : List Host.Cell := []
  tbl : Tbl := {}
  flow : Flow := {}
  pair : Pair := {}
  pkg : Package := {}
  /-- The violation-counting windows' start (R61). -/
  vwinStart : Nat := 0
  /-- Tickets given to waiting loader commands (R71). -/
  tickets : Nat := 0
  deriving DecidableEq, Repr

/-- The part right after power-on reset (R404, Table 14.4): every field at its default. -/
def State.reset : State := {}

/-- Why the machine stops with a fault. -/
inductive Fault where
  /-- Raised by no meaning: the spec gives every command of the table an effect (DESIGN CHOICE, log entry 9). Safe. -/
  | none
  deriving DecidableEq, Repr

/-- Why a command has no meaning here. -/
inductive Refusal where
  /-- Raised by an arm of `exec` whose meaning is not written yet. Safe. -/
  | notModelled (mnemonic : String)
  deriving DecidableEq, Repr

/-- The outcome of a command. DESIGN CHOICE, log entry 9. -/
abbrev Out := Host.Outcome State Fault Refusal

end Sys2Proof.Machine
end

