-- ==== Sys2Proof/Machine/Ops.lean ====
section
/-!
DEFINITION. Ops.lean: the shared operations over the state: sparse maps, bit fields and byte orders, register words and
their fields, counters, status bits with their interrupts, fault reports and rind violations.
-/

namespace Sys2Proof

/-! ### Sparse maps -/

/-- The value listed for a key. -/
def Store.at? {α : Type} : Store α → Nat → Option α
  | [], _ => none
  | (a, v) :: r, k => if a = k then some v else Store.at? r k

/-- The value a key reads as, with `d` for an unlisted key. DESIGN CHOICE, log entry 4. -/
def Store.read {α : Type} (d : α) (m : Store α) (k : Nat) : α := (Store.at? m k).getD d

/-- The map with `v` listed at `k`. -/
def Store.set {α : Type} : Store α → Nat → α → Store α
  | [], k, v => [(k, v)]
  | (a, w) :: r, k, v =>
    if k < a then (k, v) :: (a, w) :: r
    else if k = a then (k, v) :: r
    else (a, w) :: Store.set r k v

/-- The map with nothing listed at `k`. -/
def Store.del {α : Type} (m : Store α) (k : Nat) : Store α := m.filter fun e => e.1 != k

/-- The map that reads `v` at `k`, listing nothing there when `v` is what an unlisted key reads as.
DESIGN CHOICE, log entry 24. -/
def Store.put {α : Type} [DecidableEq α] (d : α) (m : Store α) (k : Nat) (v : α) : Store α :=
  if v = d then Store.del m k else Store.set m k v

/-- The entries whose key satisfies `p`. -/
def Store.keep {α : Type} (p : Nat → Bool) (m : Store α) : Store α := m.filter fun e => p e.1

/-- Keys strictly rise, each above `lo`. DESIGN CHOICE, log entry 24. -/
def Store.rising {α : Type} : Nat → Store α → Bool
  | _, [] => true
  | lo, (a, _) :: r => decide (lo ≤ a) && Store.rising (a + 1) r

/-- The set with `k` in it. -/
def NatSet.add : NatSet → Nat → NatSet
  | [], k => [k]
  | a :: r, k => if k < a then k :: a :: r else if k = a then a :: r else a :: NatSet.add r k

/-- The set without `k`. -/
def NatSet.drop (m : NatSet) (k : Nat) : NatSet := m.filter fun a => a != k

/-! ### Bytes and fields -/

/-- The number a little-endian byte string stands for (R8). -/
def leNat : List Byte → Nat
  | [] => 0
  | b :: r => b.toNat + 256 * leNat r

/-- The number a big-endian byte string stands for (R8). -/
def beNat (l : List Byte) : Nat := leNat l.reverse

/-- `n` little-endian bytes of `v`. -/
def toLE : Nat → Nat → List Byte
  | 0, _ => []
  | n + 1, v => BitVec.ofNat 8 v :: toLE n (v / 256)

/-- `n` big-endian bytes of `v`. -/
def toBE (n v : Nat) : List Byte := (toLE n v).reverse

/-- `n` bytes of a byte string from `off`, with 0 past its end. -/
def bytesAt (l : List Byte) (off n : Nat) : List Byte :=
  let t := (l.drop off).take n
  t ++ List.replicate (n - t.length) 0

/-- The little-endian number in `n` bytes of a byte string at `off`. -/
def leAt (l : List Byte) (off n : Nat) : Nat := leNat (bytesAt l off n)

/-- The big-endian number in `n` bytes of a byte string at `off`. -/
def beAt (l : List Byte) (off n : Nat) : Nat := beNat (bytesAt l off n)

/-- The byte string with `new` written over it at `off`; bytes past its end are not written. -/
def overlay (l : List Byte) (off : Nat) (new : List Byte) : List Byte :=
  l.take off ++ (new.take (l.length - off)) ++ l.drop (off + new.length)

/-- Bits `hi` to `lo` of a number. -/
def bitsOf (v hi lo : Nat) : Nat := v / 2 ^ lo % 2 ^ (hi + 1 - lo)

/-- Bit `i` of a number. -/
def bitOf (v i : Nat) : Bool := v.testBit i

/-- The word with ones in bits `hi` to `lo`. -/
def fieldMask (hi lo : Nat) : Word := BitVec.ofNat 32 ((2 ^ (hi + 1 - lo) - 1) * 2 ^ lo)

/-- Bits `hi` to `lo` of a word (R10's bit ranges). -/
def fieldOf (w : Word) (hi lo : Nat) : Nat := bitsOf w.toNat hi lo

/-- The word with bits `hi` to `lo` replaced by `v`. -/
def withField (w : Word) (hi lo v : Nat) : Word :=
  (w &&& ~~~ fieldMask hi lo) ||| (BitVec.ofNat 32 (v * 2 ^ lo) &&& fieldMask hi lo)

/-- The number read as a signed two's-complement number of `n` bits. -/
def signed (n v : Nat) : Int := if v % 2 ^ n < 2 ^ (n - 1) then (v % 2 ^ n : Nat) else (v % 2 ^ n : Nat) - (2 ^ n : Nat)

/-- A field whose value 0 acts as 1. -/
def oneIfZero (x : Nat) : Nat := if x = 0 then 1 else x

/-- Microseconds in time-base units of 1 ns (R7). -/
def us (n : Nat) : Nat := n * 1000

/-- Milliseconds in time-base units of 1 ns (R7). -/
def ms (n : Nat) : Nat := n * 1000000

/-- The 16-bit master ID (R33, Table 01.2). -/
def Master.id : Master → Nat
  | .pf => 0x0001
  | .vf n => 0x0040 + n.val
  | .me k => 0x0080 + k.val

/-- The VF a master is, if any. -/
def Master.vf? : Master → Option (Fin 32)
  | .vf n => some n
  | _ => none

/-- Whether the master is the PF or a management engine. -/
def Master.trusted : Master → Bool
  | .vf _ => false
  | _ => true

/-- The number a report's class has in records, FLT_FIRST and counters (Table 11.5). -/
def FaultClass.code : FaultClass → Nat
  | .corr => 1
  | .cont => 2
  | .fatal => 3

end Sys2Proof

namespace Sys2Proof.Machine

/-! ### Registers -/

/-- The word a register holds. DESIGN CHOICE, log entry 10. -/
def State.reg (s : State) (a : Nat) : Word := (Store.at? s.regs a).getD (regReset a)

/-- The state with a register's word replaced; a register at its reset value is not listed.
DESIGN CHOICE, log entry 10. -/
def State.setReg (s : State) (a : Nat) (w : Word) : State :=
  { s with regs := if w = regReset a then Store.del s.regs a else Store.set s.regs a w }

/-- A field of a register. -/
def State.fld (s : State) (a hi lo : Nat) : Nat := fieldOf (s.reg a) hi lo

/-- The state with a field of a register replaced. -/
def State.setFld (s : State) (a hi lo v : Nat) : State := s.setReg a (withField (s.reg a) hi lo v)

/-- A bit of a register. -/
def State.bit (s : State) (a i : Nat) : Bool := s.fld a i i == 1

/-- The state with a bit of a register replaced. -/
def State.setBit (s : State) (a i : Nat) (b : Bool) : State := s.setFld a i i b.toNat

/-- The state with the registers at the addresses satisfying `p` back at their reset values. -/
def State.resetRegs (s : State) (p : Nat → Bool) : State := { s with regs := Store.keep (fun a => !p a) s.regs }

/-- The state whose last read returned `ws`. -/
def State.answer (s : State) (ws : List Word) : State := { s with reply := ws }

/-- The state that has sent `o`. -/
def State.emit (s : State) (o : Output) : State := { s with out := o :: s.out }

/-- A value the spec leaves open, and the state after it is drawn. DESIGN CHOICE, log entry 5. -/
def State.drawWord (s : State) : Word × State := (Config.freeWord s.fresh, { s with fresh := s.fresh + 1 })

/-- Slice n. -/
def State.slice (s : State) (n : Nat) : Slice := Store.read {} s.slices n

/-- The state with slice n replaced. -/
def State.setSlice (s : State) (n : Nat) (x : Slice) : State := { s with slices := Store.put {} s.slices n x }

/-! ### Power domains (R322, Table 11.2) -/

/-- The always-on domain's number. -/
def aonDomain : Nat := 148

/-- Whether a domain is on: PWR_DOMd.STATE is ON; the always-on domain always is. -/
def State.domOn (s : State) (d : Nat) : Bool :=
  decide (aonDomain ≤ d) || s.fld (Reg.PWR_DOM d) 29 27 == 2

/-- The domain a register is held in (R373, Table 11.2). DESIGN CHOICE, log entry 10. -/
def domainOf (a : Nat) : Nat :=
  match regPlace a with
  | (.slice, n, o) =>
    if 0x1F0000 ≤ o ∧ o < 0x1F0080 then 4 * n + (o - 0x1F0000) / 0x40
    else if o = 0x1F0080 then 4 * n
    else if 0x1E0000 ≤ o ∧ o < 0x1E1000 then 4 * n
    else if 0x1D0000 ≤ o ∧ o < 0x1E0000 then 4 * n
    else if 0x1C0400 ≤ o ∧ o < 0x1D0000 then 4 * n + 1
    else if 0x1C0180 ≤ o ∧ o < 0x1C0400 then 4 * n + 1
    else if 0x1C0000 ≤ o ∧ o < 0x1C0180 then 4 * n
    else aonDomain
  | (.port, p, _) => 4 * (p / 32) + 2
  | (.lane, l, _) => if l < 1024 then 4 * (l / 32) + 3 else 144
  | (.engine, k, _) => 146 + k / 2
  | (.global, _, o) =>
    if 0x100000 ≤ o ∧ o ≤ 0x10FFFF then 144
    else if 0x200000 ≤ o ∧ o ≤ 0x2FFFFF then 145
    else if 0x3000000 ≤ o ∧ o < 0x3000020 then 132 + (o - 0x3000000) / 4
    else if 0x3000020 ≤ o ∧ o < 0x3000040 then 132 + (o - 0x3000020) / 4
    else if 0x5000000 ≤ o ∧ o ≤ 0x5FFFFFF then 147
    else aonDomain

/-! ### Interrupts (R381 to R383) -/

/-- The party of a mailbox or doorbell as a target: function number 0 to 32, or an engine (R33, R386, R385). -/
def State.partyTarget (s : State) (id : Nat) : Option (Nat ⊕ Nat) :=
  if id = 1 then some (.inl 0)
  else if 0x40 ≤ id ∧ id < 0x60 then some (.inl (1 + (id - 0x40)))
  else if 0x80 ≤ id ∧ id < 0x84 then some (.inr (id - 0x80))
  else if 0xC000 ≤ id ∧ id < 0xC008 then
    some (.inr (s.fld Reg.MGE_DUTYMAP (2 * (id - 0xC000) + 1) (2 * (id - 0xC000))))
  else none

/-- The function that owns queue pair h (R374). -/
def State.qpOwner (s : State) (h : Nat) : Nat :=
  let f := s.fld (Reg.HOST_QP_CTL h) 29 24
  if f ≤ 32 then f else 0

/-- The target of an interrupt source (Table 13.5). -/
def State.sourceTarget (s : State) (src : Nat) : Option (Nat ⊕ Nat) :=
  if src < 256 then some (.inl (s.qpOwner src))
  else if src < 512 then some (.inl (s.qpOwner (src - 256)))
  else if src < 768 then s.partyTarget (s.fld (Reg.MBX_CFG (src - 512)) 15 0)
  else if src < 1024 then s.partyTarget (s.fld (Reg.MBX_CFG (src - 768)) 31 16)
  else if src < 1088 then s.partyTarget (s.fld (Reg.MBX_DBCFG (src - 1024)) 15 0)
  else some (.inl 0)

/-- Word `o` of function fn's MSI-X table; a vector's control word is masked after reset, as the standard gives. -/
def State.msixWord (s : State) (fn o : Nat) : Word :=
  (Store.at? s.intr.msix (fn * 0x8000 + o)).getD (if o % 16 = 12 then 1 else 0)

/-- One MSI-X message of function fn on vector vec, or its pending bit while the vector is masked (R383). -/
def State.sendMsix (s : State) (fn vec : Nat) : State :=
  if fieldOf (s.msixWord fn (16 * vec + 12)) 0 0 = 1 then
    { s with intr := { s.intr with pba := NatSet.add s.intr.pba (fn * 512 + vec) } }
  else if s.host.up then
    s.emit (.msix fn vec ((s.msixWord fn (16 * vec)).toNat + 2 ^ 32 * (s.msixWord fn (16 * vec + 4)).toNat)
      (s.msixWord fn (16 * vec + 8)))
  else s

/-- Deliver to the PF the change of HOST_STAT that a bad vector makes (R382). -/
def State.raiseHostStat (s : State) (bit : Nat) : State :=
  let was := s.bit Reg.HOST_STAT bit
  let s := s.setBit Reg.HOST_STAT bit true
  if was then s
  else if s.bit (Reg.HOST_IRT 1094) 31 then s.sendMsix 0 (s.fld (Reg.HOST_IRT 1094) 8 0) else s

/-- A message of a function, or IVERR when its vector lies beyond the table of 512 (PF) or 16 (VF) vectors (R382).
DESIGN CHOICE, log entry 88. -/
def State.sendVector (s : State) (fn vec : Nat) : State :=
  if vec < (if fn = 0 then 512 else 16) then s.sendMsix fn vec else s.raiseHostStat 29

/-- Note the time of queue pair h's message (R383). -/
def State.noteMessage (s : State) (h : Nat) : State :=
  { s with intr := { s.intr with itrLast := Store.set s.intr.itrLast h s.time.mono } }

/-- A message of a queue-pair source, held while the pair's previous message is less than ITR µs old (R383). -/
def State.sendQpMessage (s : State) (src fn vec : Nat) : State :=
  let h := src % 256
  match Store.at? s.intr.itrLast h with
  | some t =>
    if s.time.mono < t + us (s.fld (Reg.HOST_QP_CTL h) 9 0) then
      let held := Store.set s.intr.itrHeld h (NatSet.add (Store.read [] s.intr.itrHeld h) src)
      { s with intr := { s.intr with itrHeld := held } }
    else (s.noteMessage h).sendVector fn vec
  | none => (s.noteMessage h).sendVector fn vec

/-- Raise an engine's interrupt with a source (R139, R381). -/
def State.raiseEngine (s : State) (k src : Nat) : State :=
  { s with intr := { s.intr with engine := Store.set s.intr.engine k (NatSet.add (Store.read [] s.intr.engine k) src) } }

/-- One delivery of a source whose cause bits in `new` have just become set (R381 to R383). A slice's source also
goes to VF n when VF_EN is 1; its rind source only for compartments in VF_COMP. -/
def State.deliver (s : State) (src : Nat) (new : Word) : State :=
  let irt := s.reg (Reg.HOST_IRT src)
  let s1 :=
    if fieldOf irt 31 31 = 1 then
      match s.sourceTarget src with
      | some (.inl fn) => if src < 512 then s.sendQpMessage src fn (fieldOf irt 8 0) else s.sendVector fn (fieldOf irt 8 0)
      | some (.inr k) => s.raiseEngine k src
      | none => s
    else s
  if 1096 ≤ src ∧ fieldOf irt 30 30 = 1 then
    let n := (src - 1096) / 4
    if src % 4 = 1 then
      if fieldOf new 23 16 &&& s.fld (Reg.SLC_RIND_CTL n) 31 24 ≠ 0 then s1.sendVector (1 + n) (fieldOf irt 29 26) else s1
    else s1.sendVector (1 + n) (fieldOf irt 29 26)
  else s1

/-- The interrupt sources whose cause lies in a register, with the bits of each cause (Table 13.5). -/
def causesAt (a : Nat) : List (Nat × Word) :=
  match regPlace a with
  | (.slice, n, o) =>
    if o = 0x1E0014 then [(1096 + 4 * n, 0x00008000)]
    else if o = 0x1E1008 then [(1097 + 4 * n, 0x00FF0000)]
    else if 0x1F0000 ≤ o ∧ o < 0x1F0080 ∧ o % 16 = 4 then [(1098 + 4 * n, 1)]
    else []
  | (.port, p, o) => if o = 0x14 then [(1099 + 4 * (p / 32), 0x80000000)] else []
  | (.global, _, o) =>
    if 0x210000 ≤ o ∧ o < 0x220000 ∧ o % 0x100 = 0x20 then
      [((o - 0x210000) / 0x100, 0x04000000), (256 + (o - 0x210000) / 0x100, 0x03000000)]
    else if 0x41400 ≤ o ∧ o < 0x41800 then
      [(512 + (o - 0x41400) / 4, 0x40000000), (768 + (o - 0x41400) / 4, 0x10000000)]
    else if 0x40D00 ≤ o ∧ o < 0x40E00 then [(1024 + (o - 0x40D00) / 4, 0xFFFFFFFF)]
    else if o = Reg.FLT_STAT then [(1088, 0x40000000)]
    else if o = Reg.VAT_STAT then [(1089, 0xF8000000)]
    else if o = Reg.TBL_STAT then [(1090, 0xF0000000)]
    else if o = Reg.FLOW_STAT then [(1091, 0xE0000000)]
    else if o = Reg.PAIR_STAT then [(1092, 0xFC000000)]
    else if o = Reg.TIME_CTL then [(1093, 0x08000000)]
    else if o = Reg.HOST_STAT then [(1094, 0xF0000000)]
    else []
  | _ => []

/-- Set status bits of a register in one grant: each source whose cause gains a bit sends one message (R11, R383). -/
def State.raise (s : State) (a : Nat) (mask : Word) : State :=
  let old := s.reg a
  let new := mask &&& ~~~ old
  (causesAt a).foldl (fun t c => if new &&& c.2 = 0 then t else t.deliver c.1 (new &&& c.2)) (s.setReg a (old ||| mask))

/-- Set one status bit of a register. -/
def State.raiseBit (s : State) (a i : Nat) : State := s.raise a (BitVec.ofNat 32 (2 ^ i))

/-! ### Counters (R13) -/

/-- The saturation status bit of a counter's block, where the block has one. -/
def satBitOf (a : Nat) : Option (Nat × Nat) :=
  match regPlace a with
  | (.slice, _, o) =>
    if 0x1B0000 ≤ o ∧ o < 0x1C0000 then some (Reg.TBL_STAT, 28)
    else if 0x1A0000 ≤ o ∧ o < 0x1B0000 then some (Reg.VAT_STAT, 29)
    else if 0x190000 ≤ o ∧ o < 0x1A0000 then some (Reg.FLOW_STAT, 29)
    else if 0x180000 ≤ o ∧ o < 0x190000 then some (Reg.FLT_STAT, 27)
    else none
  | (.global, _, o) =>
    if 0x2000000 ≤ o ∧ o ≤ 0x2FFFFFF then some (Reg.TBL_STAT, 28)
    else if 0x1000000 ≤ o ∧ o ≤ 0x1FFFFFF then some (Reg.VAT_STAT, 29)
    else if 0x6000000 ≤ o ∧ o ≤ 0x6FFFFFF then some (Reg.FLOW_STAT, 29)
    else if 0x30000 ≤ o ∧ o ≤ 0x3FFFF then some (Reg.FLT_STAT, 27)
    else none
  | _ => none

/-- Add `n` to the counter in bits `hi` to `lo` of a register; it stops at all ones and then sets its block's
saturation bit (R13). -/
def State.countFld (s : State) (a hi lo n : Nat) : State :=
  let top := 2 ^ (hi + 1 - lo) - 1
  let v := min top (s.fld a hi lo + n)
  let s1 := s.setFld a hi lo v
  if v = top then
    match satBitOf a with
    | some (r, i) => s1.raiseBit r i
    | none => s1
  else s1

/-- Count one event in a 32-bit counter register. -/
def State.count (s : State) (a : Nat) : State := s.countFld a 31 0 1

/-! ### Fault reports (R31, R319) -/

/-- The 16-bit source ID of a class and instance (R319). -/
def srcId (cls inst : Nat) : Nat := cls * 2048 + inst

/-- A detector's report is granted at the collector: it joins the open round, or opens one (R31).
DESIGN CHOICE, log entry 46. -/
def State.reportFault (s : State) (src : Nat) (cls : FaultClass) (elem : Element) (detail tile : Nat) : State :=
  { s with flt := { s.flt with
      round := some (s.flt.round.getD s.time.mono)
      reports := s.flt.reports ++ [⟨src, cls, elem, detail, tile, s.time.mono⟩] } }

/-! ### Rind violations (R59, R61) -/

/-- A violation of compartment c of slice n: counted, recorded when VREC is empty, flagged, and quarantining the
compartment when the window's count passes QLIMIT. -/
def State.violate (s : State) (n c kind pipe stage detail : Nat) : State :=
  let s := s.count (Reg.SLC_RIND_VCNT n c)
  let s := if s.fld (Reg.SLC_RIND_VREC n) 31 28 = 0 then
      s.setReg (Reg.SLC_RIND_VREC n)
        (BitVec.ofNat 32 (kind * 2 ^ 28 + c * 2 ^ 25 + pipe * 2 ^ 24 + stage * 2 ^ 19 + detail % 65536))
    else s
  let s := s.raiseBit (Reg.SLC_RIND_STAT n) (16 + c)
  let v := Store.read 0 (s.slice n).vwin c + 1
  let s := s.setSlice n { s.slice n with vwin := Store.put 0 (s.slice n).vwin c v }
  let q := s.fld (Reg.SLC_RIND_CTL n) 15 8
  if q ≠ 0 ∧ q < v then s.setBit (Reg.SLC_RIND_STAT n) (24 + c) true else s

/-- The compartment a VF's register violation is counted against (R62): the lowest of VF_COMP, or 0. -/
def State.vfComp (s : State) (n : Nat) : Nat :=
  ((List.range 8).find? fun c => s.bit (Reg.SLC_RIND_CTL n) (24 + c)).getD 0

/-- A VF's access outside its confinement: kind REG or LOCK, at no stage (R62, Table 02.3). -/
def State.vfViolation (s : State) (n kind addr : Nat) : State := s.violate n (s.vfComp n) kind 0 31 addr

/-! ### Rind descriptors (R55) -/

/-- A little-endian field of committed descriptor i of slice n: `size` bytes at `off`, read from its words. -/
def State.desc (s : State) (n i off size : Nat) : Nat :=
  (s.reg (Reg.SLC_RIND_DESC n i (off / 4))).toNat / 2 ^ (8 * (off % 4)) % 2 ^ (8 * size)

/-- Whether compartment c of slice n has a valid descriptor (R52). -/
def State.compValid (s : State) (n c : Nat) : Bool := s.desc n (1 + c) 0 1 % 2 == 1

/-- Whether `x` lies in the window whose BASE and COUNT lie at `off` with `size` bytes each in descriptor 1 + c. -/
def State.inWindow (s : State) (n c off size x : Nat) : Bool :=
  let b := s.desc n (1 + c) off size
  decide (b ≤ x ∧ x < b + s.desc n (1 + c) (off + size) size)

/-- Whether bit d of the DEST bitmap of compartment c allows destination d (Table 02.2). -/
def State.destAllowed (s : State) (n c d : Nat) : Bool := (s.desc n (1 + c) (120 + d / 8) 1).testBit (d % 8)

/-- Whether the VF of slice n acts for compartment c (R62). -/
def State.vfActs (s : State) (n c : Nat) : Bool := s.bit (Reg.SLC_RIND_CTL n) (24 + c)

/-- Whether front port p belongs to a compartment VF n acts for (R62). -/
def State.vfPort (s : State) (n p : Nat) : Bool :=
  decide (p / 32 = n) &&
    (List.range 8).any fun c => s.vfActs n c && s.compValid n c && (s.desc n (1 + c) 8 4).testBit (p % 32)

/-- Whether queue pair h lies in the HQP window of a compartment VF n acts for (R62). -/
def State.vfQp (s : State) (n h : Nat) : Bool :=
  (List.range 8).any fun c => s.vfActs n c && s.compValid n c && s.inWindow n c 96 2 h

end Sys2Proof.Machine
end

