-- ==== Sys2Proof/Machine/Banks.lean ====
section
/-!
DEFINITION. Banks.lean: a slice's two configuration banks, read and written by region (R54, R63, R72, Table 02.6), and
the tile assignment they hold (R116 to R118).
-/

namespace Sys2Proof.Machine

/-! ### Regions -/

/-- The kinds of Table 02.6. -/
def kParse : Nat := 1
def kPattern : Nat := 2
def kStageCfg : Nat := 3
def kMicro : Nat := 4
def kDispatch : Nat := 5
def kHashSel : Nat := 6
def kDeparse : Nat := 7
def kXconn : Nat := 8

/-- The size of a region in bytes (Table 02.6); 0 for an unknown kind. -/
def regionSize (kind : Nat) : Nat :=
  match kind with
  | 1 => 16384
  | 2 => 65536
  | 3 => 4096
  | 4 => 16384
  | 5 => 1024
  | 6 => 135168
  | 7 => 8192
  | 8 => 16384
  | _ => 0

/-- The window of a windowed region (Table 02.6): the descriptor offset of its BASE, the size of that field, and the
bytes of one item. -/
def regionWindow (kind : Nat) : Option (Nat × Nat × Nat) :=
  match kind with
  | 1 => some (76, 2, 64)
  | 2 => some (80, 2, 64)
  | 4 => some (64, 2, 16)
  | 5 => some (72, 2, 4)
  | 6 => some (84, 1, 8448)
  | _ => none

/-- The key of a region's byte in a bank. -/
def bankKey (kind pipe stage off : Nat) : Nat := (kind * 64 + pipe * 32 + stage) * 2 ^ 18 + off

/-- A byte of a bank's region. -/
def Bank.byte (b : Bank) (kind pipe stage off : Nat) : Byte := Store.read 0 b.mem (bankKey kind pipe stage off)

/-- `n` bytes of a region from `off`. -/
def Bank.bytes (b : Bank) (kind pipe stage off n : Nat) : List Byte :=
  (List.range n).map fun i => b.byte kind pipe stage (off + i)

/-- `n` bytes of a region as a little-endian number. -/
def Bank.le (b : Bank) (kind pipe stage off n : Nat) : Nat := leNat (b.bytes kind pipe stage off n)

/-- Bytes written from a key on; a byte of 0 is not listed. DESIGN CHOICE, log entry 24. -/
def putBytes (m : List Host.Cell) (key : Nat) : List Byte → List Host.Cell
  | [] => m
  | x :: r => putBytes (Store.put 0 m key x) (key + 1) r

/-- `n` bytes read from a key on. DESIGN CHOICE, log entry 4. -/
def getBytes (m : List Host.Cell) (key n : Nat) : List Byte := (List.range n).map fun i => Store.read 0 m (key + i)

/-- Bytes written into a region with fresh parity (R63). -/
def Bank.write (b : Bank) (kind pipe stage off : Nat) (l : List Byte) : Bank :=
  let k := bankKey kind pipe stage off
  { b with mem := putBytes b.mem k l
           bad := b.bad.filter fun x => decide (x / 4 < k ∨ k + l.length ≤ x / 4) }

/-- Whether the word stored at a key has bad parity in a stream's copy (R141, R142). -/
def Bank.isBad (b : Bank) (kind pipe stage off stream : Nat) : Bool :=
  b.bad.contains (bankKey kind pipe stage off * 4 + stream)

/-! ### Which bank -/

/-- The active bank. -/
def Slice.active (x : Slice) : Bank := if x.activeB then x.bankB else x.bankA

/-- The shadow bank. -/
def Slice.shadow (x : Slice) : Bank := if x.activeB then x.bankA else x.bankB

/-- The slice with its active bank replaced. -/
def Slice.setActive (x : Slice) (b : Bank) : Slice := if x.activeB then { x with bankB := b } else { x with bankA := b }

/-- The slice with its shadow bank replaced. -/
def Slice.setShadow (x : Slice) (b : Bank) : Slice := if x.activeB then { x with bankA := b } else { x with bankB := b }

/-- The bank whose epoch equals a frame's tag (R72). -/
def Slice.bankOf (x : Slice) (epoch : Nat) : Bank := if x.active.epoch = epoch then x.active else x.shadow

/-- Whether a slice-scope configuration with DELTA = 0, of the vat's mode, has been loaded and swapped since the pipes
were last off (R51, R196). -/
def State.configured (s : State) (n : Nat) : Bool :=
  (s.slice n).active.full && (s.slice n).active.pail == s.bit Reg.VAT_CTL 30

/-- The slice's current epoch (SLC_EPOCH.CUR). -/
def State.curEpoch (s : State) (n : Nat) : Nat := s.fld (Reg.SLC_EPOCH n) 31 28

/-! ### Tiles (R116 to R118) -/

/-- The action tile of a stage, 0 for none. -/
def Bank.actionTile (b : Bank) (pipe stage : Nat) : Nat := (b.byte kXconn pipe 31 stage).toNat

/-- The match tiles of a stage, in order; the first 0 ends the list. -/
def Bank.matchTiles (b : Bank) (pipe stage : Nat) : List Nat :=
  ((b.bytes kXconn pipe 31 (24 + 8 * stage) 8).map (·.toNat)).takeWhile (· != 0)

/-- Every action tile number a pipe assigns. -/
def Bank.actionTiles (b : Bank) (pipe : Nat) : List Nat :=
  ((List.range 24).map fun st => b.actionTile pipe st).filter (· != 0)

/-- Every match tile number a pipe assigns. -/
def Bank.allMatchTiles (b : Bank) (pipe : Nat) : List Nat := (List.range 24).flatMap fun st => b.matchTiles pipe st

/-- Whether a list repeats a number. -/
def repeats : List Nat → Bool
  | [] => false
  | a :: r => r.contains a || repeats r

/-- The key of an excluded logical tile (R339). -/
def excludedKey (pipe : Nat) (action : Bool) (tile : Nat) : Nat := pipe * 2048 + action.toNat * 1024 + tile

/-- Whether a pipe's interconnect assigns only tiles there are, each once, none excluded (R117). -/
def Slice.tilesOk (x : Slice) (b : Bank) (pipe : Nat) : Bool :=
  (b.actionTiles pipe).all (fun t => decide (t ≤ 24) && !x.excluded.contains (excludedKey pipe true t)) &&
  (b.allMatchTiles pipe).all (fun t => decide (t ≤ 96) && !x.excluded.contains (excludedKey pipe false t)) &&
  !repeats (b.actionTiles pipe) && !repeats (b.allMatchTiles pipe)

/-! ### Match memory (R118, R122) -/

/-- The key of entry `e` of logical tile `t`'s match memory. DESIGN CHOICE, log entry 81. -/
def matchKey (pipe t e : Nat) : Nat := ((pipe * 128 + t) * 2048 + e) * 32

/-- The tile and entry that hold entry `i` of a stage's match memory, if the stage has it. -/
def Bank.matchSlot (b : Bank) (pipe stage i : Nat) : Option (Nat × Nat) :=
  ((b.matchTiles pipe stage)[i / 2048]?).map fun t => (t, i % 2048)

/-- The 32 bytes of entry `i` of a stage's match memory. -/
def Slice.matchEntry (x : Slice) (b : Bank) (pipe stage i : Nat) : Option (List Byte) :=
  (b.matchSlot pipe stage i).map fun te => getBytes x.matchMem (matchKey pipe te.1 te.2) 32

/-- The slice with entry `i` of a stage's match memory replaced whole. -/
def Slice.setMatchEntry (x : Slice) (b : Bank) (pipe stage i : Nat) (l : List Byte) : Slice :=
  match b.matchSlot pipe stage i with
  | some te => { x with matchMem := putBytes x.matchMem (matchKey pipe te.1 te.2) (bytesAt l 0 32) }
  | none => x

/-! ### Polynomials -/

/-- One bit of a reflected CRC of 32 bits. -/
def crcBit (poly : Word) (c : Word) : Word := if c &&& 1 = 1 then (c >>> 1) ^^^ poly else c >>> 1

/-- One byte of a reflected CRC of 32 bits. -/
def crcByte (poly : Word) (c : Word) (b : Byte) : Word :=
  (List.range 8).foldl (fun x _ => crcBit poly x) (c ^^^ b.zeroExtend 32)

/-- A reflected CRC of 32 bits over a byte string, with its initial value and the final inversion. -/
def crc32With (poly : Word) (init : Word) (l : List Byte) : Word := ~~~ (l.foldl (crcByte poly) init)

/-- CRC-32 of the IEEE 802.3 polynomial, reflected (R66, R101). PRESUMED, log entry 42. -/
def crcIeee (init : Word) (l : List Byte) : Word := crc32With 0xEDB88320 init l

/-- CRC-32C, the Castagnoli polynomial, reflected, with the final inversion of R101. PRESUMED, log entry 42. -/
def crc32c (init : Word) (l : List Byte) : Word := crc32With 0x82F63B78 init l

/-! ### Digests (R144) -/

/-- The stores and dispatch tables of a pipe as built, in stage order: each stage's 1,024 microwords, then its 256
dispatch entries. -/
def Bank.stores (b : Bank) (pipe : Nat) : List Byte :=
  (List.range 24).flatMap fun st => b.bytes kMicro pipe st 0 16384 ++ b.bytes kDispatch pipe st 0 1024

/-- The bank with the digest of each pipe's stores recorded (R144). -/
def Bank.record (b : Bank) : Bank :=
  { b with digestI := Config.sha384 (b.stores 0), digestE := Config.sha384 (b.stores 1) }

end Sys2Proof.Machine
end

