-- ==== Sys2Proof/Machine/Rind.lean ====
section
/-!
DEFINITION. Rind.lean: rind descriptors and claims (R55, R56, R63), their commit (R56 to R58) and the quarantine of a
compartment (R61).
-/

namespace Sys2Proof.Machine

/-! ### Descriptors as byte strings -/

/-- The windows of Table 02.2: the offset of BASE, the size of BASE and of COUNT, and the extent (R55). -/
def descWindows : List (Nat × Nat × Nat) :=
  [(16, 4, 65536), (24, 2, 4096), (28, 2, 65536), (32, 2, 8192), (36, 2, 8192), (40, 4, 1048576), (48, 4, 131072),
   (56, 4, 65536), (64, 2, 1024), (68, 2, 256), (72, 2, 256), (76, 2, 256), (80, 2, 1024), (84, 1, 16), (96, 2, 256)]

/-- The windows that no two slices may share (R56): MCAST, EP_PART, VRF and FLOW. -/
def sharedWindows : List (Nat × Nat) := [(16, 4), (24, 2), (28, 2), (40, 4)]

/-- BASE of a window. -/
def winBase (d : List Byte) (off size : Nat) : Nat := leAt d off size

/-- COUNT of a window. -/
def winCount (d : List Byte) (off size : Nat) : Nat := leAt d (off + size) size

/-- Whether every field lies in its range, every non-empty window in its extent, and every reserved field is 0
(R56, INVALID). -/
def descFieldsOk (d : List Byte) : Bool :=
  decide (leAt d 0 4 < 16) && decide (leAt d 6 2 = 0) && decide (leAt d 12 4 < 2 ^ 20) &&
  descWindows.all (fun w => decide (winBase d w.1 w.2.1 < w.2.2) &&
    decide (winCount d w.1 w.2.1 = 0 ∨ winBase d w.1 w.2.1 + winCount d w.1 w.2.1 ≤ w.2.2)) &&
  decide (leAt d 64 2 % 16 = 0) && decide (leAt d 66 2 % 16 = 0) && decide (leAt d 66 2 ≤ 1024) &&
  decide (leAt d 74 2 ≤ 256) && decide (leAt d 85 1 ≤ 16) && decide (leAt d 100 1 ≤ 32) &&
  decide (leAt d 101 19 = 0) && decide (leAt d 120 136 < 2 ^ 1058)

/-- Whether a descriptor's FLAGS.VALID is 1. -/
def descValid (d : List Byte) : Bool := leAt d 0 1 % 2 == 1

/-- Whether two windows share an item; an empty one shares none (R55). -/
def winOverlap (d e : List Byte) (off size : Nat) : Bool :=
  decide (winCount d off size ≠ 0 ∧ winCount e off size ≠ 0 ∧ winBase d off size < winBase e off size + winCount e off size ∧
    winBase e off size < winBase d off size + winCount d off size)

/-- Whether the window of `d` lies within that of `e`; an empty one lies within any (R63). -/
def winInside (d e : List Byte) (off size : Nat) : Bool :=
  decide (winCount d off size = 0 ∨
    (winBase e off size ≤ winBase d off size ∧
      winBase d off size + winCount d off size ≤ winBase e off size + winCount e off size))

/-- Whether every bit set in a field of `d` is set in `e`. -/
def bitsInside (d e : List Byte) (off size : Nat) : Bool := leAt d off size &&& leAt e off size == leAt d off size

/-- Whether windows, QCLASS, DEST and MIRROR of `d` lie in `e`. -/
def descWithin (d e : List Byte) : Bool :=
  descWindows.all (fun w => winInside d e w.1 w.2.1) && bitsInside d e 12 4 && bitsInside d e 86 2 && bitsInside d e 120 136

/-- Whether a claim lies inside a descriptor (R63). -/
def claimInside (cl d : List Byte) : Bool :=
  descWithin cl d && (leAt cl 0 4 / 2) &&& (leAt d 0 4 / 2) == leAt cl 0 4 / 2

/-- The claim check of R63. -/
def claimOk (cl d : List Byte) : Bool := descValid cl && descFieldsOk cl && claimInside cl d

/-- Committed descriptor i of slice n as 256 bytes. -/
def State.descBytes (s : State) (n i : Nat) : List Byte :=
  (List.range 64).flatMap fun j => toLE 4 (s.reg (Reg.SLC_RIND_DESC n i j)).toNat

/-! ### Commit -/

/-- The descriptors of slice n with `d` in place of descriptor `i`. -/
def State.descsWith (s : State) (n i : Nat) (d : List Byte) (j : Nat) : List Byte :=
  if j = i then d else s.descBytes n j

/-- The valid compartments' descriptors. DEDUCED, log entry 41. -/
def validComps (ds : Nat → List Byte) : List (List Byte) := ((List.range 8).map fun c => ds (1 + c)).filter descValid

/-- Whether some two descriptors of a list share INGRESS_PORTS or a window. -/
def anyOverlap : List (List Byte) → Bool
  | [] => false
  | d :: r => r.any (fun e => leAt d 8 4 &&& leAt e 8 4 != 0 || descWindows.any fun w => winOverlap d e w.1 w.2.1) ||
      anyOverlap r

/-- OVERLAP of R56 for descriptor `d` in place of descriptor i of slice n. -/
def State.commitOverlaps (s : State) (n i : Nat) (d : List Byte) : Bool :=
  anyOverlap (validComps (s.descsWith n i d)) ||
  ((List.range 32).any fun m => m != n && (sharedWindows.any fun w => winOverlap d (s.descBytes m 0) w.1 w.2)) ||
  ((List.range 32).any fun m => m != n && (leAt d 120 136).testBit (1024 + m))

/-- Whether a valid compartment's descriptor lies within descriptor 0 (R56, BOUND). -/
def boundedBy (d e : List Byte) : Bool := descWithin d e && (leAt d 0 4 &&& leAt e 0 4 == leAt d 0 4)

/-- Whether the slice's descriptors, with descriptor 0 `e`, keep within it (R56, BOUND). -/
def boundsHold (e : List Byte) (cs : List (List Byte)) : Bool :=
  cs.all (fun d => boundedBy d e) &&
  decide ((cs.map fun d => leAt d 88 4).sum ≤ leAt e 88 4 ∧ (cs.map fun d => leAt d 92 4).sum ≤ leAt e 92 4 ∧
    (cs.map fun d => leAt d 100 1).sum ≤ leAt e 100 1)

/-- CLAIM of R56: a claim of the active configuration, or of one that is loaded and not yet switched in, would lie
outside the new descriptor. -/
def State.commitBreaksClaim (s : State) (n i : Nat) (d : List Byte) : Bool :=
  let x := s.slice n
  let outside := fun (b : Bank) => match Store.at? b.claims i with
    | some cl => !claimInside cl d
    | none => false
  outside x.active ||
    ((s.fld (Reg.SLC_BS_STAT n) 31 28 == 4 || s.fld (Reg.SLC_BS_STAT n) 31 28 == 5 ||
      x.loader.phase == .pipes || x.loader.phase == .switching) && outside x.shadow)

/-- The result of committing `d` as descriptor i of slice n: the first reason of R56, or 0. DEDUCED, log entry 41. -/
def State.commitResult (s : State) (n i : Nat) (d : List Byte) : Nat :=
  let ds := s.descsWith n i d
  if 8 < i ∨ descFieldsOk d = false then 1
  else if s.commitOverlaps n i d then 2
  else if !(if i = 0 then boundsHold d (validComps ds)
      else !descValid d || boundsHold (ds 0) (validComps ds)) then 3
  else if s.commitBreaksClaim n i d then 4
  else if (s.slice n).loader.claimPassed then 5
  else 0

/-- R56: COMMIT starts checking the staging window as descriptor IDX. The register is read-only to a VF (R62). -/
def execRindCommit (m : Master) (n : Fin 32) (idx : Fin 16) (s : State) : Out :=
  match m with
  | .vf k => .next (s.vfViolation k.val 12 (Reg.SLC_RIND_CMD n))
  | _ =>
    if s.bit (Reg.SLC_RIND_CMD n) 30 then .next s
    else
      let ws := (List.range 64).map fun j => s.reg (Reg.SLC_RIND_STAGE n j)
      .next ((s.setBit (Reg.SLC_RIND_CMD n) 30 true).setSlice n { s.slice n with commit := some (idx.val, ws) })

/-- Descriptor i of slice n has been committed again, as a rind store's record awaits (Table 11.8, LOAD). -/
def State.noteCommit (s : State) (n i : Nat) : State :=
  { s with flt := { s.flt with recs := s.flt.recs.map fun e =>
      if e.2.scope == Scope.slice n then (e.1, { e.2 with needCommit := NatSet.drop e.2.needCommit i }) else e } }

/-- R56: the check ends; the descriptor takes effect whole (R58), or RESULT gives the first reason to refuse it. -/
def execRindCommitDone (n : Fin 32) (s : State) : Out :=
  match (s.slice n).commit with
  | none => .next s
  | some (i, ws) =>
    let r := s.commitResult n i (ws.flatMap fun w => toLE 4 w.toNat)
    let s1 := s.setSlice n { s.slice n with commit := none }
    let s1 := (s1.setBit (Reg.SLC_RIND_CMD n) 30 false).setFld (Reg.SLC_RIND_CMD n) 29 27 r
    .next (if r = 0 then
        ((List.range 64).foldl (fun t j => t.setReg (Reg.SLC_RIND_DESC n i j) (ws.getD j 0)) s1).noteCommit n i
      else s1)

/-! ### Quarantine (R61) -/

/-- The 1 ms window of the time base ends: every compartment's count starts again. -/
def execQuarantineWindowEnd (s : State) : Out :=
  if s.vwinStart + ms 1 ≤ s.time.mono then
    .next { s with vwinStart := s.vwinStart + ms 1
                   slices := s.slices.map fun e => (e.1, { e.2 with vwin := [] }) }
  else .next s

/-- The PF's write of 1 to a QUAR bit ends the quarantine. An engine's write leaves the field unchanged; a VF's that
would change it is a violation of kind REG (R440). -/
def execQuarantineRelease (m : Master) (n : Fin 32) (mask : BitVec 8) (s : State) : Out :=
  match m with
  | .pf => .next (s.setFld (Reg.SLC_RIND_STAT n) 31 24
      (s.fld (Reg.SLC_RIND_STAT n) 31 24 &&& (255 - mask.toNat)))
  | .me _ => .next s
  | .vf k =>
    if k = n ∧ s.fld (Reg.SLC_RIND_STAT n) 31 24 &&& mask.toNat = 0 then .next s
    else .next (s.vfViolation k.val 12 (Reg.SLC_RIND_STAT n))

end Sys2Proof.Machine
end

