-- ==== Sys2Proof/Machine/Container.lean ====
section
/-!
DEFINITION. Container.lean: the checks on a bitstream container in the order of Table 02.8, and the shadow it builds
(R63 to R68, R442). A check answers 0 when it passes, or its code.
-/

namespace Sys2Proof.Machine

/-- CRC-32 of a container's last 4 bytes over the rest (R66). -/
def containerCrcOk (b : List Byte) : Bool :=
  decide (4 ≤ b.length) && (crcIeee 0xFFFFFFFF (b.take (b.length - 4))).toNat == leAt b (b.length - 4) 4

/-- The next multiple of 4. -/
def pad4 (n : Nat) : Nat := (n + 3) / 4 * 4

/-- Whether every byte of a string is 0. -/
def allZero (l : List Byte) : Bool := l.all (· == 0)

/-- SIG_OFF of a container. -/
def sigOff (b : List Byte) : Nat := leAt b 40 4

/-- LMS_LEN of a container's signature block. -/
def lmsLen (b : List Byte) : Nat := leAt b (sigOff b + 100) 4

/-- FORMAT (0x03), the part judged on the header. -/
def headerFormatOk (b : List Byte) : Bool :=
  leAt b 0 4 == 0x53424C48 && leAt b 4 2 == 1 && leAt b 6 2 == 128 && leAt b 24 4 == 128 && leAt b 28 4 == 384 &&
    decide (leAt b 18 2 < 8) && allZero (bytesAt b 64 64)

/-- LENGTH (0x04): the parts fit and tile the container, and FRAME_COUNT is in range. -/
def lengthOk (b : List Byte) (len : Nat) : Bool :=
  leAt b 8 4 == len && decide (leAt b 8 4 ≤ 16777216) && leAt b 8 4 % 4 == 0 && 384 + leAt b 32 4 == sigOff b &&
    sigOff b + leAt b 44 4 + 4 == leAt b 8 4 && pad4 (104 + lmsLen b) == leAt b 44 4 &&
    decide (1 ≤ leAt b 36 4 ∧ leAt b 36 4 ≤ 4094)

/-- FORMAT (0x03), the RSVD and PAD bytes of the signature block, judged after LENGTH (R68). -/
def sigFormatOk (b : List Byte) : Bool :=
  allZero (bytesAt b (sigOff b + 1) 3) && allZero (bytesAt b (sigOff b + 104 + lmsLen b) (pad4 (lmsLen b) - lmsLen b))

/-- The checks 0x03 to 0x05 that every container of this layout shares. -/
def headerCheck (b : List Byte) (len : Nat) : Nat :=
  if headerFormatOk b = false then 0x03
  else if lengthOk b len = false then 0x04
  else if sigFormatOk b = false then 0x03
  else if leAt b 12 2 = 0x1F09 ∧ leAt b 14 1 = 1 then 0
  else 0x05

/-- The descriptor a container of a scope is judged against: 0, or 1 + COMP. -/
def scopeIdx (b : List Byte) : Nat := if leAt b 15 1 = 1 then 0 else 1 + leAt b 17 1

/-- SCOPE (0x06). -/
def State.scopeOk (s : State) (n : Nat) (m : Master) (b : List Byte) : Bool :=
  let sc := leAt b 15 1
  let c := leAt b 17 1
  leAt b 16 1 == n &&
    (if sc = 1 then c == 0 else sc == 2 && decide (c < 8) && s.compValid n c) &&
    (match m with
      | .vf _ => if sc = 1 then (List.range 8).all fun k => !s.compValid n k || s.vfActs n k else s.vfActs n c
      | _ => true)

/-- Whether a key slot is VALID (R411): not revoked, and holding installed keys; slot 0 holds Holtua's. -/
def State.slotValid (s : State) (k : Nat) : Bool :=
  decide (k ≤ 4) && !s.boot.revoked.contains k && (k == 0 || (Store.at? s.boot.keys k).isSome)

/-- The 153 bytes of a slot's public keys: ECDSA 97, LMS 56 (R411). -/
def State.slotKeys (s : State) (k : Nat) : List Byte :=
  if k = 0 then Config.vendorKeys else Store.read [] s.boot.keys k

/-- SIG_EC (0x08) and SIG_LMS (0x09): both signatures over bytes 0 to `so` − 1, with one slot's 153 bytes of keys; the
signature block lies at `so` (Table 02.7, R65). -/
def sigVerify (keys b : List Byte) (so : Nat) : Nat :=
  let msg := b.take so
  if Config.ecdsaVerify (bytesAt keys 0 97) msg (bytesAt b (so + 4) 96) = false then 0x08
  else if Config.lmsVerify (bytesAt keys 97 56) msg (bytesAt b (so + 104) (leAt b (so + 100) 4)) = false then 0x09
  else 0

/-- The signatures of a bitstream container. -/
def State.sigCheck (s : State) (b : List Byte) : Nat := sigVerify (s.slotKeys (leAt b (sigOff b) 1)) b (sigOff b)

/-- The claim of a container. -/
def claimOf (b : List Byte) : List Byte := bytesAt b 128 256

/-- VERSION, PAIL and CLAIM (0x0A to 0x0C). -/
def State.claimCheck (s : State) (n : Nat) (b : List Byte) : Nat :=
  if leAt b 20 4 < (s.reg (Reg.SLC_BS_MINVER n (scopeIdx b))).toNat then 0x0A
  else if (leAt b 18 2).testBit 2 ≠ s.bit Reg.VAT_CTL 30 then 0x0B
  else if claimOk (claimOf b) (s.descBytes n (scopeIdx b)) = false then 0x0C
  else 0

/-! ### Frames -/

/-- The fields of a frame header (Table 02.5). -/
structure FrameHdr where
  faddr : Nat
  off : Nat
  len : Nat
  rsvd : Nat
  deriving DecidableEq, Repr

/-- The frame header at a container offset. -/
def frameHdr (b : List Byte) (at_ : Nat) : FrameHdr :=
  { faddr := leAt b at_ 4, off := leAt b (at_ + 4) 4, len := leAt b (at_ + 8) 4, rsvd := leAt b (at_ + 12) 4 }

/-- KIND, PIPE, STAGE and COMP of a frame. -/
def FrameHdr.kind (h : FrameHdr) : Nat := bitsOf h.faddr 15 8
def FrameHdr.pipe (h : FrameHdr) : Nat := bitsOf h.faddr 23 23
def FrameHdr.stage (h : FrameHdr) : Nat := bitsOf h.faddr 22 18
def FrameHdr.comp (h : FrameHdr) : Nat := bitsOf h.faddr 26 24

/-- FRAME_KIND (0x0D). -/
def frameKindOk (h : FrameHdr) (scope flags : Nat) : Bool :=
  regionSize h.kind != 0 && (scope == 1 || decide (h.kind < 7)) && (h.kind != 8 || flags.testBit 1)

/-- Whether PIPE and STAGE suit a kind (Table 02.6). -/
def framePlaceOk (h : FrameHdr) : Bool :=
  match h.kind with
  | 1 => h.pipe == 0 && h.stage == 31
  | 2 => h.pipe == 0 && h.stage == 31
  | 3 => decide (h.stage < 24)
  | 4 => decide (h.stage < 24)
  | 5 => decide (h.stage < 24)
  | 6 => h.pipe == 0 && h.stage == 31
  | 7 => h.pipe == 1 && h.stage == 31
  | 8 => h.stage == 31
  | _ => false

/-- Whether a frame lies in its window (R64): the claim's at compartment scope, that of descriptor 1 + COMP at slice
scope; a STAGECFG frame at compartment scope lies in its own sub-block. -/
def frameWindowOk (h : FrameHdr) (scope : Nat) (claim : List Byte) (descs : Nat → List Byte) : Bool :=
  match regionWindow h.kind with
  | some (off, size, unit) =>
    let d := if scope = 2 then claim else descs (1 + h.comp)
    descValid d && decide (winBase d off size * unit ≤ h.off ∧
      h.off + h.len ≤ (winBase d off size + winCount d off size) * unit)
  | none =>
    if h.kind = 3 ∧ scope = 2 then decide (2048 + 256 * h.comp ≤ h.off ∧ h.off + h.len ≤ 2304 + 256 * h.comp) else true

/-- FRAME_ADDR (0x0E). -/
def frameAddrOk (h : FrameHdr) (n scope comp : Nat) (claim : List Byte) (descs : Nat → List Byte) : Bool :=
  h.faddr / 2 ^ 27 == n && bitsOf h.faddr 17 16 == 0 && bitsOf h.faddr 7 0 == 0 && h.rsvd == 0 &&
    (scope == 1 || h.comp == comp) && framePlaceOk h && frameWindowOk h scope claim descs

/-- FRAME_LEN (0x0F) of the frame at `at_` in a frame area that ends at `stop`; `last` for frame FRAME_COUNT − 1. -/
def frameLenOk (h : FrameHdr) (at_ stop : Nat) (last : Bool) : Bool :=
  h.off % 16 == 0 && h.len % 16 == 0 && decide (16 ≤ h.len ∧ h.len ≤ 65536) &&
    decide (h.off + h.len ≤ regionSize h.kind) && decide (at_ + 16 + h.len ≤ stop) &&
    (!last || at_ + 16 + h.len == stop)

/-- The extents written so far: first key and the key past the end. -/
abbrev Extents := List (Nat × Nat)

/-- What the frame checks give: the bank built and its extents, or a code with the failing frame's index. -/
abbrev FrameResult := Except (Nat × Nat) (Bank × Extents)

/-- The frames of a container applied one by one, all four checks on each (R68). -/
def applyFrames (b : List Byte) (n scope comp flags stop count : Nat) (claim : List Byte) (descs : Nat → List Byte) :
    Nat → Nat → Nat → Bank → Extents → FrameResult
  | 0, _, _, bk, ex => .ok (bk, ex)
  | k + 1, i, at_, bk, ex =>
    if stop < at_ + 16 then .error (0x0F, i)
    else
      let h := frameHdr b at_
      let lo := bankKey h.kind h.pipe h.stage h.off
      if frameKindOk h scope flags = false then .error (0x0D, i)
      else if frameAddrOk h n scope comp claim descs = false then .error (0x0E, i)
      else if frameLenOk h at_ stop (i + 1 == count) = false then .error (0x0F, i)
      else if ex.any (fun e => decide (lo < e.2 ∧ e.1 < lo + h.len)) then .error (0x10, i)
      else applyFrames b n scope comp flags stop count claim descs k (i + 1) (at_ + 16 + h.len)
        (bk.write h.kind h.pipe h.stage h.off (bytesAt b (at_ + 16) h.len)) ((lo, lo + h.len) :: ex)

/-! ### The scope of a container (R63) -/

/-- Whether a bank key lies in the scope of compartment c with committed descriptor `d`. -/
def inScope (c : Nat) (d : List Byte) (key : Nat) : Bool :=
  let off := key % 2 ^ 18
  let kind := key / 2 ^ 18 / 64
  if kind = 3 then decide (2048 + 256 * c ≤ off ∧ off < 2304 + 256 * c)
  else match regionWindow kind with
    | some (o, size, unit) => decide (winBase d o size * unit ≤ off ∧ off < (winBase d o size + winCount d o size) * unit)
    | none => false

/-- The shadow before frames are applied: with DELTA = 0 the scope is cleared, the rest copied from the active bank with
its parity as it stands. -/
def shadowStart (active : Bank) (scope comp flags : Nat) (d : List Byte) : Bank :=
  if flags.testBit 0 then active
  else if scope = 1 then {}
  else { active with mem := Store.keep (fun k => !inScope comp d k) active.mem
                     bad := active.bad.filter fun x => !inScope comp d (x / 4) }

/-! ### REF and RESOURCE -/

/-- Whether an item lies in a window of a descriptor. -/
def inWin (d : List Byte) (off size x : Nat) : Bool :=
  decide (winBase d off size ≤ x ∧ x < winBase d off size + winCount d off size)

/-- The nodes a parse node may go to: transitions 0 to TCOUNT − 1, and DEF_NEXT when DEF_ACT is 1. -/
def nodeTargets (nd : List Byte) : List Nat :=
  (List.range (min 6 (leAt nd 0 1 / 4 % 8))).map (fun t => leAt nd (32 + 5 * t) 1) ++
    (if leAt nd 58 1 = 1 then [leAt nd 59 1] else [])

/-- Whether the dispatch entries in a descriptor's OPC window and the nodes in its PNODE window point into the MW and
PNODE windows of every descriptor of `against` (R442). -/
def refsOk (bk : Bank) (d : List Byte) (against : List (List Byte)) : Bool :=
  (List.range 2).all (fun p => (List.range 24).all fun st => (List.range (winCount d 72 2)).all fun i =>
    let e := bk.le kDispatch p st (4 * (winBase d 72 2 + i)) 4
    decide (e < 2 ^ 31) || against.all fun a => inWin a 64 2 (e % 1024)) &&
  (List.range (winCount d 76 2)).all fun i =>
    let nd := bk.bytes kParse 0 31 (64 * (winBase d 76 2 + i)) 64
    allZero nd || (nodeTargets nd).all fun t => against.all fun a => inWin a 76 2 t

/-- REF (0x11). -/
def refCheck (bk : Bank) (scope comp : Nat) (claim : List Byte) (descs : Nat → List Byte) : Bool :=
  if scope = 2 then refsOk bk (descs (1 + comp)) [claim]
  else (List.range 8).all fun c => !descValid (descs (1 + c)) || refsOk bk (descs (1 + c)) [descs (1 + c), claim]

/-- Whether a container writes an interconnect. -/
def writesXconn (ex : Extents) : Bool := ex.any fun e => e.1 / 2 ^ 18 / 64 == kXconn

/-- The frame checks and the shadow (codes 0x0D to 0x13): the bank, or a code and FRAME. -/
def State.buildShadow (s : State) (n : Nat) (m : Master) (b : List Byte) (scopeDesc : List Byte) :
    Except (Nat × Nat) Bank :=
  let x := s.slice n
  let scope := leAt b 15 1
  let comp := leAt b 17 1
  let flags := leAt b 18 2
  let count := leAt b 36 4
  let descs := fun j => if j = 1 + comp ∧ scope = 2 then scopeDesc else s.descBytes n j
  match applyFrames b n scope comp flags (384 + leAt b 32 4) count (claimOf b) descs count 0 384
      (shadowStart x.active scope comp flags scopeDesc) [] with
  | .error e => .error e
  | .ok (bk, ex) =>
    if refCheck bk scope comp (claimOf b) descs = false then .error (0x11, 0xFFF)
    else if writesXconn ex ∧ (x.tilesOk bk 0 && x.tilesOk bk 1) = false then .error (0x12, 0xFFF)
    else if flags.testBit 1 ∧ m.vf?.isSome ∧ s.bit (Reg.SLC_RIND_CTL n) 22 = false then .error (0x13, 0xFFF)
    else if (s.domOn (4 * n) && s.domOn (4 * n + 1)) = false then .error (0x14, 0xFFF)
    else
      let cls := if scope = 1 then [(0, claimOf b)] else Store.set x.active.claims (1 + comp) (claimOf b)
      .ok { bk with claims := cls
                    pail := if scope = 1 ∧ flags.testBit 0 = false then flags.testBit 2 else x.active.pail
                    version := if scope = 1 then BitVec.ofNat 32 (leAt b 20 4) else x.active.version
                    keyslot := if scope = 1 then leAt b (sigOff b) 1 else x.active.keyslot
                    full := (scope == 1 && !flags.testBit 0) || x.active.full }

end Sys2Proof.Machine
end

