-- ==== Sys2Proof/Machine/Mailbox.lean ====
section
/-!
DEFINITION. Mailbox.lean: mailboxes, doorbells and wakes (R386 to R394), duty classes (R385) and interrupt messages
that wait (R383).
-/

namespace Sys2Proof.Machine

/-! ### Parties -/

/-- Whether a party value names the master: its ID, or a duty class its engine holds (R385, R386). -/
def State.isParty (s : State) (id : Nat) (m : Master) : Bool :=
  id == m.id || (match m with
    | .me k => decide (0xC000 ≤ id ∧ id < 0xC008) && s.partyTarget id == some (.inr k.val)
    | _ => false)

/-- Whether both parties of mailbox m are set (R386). -/
def State.mbxUsed (s : State) (i : Nat) : Bool :=
  s.fld (Reg.MBX_CFG i) 31 16 != 0 && s.fld (Reg.MBX_CFG i) 15 0 != 0

/-- Whether both parties of doorbell d are set (R394). -/
def State.dbUsed (s : State) (d : Nat) : Bool :=
  s.fld (Reg.MBX_DBCFG d) 31 16 != 0 && s.fld (Reg.MBX_DBCFG d) 15 0 != 0

/-- Whether a master is mailbox i's sender. -/
def State.mbxSender (s : State) (i : Nat) (m : Master) : Bool := s.mbxUsed i && s.isParty (s.fld (Reg.MBX_CFG i) 31 16) m

/-- Whether a master is mailbox i's receiver. -/
def State.mbxReceiver (s : State) (i : Nat) (m : Master) : Bool := s.mbxUsed i && s.isParty (s.fld (Reg.MBX_CFG i) 15 0) m

/-- Whether a master is doorbell d's ringer. -/
def State.dbRinger (s : State) (d : Nat) (m : Master) : Bool := s.dbUsed d && s.isParty (s.fld (Reg.MBX_DBCFG d) 31 16) m

/-- Whether a master is doorbell d's target. -/
def State.dbTarget (s : State) (d : Nat) (m : Master) : Bool := s.dbUsed d && s.isParty (s.fld (Reg.MBX_DBCFG d) 15 0) m

/-- An access refused under R386: a VF's is a violation of kind REG; the PF's or an engine's sets PERM, recording the
first target and master. -/
def State.mbxRefuse (s : State) (m : Master) (index addr : Nat) : State :=
  match m with
  | .vf n => s.vfViolation n.val 12 addr
  | _ =>
    if s.bit Reg.MBX_GSTAT 31 then s
    else s.setReg Reg.MBX_GSTAT (BitVec.ofNat 32 (2 ^ 31 + index % 512 * 65536 + m.id))

/-! ### Wakes (R389, R391, R403) -/

/-- The power domain of a target (R389). -/
def targetDomain : Nat ⊕ Nat → Nat
  | .inl _ => 145
  | .inr k => 146 + k / 2

/-- A wake addressed to a target whose domain is off sets REQ and WAKEUP and asks for it to be switched on, with no
conditions checked (R403). -/
def State.wakeDomain (s : State) (t : Option (Nat ⊕ Nat)) : State :=
  match t with
  | none => s
  | some t =>
    let d := targetDomain t
    let st := s.fld (Reg.PWR_DOM d) 29 27
    if st = 0 ∨ st = 3 then
      let s1 := (s.setBit (Reg.PWR_DOM d) 31 true).setBit (Reg.PWR_DOM d) 30 true
      { s1 with pwr := { s1.pwr with waiting := s1.pwr.waiting ++ [(d, true)], woken := NatSet.add s1.pwr.woken d } }
    else s

/-- The wakes a target finds when it comes out of reset, runs again or takes over a class: every mailbox holding a
message for it and every doorbell with a set bit, of the parties satisfying `p` (R385, R391). -/
def State.rewake (s : State) (p : Nat → Bool) : State :=
  let s := (List.range 256).foldl (fun t i =>
    if t.bit (Reg.MBX_STAT i) 30 && p (t.fld (Reg.MBX_CFG i) 15 0) then t.deliver (512 + i) 0x40000000 else t) s
  (List.range 64).foldl (fun t d =>
    if t.reg (Reg.MBX_DB d) != 0 && p (t.fld (Reg.MBX_DBCFG d) 15 0) then t.deliver (1024 + d) (t.reg (Reg.MBX_DB d))
    else t) s

/-! ### Mailboxes -/

/-- The 16 words of mailbox i's message. -/
def State.mbxMessage (s : State) (i : Nat) : List Word := (List.range 16).map fun j => s.reg (Reg.MBX_MSG i j)

/-- The staging window copied whole into the message (R387). -/
def State.mbxCopy (s : State) (i : Nat) : State :=
  (List.range 16).foldl (fun t j => t.setReg (Reg.MBX_MSG i j) (s.reg (Reg.MBX_STAGE i j))) s

/-- The post of R387, by the device or by the sender: message copied, COLL when one was unread, FULL, SRST cleared,
timeout started, wake raised. -/
def State.mbxPost (s : State) (i : Nat) : State :=
  let full := s.bit (Reg.MBX_STAT i) 30
  let s1 := (s.mbxCopy i).setBit (Reg.MBX_STAT i) 27 false
  let s1 := if full then s1.setBit (Reg.MBX_STAT i) 29 true else s1
  let s1 := { s1 with mbx := { s1.mbx with posted := Store.set s1.mbx.posted i s1.time.mono } }
  (s1.wakeDomain (s1.sourceTarget (512 + i))).raiseBit (Reg.MBX_STAT i) 30

/-- R387: the sender writes POST. Any other master is refused (R386). -/
def execMbxPost (m : Master) (i : Fin 256) (s : State) : Out :=
  if s.mbxSender i m then .next (s.mbxPost i) else .next (s.mbxRefuse m i (Reg.MBX_STAT i))

/-- R388: the receiver's read of word 0 captures the message into the holding copy, clears FULL and stops the
timeout. Any other master is refused and reads 0. -/
def execMbxMessageRead (m : Master) (i : Fin 256) (s : State) : Out :=
  if s.mbxReceiver i m then
    let ws := s.mbxMessage i
    let s1 := s.setBit (Reg.MBX_STAT i) 30 false
    .next ({ s1 with mbx := { hold := Store.set s1.mbx.hold i ws, posted := Store.del s1.mbx.posted i } }.answer
      [ws.headD 0])
  else .next ((s.mbxRefuse m i (Reg.MBX_MSG i 0)).answer [0])

/-- R390: FULL has stayed set for TMO_MS since the last post; TMO is raised toward the sender and the message stays. -/
def execMbxTimeout (i : Fin 256) (s : State) : Out :=
  match Store.at? s.mbx.posted i with
  | some t =>
    let tmo := s.fld Reg.MBX_CTL 15 0
    if s.bit (Reg.MBX_STAT i) 30 ∧ tmo ≠ 0 ∧ t + ms tmo ≤ s.time.mono then
      .next ({ s with mbx := { s.mbx with posted := Store.del s.mbx.posted i } }.raiseBit (Reg.MBX_STAT i) 28)
    else .next s
  | none => .next s

/-- Discard mailbox i's message and stop its timeout (R393). -/
def State.mbxDiscard (s : State) (i : Nat) : State :=
  let s1 := (List.range 16).foldl (fun t j => t.setReg (Reg.MBX_MSG i j) 0) s
  { s1 with mbx := { hold := Store.del s1.mbx.hold i, posted := Store.del s1.mbx.posted i } }

/-- R393: the PF sets a mailbox's parties, which discards any message and clears every flag. An engine's write leaves
the register unchanged (R440); a VF's lies outside its confinement (R62). -/
def execMbxCfgWrite (m : Master) (i : Fin 256) (data : Word) (s : State) : Out :=
  match m with
  | .pf => .next (((s.mbxDiscard i).setReg (Reg.MBX_STAT i) 0).setReg (Reg.MBX_CFG i) data)
  | .me _ => .next s
  | .vf n => .next (s.vfViolation n.val 12 (Reg.MBX_CFG i))

/-- R393: a CONT fault of mailbox i discards its message, clears FULL, sets ERR and TMO and raises source 768 + m. -/
def State.mbxFault (s : State) (i : Nat) : State :=
  (((s.mbxDiscard i).setBit (Reg.MBX_STAT i) 30 false).setBit (Reg.MBX_STAT i) 26 true).raiseBit (Reg.MBX_STAT i) 28

/-- R391, R392: the masters satisfying `p` (by ID) are reset. As receivers they lose the holding copy and are woken
again for messages still held; as senders of an unread message their timeout stops, TMO clears and SRST is set.
DESIGN CHOICE, log entry 31. -/
def State.mbxPartyReset (s : State) (p : Nat → Bool) : State :=
  (List.range 256).foldl (fun t i =>
    let cfg := t.reg (Reg.MBX_CFG i)
    let t := if p (fieldOf cfg 15 0) then { t with mbx := { t.mbx with hold := Store.del t.mbx.hold i } } else t
    if p (fieldOf cfg 31 16) && t.bit (Reg.MBX_STAT i) 30 then
      let t := { t with mbx := { t.mbx with posted := Store.del t.mbx.posted i } }
      (t.setBit (Reg.MBX_STAT i) 28 false).setBit (Reg.MBX_STAT i) 27 true
    else t) s

/-! ### Doorbells (R394) -/

/-- The ringer sets bits; a bit that was 0 raises source 1024 + d and the wake. DESIGN CHOICE, log entry 17. -/
def execDoorbellRing (m : Master) (d : Fin 64) (bits : Word) (s : State) : Out :=
  if s.dbRinger d m then
    if bits &&& ~~~ s.reg (Reg.MBX_DB d) = 0 then .next s
    else .next ((s.wakeDomain (s.sourceTarget (1024 + d))).raise (Reg.MBX_DB d) bits)
  else .next (s.mbxRefuse m (256 + d) (Reg.MBX_DB d))

/-- The target clears bits with W1C. -/
def execDoorbellClear (m : Master) (d : Fin 64) (bits : Word) (s : State) : Out :=
  if s.dbTarget d m then .next (s.setReg (Reg.MBX_DB d) (s.reg (Reg.MBX_DB d) &&& ~~~ bits))
  else .next (s.mbxRefuse m (256 + d) (Reg.MBX_DB d))

/-- The PF sets a doorbell's parties, which clears it. -/
def execDoorbellCfgWrite (m : Master) (d : Fin 64) (data : Word) (s : State) : Out :=
  match m with
  | .pf => .next ((s.setReg (Reg.MBX_DB d) 0).setReg (Reg.MBX_DBCFG d) data)
  | .me _ => .next s
  | .vf n => .next (s.vfViolation n.val 12 (Reg.MBX_DBCFG d))

/-! ### Duty classes (R385) -/

/-- The engine holding duty class c. -/
def State.dutyEngine (s : State) (c : Nat) : Nat := s.fld Reg.MGE_DUTYMAP (2 * c + 1) (2 * c)

/-- The interrupt sources addressed to duty class c. -/
def State.classSource (s : State) (c src : Nat) : Bool :=
  if 512 ≤ src ∧ src < 768 then s.fld (Reg.MBX_CFG (src - 512)) 15 0 == 0xC000 + c
  else if 768 ≤ src ∧ src < 1024 then s.fld (Reg.MBX_CFG (src - 768)) 31 16 == 0xC000 + c
  else if 1024 ≤ src ∧ src < 1088 then s.fld (Reg.MBX_DBCFG (src - 1024)) 15 0 == 0xC000 + c
  else false

/-- Class c moves from engine `k` to engine `k'`: its events not yet taken follow it, and the new engine's interrupt
is raised for messages and bells that wait (R385). -/
def State.moveClass (s : State) (c k k' : Nat) : State :=
  let src := Store.read [] s.intr.engine k
  let eng := Store.set s.intr.engine k (src.filter fun x => !s.classSource c x)
  let moved := (src.filter fun x => s.classSource c x).foldl NatSet.add (Store.read [] eng k')
  { s with intr := { s.intr with engine := Store.set eng k' moved } }.rewake fun id => id == 0xC000 + c

/-- R385: the PF or an engine writes MGE_DUTYMAP; each class whose engine changes moves. -/
def execDutymapWrite (m : Master) (data : Word) (s : State) : Out :=
  match m with
  | .vf n => .next (s.vfViolation n.val 12 Reg.MGE_DUTYMAP)
  | _ =>
    let s1 := s.setReg Reg.MGE_DUTYMAP (data &&& 0xFFFF)
    .next ((List.range 8).foldl (fun t c =>
      if s.dutyEngine c = s1.dutyEngine c then t else t.moveClass c (s.dutyEngine c) (s1.dutyEngine c)) s1)

/-! ### Messages that wait (R383) -/

/-- R383: ITR µs after queue pair h's previous message, one held message is sent. -/
def execItrHoldEnd (h : Fin 256) (s : State) : Out :=
  match Store.read [] s.intr.itrHeld h, Store.at? s.intr.itrLast h with
  | src :: r, some t =>
    if t + us (s.fld (Reg.HOST_QP_CTL h) 9 0) ≤ s.time.mono then
      let s1 := { s with intr := { s.intr with itrHeld := Store.put [] s.intr.itrHeld h r } }.noteMessage h
      .next (s1.sendVector (s1.qpOwner h) (s1.fld (Reg.HOST_IRT src) 8 0))
    else .next s
  | _, _ => .next s

/-- The function a host master's accesses belong to: 0 the PF, 1 + n VF n. -/
def hostFn : Master → Option Nat
  | .pf => some 0
  | .vf n => some (1 + n.val)
  | .me _ => none

/-- R383: software of a function unmasks one of its vectors; a held message is then sent and its pending bit
clears. -/
def execMsixUnmask (m : Master) (vec : Fin 512) (s : State) : Out :=
  match hostFn m with
  | none => .next s
  | some fn =>
    if s.domOn 145 && decide (vec.val < if fn = 0 then 512 else 16) then
      let o := fn * 0x8000 + 16 * vec.val + 12
      let w := withField (s.msixWord fn (16 * vec.val + 12)) 0 0 0
      let pend := s.intr.pba.contains (fn * 512 + vec.val)
      let pba := NatSet.drop s.intr.pba (fn * 512 + vec.val)
      let s1 := { s with intr := { s.intr with msix := Store.set s.intr.msix o w, pba := pba } }
      .next (if pend then s1.sendMsix fn vec.val else s1)
    else .next s

end Sys2Proof.Machine
end

