-- ==== Sys2Proof/Machine/Gate.lean ====
section
/-!
DEFINITION. Gate.lean: what a master's register access meets before it acts: a VF's confinement (R62, R370) and a power
domain that is off (R373).
-/

namespace Sys2Proof.Machine

/-- The first two words of slice n's counters kept per compartment, with their strides: the compartment of a counter
at slice offset `o` (R115). -/
def counterComp (o : Nat) : Option Nat :=
  if 0x1D0200 ≤ o ∧ o < 0x1D0400 then some ((o - 0x1D0200) / 0x40)
  else if 0x1C0400 ≤ o ∧ o < 0x1C0500 then some ((o - 0x1C0400) / 0x20)
  else if 0x1A0040 ≤ o ∧ o < 0x1A0080 then some ((o - 0x1A0040) / 8)
  else if 0x1A0100 ≤ o ∧ o < 0x1A0300 then some ((o - 0x1A0100) / 0x40)
  else if 0x1B0200 ≤ o ∧ o < 0x1B0400 then some ((o - 0x1B0200) / 0x40)
  else if 0x190200 ≤ o ∧ o < 0x190400 then some ((o - 0x190200) / 0x40)
  else if 0x170040 ≤ o ∧ o < 0x170060 then some ((o - 0x170040) / 4)
  else none

/-- Whether VF n may read or write a register of its slice's region at offset `o` (R62, R108, R115). -/
def State.vfSliceMay (s : State) (n o : Nat) (write : Bool) : Bool :=
  if write then
    !(o == 0x1E1000 || o == 0x1E1004 || decide (0x1E1400 ≤ o ∧ o < 0x1E1500) || decide (0x1E0040 ≤ o ∧ o < 0x1E0064)) &&
      (if 0x1D0100 ≤ o ∧ o < 0x1D0180 then
        (List.range 8).any fun c => s.vfActs n c && s.compValid n c && (s.desc n (1 + c) 86 2).testBit ((o - 0x1D0100) / 8)
      else true)
  else
    match counterComp o with
    | some c => s.vfActs n c
    | none => true

/-- Whether a VF may read or write a register (R62, R250, R275, R287, R318, R343, R367, R374, R382, R386, R422). -/
def State.vfMay (s : State) (n a : Nat) (write : Bool) : Bool :=
  match regPlace a with
  | (.slice, k, o) => k == n && s.vfSliceMay n o write
  | (.port, p, o) =>
    s.vfPort n p && (!write || o != 4 || (List.range 8).all fun i => s.vfPort n (p / 8 * 8 + i))
  | (.lane, l, _) => !write && decide (l < 1024) && s.vfPort n l
  | (.engine, _, _) => false
  | (.global, _, o) =>
    if 0x210000 ≤ o ∧ o < 0x220000 then
      let h := (o - 0x210000) / 0x100
      s.qpOwner h == 1 + n && s.vfQp n h
    else if 0x204000 ≤ o ∧ o < 0x205320 then
      !write || s.sourceTarget ((o - 0x204000) / 4) == some (.inl (1 + n)) ||
        (decide (1096 ≤ (o - 0x204000) / 4) && ((o - 0x204000) / 4 - 1096) / 4 == n)
    else if 0x206000 ≤ o ∧ o < 0x206080 then !write && (o - 0x206000) / 4 == n
    else if 0x208000 ≤ o ∧ o < 0x208100 then true
    else if 0x20C000 ≤ o ∧ o < 0x20C008 then !write
    else if 0x1010000 ≤ o ∧ o < 0x1010000 + 0x40 * 1024 then !write && s.vfPort n ((o - 0x1010000) / 0x40)
    else if 0x1000100 ≤ o ∧ o < 0x1000124 then true
    else if 0x6000200 ≤ o ∧ o < 0x6000280 then true
    else if 0x6004000 ≤ o ∧ o < 0x6004800 then !write
    else if 0x6008000 ≤ o ∧ o < 0x6009000 then !write
    else if 0x22000 ≤ o ∧ o < 0x24000 then
      !write && s.bit Reg.BOOT_ATTCTL 31 && s.fld Reg.BOOT_ATTCTL 15 0 == 0x40 + n
    else if 0x41000 ≤ o ∧ o < 0x41800 then
      let i := (o - 0x41000) % 0x400 / 4
      s.mbxSender i (.vf (Fin.ofNat 32 n)) || s.mbxReceiver i (.vf (Fin.ofNat 32 n))
    else if 0x44000 ≤ o ∧ o < 0x48000 then !write && s.mbxReceiver ((o - 0x44000) / 0x40) (.vf (Fin.ofNat 32 n))
    else if 0x48000 ≤ o ∧ o < 0x4C000 then s.mbxSender ((o - 0x48000) / 0x40) (.vf (Fin.ofNat 32 n))
    else if 0x40C00 ≤ o ∧ o < 0x40E00 then
      let d := (o - 0x40C00) % 0x100 / 4
      s.dbRinger d (.vf (Fin.ofNat 32 n)) || s.dbTarget d (.vf (Fin.ofNat 32 n))
    else false

/-- A register access of a master: outside a VF's confinement it is a violation of kind REG; to a register whose power
domain is off it does nothing (R373); else `run`. -/
def State.gated (s : State) (m : Master) (a : Nat) (write : Bool) (run : State → State) : State :=
  match m with
  | .vf n =>
    if s.vfMay n a write = false then s.vfViolation n 12 a
    else if s.domOn (domainOf a) then run s else s
  | _ => if s.domOn (domainOf a) then run s else s

/-- Whether compartment c of slice n is one VF n acts for, its window at `off` holding `x`; other masters meet no
window (R105, R145, R293, R447). -/
def State.windowMay (s : State) (m : Master) (n off size x : Nat) : Bool :=
  match m with
  | .vf _ => (List.range 8).any fun c => s.vfActs n c && s.compValid n c && s.inWindow n c off size x
  | _ => true

/-- A violation of kind REG by a VF; nothing by another master. -/
def State.refuseVf (s : State) (m : Master) (a : Nat) : State :=
  match m with
  | .vf n => s.vfViolation n 12 a
  | _ => s

/-- A write to a register some of whose bits the PF alone writes (R440): the PF's as given; another master's with those
bits unchanged, and a violation of kind REG when a VF's would change one. -/
def State.pfBits (s : State) (m : Master) (a : Nat) (mask data : Word) (run : State → Word → State) : State :=
  let kept := (data &&& ~~~ mask) ||| (s.reg a &&& mask)
  match m with
  | .pf => run s data
  | .me _ => run s kept
  | .vf n => if (data ^^^ s.reg a) &&& mask = 0 then run s data else run (s.vfViolation n 12 a) kept

/-- A write by the access codes of R10: RW bits take the value written, a 1 clears a W1C bit, all others stay.
DEDUCED, log entry 12. -/
def State.plainWrite (s : State) (a : Nat) (data : Word) : State :=
  match regAt a with
  | none => s
  | some d =>
    let rw := BitVec.ofNat 32 d.rw
    s.setReg a (((s.reg a &&& ~~~ rw) ||| (data &&& rw)) &&& ~~~ (data &&& BitVec.ofNat 32 d.w1c))

/-! ### Holding copies (R30) -/

/-- The key of master m's holding copy of a high word. -/
def holdKey (m : Master) (a : Nat) : Nat := m.id * 2 ^ 28 + a

/-- A read of a low word captures a high word for the master. DEDUCED, log entry 11. -/
def State.hold (s : State) (m : Master) (a : Nat) (w : Word) : State :=
  { s with holds := Store.set s.holds (holdKey m a) w }

/-- The master's holding copy of a high word, which its read uses up. DEDUCED, log entry 11. -/
def State.takeHold (s : State) (m : Master) (a : Nat) : Option (Word × State) :=
  (Store.at? s.holds (holdKey m a)).map fun w => (w, { s with holds := Store.del s.holds (holdKey m a) })

end Sys2Proof.Machine
end

