-- ==== Sys2Proof/Machine/LedgerOps.lean ====
section
/-!
DEFINITION. LedgerOps.lean: what the device notes in the lifetime ledger (R313 to R317): the summary counts, event
records, and the start of a write.
-/

namespace Sys2Proof.Machine

/-! ### Summary counts (Table 10.6) -/

/-- The size of the summary field that begins at an offset. -/
def summarySize (o : Nat) : Nat :=
  if o = 288 ∨ o = 296 ∨ o = 298 then 2
  else if 960 ≤ o ∧ o < 1088 then 1
  else if 1088 ≤ o ∧ o < 1216 ∨ 5376 ≤ o ∧ o < 5888 then 8
  else 4

/-- A summary field. -/
def State.sumField (s : State) (o : Nat) : Nat := Store.read 0 s.ledger.counts o

/-- A summary field set. -/
def State.setSum (s : State) (o v : Nat) : State :=
  { s with ledger := { s.ledger with counts := Store.put 0 s.ledger.counts o v } }

/-- A summary count raised; it saturates at its size (R314). -/
def State.sumCount (s : State) (o n : Nat) : State := s.setSum o (min (2 ^ (8 * summarySize o) - 1) (s.sumField o + n))

/-- Power-on hours. -/
def State.poh (s : State) : Nat := s.ledger.poh / 3600

/-- Bytes followed by their CRC-32 (R66). -/
def withCrc (l : List Byte) : List Byte := l ++ toLE 4 (crcIeee 0xFFFFFFFF l).toNat

/-- The bytes of a summary with a cause, its GEN counted up by the write itself (Table 10.6). -/
def State.summaryBytes (s : State) (cause : Nat) : List Byte :=
  let l := s.ledger.counts.foldl (fun l e => overlay l e.1 (toLE (summarySize e.1) e.2)) (List.replicate 8188 0)
  let l := overlay (overlay l 0 (toLE 8 (s.ledger.gen + 1))) 8 (toLE 4 s.poh)
  let l := overlay l 12 (toLE 1 cause)
  let l := s.tele.devHist.foldl (fun l e => overlay l (5376 + 8 * e.1) (toLE 8 e.2)) l
  withCrc l

/-! ### Writes -/

/-- The critical ring is full (R316). -/
def State.ledgerCritFull (s : State) : State := (s.setSum 5900 1).setBit Reg.LEDG_STAT 29 true

/-- The ledger's arbiter starts the next write, when none runs: a summary that waits, else the oldest event record.
DESIGN CHOICE, log entry 57. -/
def State.ledgerNext (s : State) : State :=
  match s.ledger.busy with
  | some _ => s
  | none =>
    match s.ledger.wantSummary with
    | some cause =>
      let w : LedWrite := { summary := true, addr := if s.ledger.gen % 2 = 0 then 8192 else 16384,
                            bytes := s.summaryBytes cause, cause := cause }
      ({ s with ledger := { s.ledger with busy := some w, wantSummary := none, gen := s.ledger.gen + 1,
                                          lastSummary := s.time.mono } }).setBit Reg.LEDG_STAT 31 true
    | none =>
      match s.ledger.queue with
      | [] => s.setBit Reg.LEDG_STAT 31 false
      | e :: r =>
        let toCrit := e.critical && decide (s.ledger.crit < 1024)
        let addr := if toCrit then 24576 + 64 * s.ledger.crit else 90112 + 64 * (s.ledger.general % 6784)
        let w : LedWrite := { summary := false, addr := addr, bytes := withCrc e.bytes }
        let l := { s.ledger with busy := some w, queue := r,
                                 crit := if toCrit then s.ledger.crit + 1 else s.ledger.crit,
                                 general := if toCrit then s.ledger.general else s.ledger.general + 1 }
        let s := if toCrit && s.ledger.crit == 1023 then s.ledgerCritFull else s
        ({ s with ledger := l }).setBit Reg.LEDG_STAT 31 true

/-- An event record enters the 64-entry queue, or is counted in EVQ_OVF (R316). -/
def State.ledgerPut (s : State) (e : LedEvent) : State :=
  if 64 ≤ s.ledger.queue.length then (s.sumCount 5896 1).setBit Reg.LEDG_STAT 28 true
  else
    ({ s with ledger := { s.ledger with queue := s.ledger.queue ++ [e] } }).ledgerNext

/-- The bytes 0 to 59 of an event record (Table 10.7). -/
def State.eventBytes (s : State) (type cls src merge result tile : Nat) (detail : List Byte) : List Byte :=
  let tod := if s.bit Reg.TIME_CTL 30 then
      toLE 6 (s.time.clk / 10 ^ 21) ++ toLE 4 (s.time.clk / 10 ^ 12 % 10 ^ 9)
    else List.replicate 10 0
  toLE 1 type ++ toLE 1 cls ++ toLE 2 src ++ toLE 4 s.ledger.seq ++ toLE 4 s.poh ++
    toLE 4 (s.time.mono / 10 ^ 9) ++ tod ++ toLE 1 (min 255 merge) ++ toLE 1 result ++ toLE 4 tile ++ bytesAt detail 0 28

/-- An event for the ledger (R315, R316): a critical record, or a general one while the bucket holds one.
DESIGN CHOICE, log entry 57. -/
def State.ledgerEvent (s : State) (critical : Bool) (type cls src merge result tile detail : Nat) : State :=
  if !critical && s.ledger.recTokens == 0 then s.sumCount 5892 1
  else
    let e : LedEvent := ⟨s.eventBytes type cls src merge result tile (toLE 8 detail), critical⟩
    ({ s with ledger := { s.ledger with seq := (s.ledger.seq + 1) % 2 ^ 32
                                        recTokens := if critical then s.ledger.recTokens else s.ledger.recTokens - 1 } }).ledgerPut e

/-- A summary write is asked for (R316). -/
def State.ledgerSummary (s : State) (cause : Nat) : State :=
  ({ s with ledger := { s.ledger with wantSummary := some cause } }).ledgerNext

/-- The supply voltage read back: PEAK_MV, and MIN_MV while the core is powered (Table 10.6). -/
def State.ledgerVolt (s : State) (mv : Nat) : State :=
  let s := s.setSum 296 (max mv (s.sumField 296))
  if s.avs.released ∧ (s.sumField 298 = 0 ∨ mv < s.sumField 298) then s.setSum 298 mv else s

/-- The hottest junction: PEAK_TJ and PEAK_POH, kept as written (Table 10.6). -/
def State.ledgerTj (s : State) (tj : Nat) : State :=
  if signed 16 (s.sumField 288) < signed 12 tj then
    (s.setSum 288 ((signed 12 tj % 65536).toNat)).setSum 292 s.poh
  else s

end Sys2Proof.Machine
end

