-- ==== Sys2Proof/Machine/Clockless.lean ====
section
/-!
DEFINITION. Clockless.lean: lock registers (R33 to R37), the adaptive core-voltage loop (R43 to R46) and the
stream-pace monitors (R48).
-/

namespace Sys2Proof.Machine

/-! ### Locks -/

/-- Whether lock i is available to a master (R34). DEDUCED, log entry 14. -/
def lockAvailable (m : Master) (i : Nat) : Bool :=
  match m with
  | .vf n => i == 32 + n.val
  | _ => true

/-- A VF's access to a lock it may not use (R34, Table 02.3 kind 13). -/
def State.lockViolation (s : State) (m : Master) (i : Nat) : State :=
  match m with
  | .vf n => s.vfViolation n.val 13 i
  | _ => s

/-- The holder of lock i, or 0 when it is free (R35). -/
def State.lockOwner (s : State) (i : Nat) : Nat := Store.read 0 s.locks i

/-- Free every lock whose holder satisfies `p` (R37). -/
def State.freeLocks (s : State) (p : Nat → Bool) : State := { s with locks := s.locks.filter fun e => !p e.2 }

/-- R35, R36: a read of a free lock takes it and returns 0; of a held lock, it returns the holder; of a lock not
available to the reader, 0xFFFF with a LOCK violation (R34). DEDUCED, log entry 14. -/
def execLockRead (m : Master) (i : Fin 64) (s : State) : Out :=
  if lockAvailable m i.val then
    if s.lockOwner i.val = 0 then .next ({ s with locks := Store.put 0 s.locks i.val m.id }.answer [0])
    else .next (s.answer [BitVec.ofNat 32 (s.lockOwner i.val)])
  else .next ((s.lockViolation m i.val).answer [0xFFFF])

/-- R35: the holder's write frees the lock; any other master's write is ignored, setting VIOL and VIOL_LOCK. The value
written does not matter. -/
def execLockWrite (m : Master) (i : Fin 64) (_data : Word) (s : State) : Out :=
  let s := if lockAvailable m i.val then s else s.lockViolation m i.val
  if s.lockOwner i.val = m.id then .next { s with locks := Store.put 0 s.locks i.val 0 }
  else .next ((s.setBit Reg.MBX_LOCK_CTL 31 true).setFld Reg.MBX_LOCK_CTL 21 16 i.val)

/-- MBX_LOCK_CTL.FORCE: from the PF it frees the lock whoever holds it; other masters are ignored, and a VF's access
lies outside its confinement (R62). -/
def execLockForce (m : Master) (i : Fin 64) (s : State) : Out :=
  match m with
  | .pf => .next { s with locks := Store.put 0 s.locks i.val 0 }
  | .me _ => .next s
  | .vf n => .next (s.vfViolation n.val 12 Reg.MBX_LOCK_CTL)

/-! ### Stream pace -/

/-- The pace monitor of stream st of a pipe of slice n. -/
def paceKey (n pipe st : Nat) : Nat := n * 8 + pipe * 4 + st

/-- The monitor's own state. -/
def State.paceOf (s : State) (n pipe st : Nat) : Pace := Store.read {} s.pace (paceKey n pipe st)

/-- The state with a monitor replaced. -/
def State.setPace (s : State) (n pipe st : Nat) (p : Pace) : State :=
  { s with pace := Store.put {} s.pace (paceKey n pipe st) p }

/-- One packet completion of a stream (R48, LOAD). -/
def State.noteCompletion (s : State) (n pipe st : Nat) : State :=
  let p := s.paceOf n pipe st
  s.setPace n pipe st { p with completions := p.completions + 1 }

/-- Whether the slice can take frames in: a valid compartment, and a configuration loaded and swapped (R43, R51). -/
def State.sliceAdmits (s : State) (n : Nat) : Bool :=
  s.configured n && (List.range 8).any fun c => s.compValid n c

/-- Whether a pipe's streams are in service (R43). -/
def State.inService (s : State) (n pipe : Nat) : Bool := s.domOn (4 * n + pipe) && s.sliceAdmits n

/-- The streams in service, as slice, pipe and stream. -/
def State.serviceStreams (s : State) : List (Nat × Nat × Nat) :=
  (List.range 32).flatMap fun n => (List.range 2).flatMap fun p =>
    if s.inService n p then (List.range 4).map fun t => (n, p, t) else []

/-- R48: a pace window ends. CAP takes the replica path's measure and LOAD the completions per µs; MINCAP follows the
lowest CAP, and ALARM is set when CAP falls below ALARM_MPPS. Both read 0 for an unpowered pipe. -/
def execPaceWindowEnd (n : Fin 32) (pipe : Fin 2) (st : Fin 4) (cap : Nat) (s : State) : Out :=
  let p := s.paceOf n pipe st
  let w := s.fld (Reg.SLC_PACE_CFG n) 3 0 + 1
  if p.start + us w ≤ s.time.mono then
    let s1 := s.setPace n pipe st { start := s.time.mono, completions := 0 }
    if s.domOn (4 * n.val + pipe.val) then
      let c := min cap 65535
      let r := s1.setReg (Reg.SLC_PACE_RATE n pipe st) (BitVec.ofNat 32 (c * 65536 + min 65535 (p.completions / w)))
      let r := r.setFld (Reg.SLC_PACE_MIN n pipe st) 31 16 (min c (r.fld (Reg.SLC_PACE_MIN n pipe st) 31 16))
      .next (if c < s.fld (Reg.SLC_PACE_CFG n) 31 16 then r.raiseBit (Reg.SLC_PACE_MIN n pipe st) 0 else r)
    else .next (s1.setReg (Reg.SLC_PACE_RATE n pipe st) 0)
  else .next s

/-! ### The voltage loop -/

/-- The loop's limits are valid: VMIN at most VMAX, both in 600 to 780 mV (R46). -/
def State.avsLimitsOk (s : State) : Bool :=
  let vmax := s.fld Reg.PWR_AVS_LIMIT 31 22
  let vmin := s.fld Reg.PWR_AVS_LIMIT 21 12
  decide (vmin ≤ vmax ∧ 600 ≤ vmin ∧ vmax ≤ 780)

/-- Whether the loop runs and sends commands (PWR_AVS_STAT.ACTIVE): the core is released, MODE is not OFF, the bus has
not failed (R45) and the limits are valid (R46). -/
def State.avsActive (s : State) : Bool :=
  s.avs.released && s.fld Reg.PWR_AVS_CTL 31 30 != 0 && !s.bit Reg.PWR_AVS_STAT 31 && s.avsLimitsOk

/-- LIMERR follows the limits (R46). -/
def State.avsJudgeLimits (s : State) : State := s.setBit Reg.PWR_AVS_STAT 29 (!s.avsLimitsOk)

/-- A voltage held within VMIN and VMAX (R43). -/
def State.avsClamp (s : State) (v : Nat) : Nat :=
  max (s.fld Reg.PWR_AVS_LIMIT 21 12) (min v (s.fld Reg.PWR_AVS_LIMIT 31 22))

/-- A Voltage write is sent and awaits its acknowledge (R43). -/
def State.avsCommand (s : State) (v : Nat) : State :=
  ({ s with avs := { s.avs with v := v, awaiting := true } }.setFld Reg.PWR_AVS_STAT 25 16 v).emit (.avsVoltage v)

/-- One evaluation in FLOOR or LOAD mode (R43's procedure, R44): `cap` the lowest capacity and `load` the highest load
of the streams in service. The need is kept in hundredths of Mpps. -/
def State.avsEvaluate (s : State) (cap load : Nat) : State :=
  let need := if s.fld Reg.PWR_AVS_CTL 31 30 = 1 then 100 * s.fld Reg.PWR_AVS_CTL 27 16 else max 100000 (110 * load)
  let v := s.avs.v
  let hold := s.avs.hold + 1
  let step := 5 * oneIfZero (s.fld Reg.PWR_AVS_CTL 15 12)
  let (v', h') :=
    if 100 * cap < need then (v + step, 0)
    else if 103 * need < 10000 * cap then
      if oneIfZero (s.fld Reg.PWR_AVS_CTL 7 0) ≤ hold then (v - 5, 0) else (v, hold)
    else (v, 0)
  let v' := s.avsClamp v'
  let s := { s with avs := { s.avs with hold := h' } }
  let s :=
    if need ≤ 100 * cap then s.setBit Reg.PWR_AVS_STAT 30 false
    else if v = s.fld Reg.PWR_AVS_LIMIT 31 22 then
      (if s.bit Reg.PWR_AVS_STAT 30 then s else s.sumCount 5888 1).setBit Reg.PWR_AVS_STAT 30 true
    else s
  if v' = v then s else s.avsCommand v'

/-- R43: the loop's period ends. FLOOR and LOAD evaluate the streams in service, and skip the period when there is
none; FIXED commands FIXED_MV rounded down to 5 mV; OFF sends nothing. A stopped or holding loop (R45, R46), or one
awaiting an acknowledge, does nothing. DEDUCED, log entry 78. -/
def execAvsLoopPeriod (s : State) : Out :=
  if s.avsActive && !s.avs.awaiting &&
      decide (s.avs.lastEval + us (oneIfZero (s.fld Reg.PWR_AVS_CTL 11 8)) ≤ s.time.mono) then
    let s := { s with avs := { s.avs with lastEval := s.time.mono } }
    if s.fld Reg.PWR_AVS_CTL 31 30 = 3 then
      let v := s.avsClamp (s.fld Reg.PWR_AVS_LIMIT 9 0 / 5 * 5)
      .next (if v = s.fld Reg.PWR_AVS_STAT 25 16 then s else s.avsCommand v)
    else
      match s.serviceStreams with
      | [] => .next s
      | x :: r =>
        let cap := fun (t : Nat × Nat × Nat) => s.fld (Reg.SLC_PACE_RATE t.1 t.2.1 t.2.2) 31 16
        let load := fun (t : Nat × Nat × Nat) => s.fld (Reg.SLC_PACE_RATE t.1 t.2.1 t.2.2) 15 0
        .next (s.avsEvaluate (r.foldl (fun a t => min a (cap t)) (cap x)) (r.foldl (fun a t => max a (load t)) (load x)))
  else .next s

/-- R45: an AVSBus transaction ends. Three consecutive failures stop the loop, set BUSERR and report a CONT fault of
PWR instance 0. An acknowledged write makes a read-back due. -/
def execAvsTransactionDone (ok : Bool) (s : State) : Out :=
  if s.avs.released && !s.bit Reg.PWR_AVS_STAT 31 then
    if ok then
      .next { s with avs := { s.avs with fails := 0, awaiting := false,
                                         readDue := if s.avs.awaiting then s.time.mono else s.avs.readDue } }
    else
      let s1 := { s with avs := { s.avs with fails := s.avs.fails + 1, awaiting := false } }
      if s1.avs.fails < 3 then .next s1
      else .next ((s1.raiseBit Reg.PWR_AVS_STAT 31).reportFault (srcId 4 0) .cont .logic 0 0)
  else .next s

/-- VREAD takes the regulator's voltage after each write and every 100 µs. -/
def execAvsVreadRefresh (mv : Nat) (s : State) : Out :=
  if s.avsActive && decide (s.avs.readDue ≤ s.time.mono) then
    .next (({ s with avs := { s.avs with readDue := s.time.mono + us 100 } }.ledgerVolt mv).setFld Reg.PWR_AVS_STAT 9 0
      (min mv 1023))
  else .next s

/-- R45: software clears BUSERR, and the stopped loop restarts. -/
def execAvsBuserrClear (m : Master) (s : State) : Out :=
  match m with
  | .vf n => .next (s.vfViolation n.val 12 Reg.PWR_AVS_STAT)
  | _ => .next ({ s with avs := { s.avs with fails := 0 } }.setBit Reg.PWR_AVS_STAT 31 false)

end Sys2Proof.Machine
end

