-- ==== Sys2Proof/Machine/EngOps.lean ====
section
/-!
DEFINITION. EngOps.lean: management engines: their stores, how they start and halt, and their journals (R136 to R140,
R143, R146).
-/

namespace Sys2Proof.Machine

/-- Engine k. -/
def State.engine (s : State) (k : Nat) : Engine := Store.read {} s.engines k

/-- The state with an engine replaced. -/
def State.setEngine (s : State) (k : Nat) (e : Engine) : State := { s with engines := Store.put {} s.engines k e }

/-- Where the dispatch entries lie in an engine's store. -/
def engDispatch : Nat := 0x100000

/-- The 192 bits of microword `a` of an engine (R136). -/
def Engine.word (e : Engine) (a : Nat) : Nat := leNat (getBytes e.store (24 * a) 24)

/-- Dispatch entry `i` of an engine (R130, R136). -/
def Engine.entry (e : Engine) (i : Nat) : Nat := leNat (getBytes e.store (engDispatch + 4 * i) 4)

/-- The body of an engine image as the store holds it: microwords, then dispatch entries (R144, R408). -/
def Engine.image (e : Engine) : List Byte := getBytes e.store 0 393216 ++ getBytes e.store engDispatch 1024

/-- Whether the engine is halted (MGE_STAT.HALTED). -/
def State.engHalted (s : State) (k : Nat) : Bool := s.bit (Reg.MGE_STAT k) 31

/-- Whether the engine executes microwords. -/
def State.engRuns (s : State) (k : Nat) : Bool := s.domOn (146 + k / 2) && !s.engHalted k

/-- A general register; G0 always reads 0. -/
def Engine.reg (e : Engine) (r : Nat) : BitVec 64 := if r = 0 then 0 else Store.read 0 e.g r

/-- The engine with a general register replaced; a write of G0 is lost. -/
def Engine.setReg (e : Engine) (r : Nat) (v : BitVec 64) : Engine :=
  if r = 0 then e else { e with g := Store.put 0 e.g r v }

/-- The engine halts where it stands: writes held by an open journal are discarded, and a LOAD under way is lost
(R140). -/
def State.engHalt (s : State) (k : Nat) : State :=
  let e := s.engine k
  (s.setEngine k { e with held := [], memDone := false, opDone := false, loaded := none, waiting := false,
                          haltReq := false, afterStep := false }).setBit (Reg.MGE_STAT k) 31 true

/-- The last record of an engine's journal. -/
def Engine.lastRec (e : Engine) : Option JRec := if e.nextRec = 0 then none else Store.at? e.records ((e.nextRec - 1) % 64)

/-- The engine starts (R140): at dispatch entry 0xFE with the last record in G1 to G3 while a journal is open, else at
START. One halted by a machine check waits for its image (R143). DEDUCED, log entry 86. -/
def State.engStart (s : State) (k : Nat) : State :=
  let e := s.engine k
  if e.blocked then s
  else
    let e := { e with memDone := false, opDone := false, loaded := none, waiting := false, haltReq := false, afterStep := false,
                      held := [], steps := 0 }
    let e := if e.jopen then
        let r := e.lastRec.getD ⟨0, 0, 0, 0, []⟩
        let e := ((e.setReg 1 (BitVec.ofNat 64 r.routine)).setReg 2 (BitVec.ofNat 64 r.step)).setReg 3
          (BitVec.ofNat 64 r.state)
        { e with upc := e.entry 0xFE % 16384 }
      else { e with upc := s.fld (Reg.MGE_CTL k) 13 0 }
    (s.setEngine k e).setBit (Reg.MGE_STAT k) 31 false

/-- What an engine reset clears: general registers, return stack and entry buffers (Table 14.4). -/
def Engine.clear (e : Engine) : Engine :=
  { e with g := [], eb := [], rstack := [], z := false, n := false, c := false, hit := false, err := false }

end Sys2Proof.Machine
end

