-- ==== Sys2Proof/Machine/Packet.lean ====
section
/-!
DEFINITION. Packet.lean: what the part reads and writes in a frame's bytes: FCS, tags (R238 to R240), Internet
checksums, and the lengths and checksums it fills in frames it builds (R289, R309).
-/

namespace Sys2Proof.Machine

/-- The FCS of frame data, as sent (IEEE 802.3, R231). PRESUMED, log entry 42. -/
def fcsOf (data : List Byte) : List Byte := toLE 4 (crcIeee 0xFFFFFFFF data).toNat

/-- Frame data with its FCS. -/
def withFcs (data : List Byte) : List Byte := data ++ fcsOf data

/-- A frame without its last 4 bytes. -/
def dataOf (frame : List Byte) : List Byte := frame.take (frame.length - 4)

/-- The last 4 bytes of a frame. -/
def tailOf (frame : List Byte) : List Byte := frame.drop (frame.length - 4)

/-- Zero bytes added in front of the FCS up to a 64-byte frame. -/
def padTo60 (data : List Byte) : List Byte := data ++ List.replicate (60 - data.length) 0

/-! ### Tags -/

/-- Whether an outer tag is recognised at offset 12, given ALT_TPID. -/
def hasOuter (alt : Nat) (l : List Byte) : Bool :=
  let t := beAt l 12 2
  decide (16 ≤ l.length) && (t == 0x8100 || t == 0x88A8 || (alt != 0 && t == alt))

/-- Whether an inner tag is recognised at offset 16. -/
def hasInner (l : List Byte) : Bool := decide (20 ≤ l.length) && beAt l 16 2 == 0x8100

/-- The number of recognised tags: an inner one is looked for behind an outer one. -/
def tagCount (alt : Nat) (l : List Byte) : Nat := if hasOuter alt l then (if hasInner l then 2 else 1) else 0

/-- The EtherType after any tags (R233). -/
def etherType (alt : Nat) (l : List Byte) : Nat := beAt l (12 + 4 * tagCount alt l) 2

/-- The frame data without the 4 bytes at an offset. -/
def cut4 (l : List Byte) (off : Nat) : List Byte := l.take off ++ l.drop (off + 4)

/-- The frame data with a tag inserted at offset 12. -/
def insertTag (l : List Byte) (tpid tci : Nat) : List Byte := l.take 12 ++ toBE 2 tpid ++ toBE 2 tci ++ l.drop 12

/-- IN_OP on the data received so far (R238). -/
def tagIn (op : Nat) (alt tpid tci : Nat) (l : List Byte) : List Byte :=
  match op with
  | 1 => if hasOuter alt l then cut4 l 12 else l
  | 2 => if hasOuter alt l then (if hasInner l then cut4 (cut4 l 16) 12 else cut4 l 12) else l
  | 3 => if hasOuter alt l then l else insertTag l tpid tci
  | _ => l

/-- EG_OP on a copy's data (R240). -/
def tagOut (op : Nat) (alt tpid tci : Nat) (l : List Byte) : List Byte :=
  match op with
  | 1 => insertTag l tpid tci
  | 2 => if hasOuter alt l then cut4 l 12 else l
  | 3 => if hasOuter alt l then overlay l 14 (toBE 2 tci) else insertTag l tpid tci
  | _ => l

/-! ### Internet checksums -/

/-- Big-endian 16-bit words of a byte string, the last padded with a zero byte. -/
def words16 : List Byte → List Nat
  | [] => []
  | [a] => [a.toNat * 256]
  | a :: b :: r => (a.toNat * 256 + b.toNat) :: words16 r

/-- Addition with end-around carry. -/
def onesAdd (a b : Nat) : Nat := (a + b) % 65536 + (a + b) / 65536

/-- The ones'-complement sum of 16-bit words. -/
def onesSum (l : List Nat) : Nat := l.foldl onesAdd 0

/-- The Internet checksum of a byte string. -/
def inetSum (l : List Byte) : Nat := 65535 - onesSum (words16 l)

/-- A UDP checksum, where 0 is sent as all ones. -/
def udpSum (pseudo seg : List Byte) : Nat :=
  let c := inetSum (pseudo ++ seg)
  if c = 0 then 65535 else c

/-- The pseudo-header of a UDP segment of `len` bytes behind the IP header at `ip` in the data. -/
def udpPseudo (l : List Byte) (ip len : Nat) : List Byte :=
  if beAt l ip 1 / 16 = 4 then bytesAt l (ip + 12) 8 ++ [0, 17] ++ toBE 2 len
  else bytesAt l (ip + 8) 32 ++ toBE 4 len ++ [0, 0, 0, 17]

/-- The IPv4 header checksum of the header at `ip` written into the data. -/
def fillIp4Sum (l : List Byte) (ip : Nat) : List Byte :=
  let l0 := overlay l (ip + 10) [0, 0]
  overlay l0 (ip + 10) (toBE 2 (inetSum (bytesAt l0 ip (4 * (beAt l0 ip 1 % 16)))))

/-- The lengths and checksums of the IP header at `ip` and the UDP header at `udp` filled in frame data (R309). -/
def fillIpUdp (l : List Byte) (ip udp : Nat) : List Byte :=
  let l := if beAt l ip 1 / 16 = 4 then fillIp4Sum (overlay l (ip + 2) (toBE 2 (l.length - ip))) ip
    else overlay l (ip + 4) (toBE 2 (l.length - ip - 40))
  let n := l.length - udp
  let l := overlay (overlay l (udp + 4) (toBE 2 n)) (udp + 6) [0, 0]
  overlay l (udp + 6) (toBE 2 (udpSum (udpPseudo l ip n) (l.drop udp)))

end Sys2Proof.Machine
end

