-- ==== Sys2Proof/Machine/PortOps.lean ====
section
/-!
DEFINITION. PortOps.lean: front ports' geometry, states and counters (R229, R246), MONO and CLOCK (R295), token buckets,
and postcards (R307 to R310).
-/

namespace Sys2Proof.Machine

/-! ### Time -/

/-- CLOCK's seconds. -/
def State.clkSec (s : State) : Nat := s.time.clk / 10 ^ 21 % 2 ^ 48

/-- CLOCK's nanoseconds. -/
def State.clkNs (s : State) : Nat := s.time.clk / 10 ^ 12 % 10 ^ 9

/-- FREQ, limited to ±500,000,000 (TIME_FREQ). -/
def State.freq (s : State) : Int := max (-500000000) (min 500000000 (signed 32 (s.reg Reg.TIME_FREQ).toNat))

/-- A CLOCK value moved by a signed number of nanoseconds, not below 0. -/
def clkAdd (clk : Nat) (d : Int) : Nat := ((clk : Int) + d * 10 ^ 12).toNat

/-- An elapsed number of MONO nanoseconds at CLOCK's rate, in units of 2⁻¹⁶ ns (R302). -/
def State.residence (s : State) (d : Nat) : Int := (d : Int) * 65536 * (10 ^ 12 + s.freq) / 10 ^ 12

/-! ### Ports -/

/-- A front port beside its registers. -/
def State.port (s : State) (p : Nat) : Port := Store.read {} s.ports p

/-- The state with a port replaced. -/
def State.setPort (s : State) (p : Nat) (x : Port) : State := { s with ports := Store.put {} s.ports p x }

/-- The mode of a port's octet. -/
def State.octMode (s : State) (p : Nat) : Nat := s.fld (Reg.PORT_OCT (p / 8 * 8)) 2 0

/-- Lanes of each port in an octet mode (Table 07.1). -/
def modeWidth (m : Nat) : Nat := 2 ^ (m % 4)

/-- Whether front port p is assigned (R229). -/
def State.assigned (s : State) (p : Nat) : Bool := decide (p < 1024) && p % 8 % modeWidth (s.octMode p) == 0

/-- The speed code of an octet mode's ports (PORT_STAT.SPEED). -/
def modeSpeed (m : Nat) : Nat := if m < 4 then 2 + m else m - 3

/-- The speed code of a port, 0 when it is unassigned. -/
def State.speed (s : State) (p : Nat) : Nat := if s.assigned p then modeSpeed (s.octMode p) else 0

/-- PORT_STAT.STATE. -/
def State.portState (s : State) (p : Nat) : Nat := s.fld (Reg.PORT_STAT p) 23 20

/-- Whether slice n is in a drain swap, from step 1 to step 5 of Table 02.12. -/
def State.draining (s : State) (n : Nat) : Bool := s.fld (Reg.SLC_BS_STAT n) 31 28 == 6

/-- Whether port 1057 sends data (R347): a rail is up, the pair state is neither OFF nor MISMATCH, and the device is not
in its safe state. -/
def State.pairUp (s : State) : Bool :=
  s.fld Reg.PAIR_STAT 17 16 != 0 && s.fld Reg.PAIR_STAT 22 20 != 0 && s.fld Reg.PAIR_STAT 22 20 != 6 &&
    !s.flt.deviceSafe && !s.pair.safe && s.domOn 144

/-- Whether a front port or port 1057 is down (R227, R246). -/
def State.isDown (s : State) (d : Nat) : Bool :=
  if d < 1024 then !(s.portState d == 2 || s.portState d == 4) else if d = 1057 then !s.pairUp else false

/-- Whether a destination is live for failover (R103). -/
def State.isLive (s : State) (d : Nat) : Bool :=
  if d < 1024 then s.assigned d && s.portState d == 2 else if d ≤ 1056 then true else d == 1057 && s.pairUp

/-- Count in a 64-bit counter held as two registers; it stops at all ones (R13). -/
def State.countWide (s : State) (lo hi n : Nat) : State :=
  let v := min (2 ^ 64 - 1) ((s.reg lo).toNat + 2 ^ 32 * (s.reg hi).toNat + n)
  (s.setReg lo (BitVec.ofNat 32 v)).setReg hi (BitVec.ofNat 32 (v / 2 ^ 32))

/-- Count event k of a port (Table 07.9). -/
def State.portCount (s : State) (p k : Nat) : State := s.count (Reg.PORT_CNT p k)

/-- The start threshold of a CT_STEP in bytes (Table 07.4); step 7 has none. -/
def ctThreshold (step : Nat) : Option Nat :=
  match step with
  | 0 => some 256
  | 1 => some 512
  | 2 => some 1024
  | 3 => some 2048
  | 4 => some 3072
  | 5 => some 4096
  | 6 => some 8192
  | _ => none

/-! ### Register windows -/

/-- Byte `o` of a window of words at `base`. -/
def State.winByte (s : State) (base o : Nat) : Byte :=
  BitVec.ofNat 8 ((s.reg (base + o / 4 * 4)).toNat / 2 ^ (8 * (o % 4)))

/-- `n` bytes of a window of words. -/
def State.winBytes (s : State) (base o n : Nat) : List Byte := (List.range n).map fun i => s.winByte base (o + i)

/-- A little-endian field of a window of words. -/
def State.winLE (s : State) (base o n : Nat) : Nat := leNat (s.winBytes base o n)

/-! ### Token buckets -/

/-- A bucket refilled at `rate` units per ns up to now. -/
def Bucket.refill (b : Bucket) (rate now : Nat) : Bucket := { short := b.short - rate * (now - b.last), last := now }

/-- A bucket after `n` units are taken. -/
def Bucket.take (b : Bucket) (n : Nat) : Bucket := { b with short := b.short + n }

/-! ### Postcards (R307 to R310) -/

/-- The settings of collector j. -/
def colBase (j : Nat) : Nat := 0x5002000 + 0x100 * j

/-- A collector. -/
def State.col (s : State) (j : Nat) : PostCol := Store.read {} s.tele.cols j

/-- The state with a collector replaced. -/
def State.setCol (s : State) (j : Nat) (x : PostCol) : State :=
  { s with tele := { s.tele with cols := Store.put {} s.tele.cols j x } }

/-- Count telemetry event k (TELE_CNTk). -/
def State.teleCount (s : State) (k n : Nat) : State := s.countFld (Reg.TELE_CNT k) 31 0 n

/-- A frame put where a source's frames wait to be stored. -/
def State.queueToStore (s : State) (src : Nat) (f : Frame) : State :=
  { s with vat := { s.vat with toStore := Store.set s.vat.toStore src (Store.read [] s.vat.toStore src ++ [f]) } }

/-- A collector's frame is built from its settings and sent toward its port (R309). -/
def State.sendCollector (s : State) (j : Nat) : State :=
  let b := colBase j
  let x := s.col j
  if x.recs.isEmpty then s
  else
    let hl := min 128 (s.winLE b 5 1)
    let data := s.winBytes b 128 hl ++ [1, BitVec.ofNat 8 x.recs.length, BitVec.ofNat 8 j, 0] ++ toBE 4 x.seq ++ x.recs.flatten
    let data := fillIpUdp data (s.winLE b 14 1) (s.winLE b 15 1)
    let port := s.winLE b 2 2
    let cp : Copy := { frame := 0, kind := .made, dest := port, queue := s.winLE b 1 1 % 16, col := some (j, x.recs.length) }
    let f : Frame := { owned := false, inPort := 2048, orig := 2048, rest := withFcs data, after := some cp }
    ((s.setCol j { x with recs := [], seq := (x.seq + 1) % 2 ^ 32 }).queueToStore 2048 f).teleCount 7 1

/-- A record of Table 10.3. -/
def postRecord (s : State) (kind : Nat) (f : Frame) (out queue code eepoch qdelay qdepth snapOff : Nat) : List Byte :=
  [1, BitVec.ofNat 8 kind, BitVec.ofNat 8 f.slice, BitVec.ofNat 8 f.comp] ++ toBE 2 (s.desc f.slice (1 + f.comp) 4 2) ++
    toBE 2 f.orig ++ toBE 2 out ++ toBE 1 queue ++ toBE 1 code ++ toBE 2 f.bytes.length ++
    toBE 1 (f.epoch % 16 + 16 * eepoch) ++ [0] ++ toBE 6 f.tsSec ++ toBE 4 f.tsNs ++ toBE 4 qdelay ++ [0, 0] ++
    toBE 4 qdepth ++ toBE 4 f.hash ++ toBE 2 f.match0 ++ List.replicate 6 0 ++ bytesAt f.bytes snapOff 16

/-- A record is made for collector j when it is VALID and its bucket holds a record's worth; otherwise PC_SUPP counts
(R310). A frame that holds BATCH records is sent at once (R309). -/
def State.postcard (s : State) (j kind : Nat) (f : Frame) (out queue code eepoch qdelay qdepth : Nat) : State :=
  let b := colBase j
  let x := s.col j
  let bk := x.bucket.refill (s.winLE b 8 2) s.time.mono
  if s.winLE b 0 1 % 2 = 1 ∧ bk.short + 1000 ≤ 1000 * s.winLE b 10 2 then
    let r := postRecord s kind f out queue code eepoch qdelay qdepth (s.winLE b 12 2)
    let x := { x with recs := x.recs ++ [r], bucket := bk.take 1000
                      since := if x.recs.isEmpty then s.time.mono else x.since }
    let s1 := (s.setCol j x).teleCount 4 1
    if max 1 (min 20 (s.winLE b 4 1)) ≤ x.recs.length then s1.sendCollector j else s1
  else (s.setCol j { x with bucket := bk }).teleCount 5 1

/-- DROP_PROG, while DPROG_EN is 1 (R307). -/
def State.dropProg (s : State) (f : Frame) (out queue code eepoch : Nat) : State :=
  if s.bit Reg.TELE_CTL 31 then s.postcard (s.fld Reg.TELE_CTL 29 27) 3 f out queue code eepoch 0 0 else s

/-- DROP_VAT for a reason's row, while DVAT_EN is 1 (R307); a collector frame has no compartment to report. -/
def State.dropVat (s : State) (f : Frame) (out queue row eepoch : Nat) : State :=
  if s.bit Reg.TELE_CTL 30 && f.owned then
    s.postcard (s.fld Reg.TELE_CTL 29 27) 4 f out queue (0x80 + row) eepoch 0 0
  else s

end Sys2Proof.Machine
end

