-- ==== Sys2Proof/Machine/HostOps.lean ====
section
/-!
DEFINITION. HostOps.lean: queue pairs' rings and the end of a transmit descriptor (R374 to R379).
-/

namespace Sys2Proof.Machine

/-- A ring size field as it acts: 6 to 16 (HOST_QP_SIZE). -/
def ringLog (v : Nat) : Nat := max 6 (min 16 v)

/-- Transmit ring size of queue pair h, as a power of two. -/
def State.txLog (s : State) (h : Nat) : Nat := ringLog (s.fld (Reg.HOST_QP_SIZE h) 12 8)

/-- Receive ring size of queue pair h, as a power of two. -/
def State.rxLog (s : State) (h : Nat) : Nat := ringLog (s.fld (Reg.HOST_QP_SIZE h) 4 0)

/-- Descriptors posted: (TAIL − HEAD) mod 131,072 (R375). -/
def posted (tail head : Nat) : Nat := (tail + 131072 - head) % 131072

/-- Bus address of transmit descriptor `i`. -/
def State.txDesc (s : State) (h i : Nat) : Nat :=
  (s.reg (Reg.HOST_QP_TXBASE_LO h)).toNat + 2 ^ 32 * (s.reg (Reg.HOST_QP_TXBASE_HI h)).toNat + 16 * (i % 2 ^ s.txLog h)

/-- Bus address of receive descriptor `i`. -/
def State.rxDesc (s : State) (h i : Nat) : Nat :=
  (s.reg (Reg.HOST_QP_RXBASE_LO h)).toNat + 2 ^ 32 * (s.reg (Reg.HOST_QP_RXBASE_HI h)).toNat + 16 * (i % 2 ^ s.rxLog h)

/-- A queue pair's sequencer. -/
def State.qp (s : State) (h : Nat) : Qp := Store.read {} s.host.qps h

/-- The state with a queue pair's sequencer replaced. -/
def State.setQp (s : State) (h : Nat) (x : Qp) : State := { s with host := { s.host with qps := Store.put {} s.host.qps h x } }

/-- The descriptor at HEAD is completed with a STATUS (R376): TFLAGS and STATUS written back, HEAD moved on, TX_BAD
counted unless it is OK, and TXDONE raised. -/
def State.txComplete (s : State) (h status : Nat) : State :=
  let head := s.fld (Reg.HOST_QP_TXHEAD h) 16 0
  let s1 := s.emit (.dmaWrite (s.qpOwner h) (s.txDesc h head + 11) [if status = 0 then 1 else 3, BitVec.ofNat 8 status])
  let s1 := (s1.setQp h { s1.qp h with tx := none }).setFld (Reg.HOST_QP_TXHEAD h) 16 0 ((head + 1) % 131072)
  let s1 := if status = 0 then s1 else s1.countFld (Reg.HOST_QP_STAT h) 15 0 1
  s1.raiseBit (Reg.HOST_QP_STAT h) 25

/-- A frame injected by a queue pair is in the vat, or could not be stored (R376). A queue pair reset in the meantime has
no descriptor left to complete (R380). -/
def State.injected (s : State) (f : Frame) (status : Nat) : State :=
  match f.hostQp with
  | some h => if (s.qp h).tx.any (·.read) then s.txComplete h status else s
  | none => s

/-- A queue pair halts with a cause (R379, Table 13.4). -/
def State.haltQp (s : State) (h cause : Nat) : State :=
  if s.bit (Reg.HOST_QP_STAT h) 31 then s
  else
    let s := (s.setBit (Reg.HOST_QP_STAT h) 31 true).setFld (Reg.HOST_QP_STAT h) 30 27 cause
    s.raiseBit (Reg.HOST_QP_STAT h) 24

end Sys2Proof.Machine
end

