-- ==== Sys2Proof/Machine/VatOps.lean ====
section
/-!
DEFINITION. VatOps.lean: the vat's cells, descriptors, charges, queues and shared operations on them (R188 to R209).
-/

namespace Sys2Proof.Machine

/-! ### Drop reasons (Table 06.10) -/

/-- The reasons of Table 06.10, in its order. -/
inductive Reason where
  | quota | nocell | poolEmpty | pailBig | descFull | unassigned | qlimit | qmax | ptrFull | rcircShape | reasmTmo
  | mcEmpty | portDown | errFrame | skimErr
  deriving DecidableEq, Repr

/-- The compartment counter of a reason. -/
def Reason.comp : Reason → Option Nat
  | .quota => some 0
  | .nocell => some 1
  | .poolEmpty => some 2
  | .pailBig => some 3
  | .descFull => some 4
  | .unassigned => some 5
  | .qlimit => some 6
  | .qmax => some 7
  | .ptrFull => some 8
  | .rcircShape => some 9
  | .reasmTmo => some 11
  | .mcEmpty => some 12
  | _ => none

/-- The port counter of a reason. -/
def Reason.port : Reason → Option Nat
  | .qlimit => some 0
  | .qmax => some 1
  | .ptrFull => some 2
  | .portDown => some 4
  | .errFrame => some 5
  | .skimErr => some 6
  | .rcircShape => some 7
  | _ => none

/-- The row of a reason in Table 06.10, counted from 0. -/
def Reason.row : Reason → Nat
  | .quota => 0
  | .nocell => 1
  | .poolEmpty => 2
  | .pailBig => 3
  | .descFull => 4
  | .unassigned => 5
  | .qlimit => 6
  | .qmax => 7
  | .ptrFull => 8
  | .rcircShape => 9
  | .reasmTmo => 10
  | .mcEmpty => 11
  | .portDown => 13
  | .errFrame => 14
  | .skimErr => 15

/-- Whether a reason's port counter is kept for a destination (R200, Table 06.10). -/
def portCounted (r : Reason) (d : Nat) : Bool :=
  decide (d < 1024) || d == 1057 || (r == .rcircShape && decide (1024 ≤ d ∧ d < 1056))

/-- A frame or copy is not delivered: counted once under its reason, with its postcard (R200, R228, R307). -/
def State.vatDrop (s : State) (r : Reason) (f : Frame) (dest queue : Nat) : State :=
  let s := match r.comp with
    | some k => if f.owned then s.count (Reg.SLC_VAT_CNT f.slice f.comp k) else s
    | none => s
  let s := match r.port with
    | some k => if portCounted r dest then s.count (Reg.VAT_PCNT dest k) else s
    | none => s
  s.dropVat f dest queue r.row 0

/-! ### Frames and cells -/

/-- A stored frame by its descriptor. -/
def State.frame? (s : State) (f : Nat) : Option Frame := Store.at? s.vat.frames f

/-- The state with a frame replaced. -/
def State.setFrame (s : State) (f : Nat) (x : Frame) : State :=
  { s with vat := { s.vat with frames := Store.set s.vat.frames f x } }

/-- Whether the vat is in pail mode. -/
def State.pail (s : State) : Bool := s.bit Reg.VAT_CTL 30

/-- Whether cell i's link word has ALLOC set (Table 06.1). -/
def State.allocated (s : State) (i : Nat) : Bool := (Store.read 0 s.vat.links i).msb

/-- Whether allocation may use cell i's quadrant (VAT_CTL.QEN). -/
def State.quadEnabled (s : State) (i : Nat) : Bool := s.bit Reg.VAT_CTL (26 + i / 393216)

/-- The first number from `i` on that satisfies `p`, among `fuel` of them. -/
def findFrom (p : Nat → Bool) : Nat → Nat → Option Nat
  | 0, _ => none
  | k + 1, i => if p i then some i else findFrom p k (i + 1)

/-- Cells of a block of pail pool k (Table 06.3). -/
def poolCells (k : Nat) : Nat := [1, 2, 8, 16, 40].getD k 0

/-- The largest frame of pail pool k (Table 06.3). -/
def poolBytes (k : Nat) : Nat := [256, 512, 2048, 4096, 10240].getD k 0

/-- The pool of a frame of `len` bytes: the smallest block that holds it (R194). -/
def poolFor (len : Nat) : Option Nat := (List.range 5).find? fun k => decide (len ≤ poolBytes k)

/-- Blocks of pool k. -/
def State.poolCount (s : State) (k : Nat) : Nat := s.fld (Reg.VAT_POOL k) 20 0

/-- The first cell of pool k: pools lie one after another. DESIGN CHOICE, log entry 43. -/
def State.poolBase (s : State) (k : Nat) : Nat := ((List.range k).map fun j => s.poolCount j * poolCells j).sum

/-- Blocks of pool k in use. -/
def State.poolUsed (s : State) (k : Nat) : Nat :=
  let b := s.poolBase k
  s.vat.links.countP fun e => decide (b ≤ e.1 ∧ e.1 < b + s.poolCount k * poolCells k) && e.2.msb

/-- Free blocks of pool k, reserve included (VAT_POOLFREEk). -/
def State.poolFree (s : State) (k : Nat) : Nat := s.poolCount k - s.poolUsed k

/-- Cells of the quadrants that may be used. -/
def State.usableCells (s : State) : Nat :=
  393216 * ((List.range 4).countP fun q => s.bit Reg.VAT_CTL (26 + q))

/-- VAT_FREE. -/
def State.vatFree (s : State) : Nat :=
  if s.pail then ((List.range 5).map fun k => s.poolFree k * poolCells k).sum
  else s.usableCells - s.vat.links.countP fun e => e.2.msb && s.quadEnabled e.1

/-- The cells that only read-back may take (R199): RB_RSV, or the pools' reserves. -/
def State.reserve (s : State) : Nat :=
  if s.pail then ((List.range 5).map fun k => s.fld (Reg.VAT_POOL k) 31 21 * poolCells k).sum
  else s.fld Reg.VAT_RSV 20 0

/-- Whether quadrant q holds no cell in use (VAT_STAT.QEMPTY). -/
def State.quadEmpty (s : State) (q : Nat) : Bool := s.vat.links.all fun e => !(e.2.msb && e.1 / 393216 == q)

/-- Resident use of a compartment (Table 06.4). -/
def State.resident (s : State) (n c : Nat) : Nat :=
  (s.vat.frames.map fun e =>
    if e.2.slice = n ∧ e.2.comp = c ∧ e.2.owned ∧ e.2.spill.isNone then e.2.charged else 0).sum

/-- Skim use of a compartment (Table 06.4). -/
def State.skimUse (s : State) (n c : Nat) : Nat :=
  (s.vat.frames.map fun e =>
    if e.2.slice = n ∧ e.2.comp = c ∧ e.2.owned ∧ e.2.spill.isSome then e.2.charged else 0).sum

/-- Spilled frames of a compartment. -/
def State.spilledOf (s : State) (n c : Nat) : Nat :=
  s.vat.frames.countP fun e => e.2.slice == n && e.2.comp == c && e.2.owned && e.2.spill.isSome

/-- The lowest free cell of an enabled quadrant. DESIGN CHOICE, log entry 43. -/
def State.freeCell (s : State) : Option Nat := findFrom (fun i => !s.allocated i && s.quadEnabled i) 1572864 0

/-- The first cell of the lowest free block of pool k. DESIGN CHOICE, log entry 43. -/
def State.freeBlock (s : State) (k : Nat) : Option Nat :=
  let b := s.poolBase k
  (findFrom (fun i => !s.allocated (b + i * poolCells k) && s.quadEnabled (b + i * poolCells k) &&
    s.quadEnabled (b + (i + 1) * poolCells k - 1)) (s.poolCount k) 0).map fun i => b + i * poolCells k

/-- The lowest free descriptor of 2,097,152 (R190). DESIGN CHOICE, log entry 43. -/
def State.freeDesc (s : State) : Option Nat := findFrom (fun i => (s.frame? i).isNone) 2097152 0

/-- A cell's link word written (Table 06.1). -/
def State.setLink (s : State) (i : Nat) (w : Word) : State :=
  { s with vat := { s.vat with links := Store.put 0 s.vat.links i w } }

/-- The link words of a native chain holding `len` bytes (R189). -/
def State.linkChain (s : State) (len : Nat) : List Nat → State
  | [] => s
  | [a] => s.setLink a (BitVec.ofNat 32 (2 ^ 31 + 2 ^ 30 + (if len % 256 = 0 then 0 else len % 256) * 2 ^ 21))
  | a :: b :: r => (s.setLink a (BitVec.ofNat 32 (2 ^ 31 + b))).linkChain len (b :: r)

/-- A release that finds ALLOC already 0, or REFCNT at 0: not performed, flagged and reported (R197), naming the
quadrant's link words and the cell. -/
def State.doubleFree (s : State) (cell : Nat) : State :=
  (s.raiseBit Reg.VAT_STAT 30).reportFault (srcId 11 (cell / 393216 * 512 + 511)) .cont .memoryRow cell 0

/-- Release cells, or a block's first cell (R197). -/
def State.releaseCells (s : State) : List Nat → State
  | [] => s
  | a :: r => (if s.allocated a then s.setLink a 0 else s.doubleFree a).releaseCells r

/-- The frame's cells are released and nothing is charged for it any more. -/
def State.dropCells (s : State) (f : Nat) : State :=
  match s.frame? f with
  | none => s
  | some x => (s.releaseCells (if x.pool = 0 then x.cells else x.cells.take 1)).setFrame f
      { x with cells := [], charged := 0, dropped := true, spill := none, back := none }

/-- The frame's cells and descriptor are released (R197, R209). -/
def State.releaseFrame (s : State) (f : Nat) : State :=
  let s := s.dropCells f
  { s with vat := { s.vat with frames := Store.del s.vat.frames f } }

/-- One reference of a frame is given back; at 0 the frame is released (R209). -/
def State.unref (s : State) (f : Nat) : State :=
  match s.frame? f with
  | none => s
  | some x =>
    if x.refcnt = 0 then s.doubleFree (x.cells.headD 0)
    else if x.refcnt = 1 then s.releaseFrame f
    else s.setFrame f { x with refcnt := x.refcnt - 1 }

/-- The receive hold is released once the frame has closed and its decision is resolved (R209). -/
def State.settle (s : State) (f : Nat) : State :=
  match s.frame? f with
  | none => s
  | some x => if x.hold && !x.isOpen && x.resolved then (s.setFrame f { x with hold := false }).unref f else s

/-- The frame's decision is resolved, or it will have none. -/
def State.resolved (s : State) (f : Nat) : State :=
  match s.frame? f with
  | none => s
  | some x => (s.setFrame f { x with resolved := true, waiting := false }).settle f

/-- The frame closes, good or errored (R209, R212). -/
def State.closeFrame (s : State) (f : Nat) (err : Bool) : State :=
  match s.frame? f with
  | none => s
  | some x => (s.setFrame f { x with isOpen := false, err := err }).settle f

/-- The frame is dropped under R193: counted, its cells released at once; one that has not entered a pipe never will. -/
def State.dropFrame (s : State) (r : Reason) (f : Nat) : State :=
  match s.frame? f with
  | none => s
  | some x =>
    let s := (s.vatDrop r x 0xFFFF 0xFF).dropCells f
    if x.waiting then s.resolved f else s

/-! ### Allocation -/

/-- The first failing check of a native cell allocation (R193). -/
def State.cellCheck (s : State) (owned : Bool) (n c : Nat) (first : Bool) : Option Reason :=
  if owned ∧ s.desc n (1 + c) 88 4 < s.resident n c + 1 then some .quota
  else if s.vatFree ≤ s.fld Reg.VAT_RSV 20 0 ∨ s.bit Reg.VAT_CTL 31 = false ∨ s.freeCell.isNone then some .nocell
  else if first ∧ s.freeDesc.isNone then some .descFull
  else none

/-- Take cells for an open native frame until they hold its bytes; a failure drops it (R193). -/
def State.growCells : Nat → State → Nat → State
  | 0, s, _ => s
  | k + 1, s, f =>
    match s.frame? f with
    | none => s
    | some x =>
      if x.dropped || decide (x.bytes.length ≤ 256 * x.cells.length) then s
      else
        match s.cellCheck x.owned x.slice x.comp false, s.freeCell with
        | none, some a =>
          let cs := x.cells ++ [a]
          State.growCells k ((s.setFrame f { x with cells := cs, charged := cs.length }).linkChain x.bytes.length cs) f
        | r, _ => s.dropFrame (r.getD .nocell) f

/-- The last cell's FILL follows the bytes stored. -/
def State.linkFill (s : State) (f : Nat) : State :=
  match s.frame? f with
  | some x => s.linkChain x.bytes.length x.cells
  | none => s

/-- Bytes stored for an open frame (R193, R213). -/
def State.storeBytes (s : State) (f : Nat) (l : List Byte) : State :=
  match s.frame? f with
  | none => s
  | some x =>
    if x.dropped then s
    else
      let s := s.setFrame f { x with bytes := l, lastByte := s.time.mono }
      if x.pool = 0 then (State.growCells 64 s f).linkFill f else s

/-- The first failing check of a pail block for a frame of `len` bytes (R195). -/
def State.blockCheck (s : State) (owned : Bool) (n c len : Nat) : Option Reason :=
  match poolFor len with
  | none => some .pailBig
  | some k =>
    if owned ∧ s.desc n (1 + c) 88 4 < s.resident n c + poolCells k then some .quota
    else if s.poolFree k ≤ s.fld (Reg.VAT_POOL k) 31 21 ∨ (s.freeBlock k).isNone ∨ s.bit Reg.VAT_CTL 31 = false then
      some .poolEmpty
    else if s.freeDesc.isNone then some .descFull
    else none

/-- The block of a staged frame is allocated at its last byte, or the frame is dropped (R195). -/
def State.allocBlock (s : State) (f : Nat) : State :=
  match s.frame? f with
  | none => s
  | some x =>
    match s.blockCheck x.owned x.slice x.comp x.bytes.length with
    | some r => (s.vatDrop r x 0xFFFF 0xFF).dropCells f
    | none =>
      match poolFor x.bytes.length with
      | none => s
      | some k =>
        let a := (s.freeBlock k).getD 0
        (s.setFrame f { x with pool := k + 1, cells := (List.range (poolCells k)).map (a + ·),
                               charged := poolCells k }).setLink a 0x80000000

/-! ### Queues -/

/-- A queue's QID (Table 06.5); a host queue pair's queue is `hostQid`. -/
def qidOf (d q : Nat) : Nat :=
  if d < 1024 then 20 * d + q else if d = 1057 then 20480 + q else 20500 + 20 * (d - 1024) + q

/-- The QID of queue pair h's queue. -/
def hostQid (h : Nat) : Nat := 21140 + h

/-- The copies in a queue. -/
def State.queue (s : State) (q : Nat) : List Copy := Store.read [] s.vat.queues q

/-- The state with a queue replaced. -/
def State.setQueue (s : State) (q : Nat) (l : List Copy) : State :=
  { s with vat := { s.vat with queues := Store.put [] s.vat.queues q l } }

/-- Word i of a queue's settings, at their reset values until written (VAT_QDATAi). -/
def State.qword (s : State) (q i : Nat) : Word := (Store.at? s.vat.qcfg (4 * q + i)).getD (regReset (0x1000110 + 4 * i))

/-- A field of a queue's settings. -/
def State.qfld (s : State) (q i hi lo : Nat) : Nat := fieldOf (s.qword q i) hi lo

/-- CELLS of a copy's frame. -/
def State.copyCells (s : State) (c : Copy) : Nat := ((s.frame? c.frame).map (·.charged)).getD 0

/-- Whether a copy's frame's data is in the vat. -/
def State.copyResident (s : State) (c : Copy) : Bool := ((s.frame? c.frame).map (·.spill.isNone)).getD false

/-- DEP of a queue (Table 06.4). -/
def State.dep (s : State) (q : Nat) : Nat := ((s.queue q).map s.copyCells).sum

/-- RES of a queue (Table 06.4). -/
def State.res (s : State) (q : Nat) : Nat := ((s.queue q).map fun c => if s.copyResident c then s.copyCells c else 0).sum

/-- LEN of a copy's frame: the bytes received so far, or the final length (Table 06.2). -/
def State.copyLen (s : State) (c : Copy) : Nat := ((s.frame? c.frame).map (·.bytes.length)).getD 0

/-- Every copy that holds pointer nodes: queued, in an egress pipe, or dequeued and not finished. -/
def State.liveCopies (s : State) : List Copy :=
  s.vat.queues.flatMap (·.2) ++ s.vat.out.flatMap (·.2) ++ s.ctxs.filterMap (·.2.copy)

/-- Pointer nodes in use. -/
def State.nodesUsed (s : State) : Nat := (s.liveCopies.map (·.nodes)).sum

/-- Whether a copy is charged to a compartment: collector frames and the partner's DATA frames are not. -/
def Copy.owned (x : Copy) : Bool := x.col.isNone && !x.pairData

/-- Pointer nodes a compartment holds (R192). -/
def State.nodesHeld (s : State) (n c : Nat) : Nat :=
  (s.liveCopies.map fun x => if x.slice = n ∧ x.comp = c ∧ x.owned then x.nodes else 0).sum

/-- A compartment's entitlement E(c) (R192). -/
def State.entitlement (s : State) (n c : Nat) : Nat := 2 * s.desc n (1 + c) 88 4 + s.spilledOf n c

/-- What other valid compartments may still claim of their entitlements (R192). -/
def State.owedNodes (s : State) (own : Option (Nat × Nat)) : Nat :=
  ((List.range 32).map fun n => ((List.range 8).map fun c =>
    if s.compValid n c ∧ own ≠ some (n, c) then s.entitlement n c - s.nodesHeld n c else 0).sum).sum

/-- Whether a copy's nodes are available (R192). -/
def State.nodesAvailable (s : State) (x : Copy) : Bool :=
  if x.owned = false then decide (s.nodesUsed + x.nodes + s.owedNodes none ≤ 4194304)
  else decide (s.nodesHeld x.slice x.comp + x.nodes ≤ s.entitlement x.slice x.comp) ||
    decide (s.nodesUsed + x.nodes + s.owedNodes (some (x.slice, x.comp)) ≤ 4194304)

/-! ### Shapers (R224) -/

/-- A queue's bucket now: units of 1/80 byte below full, at RATE units per ns. -/
def State.qShaper (s : State) (q : Nat) : Bucket :=
  (Store.read {} s.vat.qBucket q).refill (s.qfld q 2 31 18) s.time.mono

/-- Whether a queue's shaper holds zero or more tokens. -/
def State.qShaperOk (s : State) (q : Nat) : Bool :=
  s.qfld q 2 31 18 == 0 || decide ((s.qShaper q).short ≤ max 1 (s.qfld q 2 17 8) * 1024 * 80)

/-- A destination's bucket now. -/
def State.pShaper (s : State) (d : Nat) : Bucket :=
  (Store.read {} s.vat.pBucket d).refill (s.fld (Reg.VAT_PCFG d) 29 16) s.time.mono

/-- Whether a destination's shaper holds zero or more tokens. -/
def State.pShaperOk (s : State) (d : Nat) : Bool :=
  s.fld (Reg.VAT_PCFG d) 29 16 == 0 || decide ((s.pShaper d).short ≤ max 1 (s.fld (Reg.VAT_PCFG d) 15 6) * 1024 * 80)

/-- A copy of `len` bytes leaves queue q of destination d: both shapers give LEN + IPG_ADJ bytes. -/
def State.chargeShapers (s : State) (d q len : Nat) : State :=
  let n := 80 * (len + s.fld (Reg.VAT_PCFG d) 5 0)
  { s with vat := { s.vat with qBucket := Store.put {} s.vat.qBucket q ((s.qShaper q).take n)
                               pBucket := Store.put {} s.vat.pBucket d ((s.pShaper d).take n) } }

/-! ### Admission of copies (R199, R225) -/

/-- Whether RES passes the dynamic threshold of a queue (R199). -/
def State.thresholdOk (s : State) (q : Nat) : Bool :=
  let a := s.qfld q 0 15 12
  let mn := s.qfld q 0 31 16
  let shared := s.vatFree - s.reserve
  decide (s.res q < mn) || a == 15 || decide (64 * (s.res q - mn) < 2 ^ min a 8 * shared)

/-- The recirculation bucket of a compartment now (R225): RECIRC_SHARE × 25 Gb/s is 250 units per ns for each unit. -/
def State.rcBucketOf (s : State) (n c : Nat) : Bucket :=
  (Store.read {} s.vat.rcBucket (8 * n + c)).refill (250 * s.desc n (1 + c) 100 1) s.time.mono

/-- Whether that bucket holds `len` bytes. -/
def State.rcHolds (s : State) (n c len : Nat) : Bool :=
  decide ((s.rcBucketOf n c).short + 80 * len ≤ max 1 (s.fld (Reg.SLC_VAT_CFG n) 15 0) * 256 * 80)

/-- The reason a copy is refused, if any (R199, R225). -/
def State.admitCheck (s : State) (x : Copy) : Option Reason :=
  let q := if x.dest = 1056 then hostQid x.queue else qidOf x.dest x.queue
  if 1057 < x.dest ∨ (x.dest < 1024 ∧ s.assigned x.dest = false) then some .unassigned
  else if s.isDown x.dest ∧ s.bit (Reg.VAT_PCFG x.dest) 30 = false then some .portDown
  else if s.nodesAvailable x = false then some .ptrFull
  else if 64 * max 1 (s.qfld q 1 31 16) < s.dep q + s.copyCells x then some .qmax
  else if 1024 ≤ x.dest ∧ x.dest < 1056 then
    if s.rcHolds x.slice x.comp (s.copyLen x) ∨ s.res q < s.fld (Reg.SLC_VAT_CFG (x.dest - 1024)) 31 16 then none
    else some .rcircShape
  else if s.thresholdOk q = false then some .qlimit
  else none

/-- Whether a front port's every queue is empty and it is sending nothing (R211). -/
def State.portIdle (s : State) (p : Nat) : Bool :=
  (List.range 20).all (fun q => (s.queue (qidOf p q)).isEmpty) && (Store.read [] s.vat.out p).all (!·.sending)

/-- Whether a copy is sent in cut-through, as it is admitted (R211). -/
def State.cutThrough (s : State) (x : Copy) (f : Frame) : Bool :=
  let plain := match x.kind with
    | .unicast => true
    | .multicast _ _ => true
    | _ => false
  plain && decide (x.dest < 1024) && !s.pail && s.bit (Reg.VAT_PCFG x.dest) 31 && decide (f.inPort < 1024) &&
    decide (s.speed x.dest ≤ s.speed f.inPort) && s.portIdle x.dest && s.pShaperOk x.dest && !s.draining (x.dest / 32)

/-- A notification is admitted, or is not (R288): NOTIFY_SENT, RELEASE_SENT or NOTIFY_DROP of its compartment. A DATA
frame of the partner that is refused is counted in DATA_DROP (R347). -/
def State.noteOutcome (s : State) (x : Copy) (ok : Bool) : State :=
  let s := if x.pairData && !ok then s.count (Reg.PAIR_CNT 11) else s
  match x.note with
  | none => s
  | some rel => s.count (Reg.SLC_FLOW_CNT x.slice x.comp (if ok then (if rel then 9 else 6) else 8))

/-- Admit a copy to its queue, or refuse it under one reason (R199, R200). -/
def State.admitCopy (s : State) (x : Copy) : State × Bool :=
  match s.frame? x.frame with
  | none => (s, false)
  | some f =>
    let q := if x.dest = 1056 then hostQid x.queue else qidOf x.dest x.queue
    match s.admitCheck x with
    | some r =>
      let s := (s.vatDrop r f x.dest x.queue).noteOutcome x false
      (match x.col with
        | some jk => s.teleCount 6 jk.2
        | none => s, false)
    | none =>
      let isRc := decide (1024 ≤ x.dest ∧ x.dest < 1056)
      let s1 := if isRc && s.rcHolds x.slice x.comp (s.copyLen x) then
          let b := (s.rcBucketOf x.slice x.comp).take (80 * s.copyLen x)
          { s with vat := { s.vat with rcBucket := Store.put {} s.vat.rcBucket (8 * x.slice + x.comp) b } }
        else s
      let s1 := s1.noteOutcome x true
      ((s1.setFrame x.frame { f with refcnt := f.refcnt + 1 }).setQueue q
        (s.queue q ++ [{ x with enq := s.time.mono, ct := s.cutThrough x f }]), true)

/-! ### Readiness and the schedulers (R204, R223) -/

/-- Whether a copy is ready at its queue's head (R204). -/
def State.copyReady (s : State) (x : Copy) : Bool :=
  match s.frame? x.frame with
  | none => false
  | some f =>
    match f.spill with
    | some _ =>
      let need := match ctThreshold (s.fld (Reg.PORT_CT x.dest) 2 0) with
        | some b => min (b / 256) f.charged
        | none => f.charged
      match f.back with
      | some k => decide (need ≤ k)
      | none => false
    | none =>
      !f.isOpen || (x.ct && match ctThreshold (s.fld (Reg.PORT_CT x.dest) 2 0) with
        | some b => decide (b ≤ f.bytes.length)
        | none => false)

/-- Whether a copy at a queue's head is discarded there (R205, R220, R227), with its reason. -/
def State.headDiscard (s : State) (x : Copy) : Option Reason :=
  match s.frame? x.frame with
  | none => none
  | some f =>
    if f.skimErr then some .skimErr
    else if (f.err && !f.isOpen) || f.dropped then some .errFrame
    else if (decide (x.dest < 1024) || x.dest == 1057) && s.isDown x.dest && !s.bit (Reg.VAT_PCFG x.dest) 30 then
      some .portDown
    else none

/-- The QIDs of a destination. -/
def destQids (d : Nat) : List Nat :=
  if d = 1056 then (List.range 256).map hostQid else (List.range 20).map (qidOf d)

/-- Whether a queue is eligible (R223): its head is ready and not to be discarded, and its shaper holds tokens. -/
def State.eligible (s : State) (q : Nat) : Bool :=
  match s.queue q with
  | [] => false
  | x :: _ => s.copyReady x && (s.headDiscard x).isNone && s.qShaperOk q

/-- Deficit round robin from the front of a list of queues: each visit adds a queue's weight, until one's head fits.
DEDUCED, log entry 45. -/
def State.drr (s : State) : Nat → List Nat → Store Nat → Option (Nat × Store Nat)
  | 0, _, _ => none
  | _ + 1, [], _ => none
  | k + 1, q :: r, d =>
    let have' := Store.read 0 d q + max 1 (s.qfld q 0 7 0) * 256
    let len := ((s.queue q).head?.map s.copyLen).getD 0
    if len ≤ have' then some (q, Store.set d q (have' - len)) else s.drr k (r ++ [q]) (Store.set d q have')

/-- The queue a destination serves next among those `ok` allows, with the deficits after it: the highest PRIO, and
within it the queue being served while its deficit lasts, else deficit round robin from the one after it (R223).
DEDUCED, log entry 45. -/
def State.pick (s : State) (d : Nat) (ok : Nat → Bool) : Option (Nat × Store Nat) :=
  let el := (destQids d).filter fun q => s.eligible q && ok q
  let top := (el.map fun q => s.qfld q 0 11 9).foldl max 0
  let el := el.filter fun q => s.qfld q 0 11 9 == top
  let len := fun q => ((s.queue q).head?.map s.copyLen).getD 0
  match Store.at? s.vat.lastServed d with
  | some q0 =>
    let df := Store.read 0 s.vat.deficit q0
    if el.contains q0 && decide (len q0 ≤ df) then some (q0, Store.set s.vat.deficit q0 (df - len q0))
    else s.drr (70 * (el.length + 1)) (el.filter (q0 < ·) ++ el.filter (· ≤ q0)) s.vat.deficit
  | none => s.drr (70 * (el.length + 1)) el s.vat.deficit

/-- The head copy leaves queue q of destination d: depth and delay noted, shapers charged, deficits kept (a queue that
empties has none). -/
def State.popQueue (s : State) (d q : Nat) (df : Store Nat) : Option (Copy × State) :=
  match s.queue q with
  | [] => none
  | x :: r =>
    let x := { x with qdepth := s.dep q, qdelay := min (2 ^ 32 - 1) (s.time.mono - x.enq) }
    let s1 := (s.setQueue q r).chargeShapers d q (s.copyLen x)
    let df := if r.isEmpty then Store.del df q else df
    some (x, { s1 with vat := { s1.vat with deficit := df, lastServed := Store.set s1.vat.lastServed d q } })

end Sys2Proof.Machine
end

