-- ==== Sys2Proof/Machine/PipeOps.lean ====
section
/-!
DEFINITION. PipeOps.lean: frames inside the pipes: their contexts, the end of a pass, and the epochs in flight.
-/

namespace Sys2Proof.Machine

/-- A frame in a pipe. -/
def State.ctx? (s : State) (c : Nat) : Option Ctx := Store.at? s.ctxs c

/-- The state with a context replaced. -/
def State.setCtx (s : State) (c : Nat) (x : Ctx) : State := { s with ctxs := Store.set s.ctxs c x }

/-- The state without a context. -/
def State.delCtx (s : State) (c : Nat) : State := { s with ctxs := Store.del s.ctxs c }

/-- A frame enters a pipe. DESIGN CHOICE, log entry 55. -/
def State.addCtx (s : State) (x : Ctx) : State :=
  { s with ctxs := Store.set s.ctxs s.nextCtx { x with order := s.nextCtx, since := s.time.mono }, nextCtx := s.nextCtx + 1 }

/-- A frame's ingress pass ends with no copy made: its cells are released (R201) and its decision counts as resolved. -/
def State.noCopies (s : State) (f : Nat) : State := (s.dropCells f).resolved f

/-- A frame is dropped in its pipe (R59, R142, R79): in ingress it makes no copy, in egress its copy finishes. -/
def State.dropCtx (s : State) (c : Nat) : State :=
  match s.ctx? c with
  | none => s
  | some x =>
    let s1 := s.delCtx c
    if x.pipe = 0 then s1.noCopies x.frame else s1.unref x.frame

/-- The contexts of slice n's pipes. -/
def State.ctxsOf (s : State) (n : Nat) : List Nat := (s.ctxs.filter fun e => e.2.slice == n).map (·.1)

/-- Frames inside slice n's pipes are discarded, each counted in `ctr`. -/
def State.discardPipes (s : State) (n ctr : Nat) : State :=
  (s.ctxsOf n).foldl (fun t c => (t.dropCtx c).count ctr) s

/-- The recirculation queues of slice n. -/
def State.recircQueued (s : State) (n : Nat) : List Copy := (destQids (1024 + n)).flatMap s.queue

/-- The ingress epoch tag of a copy's frame. -/
def State.copyEpoch (s : State) (x : Copy) : Nat := ((s.frame? x.frame).map (·.epoch)).getD 0

/-- Frames of an epoch on slice n's recirculation path: in its egress pipe toward port 1024 + n, waiting to be stored
again, or stored and waiting for admission. -/
def State.onRecircPath (s : State) (n e : Nat) : Nat :=
  (s.ctxs.countP fun x => match x.2.copy with
    | some cp => x.2.slice == n && cp.dest == 1024 + n && s.copyEpoch cp == e
    | none => false) +
  (Store.read [] s.vat.toStore (1024 + n)).countP (fun f => f.epoch == e) +
  s.vat.frames.countP fun x => x.2.inPort == 1024 + n && x.2.waiting && x.2.epoch == e

/-- Frames of an epoch in one of slice n's pipes. -/
def State.inPipe (s : State) (n pipe e : Nat) : Nat :=
  s.ctxs.countP fun x => x.2.slice == n && x.2.pipe == pipe && x.2.epoch == e

/-- The ingress in-flight count of an epoch (R75). -/
def State.inflIng (s : State) (n e : Nat) : Nat :=
  s.inPipe n 0 e + s.onRecircPath n e + (s.recircQueued n).countP fun x => s.copyEpoch x == e

/-- The egress in-flight count of an epoch (R75). -/
def State.inflEg (s : State) (n e : Nat) : Nat := s.inPipe n 1 e

/-- Whether an epoch of slice n is marked dead (R77). -/
def State.isDead (s : State) (n e : Nat) : Bool := (s.slice n).dead.contains e

end Sys2Proof.Machine
end

