-- ==== Sys2Proof/Machine/TxOps.lean ====
section
/-!
DEFINITION. TxOps.lean: a copy on its way out of the part: its bytes (R106, R126, R240), PTP and IOAM stamping (R302 to
R306), and its end (R237).
-/

namespace Sys2Proof.Machine

/-! ### The bytes of a copy -/

/-- The bytes of a piece of an emitted frame. -/
def Piece.bytes (d : List Byte) : Piece → List Byte
  | .lit b => b
  | .data off len => (d.drop off).take len
  | .rest off => d.drop off

/-- The frame data held so far, without the FCS of a closed frame. -/
def Frame.data (f : Frame) : List Byte := if f.isOpen then f.bytes else dataOf f.bytes

/-- A copy's frame data before the port's tag operation: what the deparser emits, or the frame's own, truncated. -/
def Copy.data (x : Copy) (f : Frame) : List Byte :=
  match x.emitted with
  | some ps => padTo60 (ps.flatMap (Piece.bytes f.data))
  | none =>
    match x.trunc with
    | some k => f.data.take k
    | none => f.data

/-- A copy's frame data after EG_OP, before padding (R240). -/
def State.tagged (s : State) (p : Nat) (x : Copy) (f : Frame) : List Byte :=
  if x.emitted.isSome then
    tagOut (s.fld (Reg.PORT_TAG p) 29 28) (s.fld (Reg.PORT_TAG p) 15 0)
      (if s.bit (Reg.PORT_TAG p) 26 then 0x88A8 else 0x8100) (s.fld (Reg.PORT_TCI p) 15 0) (x.data f)
  else x.data f

/-! ### IEEE 1588 (R301 to R303) -/

/-- Where a PTP event message begins in frame data and where its UDP checksum lies, if it is one (Table 10.1).
PRESUMED, log entry 51. -/
def ptpAt (alt : Nat) (l : List Byte) : Option (Nat × Option Nat) :=
  let o := 14 + 4 * tagCount alt l
  let ev := fun (m : Nat) => decide (m + 44 ≤ l.length) && decide (beAt l m 1 % 16 ≤ 3) && beAt l (m + 1) 1 % 16 == 2
  match etherType alt l with
  | 0x88F7 => if ev o then some (o, none) else none
  | 0x0800 =>
    if beAt l o 1 = 0x45 ∧ beAt l (o + 6) 2 % 16384 = 0 ∧ beAt l (o + 9) 1 = 17 ∧ beAt l (o + 22) 2 = 319 ∧ ev (o + 28)
    then some (o + 28, some (o + 26)) else none
  | 0x86DD =>
    if beAt l (o + 6) 1 = 17 ∧ beAt l (o + 42) 2 = 319 ∧ ev (o + 48) then some (o + 48, some (o + 46)) else none
  | _ => none

/-- Bytes replaced in frame data, with a non-zero UDP checksum updated incrementally (R302). -/
def patchUdp (l : List Byte) (off : Nat) (new : List Byte) (sum : Option Nat) : List Byte :=
  let l' := overlay l off new
  match sum with
  | none => l'
  | some c =>
    let hc := beAt l c 2
    if hc = 0 then l'
    else
      let v := 65535 - onesSum ((65535 - hc) :: (words16 (bytesAt l off new.length)).map (65535 - ·) ++ words16 new)
      overlay l' c (toBE 2 (if v = 0 then 65535 else v))

/-- The residence time added to correctionField, saturating (R302). -/
def addCorrection (v : Nat) (d : Int) : Nat :=
  let r := max (-2 ^ 63) (min (2 ^ 63 - 1) (signed 64 v + d))
  (r % 2 ^ 64).toNat

/-- R302: a PTP event message is stamped with the departure CLOCK and corrected by its residence time.
PRESUMED, log entry 51. -/
def State.ptpStamp (s : State) (p : Nat) (f : Frame) (clk mono : Nat) (l : List Byte) : List Byte :=
  if s.bit (Reg.PORT_TEL0 p) 31 = false then l
  else
    match ptpAt (s.fld (Reg.PORT_TAG p) 15 0) l with
    | none => l
    | some (m, sum) =>
      let sec := clk / 10 ^ 21 % 2 ^ 48
      let ns := clk / 10 ^ 12 % 10 ^ 9
      let l := if s.bit (Reg.PORT_TEL0 p) 30 ∧ beAt l m 1 % 16 = 0 ∧ (beAt l (m + 6) 1).testBit 1 = false then
          patchUdp l (m + 34) (toBE 6 sec ++ toBE 4 ns) sum
        else l
      if s.bit (Reg.PORT_TEL0 p) 29 ∧ f.orig < 1024 then
        patchUdp l (m + 8) (toBE 8 (addCorrection (beAt l (m + 8) 8) (s.residence (mono - f.arrived)))) sum
      else l

/-! ### In-band telemetry (R304 to R306) -/

/-- The base of namespace entry i. -/
def nsBase (i : Nat) : Nat := 0x5001000 + 0x20 * i

/-- The valid namespace entry of a Namespace-ID, if any. -/
def State.namespaceOf (s : State) (id : Nat) : Option Nat :=
  (List.range 4).find? fun i => s.winLE (nsBase i) 0 1 % 2 == 1 && s.winLE (nsBase i) 2 2 == id

/-- The Hop-by-Hop option at or after `p` that R305 stamps, below `stop`: its offset and its namespace entry. -/
def State.ioamOption (s : State) (l : List Byte) (stop : Nat) : Nat → Nat → Option (Nat × Nat)
  | 0, _ => none
  | k + 1, p =>
    if stop ≤ p then none
    else if beAt l p 1 = 0 then s.ioamOption l stop k (p + 1)
    else
      let n := beAt l (p + 1) 1
      match (if beAt l p 1 = 0x31 ∧ beAt l (p + 3) 1 = 0 then s.namespaceOf (beAt l (p + 4) 2) else none) with
      | some i => if p + 2 + n ≤ 512 ∧ p + 2 + n ≤ l.length then some (p, i) else none
      | none => s.ioamOption l stop k (p + 2 + n)

/-- Whether bit i of a Trace-Type is set, bit 0 first. -/
def traceBit (t i : Nat) : Bool := t.testBit (23 - i)

/-- The length of a node's data in units of 4 bytes (Table 10.2). -/
def nodeLen (t : Nat) : Nat :=
  ((List.range 12).map fun i => if traceBit t i then (if i = 8 ∨ i = 9 ∨ i = 10 then 2 else 1) else 0).sum

/-- Field i of a node's data (Table 10.2). -/
def State.traceField (s : State) (ns : Nat) (x : Copy) (f : Frame) (hop clk d : Nat) (i : Nat) : List Byte :=
  match i with
  | 0 => toBE 1 hop ++ toBE 3 (s.winLE (nsBase ns) 4 3)
  | 1 => toBE 2 f.orig ++ toBE 2 x.dest
  | 2 => toBE 4 (clk / 10 ^ 21)
  | 3 => toBE 4 (clk / 10 ^ 12 % 10 ^ 9)
  | 4 => toBE 4 (if d < 2 ^ 31 then d else 2 ^ 31 + d % 2 ^ 31)
  | 5 => toBE 4 (s.winLE (nsBase ns) 12 4)
  | 6 => toBE 4 x.qdepth
  | 8 => toBE 1 hop ++ toBE 7 (s.winLE (nsBase ns) 4 7)
  | 9 => toBE 4 f.orig ++ toBE 4 x.dest
  | 10 => toBE 8 (s.winLE (nsBase ns) 16 8)
  | 11 => toBE 4 (1572864 - s.vatFree)
  | _ => toBE 4 0xFFFFFFFF

/-- R305, R306: a copy that has passed an egress pipe is stamped; the event it counts under TELE_CNTk, if any.
PRESUMED, log entry 51. -/
def State.ioamStamp (s : State) (p : Nat) (x : Copy) (f : Frame) (clk mono : Nat) (l : List Byte) :
    List Byte × Option Nat :=
  let alt := s.fld (Reg.PORT_TAG p) 15 0
  let o := 14 + 4 * tagCount alt l
  if s.bit (Reg.PORT_TEL0 p) 27 = false ∨ x.emitted.isNone ∨ etherType alt l ≠ 0x86DD ∨ beAt l (o + 6) 1 ≠ 0 then (l, none)
  else
    match s.ioamOption l (o + 40 + 8 * (beAt l (o + 41) 1 + 1)) 512 (o + 42) with
    | none => (l, none)
    | some (q, ns) =>
      let h := beAt l (q + 6) 2
      let t := beAt l (q + 8) 3
      let rem := h % 128
      if bitsOf t 11 1 ≠ 0 then (l, some 3)
      else if bitsOf h 15 11 ≠ nodeLen t then (l, some 2)
      else if rem < nodeLen t then (overlay l (q + 6) (toBE 2 (h ||| 1024)), some 1)
      else
        let d := ((List.range 12).filter (traceBit t ·)).flatMap
          (s.traceField ns x f (beAt l (o + 7) 1) clk (mono - f.arrived))
        (overlay (overlay l (q + 12 + 4 * (rem - nodeLen t)) d) (q + 6) (toBE 2 (h - nodeLen t)), some 0)

/-! ### The frame on the wire -/

/-- The wire bytes of a copy whose frame has closed, with the telemetry event of its stamping and whether it was padded
after a tag removal. -/
def State.wire (s : State) (p : Nat) (x : Copy) (f : Frame) : List Byte × Option Nat × Bool :=
  if x.emitted.isSome then
    let l0 := s.tagged p x f
    let l := padTo60 l0
    let (l, ev) := s.ioamStamp p x f (s.port p).txClk (s.port p).txMono l
    (withFcs (s.ptpStamp p f (s.port p).txClk (s.port p).txMono l), ev, decide (l0.length < 60))
  else
    match x.trunc with
    | some k => (withFcs (f.data.take k), none, false)
    | none => (f.bytes, none, false)

/-- MAXLEN of a port as it acts (PORT_CTL). -/
def State.maxlen (s : State) (p : Nat) : Nat := max 64 (min 16384 (s.fld (Reg.PORT_CTL p) 14 0))

/-- The state with a copy taken off a destination's output list. -/
def State.dropOut (s : State) (d : Nat) (x : Copy) : State :=
  { s with vat := { s.vat with out := Store.put [] s.vat.out d ((Store.read [] s.vat.out d).erase x) } }

/-- R237: a copy in transmission is ended: the bytes committed, at least `lo` and at most `hi` of those there are, then
the inverse of their FCS; it is counted under port event `ctr` and finishes (R209). DESIGN CHOICE, log entry 52. -/
def State.endCopy (s : State) (p : Nat) (x : Copy) (lo hi ctr : Nat) : State :=
  match s.frame? x.frame with
  | none => s.dropOut p x
  | some f =>
    let l := ((s.wire p x f).1).take hi
    let n := lo + Config.freeNat s.fresh % (l.length - lo + 1)
    let sent := l.take n
    let bad := sent ++ (fcsOf sent).map (~~~ ·)
    ((({ s with fresh := s.fresh + 1 }.dropOut p x).emit (.frame p bad true)).portCount p ctr).unref x.frame

/-- The copies a port is sending are ended (R247, R248). -/
def State.endSending (s : State) (p ctr : Nat) : State :=
  ((Store.read [] s.vat.out p).filter (·.sending)).foldl (fun t x => t.endCopy p x 0 16384 ctr) s

/-- The copies in transmission of a frame that has closed as errored, or lost its cells, are ended (R193, R237). -/
def State.abortCopies (s : State) (f : Nat) : State :=
  s.vat.out.foldl (fun t e => (e.2.filter fun x => x.sending && x.frame == f && decide (e.1 < 1024)).foldl
    (fun u x => u.endCopy e.1 x 0 16384 9) t) s

/-- A frame is closed as errored (R212, R236): one that has not entered a pipe never will; copies in transmission are
ended. -/
def State.closeErr (s : State) (f : Nat) : State :=
  match s.frame? f with
  | none => s
  | some x =>
    let s := if x.waiting then s.setFrame f { x with waiting := false, resolved := true } else s
    (s.closeFrame f true).abortCopies f

end Sys2Proof.Machine
end

