-- ==== Sys2Proof/Machine/Rx.lean ====
section
/-!
DEFINITION. Rx.lean: frames on their way into the vat (R193, R195, R213, R232 to R239).
-/

namespace Sys2Proof.Machine

/-- The compartment that lists front port 32n + i (R52). -/
def State.ownerOf (s : State) (n i : Nat) : Option Nat :=
  (List.range 8).find? fun c => s.compValid n c && (s.desc n (1 + c) 8 4).testBit i

/-- The descriptor of a frame whose first byte port p receives now. -/
def State.portFrame (s : State) (p : Nat) : Frame :=
  let n := p / 32
  let clk := clkAdd s.time.clk (signed 8 (s.fld (Reg.PORT_TEL0 p) 15 8))
  { slice := n, comp := (s.ownerOf n (p % 32)).getD 0, owned := (s.ownerOf n (p % 32)).isSome, inPort := p, orig := p,
    stream := p % 32 / 8, tsSec := clk / 10 ^ 21 % 2 ^ 48, tsNs := clk / 10 ^ 12 % 10 ^ 9, arrived := s.time.mono,
    waiting := true, seq := s.vat.nextSeq }

/-- The next place in the order of frames at the streams' inputs is taken. -/
def State.bumpSeq (s : State) : State := { s with vat := { s.vat with nextSeq := s.vat.nextSeq + 1 } }

/-- A native frame takes its descriptor and first cell with its first bytes, or is dropped (R193). -/
def State.newFrame (s : State) (f : Frame) (l : List Byte) : State × Option Nat :=
  match s.cellCheck f.owned f.slice f.comp true, s.freeDesc, s.freeCell with
  | none, some d, some a =>
    (((s.bumpSeq.setFrame d { f with cells := [a], charged := 1 }).setLink a 0xC0000000).storeBytes d l, some d)
  | r, _, _ => (s.vatDrop (r.getD .nocell) f 0xFFFF 0xFF, none)

/-- A staged frame takes its block at its last byte, or is dropped (R195). -/
def State.newBlock (s : State) (f : Frame) (l : List Byte) : State × Option Nat :=
  match s.blockCheck f.owned f.slice f.comp l.length, s.freeDesc with
  | none, some d =>
    ((s.bumpSeq.setFrame d { f with bytes := l, pool := 6, lastByte := s.time.mono }).allocBlock d, some d)
  | r, _ => (s.vatDrop (r.getD .descFull) { f with bytes := l } 0xFFFF 0xFF, none)

/-! ### Front ports -/

/-- What a port stores of the bytes received so far: IN_OP applied, at most 16,384 bytes (R238, R239). -/
def State.portStored (s : State) (p : Nat) (raw : List Byte) : List Byte :=
  tagIn (s.fld (Reg.PORT_TAG p) 31 30) (s.fld (Reg.PORT_TAG p) 15 0)
    (if s.bit (Reg.PORT_TAG p) 27 then 0x88A8 else 0x8100) (s.fld (Reg.PORT_TCI p) 31 16) raw

/-- The frame a port receives closes as errored in the vat, if it is there. -/
def State.rxErr (s : State) (x : Rx) : State :=
  match x.desc with
  | some d => s.closeErr d
  | none => s

/-- A frame that has lost its cells ends its copies in transmission (R193). -/
def State.abortDropped (s : State) (d : Nat) : State :=
  match s.frame? d with
  | some f => if f.dropped then s.abortCopies d else s
  | none => s

/-- R235: byte MAXLEN + 1 arrives. -/
def State.rxOversize (s : State) (p : Nat) (x : Rx) : State :=
  ((s.rxErr x).portCount p 1).setPort p { s.port p with rx := some { x with discard := true, tagLen := false } }

/-- More bytes of the frame a port receives: stored up to MAXLEN (R235) and 16,384 stored bytes (R239). -/
def State.rxMore (s : State) (p : Nat) (bytes : List Byte) : State :=
  match (s.port p).rx with
  | none => s
  | some x =>
    let x := { x with raw := (x.raw ++ bytes).take (x.maxlen + 1), last := s.time.mono }
    let s := s.setPort p { s.port p with rx := some x }
    if x.discard && !x.tagLen then s
    else if x.maxlen < x.raw.length then s.rxOversize p x
    else if x.discard then s
    else
      let l := s.portStored p x.raw
      let s := match x.desc with
        | some d => (s.storeBytes d (l.take 16384)).abortDropped d
        | none => s
      if 16384 < l.length then
        (s.rxErr x).setPort p { s.port p with rx := some { x with discard := true, tagLen := true } }
      else s

/-- The first applicable reason of R236 for a frame that has ended, as its counter of Table 07.9.
DEDUCED, log entry 47. -/
def rxReason (alt : Nat) (x : Rx) (bad : Bool) : Option Nat :=
  if bad then some 3
  else if x.raw.length < 64 then some 0
  else if tailOf x.raw ≠ fcsOf (dataOf x.raw) then some 2
  else if etherType alt x.raw = 0x8808 then some 5
  else if x.tagLen then some 6
  else none

/-- A good frame ends at its port (R234, R238, R239): stored whole, closed and counted. -/
def State.rxGood (s : State) (p : Nat) (x : Rx) : State :=
  let op := s.fld (Reg.PORT_TAG p) 31 30
  let d := s.portStored p (dataOf x.raw)
  let s := if op ≠ 0 ∧ d.length < 60 then s.portCount p 15 else s
  let l := if op = 0 then x.raw else withFcs (padTo60 d)
  let s := (s.countWide (Reg.PORT_GOOD p 0) (Reg.PORT_GOOD_HI p 0) 1).countWide (Reg.PORT_GOOD p 1) (Reg.PORT_GOOD_HI p 1)
    x.raw.length
  match x.desc with
  | some k => ((s.storeBytes k l).closeFrame k false).abortDropped k
  | none =>
    if s.pail then
      match s.newBlock (s.portFrame p) l with
      | (s1, some k) => s1.closeFrame k false
      | (s1, none) => s1
    else s

/-- A frame starts on a front port, answered by the port's state (Table 07.5). -/
def State.rxStart (s : State) (p : Nat) (bytes : List Byte) : State :=
  if (s.port p).rx.isSome || !s.assigned p || !s.domOn (4 * (p / 32) + 2) then s
  else
    match s.portState p with
    | 2 =>
      let x : Rx := { maxlen := s.maxlen p, last := s.time.mono }
      if s.pail then (s.setPort p { s.port p with rx := some x }).rxMore p bytes
      else
        let (s1, d) := s.newFrame (s.portFrame p) []
        (s1.setPort p { s1.port p with rx := some { x with desc := d } }).rxMore p bytes
    | 3 => s.portCount p 7
    | 4 => s.count (Reg.SLC_DRAIN_DROP (p / 32))
    | _ => s

/-- A frame ends on a front port (R236). -/
def State.rxEnd (s : State) (p : Nat) (bytes : List Byte) (bad : Bool) : State :=
  let s := s.rxMore p bytes
  match (s.port p).rx with
  | none => s
  | some x =>
    let s := s.setPort p { s.port p with rx := none }
    if x.discard && !x.tagLen then s
    else
      match rxReason (s.fld (Reg.PORT_TAG p) 15 0) x bad with
      | some k => (s.rxErr x).portCount p k
      | none => s.rxGood p x

/-- The partial frame a port receives is closed (R245). -/
def State.rxTrunc (s : State) (p : Nat) : State :=
  match (s.port p).rx with
  | none => s
  | some x =>
    let s := s.setPort p { s.port p with rx := none }
    if x.discard && !x.tagLen then s else (s.rxErr x).portCount p 4

/-! ### Internal sources -/

/-- The key of an internal source (`Vat.toStore`). -/
def srcKey : RxSource → Nat
  | .port p => p.val
  | .recirc n => 1024 + n.val
  | .host => 1056
  | .made => 2048

/-- The frame at the front of an internal source, taken off it. -/
def State.takeStored (s : State) (k : Nat) : Option (Frame × State) :=
  match Store.read [] s.vat.toStore k with
  | [] => none
  | f :: r =>
    let f := if f.hostQp.isSome then
        { f with tsSec := s.clkSec, tsNs := s.clkNs, arrived := s.time.mono }
      else f
    some ({ f with seq := s.vat.nextSeq }, { s with vat := { s.vat with toStore := Store.put [] s.vat.toStore k r } })

/-- A collector frame that is not stored has its records counted in PC_DROP (R310), a notification NOTIFY_DROP (R288). -/
def State.lostRecords (s : State) (f : Frame) : State :=
  match f.after with
  | some x =>
    let s := s.noteOutcome x false
    match x.col with
    | some c => s.teleCount 6 c.2
    | none => s
  | none => s

/-- A frame of an internal source begins to be stored; it fails at once as R193 gives. -/
def State.storeStart (s : State) (k : Nat) : State :=
  if s.pail || (Store.at? s.vat.storing k).isSome then s
  else
    match s.takeStored k with
    | none => s
    | some (f, s1) =>
      match s1.newFrame { f with rest := f.rest.drop 256 } (f.rest.take 256) with
      | (s2, some d) => { s2 with vat := { s2.vat with storing := Store.set s2.vat.storing k d } }
      | (s2, none) => (s2.injected f 4).lostRecords f

/-- Up to `m` more bytes of it are stored. -/
def State.storeMore (s : State) (k m : Nat) : State :=
  match Store.at? s.vat.storing k with
  | none => s
  | some d =>
    match s.frame? d with
    | none => s
    | some f => (s.setFrame d { f with rest := f.rest.drop m }).storeBytes d (f.bytes ++ f.rest.take m)

/-- An internal frame is stored whole: its one copy is admitted (R125, R310), or it waits at its stream's return side
(R82). -/
def State.storedWhole (s : State) (d : Nat) (f : Frame) : State :=
  let s := (s.closeFrame d false).injected f (if f.dropped then 4 else 0)
  if f.dropped then (s.lostRecords f).resolved d
  else
    match f.after with
    | none => s.setFrame d { f with isOpen := false, waiting := true, ret := true, rest := [] }
    | some x =>
      let (s1, ok) := s.admitCopy { x with frame := d }
      if ok then s1.resolved d else s1.noCopies d

/-- The last byte of an internal source's frame is stored. -/
def State.storeEnd (s : State) (k : Nat) : State :=
  if s.pail then
    match s.takeStored k with
    | none => s
    | some (f, s1) =>
      match s1.newBlock { f with rest := [] } f.rest with
      | (s2, some d) => s2.storedWhole d ((s2.frame? d).getD f)
      | (s2, none) => (s2.injected f 4).lostRecords f
  else
    let s := s.storeMore k 16384
    match Store.at? s.vat.storing k with
    | none => s
    | some d =>
      let s := { s with vat := { s.vat with storing := Store.del s.vat.storing k } }
      match s.frame? d with
      | none => s
      | some f => s.storedWhole d f

/-! ### Commands -/

/-- R193: a frame's first byte reaches the vat. An internal source's bytes are its waiting frame's own. -/
def execRxFrameStart (src : RxSource) (bytes : List Byte) (s : State) : Out :=
  match src with
  | .port p => .next (s.rxStart p bytes)
  | x => .next (s.storeStart (srcKey x))

/-- R193: a frame still arriving fills its cell and takes the next. -/
def execRxLaterCell (src : RxSource) (bytes : List Byte) (s : State) : Out :=
  match src with
  | .port p => .next (s.rxMore p bytes)
  | x => .next (s.storeMore (srcKey x) 256)

/-- R236: a frame ends with its last bytes, good or errored; `bad` for a bad code, preamble or SFD (R232). -/
def execRxFrameEnd (src : RxSource) (bytes : List Byte) (bad : Bool) (s : State) : Out :=
  match src with
  | .port p => .next (s.rxEnd p bytes bad)
  | x => .next (s.storeEnd (srcKey x))

/-- R235: byte MAXLEN + 1 of the frame a port receives arrives. -/
def execRxOversize (p : Fin 1024) (s : State) : Out :=
  match (s.port p).rx with
  | some x => .next (if (x.discard && !x.tagLen) || decide (x.raw.length < x.maxlen) then s else s.rxOversize p x)
  | none => .next s

/-- A port that was receiving frame f receives none: bytes that arrive later begin a new frame (R213). -/
def Port.forget (f : Nat) (e : Nat × Port) : Nat × Port :=
  match e.2.rx with
  | some r => if r.desc = some f then (e.1, { e.2 with rx := none }) else e
  | none => e

/-- R213: REASM_TMO µs after its last byte an open frame is closed as errored and counted. Descriptor 2,097,152 + p is
port p's staging, which is freed. DESIGN CHOICE, log entry 55. -/
def execReasmTimeout (f : Nat) (s : State) : Out :=
  let tmo := us (max 1 (s.fld Reg.VAT_CTL 15 0))
  if 2097152 ≤ f then
    let p := f - 2097152
    match (s.port p).rx with
    | some x =>
      .next (if s.pail && decide (x.last + tmo ≤ s.time.mono) then
          (s.setPort p { s.port p with rx := none }).vatDrop .reasmTmo (s.portFrame p) 0xFFFF 0xFF
        else s)
    | none => .next s
  else
    match s.frame? f with
    | none => .next s
    | some x =>
      if x.isOpen && decide (x.lastByte + tmo ≤ s.time.mono) then
        let s := { s with ports := s.ports.map (Port.forget f)
                          vat := { s.vat with storing := s.vat.storing.filter fun e => e.2 != f } }
        let s := s.vatDrop .reasmTmo x 0xFFFF 0xFF
        .next (((s.lostRecords x).injected x 4).closeErr f)
      else .next s

end Sys2Proof.Machine
end

