-- ==== Sys2Proof/Machine/Loader.lean ====
section
/-!
DEFINITION. Loader.lean: the bitstream loader of a slice (R67 to R71, R441), the bank swap and forced retirement (R72 to
R77), and the drain swap (R78 to R80).
-/

namespace Sys2Proof.Machine

/-! ### Commands (R69) -/

/-- SLC_BS_STAT.STATE. -/
def State.ldState (s : State) (n : Nat) : Nat := s.fld (Reg.SLC_BS_STAT n) 31 28

/-- The loader's state set. -/
def State.setLdState (s : State) (n v : Nat) : State := s.setFld (Reg.SLC_BS_STAT n) 31 28 v

/-- The loader beside its registers. -/
def State.loader (s : State) (n : Nat) : Loader := (s.slice n).loader

/-- The state with a loader replaced. -/
def State.setLoader (s : State) (n : Nat) (l : Loader) : State := s.setSlice n { s.slice n with loader := l }

/-- A command has finished, or was refused: CODE, FRAME and DONE (R68, R69). -/
def State.ldDone (s : State) (n code frame : Nat) : State :=
  ((s.setFld (Reg.SLC_BS_STAT n) 23 16 code).setFld (Reg.SLC_BS_STAT n) 11 0 frame).raiseBit (Reg.SLC_BS_STAT n) 15

/-- A LOAD or VERIFY ends in IDLE; its place is freed and its shadow marked free. -/
def State.ldEnd (s : State) (n code frame : Nat) : State :=
  ((s.setLoader n {}).setLdState n 0).ldDone n code frame

/-- A command is taken: ISSUER names its master, CODE and FRAME start again. -/
def State.ldTake (s : State) (n : Nat) (m : Master) : State :=
  ((s.setFld (Reg.SLC_BS_CMD n) 31 16 m.id).setFld (Reg.SLC_BS_STAT n) 23 16 0).setFld (Reg.SLC_BS_STAT n) 11 0 0xFFF

/-- Whether a master may issue loader commands for slice n (R67). -/
def State.mayLoad (s : State) (m : Master) (n : Nat) : Bool :=
  match m with
  | .vf k => k.val == n && s.bit (Reg.SLC_RIND_CTL n) 23
  | _ => true

/-- Whether a loader state is that of a running command (R69). -/
def ldRunning (st : Nat) : Bool := st == 1 || st == 2 || st == 3 || st == 5 || st == 6

/-- How R69 answers a command: a violation, ignored, refused, or carried out when the present state is one of `valid`. -/
def State.ldCommand (s : State) (m : Master) (n : Nat) (valid : List Nat) (run : State → State) : State :=
  if s.mayLoad m n = false then
    match m with
    | .vf k => s.vfViolation k.val 12 (Reg.SLC_BS_CMD n)
    | _ => s
  else if valid.contains (s.ldState n) then run (s.ldTake n m)
  else if ldRunning (s.ldState n) then s.setBit (Reg.SLC_BS_STAT n) 12 true
  else (s.ldTake n m).ldDone n 0x14 0xFFF

/-- A LOAD or VERIFY begins: STATE is FETCH, waiting for a place (R71); refused when a pipe's domain is off
(Table 02.8, STATE). -/
def State.ldBegin (s : State) (n : Nat) (m : Master) (verify : Bool) : State :=
  if s.domOn (4 * n) && s.domOn (4 * n + 1) then
    let s1 := { s with tickets := s.tickets + 1 }
    ((s1.setLoader n { issuer := m, isVerify := verify, ticket := s.tickets }).setLdState n 1).setBit
      (Reg.SLC_BS_STAT n) 13 false
  else s.ldDone n 0x14 0xFFF

/-- R69: LOAD. -/
def execLoad (m : Master) (n : Fin 32) (s : State) : Out := .next (s.ldCommand m n [0] fun t => t.ldBegin n m false)

/-- R69: VERIFY. -/
def execVerify (m : Master) (n : Fin 32) (s : State) : Out := .next (s.ldCommand m n [0] fun t => t.ldBegin n m true)

/-- R73, R78: SWAP; a drain needs VF_DRAIN of a VF again (Table 02.8, DRAIN). The switch waits for R76. -/
def execSwap (m : Master) (n : Fin 32) (s : State) : Out :=
  .next (s.ldCommand m n [4] fun t =>
    if (t.loader n).drain ∧ m.vf?.isSome ∧ t.bit (Reg.SLC_RIND_CTL n) 22 = false then t.ldDone n 0x13 0xFFF
    else t.setLdState n 5)

/-- R69: DISCARD drops the shadow's contents. -/
def execDiscard (m : Master) (n : Fin 32) (s : State) : Out :=
  .next (s.ldCommand m n [4] fun t => (t.setSlice n ((t.slice n).setShadow {})).ldEnd n 0 0xFFF)

/-- R77: the old epoch is marked dead. -/
def State.markDead (s : State) (n e : Nat) : State :=
  s.setSlice n { s.slice n with dead := NatSet.add (s.slice n).dead e }

/-- R77: FORCE_RETIRE; the command finishes when the old bank is retired. -/
def execForceRetire (m : Master) (n : Fin 32) (s : State) : Out :=
  .next (s.ldCommand m n [7] fun t => t.markDead n (t.fld (Reg.SLC_EPOCH n) 27 24))

/-- R69: ABORT ends a running LOAD or VERIFY with code ABORT. -/
def execAbort (m : Master) (n : Fin 32) (s : State) : Out :=
  .next (s.ldCommand m n [1, 2, 3] fun t => (t.setSlice n ((t.slice n).setShadow {})).ldEnd n 0x15 0xFFF)

/-- R69: a command code not in Table 02.9 is listed for no state. DEDUCED, log entry 15. -/
def execLoaderCmdReserved (m : Master) (n : Fin 32) (_cmd : Fin 16) (s : State) : Out := .next (s.ldCommand m n [] id)

/-! ### A load's steps (Table 02.10) -/

/-- Containers holding one of the 4 places (R71). -/
def State.placesHeld (s : State) : Nat := s.slices.countP fun e => e.2.loader.place

/-- Whether the loader of slice n waits for a place. -/
def State.waitsPlace (s : State) (n : Nat) : Bool := s.ldState n == 1 && !(s.loader n).place

/-- R71, R441: a waiting LOAD or VERIFY takes a place, in the order of the waiting commands, and reads host memory. -/
def execLoadPlaceTaken (n : Fin 32) (s : State) : Out :=
  let l := s.loader n
  if s.waitsPlace n && decide (s.placesHeld < 4) &&
      (List.range 32).all (fun k => !s.waitsPlace k || decide (l.ticket ≤ (s.loader k).ticket)) then
    let addr := (s.reg (Reg.SLC_BS_ADDR_HI n)).toNat * 2 ^ 32 + s.fld (Reg.SLC_BS_ADDR_LO n) 31 2 * 4
    .next ((s.setLoader n { l with place := true, since := s.time.mono }).emit
      (.dmaRead ((hostFn l.issuer).getD 0) addr (s.fld (Reg.SLC_BS_LEN n) 24 0)))
  else .next s

/-- R441, R68: the fetch ends. A failed read ends the command with FETCH; otherwise CRC, header, scope and slot are
checked, the claim check is granted (R57), and the signatures are verified. -/
def execLoadFetchDone (n : Fin 32) (bytes : Option (List Byte)) (s : State) : Out :=
  let l := s.loader n
  let len := s.fld (Reg.SLC_BS_LEN n) 24 0
  if s.ldState n == 1 && l.place then
    match bytes with
    | none => .next (s.ldEnd n 0x01 0xFFF)
    | some b =>
      if b.length ≠ len then .next s
      else
        let ks := leAt b (sigOff b) 1
        let first :=
          if containerCrcOk b = false then 0x02
          else if headerCheck b len ≠ 0 then headerCheck b len
          else if s.scopeOk n l.issuer b = false then 0x06
          else if s.slotValid ks = false ∨ s.bit (Reg.SLC_RIND_CTL n) (17 + ks) = false then 0x07
          else 0
        if first ≠ 0 then .next (s.ldEnd n first 0xFFF)
        else
          let v := s.claimCheck n b
          .next ((s.setLoader n { l with bytes := b, verdict := v, claimPassed := v == 0 && !l.isVerify,
                                         drain := (leAt b 18 2).testBit 1,
                                         scopeDesc := s.descBytes n (scopeIdx b) }).setLdState n 2)
  else .next s

/-- R68: both signatures have been verified, or one has failed; the codes judged with the claim follow them. The place
is freed, and a VERIFY ends here. -/
def execLoadSignaturesDone (n : Fin 32) (s : State) : Out :=
  let l := s.loader n
  if s.ldState n == 2 then
    let sc := s.sigCheck l.bytes
    let code := if sc ≠ 0 then sc else l.verdict
    let s := s.setBit (Reg.SLC_BS_STAT n) 13 (sc == 0)
    if code ≠ 0 ∨ l.isVerify then .next (s.ldEnd n code 0xFFF)
    else .next ((s.setLoader n { l with place := false }).setLdState n 3)
  else .next s

/-- R68, R63, R144: the frame checks and the shadow write end; the shadow's digests are recorded. -/
def execLoadShadowDone (n : Fin 32) (s : State) : Out :=
  let l := s.loader n
  if s.ldState n == 3 then
    match s.buildShadow n l.issuer l.bytes l.scopeDesc with
    | .error e => .next (s.ldEnd n e.1 e.2)
    | .ok bk => .next (((s.setSlice n ((s.slice n).setShadow bk.record)).setLdState n 4).ldDone n 0 0xFFF)
  else .next s

/-! ### The bank swap -/

/-- The value a swap makes current (R73). -/
def State.nextEpoch (s : State) (n : Nat) : Nat := (s.curEpoch n + 1) % 16

/-- Whether the wait of R76 is over: no frame queued for port 1024 + n carries the new value. -/
def State.swapMayGo (s : State) (n : Nat) : Bool :=
  (s.recircQueued n).all fun x => s.copyEpoch x != s.nextEpoch n

/-- The shadow becomes active under the new epoch in both pipes (R73); NOREF clears when its digest was recorded at its
load (R144). -/
def State.switchBanks (s : State) (n : Nat) : State :=
  let e := s.nextEpoch n
  let x := s.slice n
  let x := { x.setShadow { x.shadow with epoch := e } with activeB := !x.activeB, dead := NatSet.drop x.dead e }
  (((s.setSlice n x).setFld (Reg.SLC_EPOCH n) 31 28 e).setBit (Reg.SLC_CS_PROT n) 3 false).setBit
    (Reg.SLC_STG_STAT n) 31 x.activeB

/-- A loaded slice-scope container with DELTA = 0 has been swapped in: image-store records await no more (R338). -/
def State.noteFullSwap (s : State) (n : Nat) : State :=
  let b := (s.loader n).bytes
  if leAt b 15 1 = 1 ∧ ¬(leAt b 18 2).testBit 0 then
    { s with flt := { s.flt with recs := s.flt.recs.map fun e =>
        if e.2.scope == Scope.slice n then (e.1, { e.2 with needLoad := false }) else e } }
  else s

/-- R73: after any wait of R76 the new epoch is current at both admission arbiters; STATE is RETIRING. -/
def execEpochSwitch (n : Fin 32) (s : State) : Out :=
  if s.ldState n == 5 && !(s.loader n).drain && s.swapMayGo n then
    let old := s.curEpoch n
    let s1 := (s.switchBanks n).noteFullSwap n
    .next ((((s1.setLoader n { since := s.time.mono }).setLdState n 7).setFld (Reg.SLC_EPOCH n) 27 24 old).setBit
      (Reg.SLC_EPOCH n) 23 true)
  else .next s

/-- Whether the old epoch's in-flight counts are zero; a dead epoch waits for frames inside a pipe pass only (R75,
R77). -/
def State.retireReady (s : State) (n : Nat) : Bool :=
  let e := s.fld (Reg.SLC_EPOCH n) 27 24
  (if s.isDead n e then s.inPipe n 0 e == 0 else s.inflIng n e == 0) && s.inflEg n e == 0

/-- R75: the old bank is retired; the shadow is free and the loader IDLE. -/
def execBankRetire (n : Fin 32) (s : State) : Out :=
  if s.ldState n == 7 && s.retireReady n then
    .next (((s.setSlice n ((s.slice n).setShadow {})).setBit (Reg.SLC_EPOCH n) 23 false).ldEnd n
      (s.fld (Reg.SLC_BS_STAT n) 23 16) (s.fld (Reg.SLC_BS_STAT n) 11 0))
  else .next s

/-- R77: RETIRE_TMO expires; RETIRE_LATE is set, and AUTO_FORCE forces the retirement. -/
def execRetireTimeout (n : Fin 32) (s : State) : Out :=
  let tmo := max 1 (s.fld (Reg.SLC_EPOCH_CFG n) 31 16)
  if s.ldState n == 7 && decide ((s.loader n).since + us tmo ≤ s.time.mono) then
    let s1 := s.setBit (Reg.SLC_EPOCH n) 22 true
    .next (if s.bit (Reg.SLC_EPOCH_CFG n) 0 then s1.markDead n (s.fld (Reg.SLC_EPOCH n) 27 24) else s1)
  else .next s

/-! ### The drain swap (Table 02.12) -/

/-- Set the state of a slice's ports as a drain begins or ends: UP and DRAIN change into each other (R246). -/
def State.drainPorts (s : State) (n from' to' : Nat) : State :=
  (List.range 32).foldl (fun t i =>
    if t.portState (32 * n + i) = from' then t.setFld (Reg.PORT_STAT (32 * n + i)) 23 20 to' else t) s

/-- R78: step 1, after any wait of R76. -/
def execDrainStart (n : Fin 32) (s : State) : Out :=
  let l := s.loader n
  if s.ldState n == 5 && l.drain && s.swapMayGo n then
    let l1 := { l with phase := .pipes, since := s.time.mono, preEpoch := s.curEpoch n }
    let l2 := { l1 with preNoref := s.bit (Reg.SLC_CS_PROT n) 3 }
    .next (((s.setLoader n l2).setLdState n 6).drainPorts n 2 4)
  else .next s

/-- R78: step 2 ends with both pipes empty. -/
def execDrainPipesDone (n : Fin 32) (s : State) : Out :=
  let l := s.loader n
  if l.phase = .pipes ∧ s.ctxsOf n = [] then .next (s.setLoader n { l with phase := .switching }) else .next s

/-- R79: 80 µs after step 1, the frames still inside the pipes are discarded. -/
def execDrainBoundReached (n : Fin 32) (s : State) : Out :=
  let l := s.loader n
  if l.phase = .pipes ∧ l.since + us 80 ≤ s.time.mono then
    .next ((s.discardPipes n (Reg.SLC_DRAIN_DROP n)).setLoader n { l with phase := .switching })
  else .next s

/-- R78, R79: step 3, the interconnect and the banks are switched and the pre-drain epoch is marked dead. -/
def execDrainSwitchDone (n : Fin 32) (s : State) : Out :=
  let l := s.loader n
  if l.phase = .switching then
    .next (((s.switchBanks n).markDead n l.preEpoch).setLoader n { l with phase := .check })
  else .next s

/-- R78: step 5, admission and dequeue resume and the loader is IDLE; the shadow is free. -/
def State.drainEnd (s : State) (n code : Nat) : State :=
  ((s.setSlice n ((s.slice n).setShadow {})).ldEnd n code 0xFFF).drainPorts n 4 2

/-- The source of a stage of a pipe (Table 11.1). -/
def stageSrc (n pipe stage : Nat) : Nat := srcId (18 + pipe) (n * 64 + stage * 2)

/-- R80: the banks and the epoch of before the drain are restored, and the new epoch is no longer in use. -/
def State.revertBanks (s : State) (n pre : Nat) : State :=
  let x := s.slice n
  let x := { x with activeB := !x.activeB, dead := NatSet.drop x.dead pre }
  (((s.setSlice n x).setFld (Reg.SLC_EPOCH n) 31 28 pre).setBit (Reg.SLC_STG_STAT n) 31 x.activeB).setBit
    (Reg.SLC_CS_PROT n) 3 x.loader.preNoref

/-- R80: the continuity check ends. A pass resumes the slice; a failure restores the previous setting and reports a CONT
fault of the pipe, its record naming the tile that ends the failed path. -/
def execContinuityCheckDone (n : Fin 32) (failed : Option TilePath) (s : State) : Out :=
  let l := s.loader n
  if l.phase = .check then
    match failed with
    | none => .next ((s.noteFullSwap n).drainEnd n 0)
    | some t =>
      let s1 := ((s.revertBanks n l.preEpoch).setLoader n { l with phase := .revert, claimPassed := false })
      let (w, s2) := s1.drawWord
      .next (s2.reportFault (stageSrc n t.pipe.val (min t.stage 31)) .cont
        (if t.action then .actionTile else .matchTile) (t.action.toNat + 256 * t.tile) w.toNat)
  else .next s

/-- R80: the restored interconnect has been checked; the slice resumes with CODE SELFCHECK. -/
def execRevertCheckDone (n : Fin 32) (s : State) : Out :=
  if (s.loader n).phase = .revert then .next (s.drainEnd n 0x16) else .next s

end Sys2Proof.Machine
end

