-- ==== Sys2Proof/Machine/StageOps.lean ====
section
/-!
DEFINITION. StageOps.lean: a frame in a stage: metadata and response file, keys and stage tables (R118 to R123),
dispatch and fetch (R129, R130, R135, R142), and the operations of Table 04.7 (R128).
-/

namespace Sys2Proof.Machine

/-! ### Metadata and the response file -/

/-- `n` bytes of metadata from `off`, 0 beyond offset 255 (R120). -/
def Ctx.mdBytes (x : Ctx) (off n : Nat) : List Byte :=
  (List.range n).map fun i => if off + i < 256 then Store.read 0 x.md (off + i) else 0

/-- A big-endian metadata field (R85). -/
def Ctx.mdBE (x : Ctx) (off n : Nat) : Nat := beNat (x.mdBytes off n)

/-- A byte of metadata as a number. -/
def Ctx.mdByte (x : Ctx) (off : Nat) : Nat := x.mdBE off 1

/-- Bytes written into the metadata by the part itself. -/
def Ctx.putMd (x : Ctx) (off : Nat) (l : List Byte) : Ctx := { x with md := putBytes x.md off (l.take (256 - off)) }

/-- Bytes of a microword's result: bytes 0 to 63 are not written, nor bytes beyond 255 (R123). -/
def Ctx.writeMd (x : Ctx) (off : Nat) (l : List Byte) : Ctx :=
  x.putMd (max off 64) (l.drop (64 - off))

/-- `n` bytes of the response file from `off`, 0 beyond offset 127. -/
def Ctx.respBytes (x : Ctx) (off n : Nat) : List Byte :=
  (List.range n).map fun i => if off + i < 128 then Store.read 0 x.resp (off + i) else 0

/-- Whether a read of response bytes meets a slot whose operation is outstanding (R133). -/
def Ctx.respBusy (x : Ctx) (off n : Nat) : Bool :=
  x.outst.any fun o => decide (16 * o.slot < off + n ∧ off < 16 * o.slot + 16)

/-! ### Sub-blocks, keys and stage tables -/

/-- The bank a frame's lookups use in its pipe (R72). -/
def State.ctxBank (s : State) (x : Ctx) : Bank := (s.slice x.slice).bankOf x.epoch

/-- A little-endian field of the frame's compartment sub-block in its stage (Table 04.3). -/
def Bank.sub (b : Bank) (x : Ctx) (off n : Nat) : Nat := b.le kStageCfg x.pipe x.stage (2048 + 256 * x.comp + off) n

/-- The segments of key template t: source, offset and length (R120). -/
def Bank.template (b : Bank) (x : Ctx) (t : Nat) : List (Nat × Nat × Nat) :=
  (List.range 8).map fun i =>
    (b.sub x (32 + 32 * t + 4 * i) 1, b.sub x (33 + 32 * t + 4 * i) 1, min 16 (b.sub x (34 + 32 * t + 4 * i) 1))

/-- The key of template t, 16 bytes (R120). -/
def Bank.key (b : Bank) (x : Ctx) (t : Nat) : List Byte :=
  bytesAt ((b.template x t).flatMap fun g =>
    if g.1 = 1 then x.mdBytes g.2.1 g.2.2 else if g.1 = 2 then x.respBytes g.2.1 g.2.2 else []) 0 16

/-- Whether template t reads a response slot whose operation is outstanding. -/
def Bank.keyBusy (b : Bank) (x : Ctx) (t : Nat) : Bool :=
  (b.template x t).any fun g => g.1 == 2 && x.respBusy g.2.1 g.2.2

/-- The STAGE field of a violation a stage makes, with the pipe (SLC_RIND_VREC). -/
def State.ctxViolate (s : State) (x : Ctx) (kind detail : Nat) : State :=
  s.violate x.slice x.comp kind x.pipe x.stage detail

/-- Whether block `k` of a stage's match memory lies in the compartment's MATCH window and in the memory (R118,
R121). -/
def State.blockOk (s : State) (x : Ctx) (b : Bank) (k : Nat) : Bool :=
  s.inWindow x.slice x.comp 68 2 k && decide (k < 32 * (b.matchTiles x.pipe x.stage).length)

/-- What a stage-table lookup finds. -/
inductive StageHit where
  | hit (opc : Nat) (data : List Byte)
  | miss
  | outside (index : Nat)
  deriving DecidableEq, Repr

/-- The entries a lookup reads, in order. -/
def State.searchEntries (s : State) (x : Ctx) (b : Bank) (key : Option (List Byte)) : List Nat → StageHit
  | [] => .miss
  | i :: r =>
    if s.blockOk x b (i / 64) then
      match (s.slice x.slice).matchEntry b x.pipe x.stage i with
      | none => .outside i
      | some e =>
        if leAt e 16 1 % 2 = 1 ∧ (key = none ∨ key = some (e.take 16)) then .hit (leAt e 17 1) (bytesAt e 24 8)
        else s.searchEntries x b key r
    else .outside i

/-- A lookup of stage table t with a key (R121). -/
def State.stageTable (s : State) (x : Ctx) (b : Bank) (t : Nat) (key : List Byte) : StageHit :=
  let mode := b.sub x (160 + 16 * t) 1
  let base := 64 * b.sub x (164 + 16 * t) 2
  let e := 64 * b.sub x (166 + 16 * t) 2
  if e = 0 then .miss
  else if mode = 1 then s.searchEntries x b none [base + beNat (key.take 4) % e]
  else if mode = 2 then
    let h := (crc32c (BitVec.ofNat 32 (b.sub x 4 4)) key).toNat % (e / 4)
    s.searchEntries x b (some key) ((List.range 4).map fun j => base + 4 * h + j)
  else .miss

/-- Response slot 0 after a stage-table lookup, HIT and ERR; a lookup outside a window is a violation (R121). -/
def State.stageAnswer (s : State) (x : Ctx) : StageHit → State × List Byte × Bool × Bool
  | .hit opc data => (s, [1, BitVec.ofNat 8 opc] ++ List.replicate 6 0 ++ data, true, false)
  | .miss => (s, List.replicate 16 0, false, false)
  | .outside i => (s.ctxViolate x 3 (i % 65536), List.replicate 16 0, false, true)

/-! ### Events of a stage -/

/-- Count an event of a stage, saturating at 255: the byte of SLC_STG_EVT at `lo`. -/
def State.stageEvent (s : State) (x : Ctx) (lo : Nat) : State :=
  let a := Reg.SLC_STG_EVT x.slice x.pipe x.stage
  s.setFld a (lo + 7) lo (min 255 (s.fld a (lo + 7) lo + 1))

/-- The DETAIL of a control-store word: bank, microword 0 or dispatch entry 1, its address and the stream's copy.
DESIGN CHOICE, log entry 74. -/
def storeDetail (bankB : Bool) (tgt addr stream : Nat) : Nat :=
  bankB.toNat + 256 * tgt + 65536 * addr + 2 ^ 32 * stream

/-- R142: a fetch of a word with bad parity: the frame is dropped, MCHK counts and a CONT fault names the word. -/
def State.machineCheck (s : State) (c : Nat) (x : Ctx) (tgt addr : Nat) : State :=
  let sl := s.slice x.slice
  let isB := if sl.active.epoch = x.epoch then sl.activeB else !sl.activeB
  ((s.stageEvent x 24).reportFault (stageSrc x.slice x.pipe x.stage) .cont .storeWord
    (storeDetail isB tgt addr x.stream) 0).dropCtx c

/-- Whether the slice's fetches check parity (SLC_CS_PROT.PARITY). -/
def State.parityMode (s : State) (n : Nat) : Bool := s.bit (Reg.SLC_CS_PROT n) 0

/-- The frame's routine in its stage ends; the frame goes on to the next stage. -/
def Ctx.endStage (x : Ctx) : Ctx := { x with running := false, stage := x.stage + 1, issued := false, steps := 0 }

/-- The frame goes to a microword: its window, the stage's budget and the word's parity are checked in that order
(R129, R135, R142). -/
def State.fetchWord (s : State) (c : Nat) (x : Ctx) (addr : Nat) : State :=
  let b := s.ctxBank x
  let bud := b.sub x 1 1
  if s.inWindow x.slice x.comp 64 2 addr = false then (s.ctxViolate x 8 addr).dropCtx c
  else if (if bud = 0 ∨ 16 < bud then 16 else bud) ≤ x.steps then (s.ctxViolate x 7 addr).dropCtx c
  else if s.parityMode x.slice ∧ b.isBad kMicro x.pipe x.stage (16 * addr) x.stream then s.machineCheck c x 0 addr
  else s.setCtx c { x with running := true, upc := addr, issued := false }

/-- The frame dispatches on an opcode (R130). -/
def State.dispatch (s : State) (c : Nat) (x : Ctx) (opc : Nat) : State :=
  let b := s.ctxBank x
  let e := b.le kDispatch x.pipe x.stage (4 * opc) 4
  if s.inWindow x.slice x.comp 72 2 opc = false then (s.ctxViolate x 8 opc).dropCtx c
  else if s.parityMode x.slice ∧ b.isBad kDispatch x.pipe x.stage (4 * opc) x.stream then s.machineCheck c x 1 opc
  else if e < 2 ^ 31 then (s.stageEvent x 0).setCtx c x.endStage
  else s.fetchWord c x (e % 1024)

/-- R119, R443: a frame enters its stage. A stage with no action tile or with STOP set passes it unchanged; otherwise
its sub-block's ENTRY decides. -/
def execStageEntry (c : Nat) (s : State) : Out :=
  match s.ctx? c with
  | none => .next s
  | some x =>
    if x.parsed && !x.running && decide (x.stage < 24) && x.outst.isEmpty then
      let b := s.ctxBank x
      let x := { x with z := false, n := false, c := false, hit := false, err := false, steps := 0, lastFlags := none }
      if b.actionTile x.pipe x.stage = 0 ∨ b.le kStageCfg x.pipe x.stage 0 4 % 2 = 1 then .next (s.setCtx c x.endStage)
      else
        match b.sub x 0 1 with
        | 1 => .next (s.dispatch c x (b.sub x 2 1))
        | 2 =>
          let h := s.stageTable x b 0 (b.key x (b.sub x 161 1 % 4))
          let (s1, r, hit, err) := s.stageAnswer x h
          let x1 := { x with resp := putBytes x.resp 0 r, hit := hit, err := err }
          .next (s1.dispatch c x1 (match h with
            | .hit opc _ => opc
            | _ => b.sub x 3 1))
        | _ => .next (s.setCtx c x.endStage)
    else .next s

/-! ### Microwords -/

/-- The 128 bits of the microword the frame is at. -/
def State.microword (s : State) (x : Ctx) : Nat := (s.ctxBank x).le kMicro x.pipe x.stage (16 * x.upc) 16

/-- The memory operation a microword makes in its pipe, 0 for none: 9 acts as 11 in the egress pipe, and 11 to 15 make
none (Table 04.8). -/
def memopOf (pipe w : Nat) : Nat :=
  let m := bitsOf w 71 68
  if 11 ≤ m ∨ (m = 9 ∧ pipe = 1) then 0 else m

/-- Whether MEMOP holds a value that counts in RSVOP. -/
def memopReserved (pipe w : Nat) : Bool :=
  let m := bitsOf w 71 68
  decide (11 ≤ m) || (m == 9 && pipe == 1)

/-- The least class of an operation (Table 04.7). -/
def leastOp (op : Nat) : Nat := if 10 ≤ op ∧ op ≤ 12 then 1 else if op = 13 then 2 else 0

/-- The least class of a memory operation among 3 to 6 (Table 04.8). -/
def leastMem (m : Nat) : Nat := if m = 1 then 3 else if m = 2 ∨ m = 5 ∨ m = 10 then 5 else 4

/-- The class a microword executes at, and whether it was raised (R132). -/
def classOf (pipe w : Nat) : Nat × Bool :=
  let c := bitsOf w 127 125
  let m := memopOf pipe w
  if c < 3 then
    let l := leastOp (bitsOf w 111 106)
    (max c l, decide (c < l))
  else if c = 7 then (7, false)
  else if m = 0 then (2, false)
  else (max c (leastMem m), decide (c < leastMem m))

/-- Whether every frame admitted earlier to the frame's stream has left its stage (R134). -/
def State.earlierDone (s : State) (x : Ctx) : Bool :=
  s.ctxs.all fun e => !(e.2.slice == x.slice && e.2.pipe == x.pipe && e.2.stream == x.stream &&
    decide (e.2.order < x.order) && decide (e.2.stage ≤ x.stage))

/-- An operation's result and carry or borrow over operands of `bits` bits (R128). -/
def aluResult (op bits a b : Nat) : Nat × Bool :=
  let sh := b % 64
  match op with
  | 1 => (b, false)
  | 2 => ((a + b) % 2 ^ bits, decide (2 ^ bits ≤ a + b))
  | 3 => ((a + 2 ^ bits - b) % 2 ^ bits, decide (a < b))
  | 4 => (a &&& b, false)
  | 5 => (a ||| b, false)
  | 6 => (a ^^^ b, false)
  | 7 => (a * 2 ^ sh % 2 ^ bits, false)
  | 8 => (a / 2 ^ sh, false)
  | 9 => ((a + 2 ^ bits - b) % 2 ^ bits, decide (a < b))
  | 10 => (min a b, false)
  | 11 => (max a b, false)
  | 12 => (onesSum (wordsOf bits a ++ wordsOf bits b) % 2 ^ bits, false)
  | 13 => ((crc32c (BitVec.ofNat 32 b) (toBE (bits / 8) a)).toNat % 2 ^ bits, false)
  | 14 => ((a ||| 2 ^ sh) % 2 ^ bits, false)
  | 15 => (a - (a &&& 2 ^ sh), false)
  | _ => (0, false)
where
  /-- An operand as 16-bit words; a single byte is one word (R128). -/
  wordsOf (bits v : Nat) : List Nat := if bits = 8 then [v] else words16 (toBE (bits / 8) v)

/-- Whether an operation writes a result (R128). -/
def writesResult (op : Nat) : Bool := decide (op ≠ 0 ∧ op ≠ 9 ∧ op < 16)

/-- Whether an operation sets Z, N and C: CMP always, others with SETF (R128); NOP does nothing.
DEDUCED, log entry 22. -/
def setsFlags (op : Nat) (setf : Bool) : Bool := op == 9 || (setf && decide (0 < op ∧ op < 16))

/-- The flag byte: Z, N, C, HIT, ERR in bits 0 to 4 (Table 04.6). -/
def Ctx.flagByte (x : Ctx) : Nat := x.z.toNat + 2 * x.n.toNat + 4 * x.c.toNat + 8 * x.hit.toNat + 16 * x.err.toNat

/-- Whether a condition holds (Table 04.6, COND and CINV). -/
def Ctx.cond (x : Ctx) (cond : Nat) (inv : Bool) : Bool :=
  (match cond with
    | 1 => x.z
    | 2 => x.n
    | 3 => x.c
    | 4 => x.hit
    | 5 => x.err
    | 6 => x.mdByte 9 % 2 == 1
    | 7 => decide (0 < x.mdByte 62)
    | _ => true) != inv

/-- Whether a frame may execute its microword now: its memory operation is issued, what its class awaits has completed
(R131, R133, R134), and no response slot it reads is outstanding. -/
def Ctx.mayExecute (x : Ctx) (w : Nat) : Bool :=
  let cls := (classOf x.pipe w).1
  let m := memopOf x.pipe w
  let wd := 2 ^ bitsOf w 105 104
  (m == 0 || x.issued) &&
    (if cls = 7 then x.outst.isEmpty else if 3 ≤ cls then x.outst.all (fun o => o.seq + 1 != x.nextSeq) else true) &&
    !(bitsOf w 15 15 == 1 && x.respBusy (bitsOf w 95 88) wd) && !(bitsOf w 79 78 == 2 && x.respBusy (bitsOf w 87 80) wd)

/-- The frame's flags and metadata after its microword's operation (R123, R128), with HIT and ERR of what its class
awaited (R133). -/
def Ctx.operate (x : Ctx) (w : Nat) : Ctx :=
  let op := bitsOf w 111 106
  let wd := 2 ^ bitsOf w 105 104
  let bits := 8 * wd
  let a := if bitsOf w 15 15 = 1 then beNat (x.respBytes (bitsOf w 95 88) wd) else x.mdBE (bitsOf w 95 88) wd
  let b := match bitsOf w 79 78 with
    | 0 => x.mdBE (bitsOf w 87 80) wd
    | 1 => bitsOf w 63 32 % 2 ^ bits
    | 2 => beNat (x.respBytes (bitsOf w 87 80) wd)
    | _ => x.flagByte
  let r := aluResult op bits a b
  let x1 := if writesResult op then x.writeMd (bitsOf w 103 96) (toBE wd r.1) else x
  let x1 := if setsFlags op (bitsOf w 72 72 == 1) then
      { x1 with z := r.1 == 0, n := r.1.testBit (bits - 1), c := r.2 }
    else x1
  if 3 ≤ (classOf x.pipe w).1 then
    match x.lastFlags with
    | some f => { x1 with hit := f.1, err := f.2 }
    | none => x1
  else x1

/-- The frame's microword ends: the next one, a dispatch or the end of its routine (Table 04.6, SEQ). -/
def State.sequence (s : State) (c : Nat) (x : Ctx) (w : Nat) : State :=
  let nadr := bitsOf w 121 112
  match bitsOf w 124 122 with
  | 0 => s.fetchWord c x (x.upc + 1)
  | 1 => s.fetchWord c x nadr
  | 2 => s.fetchWord c x (if x.cond (bitsOf w 77 74) (bitsOf w 73 73 == 1) then nadr else x.upc + 1)
  | 3 => s.dispatch c x (x.mdByte (bitsOf w 31 24))
  | 4 => s.setCtx c x.endStage
  | _ => (s.stageEvent x 16).setCtx c x.endStage

/-- One microword of a frame whose OP satisfies `is`: the row of another operation does nothing. -/
def State.frameOp (s : State) (c : Nat) (is : Nat → Bool) : State :=
  match s.ctx? c with
  | none => s
  | some x =>
    let w := s.microword x
    let op := bitsOf w 111 106
    if x.running && is op && x.mayExecute w then
      let s := if (classOf x.pipe w).2 then s.stageEvent x 8 else s
      let s := if decide (16 ≤ op) || memopReserved x.pipe w then s.stageEvent x 16 else s
      let x1 := { x.operate w with steps := x.steps + 1 }
      s.sequence c x1 w
    else s

/-- A memory operation is issued: its target has answered with `resp`, or will (R133). -/
def Ctx.issue (x : Ctx) (op slot : Nat) (resp : Option (List Byte × Bool × Bool)) : Ctx :=
  { x with issued := true, outst := x.outst ++ [⟨x.nextSeq, op, slot, resp⟩], nextSeq := x.nextSeq + 1, lastFlags := none }

/-- Whether a frame may issue memory operation `op` now: its microword makes it, it has not been issued, its key can be
read, and a class-6 one comes after the earlier frames of the stream (R134). -/
def State.mayIssue (s : State) (x : Ctx) (op : Nat) : Bool :=
  let w := s.microword x
  x.running && !x.issued && memopOf x.pipe w == op && !(s.ctxBank x).keyBusy x (bitsOf w 17 16) &&
    ((classOf x.pipe w).1 != 6 || s.earlierDone x)

/-- The key of a frame's memory operation. -/
def State.memKey (s : State) (x : Ctx) : List Byte := (s.ctxBank x).key x (bitsOf (s.microword x) 17 16)

/-- The response slot of a frame's memory operation. -/
def State.memSlot (s : State) (x : Ctx) : Nat := bitsOf (s.microword x) 66 64

/-- A memory operation of a frame that its target answers at once. -/
def State.memNow (s : State) (c op : Nat) (run : State → Ctx → State × List Byte × Bool × Bool) : State :=
  match s.ctx? c with
  | none => s
  | some x =>
    if s.mayIssue x op then
      let (s1, r, hit, err) := run s x
      s1.setCtx c (x.issue op (if op = 1 then 0 else s.memSlot x) (some (bytesAt r 0 16, hit, err)))
    else s

/-- The answer of R444: STATUS in byte 0; HIT with STATUS 1, ERR with 2, 3, 4 and on a rind answer. -/
def statusAnswer (status : Nat) (rind : Bool) : List Byte × Bool × Bool :=
  (bytesAt [BitVec.ofNat 8 status] 0 16, status == 1, rind || decide (2 ≤ status))

/-- R121: MEMOP 1 looks up stage table RSEL[0] in the stage's own match memory; the result goes to response slot 0.
DEDUCED, log entry 56. -/
def execStageTableLookup (c : Nat) (s : State) : Out :=
  .next (s.memNow c 1 fun t x => t.stageAnswer x (t.stageTable x (t.ctxBank x) (t.memSlot x % 2) (t.memKey x)))

/-- R133: a posted or awaited operation completes and writes its response slot; HIT and ERR of the operation issued last
are kept for the microword that awaits it. -/
def execMemopComplete (c i : Nat) (s : State) : Out :=
  match s.ctx? c with
  | none => .next s
  | some x =>
    match x.outst.find? (fun o => o.seq == i) with
    | some ⟨seq, _, slot, some (r, hit, err)⟩ =>
      .next (s.setCtx c { x with resp := putBytes x.resp (16 * slot) r, outst := x.outst.filter (·.seq != seq)
                                 lastFlags := if seq + 1 = x.nextSeq then some (hit, err) else x.lastFlags })
    | _ => .next s

end Sys2Proof.Machine
end

