-- ==== Sys2Proof/Machine/Ingress.lean ====
section
/-!
DEFINITION. Ingress.lean: admission to an ingress pipe (R72, R81, R82), the parse graph (R86 to R92) and the pattern unit
(R93 to R96).
-/

namespace Sys2Proof.Machine

/-! ### Admission -/

/-- The frames waiting at a side of a stream's input. -/
def State.waitingAt (s : State) (n st : Nat) (ret : Bool) : List (Nat × Frame) :=
  s.vat.frames.filter fun e => e.2.waiting && e.2.slice == n && e.2.stream == st && e.2.ret == ret

/-- The one of them that came first. -/
def firstSeq : List (Nat × Frame) → Option (Nat × Frame)
  | [] => none
  | e :: r =>
    match firstSeq r with
    | some d => if d.2.seq < e.2.seq then some d else some e
    | none => some e

/-- Whether slice n's admission arbiter admits frames: not in a drain swap, a safe state or a shutdown (R406). -/
def State.admits (s : State) (n : Nat) : Bool :=
  s.domOn (4 * n) && !s.draining n && !(s.slice n).safe && !s.flt.deviceSafe && s.pwr.shutdown == .none && s.sliceAdmits n

/-- The standard region at admission (Table 03.2): bytes 0 to 9, LEN still open. -/
def Frame.stdAt (f : Frame) (epoch : Nat) : List Byte :=
  toBE 2 f.inPort ++ toBE 2 f.orig ++ toBE 2 0 ++ toBE 1 f.comp ++ toBE 1 (epoch + 16 * f.pass) ++ toBE 1 f.stream ++ [0]

/-- Whether a frame is recirculated. -/
def Frame.isRecirc (f : Frame) : Bool := decide (1024 ≤ f.inPort ∧ f.inPort < 1056)

/-- A waiting frame is dropped before its pipe, counted in `ctr`. -/
def State.dropWaiting (s : State) (f ctr : Nat) : State := (s.noCopies f).count ctr

/-- R72, R82: the arbiter of stream st grants the first frame of a side. A frame no valid compartment owns, or one of a
quarantined compartment, is dropped (R53); a recirculated frame of a dead epoch is dropped (R77); `pace` is a drop for
lack of pace, which only the port side takes (R47). -/
def execIngressAdmit (n : Fin 32) (st : Fin 4) (ret pace : Bool) (s : State) : Out :=
  match firstSeq (s.waitingAt n st ret) with
  | none => .next s
  | some (k, f) =>
    if !s.admits n || (ret && decide (4 ≤ (s.waitingAt n st false).length)) ||
        (f.isOpen && (decide (f.bytes.length < 64) || etherType 0 f.bytes == 0x8808)) then .next s
    else if pace && !ret then .next (s.dropWaiting k (Reg.SLC_PACE_DROP n 0 st))
    else if !f.owned || !s.compValid n f.comp || s.bit (Reg.SLC_RIND_STAT n) (24 + f.comp) then
      .next (s.dropWaiting k (Reg.SLC_UNOWNED_DROP n))
    else if f.isRecirc && s.isDead n f.epoch then .next (s.dropWaiting k (Reg.SLC_EPOCH_DROP n))
    else
      let e := if f.isRecirc then f.epoch else s.curEpoch n
      let x : Ctx := { slice := n, pipe := 0, stream := st, frame := k, comp := f.comp, epoch := e, rnode := f.rnode,
                       md := putBytes (putBytes [] 0 (f.stdAt e)) 96 (if f.isRecirc then f.carry else []) }
      .next ((s.setFrame k { f with waiting := false, epoch := e }).addCtx x)

/-! ### The parse graph -/

/-- What a parse has found so far: bytes extracted into the program region, headers recorded, and the end of the bytes
it has read. -/
structure Parse where
  extracts : List (Nat × List Byte) := []
  hdrs : List (Nat × Nat) := []
  hfull : Bool := false
  need : Nat := 0
  deriving DecidableEq, Repr

/-- How a parse ends: at a node with PAYLOAD_OFF and its flags, or by going to a node outside the window (R90). -/
inductive ParseEnd where
  | done (node payload pflags : Nat)
  | branch (node : Nat)
  deriving DecidableEq, Repr

/-- Where a node's parse goes next (R87, step 8). -/
inductive ParseNext where
  | stop
  | graph
  | goto (node : Nat)
  deriving DecidableEq, Repr

/-- The extraction commands a node uses: source, length, destination (Table 03.3). -/
def nodeExtracts (nd : List Byte) : List (Nat × Nat × Nat) :=
  ((List.range 4).map fun i => (leAt nd (12 + 4 * i) 1, min 16 (leAt nd (13 + 4 * i) 1), leAt nd (14 + 4 * i) 1)).filter
    fun e => e.2.1 != 0

/-- The select width of a node. -/
def selWidth (nd : List Byte) : Nat := min 4 (leAt nd 6 1)

/-- The bytes a node reads at offset `o`: starts and ends (R87, step 1). -/
def nodeReads (nd : List Byte) (o : Nat) : List (Nat × Nat) :=
  (if leAt nd 0 1 % 2 = 1 then [(o + leAt nd 2 1, o + leAt nd 2 1 + 1)] else []) ++
  (if selWidth nd = 0 then [] else [(o + leAt nd 5 1, o + leAt nd 5 1 + selWidth nd)]) ++
  (nodeExtracts nd).map fun e => (o + e.1, o + e.1 + e.2.1)

/-- The header's length (R87, step 4). -/
def nodeLength (nd data : List Byte) (o : Nat) : Nat :=
  if leAt nd 0 1 % 2 = 1 then
    leAt nd 1 1 + beAt data (o + leAt nd 2 1) 1 / 2 ^ bitsOf (leAt nd 3 1) 2 0 % 2 ^ bitsOf (leAt nd 3 1) 6 3 * leAt nd 4 1
  else leAt nd 1 1

/-- The choice of the next node (R87, step 8). -/
def nodeNext (nd data : List Byte) (o : Nat) : ParseNext :=
  let mask := leAt nd 8 4
  let sel := beAt data (o + leAt nd 5 1) (selWidth nd)
  let t := ((List.range (min 6 (bitsOf (leAt nd 0 1) 4 2))).find? fun i => leAt nd (28 + 5 * i) 4 &&& mask == sel &&& mask)
  match (if selWidth nd = 0 then none else t) with
  | some i => .goto (leAt nd (32 + 5 * i) 1)
  | none =>
    match leAt nd 58 1 with
    | 0 => .stop
    | 1 => .goto (leAt nd 59 1)
    | _ => .graph

/-- R87, R88, R91: the parse from a node at offset `o`, with `fuel` nodes still to be visited, over a frame that offers
`stop` = LEN − 4 bytes. -/
def parseFrom (b : Bank) (inWin : Nat → Bool) (data : List Byte) (stop : Nat) :
    (fuel : Nat) → (node o : Nat) → Parse → Parse × ParseEnd
  | 0, node, o, p => (p, .done node o 0)
  | k + 1, node, o, p =>
    let nd := b.bytes kParse 0 31 (64 * node) 64
    if nd.all (· == 0) then (p, .done node o 0)
    else
      let top := (nodeReads nd o).foldl (fun a r => max a r.2) 0
      if 512 < top then (p, .done node o 0b101)
      else if stop < top then (p, .done node o 0b11)
      else
        let p := { p with need := max p.need top }
        let l := nodeLength nd data o
        if stop < o + l then (p, .done node o 0b11)
        else
          let ex := (nodeExtracts nd).map fun e => (e.2.2, (bytesAt data (o + e.1) e.2.1).take (160 - e.2.2))
          let push := bitsOf (leAt nd 0 1) 1 1 = 1
          let p := { p with extracts := p.extracts ++ ex
                            hdrs := if push ∧ p.hdrs.length < 12 then p.hdrs ++ [(leAt nd 7 1, o)] else p.hdrs
                            hfull := p.hfull || (decide push && decide (12 ≤ p.hdrs.length)) }
          match nodeNext nd data o with
          | .stop => (p, .done node (o + l) 0)
          | .graph => (p, .done node (o + l) 0b10001)
          | .goto m =>
            if k = 0 then (p, .done node (o + l) 0b1001)
            else if inWin m then parseFrom b inWin data stop k m (o + l) p
            else (p, .branch m)

/-! ### The pattern unit -/

/-- Whether a pattern entry is valid (Table 03.4). -/
def patValid (e : List Byte) : Bool :=
  decide (1 ≤ leAt e 48 1 ∧ leAt e 48 1 ≤ 24 ∧ leAt e 49 1 ≤ 2 ∧ leAt e 58 2 ≠ 0xFFFF)

/-- Whether a pattern matches at offset `p` of the data, of which `stop` bytes may be covered (R94). -/
def patAt (e data : List Byte) (stop p : Nat) : Bool :=
  decide (p + leAt e 48 1 ≤ stop) &&
    (List.range (leAt e 48 1)).all fun i => (bytesAt data (p + i) 1).headD 0 &&& (bytesAt e (24 + i) 1).headD 0 ==
      (bytesAt e i 1).headD 0 &&& (bytesAt e (24 + i) 1).headD 0

/-- The lowest offset at which a pattern matches (R94). -/
def patMatch (e data : List Byte) (hdrs : List (Nat × Nat)) (stop : Nat) : Option Nat :=
  let anchor := leAt e 50 2
  match leAt e 49 1 with
  | 0 =>
    let lo := leAt e 54 2
    let hi := min stop (leAt e 56 2 + 1)
    ((List.range (hi + 1 - leAt e 48 1 - lo)).map (lo + ·)).find? fun p => patAt e data hi p
  | 1 => if patAt e data stop anchor then some anchor else none
  | _ =>
    match hdrs.find? fun h => h.1 == leAt e 52 1 with
    | some h => if patAt e data stop (h.2 + anchor) then some (h.2 + anchor) else none
    | none => none

/-- A match put among those before it: descending PRIO, then ascending index (R95). -/
def insertMatch (m : Nat × Nat × Nat) : List (Nat × Nat × Nat) → List (Nat × Nat × Nat)
  | [] => [m]
  | a :: r => if a.1 < m.1 then m :: a :: r else a :: insertMatch m r

/-- The valid patterns of a compartment's window, in index order. -/
def State.patterns (s : State) (b : Bank) (n c : Nat) : List (List Byte) :=
  ((List.range (s.desc n (1 + c) 82 2)).map fun i => b.bytes kPattern 0 31 (64 * (s.desc n (1 + c) 80 2 + i)) 64).filter
    patValid

/-- The matches of a set of patterns: PRIO, MATCH_ID and lowest offset, in the order reported (R95). -/
def patMatches (ps : List (List Byte)) (data : List Byte) (hdrs : List (Nat × Nat)) (stop : Nat) : List (Nat × Nat × Nat) :=
  (ps.filterMap fun e => (patMatch e data hdrs stop).map fun p => (leAt e 60 1, leAt e 58 2, p)).foldl
    (fun l m => insertMatch m l) []

/-- Metadata bytes 52 to 62 of a list of matches (R95). -/
def matchBytes (l : List (Nat × Nat × Nat)) : List Byte :=
  (List.range 4).flatMap (fun i => toBE 2 ((l[i]?.map (·.2.1)).getD 0xFFFF)) ++
    toBE 2 ((l.head?.map (·.2.2)).getD 0xFFFF) ++ toBE 1 (min 255 l.length)

/-! ### The separator completes -/

/-- A frame's LEN when its parse completes: its final length, or, while it is open, a length not below the bytes held
that the spec leaves open. DESIGN CHOICE, log entry 48. -/
def State.parseLen (s : State) (f : Frame) : Nat :=
  if f.isOpen then max 64 f.bytes.length + Config.freeNat s.fresh % (16385 - max 64 f.bytes.length) else f.bytes.length

/-- The parse of a frame and how it ends: from RNODE, or from the compartment's first node (R91, R112). -/
def State.parse (s : State) (x : Ctx) (f : Frame) (len : Nat) : Parse × ParseEnd :=
  let inWin := s.inWindow x.slice x.comp 76 2
  let start := x.rnode.getD (s.desc x.slice (1 + x.comp) 76 2)
  if x.rnode.isNone ∧ s.desc x.slice (1 + x.comp) 78 2 = 0 then ({}, .done 0 0 0)
  else if inWin start then parseFrom (s.ctxBank x) inWin f.bytes (len - 4) 24 start 0 {}
  else ({}, .branch start)

/-- R92: the separator completes a frame's metadata once it holds every byte the parse reads, and the first bytes of the
frame when its compartment has a valid pattern. DESIGN CHOICE, log entry 49. -/
def execParseDone (c : Nat) (s : State) : Out :=
  match s.ctx? c with
  | none => .next s
  | some x =>
    match s.frame? x.frame with
    | none => .next s
    | some f =>
      if x.parsed || x.pipe != 0 then .next s
      else
        let len := s.parseLen f
        let (p, e) := s.parse x f len
        let ps := s.patterns (s.ctxBank x) x.slice x.comp
        let stop := min 512 (len - 4)
        let need := if ps.isEmpty then p.need else max p.need stop
        if f.isOpen && decide (f.bytes.length < need) then .next s
        else
          let s := if f.isOpen then { s with fresh := s.fresh + 1 } else s
          match e with
          | .branch node => .next ((s.violate x.slice x.comp 8 0 31 node).dropCtx c)
          | .done node payload flags =>
            let flags := flags + (if p.hfull then 32 else 0)
            let ms := patMatches ps f.bytes p.hdrs stop
            let x := x.putMd 4 (toBE 2 len)
            let x := x.putMd 9 (toBE 1 flags ++ toBE 1 node ++ toBE 1 p.hdrs.length ++ toBE 2 payload)
            let x := x.putMd 16 (p.hdrs.flatMap fun h => toBE 1 h.1 ++ toBE 2 h.2)
            let x := x.putMd 52 (matchBytes ms)
            let x := p.extracts.foldl (fun y e => y.putMd (96 + e.1) e.2) x
            let s := if flags % 2 = 1 then s.count (Reg.SLC_ING_CNT x.slice x.comp 0) else s
            .next ((s.setCtx c { x with parsed := true }).setFrame x.frame
              { f with parsed := true, std := x.mdBytes 0 12, pflags := flags, match0 := x.mdBE 52 2 })

end Sys2Proof.Machine
end

