-- ==== Sys2Proof/Machine/Resolve.lean ====
section
/-!
DEFINITION. Resolve.lean: the decision at the end of an ingress pass becomes copies (R97 to R114, R206 to R209).
-/

namespace Sys2Proof.Machine

/-- What a copy is made from: who the frame belongs to, where, and the punt header's fields (Table 03.13). -/
structure Origin where
  slice : Nat
  comp : Nat
  frame : Nat
  pipe : Nat
  inPort : Nat
  orig : Nat
  perr : Bool
  epoch : Nat
  tsSec : Nat
  tsNs : Nat
  match0 : Nat
  hash : Nat
  /-- The 32 CARRY bytes when the punt header includes them. -/
  carry : List Byte
  deriving DecidableEq, Repr

/-- A rind violation at the end of a pass (R98). DESIGN CHOICE, log entry 49. -/
def State.copyViolate (s : State) (o : Origin) (kind detail : Nat) : State := s.violate o.slice o.comp kind o.pipe 31 detail

/-- A flag of the compartment's descriptor (Table 02.2, FLAGS). -/
def State.compFlag (s : State) (n c bit : Nat) : Bool := (s.desc n (1 + c) 0 4).testBit bit

/-- Whether the compartment may enqueue to a queue class (QCLASS). -/
def State.classAllowed (s : State) (n c q : Nat) : Bool := (s.desc n (1 + c) 12 4).testBit q

/-- A copy as its origin gives it. -/
def Origin.copy (o : Origin) (kind : CopyKind) (dest queue : Nat) : Copy :=
  { frame := o.frame, kind := kind, dest := dest, queue := queue, slice := o.slice, comp := o.comp }

/-- The punt header and any CARRY bytes (R114); ORIG_LEN and CAP_LEN are filled at delivery, when LEN is final. -/
def Origin.punt (o : Origin) (reason flags : Nat) : List Byte :=
  let has := !o.carry.isEmpty
  toLE 1 1 ++ toLE 1 (if has then 64 else 32) ++ toLE 2 reason ++ toLE 2 o.inPort ++ toLE 2 o.orig ++ toLE 1 o.slice ++
    toLE 1 o.comp ++ toLE 1 (flags + (if o.perr then 8 else 0) + (if has then 16 else 0)) ++ toLE 1 o.epoch ++ toLE 2 0 ++
    toLE 2 0 ++ toLE 6 o.tsSec ++ toLE 4 o.tsNs ++ toLE 2 o.match0 ++ toLE 4 o.hash ++ o.carry

/-- How the copies of a decision are handed on: admitted to the vat at once (ingress), or made from a frame still to be
stored (egress, R125); whether the vat took it. -/
abbrev Hand := State → Copy → State × Bool

/-- The state after a copy was asked for: `none` when the rind answered it, else whether the vat took it. -/
abbrev Made := State × Option Bool

/-- A copy handed on. -/
def handOn (hand : Hand) (s : State) (x : Copy) : Made :=
  let r := hand s x
  (r.1, some r.2)

/-- A destination checked against DEST (R98): a destination above 1057 skips the check. -/
def State.destOk (s : State) (o : Origin) (d : Nat) : Bool := decide (1057 < d) || s.destAllowed o.slice o.comp d

/-- A host copy: checked as kind HOSTQ against the CPU flag and the HQP window; `cap` limits its frame data (R113). -/
def State.hostCopy (s : State) (o : Origin) (hand : Hand) (qp reason flags : Nat) (cap : Option Nat) : Made :=
  if s.compFlag o.slice o.comp 3 && s.inWindow o.slice o.comp 96 2 qp then
    handOn hand s { o.copy .host 1056 qp with trunc := cap, punt := o.punt reason flags, nodes := 2 }
  else (s.copyViolate o 9 qp, none)

/-- A copy to a port's queue, checked as kind QUEUE. -/
def State.portCopy (s : State) (o : Origin) (hand : Hand) (x : Copy) : Made :=
  if s.classAllowed o.slice o.comp x.queue then handOn hand s x else (s.copyViolate o 2 x.queue, none)

/-- A unicast copy (R98, R203), checked as kind DEST; one to port 1056 is made as a host copy of the whole frame. -/
def State.unicast (s : State) (o : Origin) (hand : Hand) (dest queue cpuQp reason : Nat) : Made :=
  if s.destOk o dest = false then (s.copyViolate o 1 dest, none)
  else if dest = 1056 then s.hostCopy o hand cpuQp reason 4 none
  else s.portCopy o hand (o.copy .unicast dest queue)

/-- The bytes a mirror copy keeps of a frame of `len` bytes (R106, R113); none when it holds the whole frame. -/
def mirrorCap (trunc len : Nat) (host : Bool) : Option Nat :=
  if trunc = 0 then none
  else if host then some (64 * trunc)
  else if 64 * trunc < len then some (64 * trunc - 4)
  else none

/-- Mirror session i selects a frame (R106 to R108): its counter moves while EN is 1, and every (SAMPLE + 1)th frame is
copied, checked as kind MIRROR, then against DEST, then as the destination's kind asks. -/
def State.mirrorOne (s : State) (o : Origin) (hand : Hand) (len i : Nat) : Made :=
  let c0 := s.reg (Reg.SLC_MIR_CFG0 o.slice i)
  let c1 := s.reg (Reg.SLC_MIR_CFG1 o.slice i)
  if fieldOf c0 31 31 = 0 then (s, none)
  else
    let k := Store.read 0 (s.slice o.slice).mirror i + 1
    let hit := decide (fieldOf c1 31 16 < k)
    let s := s.setSlice o.slice { s.slice o.slice with mirror := Store.put 0 (s.slice o.slice).mirror i (if hit then 0 else k) }
    let dest := fieldOf c0 26 16
    if !hit then (s, none)
    else if (s.desc o.slice (1 + o.comp) 86 2).testBit i = false then (s.copyViolate o 10 i, none)
    else if s.destOk o dest = false then (s.copyViolate o 1 dest, none)
    else
      let cap := mirrorCap (fieldOf c0 7 0) len (dest == 1056)
      if dest = 1056 then s.hostCopy o hand (fieldOf c1 15 8) (0xFF00 + i) 2 cap
      else s.portCopy o hand { o.copy (.mirror i) dest (fieldOf c0 15 12) with trunc := cap }

/-- One after the other, with how many copies the vat took; `note` counts each copy the rind let through. -/
def State.eachCopy (s : State) (make : State → Nat → Made) (note : State → State) (l : List Nat) : State × Nat :=
  l.foldl (fun a i =>
    match make a.1 i with
    | (t, none) => (t, a.2)
    | (t, some ok) => (note t, a.2 + ok.toNat)) (s, 0)

/-- The mirror copies of the sessions in `set`. -/
def State.mirrors (s : State) (o : Origin) (hand : Hand) (note : State → State) (len set : Nat) : State × Nat :=
  s.eachCopy (fun t i => t.mirrorOne o hand len i) note ((List.range 16).filter (set.testBit ·))

/-- How many copies one answer made. -/
def Made.count (r : Made) : State × Nat := (r.1, (r.2.getD false).toNat)

/-! ### Multicast (R206 to R208) -/

/-- A target of a group (R207, R208): checked against DEST and admitted; a refusal also counts in MC_FAIL.
DEDUCED, log entry 50. -/
def State.target (s : State) (o : Origin) (hand : Hand) (group queue cpuQp reason : Nat) (w : Word) : Made :=
  let p := fieldOf w 26 16
  if s.destOk o p = false then (s.copyViolate o 1 p, none)
  else
    match (if p = 1056 then s.hostCopy o hand cpuQp reason 4 none
      else handOn hand s (o.copy (.multicast group (fieldOf w 15 0)) p (16 + queue))) with
    | (t, some false) => (if portCounted .qlimit p then t.count (Reg.VAT_PCNT p 3) else t, some false)
    | r => r

/-- The copies of a multicast decision: the group against MCAST, then class 16 + QUEUE[1:0] against QCLASS, then the
targets in order. -/
def State.multicast (s : State) (o : Origin) (hand : Hand) (f : Frame) (group queue cpuQp reason : Nat) : State × Nat :=
  if s.inWindow o.slice o.comp 16 4 group = false then (s.copyViolate o 6 group, 0)
  else if s.classAllowed o.slice o.comp (16 + queue) = false then (s.copyViolate o 2 (16 + queue), 0)
  else
    let g := Store.read 0 s.vat.groups group
    if fieldOf g 31 31 = 0 ∨ fieldOf g 29 19 = 0 then (s.vatDrop .mcEmpty f 0xFFFF 0xFF, 0)
    else
      let ts := (List.range (fieldOf g 29 19)).filter fun i =>
        let w := Store.read 0 s.vat.targets (fieldOf g 18 0 + i)
        fieldOf w 31 31 == 1 && !(fieldOf g 30 30 == 1 && fieldOf w 26 16 == o.orig)
      s.eachCopy (fun t i => t.target o hand group queue cpuQp reason (Store.read 0 s.vat.targets (fieldOf g 18 0 + i))) id ts

/-! ### Load spreading (R100 to R104) -/

/-- The byte strings of a group's selectors (R101), pairs ordered when SYM is 1. -/
def selectorBytes (x : Ctx) (sym : Bool) : List (List Byte) → List (Nat × Nat) → List (List Byte)
  | acc, [] => acc
  | acc, [a] => acc ++ [x.mdBytes a.1 a.2]
  | acc, a :: b :: r =>
    let u := x.mdBytes a.1 a.2
    let v := x.mdBytes b.1 b.2
    selectorBytes x sym (acc ++ (if sym && a.2 == b.2 && decide (beNat v < beNat u) then [v, u] else [u, v])) r

/-- XOR of the 32-bit big-endian words of a byte string, the last padded with zeros (Table 03.11, ALG 2). -/
def xorWords : Nat → List Byte → Nat
  | 0, _ => 0
  | k + 1, l => if l.isEmpty then 0 else beAt l 0 4 ^^^ xorWords k (l.drop 4)

/-- The hash of a frame in slice group g (R101). -/
def Bank.spreadHash (b : Bank) (x : Ctx) (g : Nat) : Nat :=
  let at_ := fun off n => b.le kHashSel 0 31 (8448 * g + off) n
  let sel := (List.range (min 30 (at_ 8 1))).map fun i => (at_ (16 + 8 * i) 1, min 16 (at_ (17 + 8 * i) 1))
  let l := (selectorBytes x (at_ 3 1 % 2 == 1) [] sel).flatten
  match at_ 0 1 with
  | 1 => (crcIeee (BitVec.ofNat 32 (at_ 4 4)) l).toNat
  | 2 => xorWords 128 l ^^^ at_ 4 4
  | _ => (crc32c (BitVec.ofNat 32 (at_ 4 4)) l).toNat

/-- Indirection entry i of slice group g (Table 03.12). -/
def Bank.lbEntry (b : Bank) (g i : Nat) : Nat := b.le kHashSel 0 31 (8448 * g + 256 + 2 * i) 2

/-- Where a spread frame goes (R102, R103): a port with its queue, or an ingress counter of its compartment. -/
def State.spreadTo (s : State) (b : Bank) (n g hash dest queue : Nat) : Except Nat (Nat × Nat) :=
  let size := 2 ^ min 12 (b.le kHashSel 0 31 (8448 * g + 1) 1)
  let i := hash % size
  let e := b.lbEntry g i
  let probe := min 8 (s.fld (Reg.SLC_ING_CFG n) 7 4)
  if e < 2 ^ 15 then .error 4
  else if b.le kHashSel 0 31 (8448 * g + 2) 1 = 1 then .ok (dest, e % 16)
  else if b.le kHashSel 0 31 (8448 * g + 3) 1 / 2 % 2 = 0 ∨ probe = 0 ∨ s.isLive (e % 2048) then .ok (e % 2048, queue)
  else
    match (List.range probe).find? fun j => decide (2 ^ 15 ≤ b.lbEntry g ((i + 1 + j) % size)) &&
        s.isLive (b.lbEntry g ((i + 1 + j) % size) % 2048) with
    | some j => .ok (b.lbEntry g ((i + 1 + j) % size) % 2048, queue)
    | none => .error 5

/-! ### The decision -/

/-- Ingress event k of a frame's compartment (Table 03.15). -/
def State.ingCount (s : State) (x : Ctx) (k : Nat) : State := s.count (Reg.SLC_ING_CNT x.slice x.comp k)

/-- The queue of a decision. -/
def Ctx.decQueue (x : Ctx) : Nat := x.mdByte 70 % 16

/-- The forwarding of a decision (R97, R98, R109), with how many copies the vat took. -/
def State.forward (s : State) (x : Ctx) (o : Origin) (hand : Hand) (f : Frame) (fwd : Nat) : State × Nat :=
  let n := x.slice
  match fwd with
  | 1 => Made.count (s.unicast o hand (x.mdBE 68 2) x.decQueue (x.mdByte 74) (x.mdBE 76 2))
  | 2 => s.multicast o hand f (x.mdBE 68 2) (x.mdByte 70 % 4) (x.mdByte 74) (x.mdBE 76 2)
  | 3 =>
    if s.desc n (1 + x.comp) 85 1 ≤ x.mdByte 71 then (s.ingCount x 3, 0)
    else
      match s.spreadTo (s.ctxBank x) n (s.desc n (1 + x.comp) 84 1 + x.mdByte 71) o.hash (x.mdBE 68 2) x.decQueue with
      | .error k => (s.ingCount x k, 0)
      | .ok (d, q) => Made.count (s.unicast o hand d q (x.mdByte 74) (x.mdBE 76 2))
  | 4 =>
    if max 1 (s.fld (Reg.SLC_ING_CFG n) 3 0) ≤ x.mdByte 7 / 16 + 1 then (s.ingCount x 6, 0)
    else if s.compFlag n x.comp 1 = false then (s.copyViolate o 11 (1024 + n), 0)
    else Made.count (s.portCopy o hand (o.copy .recirc (1024 + n) x.decQueue))
  | 5 => Made.count (s.hostCopy o hand (x.mdByte 74) (x.mdBE 76 2) 4 none)
  | _ => (s, 0)

/-- The data a processor copy keeps (Table 03.9, TRUNC). -/
def cpuCap (trunc : Nat) : Option Nat := if trunc = 0 then none else some (max 64 trunc)

/-- R98: the decision of a frame that leaves stage I23 becomes copies, in the order produced, with how many the vat
took. -/
def State.decideCopies (s : State) (x : Ctx) (o : Origin) (hand : Hand) (f : Frame) : State × Nat :=
  let act := x.mdBE 64 4
  let drop := bitOf act 4
  let cpu := bitOf act 5
  let mir := bitOf act 6
  let s := if 6 ≤ act % 16 then s.ingCount x 3 else s
  let fwd := if 6 ≤ act % 16 then 0 else act % 16
  let (s, a) :=
    if drop then ((s.ingCount x 2).dropProg f 0xFFFF 0xFF f.dropCode 0, 0)
    else if fwd = 0 ∧ cpu = false ∧ mir = false then ((s.ingCount x 1).dropProg f 0xFFFF 0xFF f.dropCode 0, 0)
    else s.forward x o hand f fwd
  let (s, b) :=
    if cpu && !(fwd == 5 && !drop) then
      s.eachCopy (fun t _ => t.hostCopy o hand (x.mdByte 74) (x.mdBE 76 2) 0 (cpuCap (x.mdBE 78 2)))
        (fun t => t.ingCount x 8) [0]
    else (s, 0)
  let (s, c) := if mir then s.mirrors o hand (fun t => t.ingCount x 9) (x.mdBE 4 2) (x.mdBE 72 2) else (s, 0)
  (s, a + b + c)

/-- Whether every frame admitted earlier to the stream has left stage I23, or waits for a miss (R83). -/
def State.inOrder (s : State) (x : Ctx) : Bool :=
  s.ctxs.all fun e => !(e.2.slice == x.slice && e.2.pipe == x.pipe && e.2.stream == x.stream && decide (e.2.order < x.order)) ||
    e.2.outst.any (·.resp.isNone)

/-- R98: at the end of stage I23 the decision is resolved; a frame none of whose copies is admitted is dropped (R201).
DEDUCED, log entry 50. -/
def execResolve (c : Nat) (s : State) : Out :=
  match s.ctx? c with
  | none => .next s
  | some x =>
    match s.frame? x.frame with
    | none => .next s
    | some f =>
      if x.pipe != 0 || !x.parsed || x.stage != 24 || x.running || !x.outst.isEmpty || !s.inOrder x then .next s
      else
        let s := (s.delCtx c).noteCompletion x.slice 0 x.stream
        if f.dropped then .next (s.resolved x.frame)
        else
          let act := x.mdBE 64 4
          let spread := act % 16 == 3 && !bitOf act 4 && decide (x.mdByte 71 < s.desc x.slice (1 + x.comp) 85 1)
          let hash := if spread then
              (s.ctxBank x).spreadHash x (s.desc x.slice (1 + x.comp) 84 1 + x.mdByte 71) else 0
          let carry := x.mdBytes 96 32
          let f := { f with carry := carry, hash := hash, dropCode := x.mdByte 84
                            rnode := if bitOf act 7 then some (x.mdByte 75) else none }
          let o : Origin :=
            { slice := x.slice, comp := x.comp, frame := x.frame, pipe := 0, inPort := f.inPort, orig := f.orig,
              perr := f.pflags % 2 == 1, epoch := x.mdByte 7, tsSec := f.tsSec, tsNs := f.tsNs, match0 := f.match0,
              hash := hash, carry := if bitOf act 8 then carry else [] }
          let (s, k) := (s.setFrame x.frame f).decideCopies x o State.admitCopy f
          .next (if k = 0 then s.noCopies x.frame else s.resolved x.frame)

end Sys2Proof.Machine
end

