-- ==== Sys2Proof/Machine/Egress.lean ====
section
/-!
DEFINITION. Egress.lean: copies leave their queues (R205, R223 to R227), pass the egress pipe (R124 to R126), and are
sent (R237 to R243, R302 to R306, R347) or written to the host (R377).
-/

namespace Sys2Proof.Machine

/-! ### Dequeue -/

/-- The bin of a histogram value (R311). -/
def histBin (v : Nat) : Nat := if v = 0 then 0 else min 31 (Nat.log2 v + 1)

/-- One more in a bin, up to 2⁶⁴ − 1. -/
def binAdd (m : Store Nat) (k : Nat) : Store Nat := Store.put 0 m k (min (2 ^ 64 - 1) (Store.read 0 m k + 1))

/-- A copy dequeued for a front port feeds the port's histograms and the device-wide bins (R311). -/
def State.histDequeue (s : State) (p : Nat) (x : Copy) : State :=
  let a := histBin x.qdelay
  let b := 32 + histBin x.qdepth
  let s := s.setPort p { s.port p with hist := binAdd (binAdd (s.port p).hist a) b }
  { s with tele := { s.tele with devHist := binAdd (binAdd s.tele.devHist a) b } }

/-- SAMPLE and LATENCY records of a copy dequeued for a front port (R307). -/
def State.postDequeue (s : State) (p : Nat) (x : Copy) (f : Frame) : State :=
  let t := s.reg (Reg.PORT_TEL1 p)
  if fieldOf t 31 31 = 0 ∨ x.col.isSome then s
  else
    let every := fieldOf t 15 0
    let k := Store.read 0 s.tele.sample p + 1
    let hit := every ≠ 0 ∧ every ≤ k
    let s := { s with tele := { s.tele with sample := Store.put 0 s.tele.sample p (if hit ∨ every = 0 then 0 else k) } }
    let lat := fieldOf t 27 16 ≠ 0 ∧ us (fieldOf t 27 16) < x.qdelay
    if lat then s.postcard (fieldOf t 30 28) 2 f p x.queue 0 x.eepoch x.qdelay x.qdepth
    else if hit then s.postcard (fieldOf t 30 28) 1 f p x.queue 0 x.eepoch x.qdelay x.qdepth
    else s

/-- Egress metadata at admission (Table 04.4). -/
def egressMd (x : Copy) (f : Frame) (epoch : Nat) : List Host.Cell :=
  let kind := match x.kind with
    | .multicast _ _ => 1
    | .recirc => 2
    | _ => 0
  let mc := match x.kind with
    | .multicast g r => toBE 2 g ++ toBE 2 r
    | _ => toBE 2 0 ++ toBE 2 0
  putBytes (putBytes [] 0 (f.std ++ toBE 2 x.dest ++ toBE 1 x.queue ++ toBE 1 kind ++ toBE 1 epoch ++ [0] ++ mc ++
    toBE 2 0 ++ toBE 4 x.qdepth ++ toBE 4 x.qdelay)) 96 f.carry

/-- Whether a copy passes an egress pipe (R99). -/
def Copy.piped (x : Copy) : Bool :=
  (match x.kind with
    | .unicast => true
    | .multicast _ _ => true
    | .recirc => true
    | _ => false) && decide (x.dest < 1056)

/-- The slice whose egress pipe serves a destination (R99). -/
def pipeOf (d : Nat) : Nat := if d < 1024 then d / 32 else d - 1024

/-- Whether a destination may be served now (R223, R225): its slice is neither draining nor safe, its egress pipe is on,
the port is up. -/
def State.servable (s : State) (d : Nat) : Bool :=
  if d = 1057 then s.pairUp
  else
    let n := pipeOf d
    s.domOn (4 * n + 1) && !s.draining n && !(s.slice n).safe && !s.flt.deviceSafe && (decide (1024 ≤ d) || s.portState d == 2)

/-- Whether port 1024 + n may dequeue a queue's head: the return side of the frame's stream takes it (R82, R225), or it
is of a dead epoch and will be dropped (R77). -/
def State.returnTakes (s : State) (d q : Nat) : Bool :=
  if d < 1024 ∨ d = 1057 then true
  else
    match (s.queue q).head?.bind fun x => s.frame? x.frame with
    | some f => s.isDead (d - 1024) f.epoch || decide ((s.waitingAt (d - 1024) f.stream false).length < 4)
    | none => true

/-- A copy waits for its port. -/
def State.appendOut (s : State) (d : Nat) (x : Copy) : State :=
  { s with vat := { s.vat with out := Store.set s.vat.out d (Store.read [] s.vat.out d ++ [x]) } }

/-- A dequeued copy enters its egress pipe, or waits for its port when it passes none. -/
def State.sendOn (s : State) (d : Nat) (x : Copy) (f : Frame) : State :=
  if x.piped then
    let n := pipeOf d
    let e := s.curEpoch n
    let x := { x with eepoch := e }
    s.addCtx { slice := n, pipe := 1, stream := if d < 1024 then d % 32 / 8 else f.stream, frame := x.frame,
               copy := some x, comp := f.comp, epoch := e, md := egressMd x f e, parsed := true }
  else s.appendOut d x

/-- R223: destination d's scheduler dequeues the head of the queue it serves next. A frame of a dead epoch is dropped
as it is dequeued for recirculation (R77). The host port delivers instead (R377). -/
def execDequeue (d : Fin 1058) (s : State) : Out :=
  if d.val = 1056 || !s.servable d || !s.pShaperOk d then .next s
  else
    match s.pick d (s.returnTakes d) with
    | none => .next s
    | some (q, df) =>
      match s.popQueue d q df with
      | none => .next s
      | some (x, s) =>
        match s.frame? x.frame with
        | none => .next s
        | some f =>
          if 1024 ≤ d.val ∧ d.val < 1056 then
            if s.isDead (d.val - 1024) f.epoch then .next ((s.unref x.frame).count (Reg.SLC_EPOCH_DROP (d.val - 1024)))
            else .next (s.sendOn d x f)
          else if d.val < 1024 then
            let x := if x.piped then { x with eepoch := s.curEpoch (pipeOf d) } else x
            .next (((s.histDequeue d x).postDequeue d x f).sendOn d x f)
          else .next (s.sendOn d x f)

/-- R205, R220, R227: a copy at a queue's head that will not be sent is discarded and counted. -/
def execQueueHeadDiscard (q : Fin 21396) (s : State) : Out :=
  match s.queue q with
  | [] => .next s
  | x :: r =>
    match s.headDiscard x, s.frame? x.frame with
    | some why, some f =>
      let s := s.setQueue q r
      let s := if r.isEmpty then { s with vat := { s.vat with deficit := Store.del s.vat.deficit q } } else s
      .next ((s.vatDrop why f x.dest x.queue).unref x.frame)
    | _, _ => .next s

/-! ### The deparser (R125, R126) -/

/-- The pieces a deparser program emits, from read pointer `p`. -/
def deparse (b : Bank) (x : Ctx) (prog : Nat) : (fuel : Nat) → (p : Nat) → List Piece
  | 0, p => [.rest p]
  | k + 1, p =>
    let at_ := 64 * prog + 4 * (15 - k)
    let op := b.le kDeparse 1 31 at_ 1
    let len := b.le kDeparse 1 31 (at_ + 1) 1
    let a := b.le kDeparse 1 31 (at_ + 2) 2
    if op = 5 then []
    else if k = 0 then [.rest p]
    else
      match op with
      | 1 => .data p len :: deparse b x prog k (p + len)
      | 2 => deparse b x prog k (p + len)
      | 3 => .lit (x.mdBytes a len) :: deparse b x prog k p
      | 4 => deparse b x prog k (x.mdBE a 2)
      | _ => [.rest p]

/-- Egress event k of a frame's compartment (SLC_EG_CNT). -/
def State.egCount (s : State) (x : Ctx) (k : Nat) : State := s.count (Reg.SLC_EG_CNT x.slice x.comp k)

/-- A copy made in an egress pipe holds the emitted frame, which is stored as a frame of its own (R125). -/
def egressHand (f : Frame) (l : List Byte) : Hand := fun s cp =>
  let g : Frame := { slice := f.slice, comp := f.comp, epoch := f.epoch, inPort := f.inPort, orig := f.orig,
                     stream := f.stream, pass := f.pass, std := f.std, carry := f.carry, tsSec := f.tsSec, tsNs := f.tsNs,
                     arrived := f.arrived, hash := f.hash, match0 := f.match0, pflags := f.pflags, parsed := true,
                     rest := l, after := some cp }
  (s.queueToStore 2048 g, true)

/-- The copies an egress decision makes of the emitted frame (R125). -/
def State.egressCopies (s : State) (x : Ctx) (f : Frame) (l : List Byte) : State :=
  let act := x.mdBE 64 4
  let o : Origin :=
    { slice := x.slice, comp := x.comp, frame := x.frame, pipe := 1, inPort := x.mdBE 0 2, orig := x.mdBE 2 2,
      perr := x.mdByte 9 % 2 == 1, epoch := x.mdByte 7, tsSec := f.tsSec, tsNs := f.tsNs, match0 := f.match0,
      hash := f.hash, carry := if bitOf act 3 then x.mdBytes 96 32 else [] }
  let hand := egressHand f l
  let s := if bitOf act 1 then
      (s.eachCopy (fun t _ => t.hostCopy o hand (x.mdByte 69) (x.mdBE 72 2) 0 (cpuCap (x.mdBE 74 2)))
        (fun t => t.egCount x 1) [0]).1
    else s
  if bitOf act 2 then (s.mirrors o hand (fun t => t.egCount x 2) l.length (x.mdBE 70 2)).1 else s

/-- The emitted frame goes back to its slice's ingress (R110, R112), stored as a new frame. -/
def State.recirculate (s : State) (x : Ctx) (f : Frame) (l : List Byte) : State :=
  if 16384 < l.length then s.count (Reg.SLC_ING_CNT x.slice x.comp 7)
  else s.queueToStore (1024 + x.slice)
    { slice := x.slice, comp := f.comp, epoch := f.epoch, inPort := 1024 + x.slice, orig := f.orig, stream := f.stream,
      pass := f.pass + 1, rnode := f.rnode, carry := f.carry, tsSec := f.tsSec, tsNs := f.tsNs, arrived := f.arrived, rest := l }

/-- Whether copies for one destination may leave stage E23 in dequeue order (R124). -/
def State.egressInOrder (s : State) (x : Ctx) (d : Nat) : Bool :=
  s.ctxs.all fun e => !(e.2.slice == x.slice && e.2.pipe == 1 && decide (e.2.order < x.order) &&
    (match e.2.copy with
      | some y => y.dest == d
      | none => false)) || e.2.outst.any (·.resp.isNone)

/-- R125: at the end of stage E23 the deparser emits the frame. A copy of it, or its recirculation, waits until the
frame has closed. -/
def execDeparse (c : Nat) (s : State) : Out :=
  match s.ctx? c with
  | none => .next s
  | some x =>
    match x.copy, s.frame? x.frame with
    | some cp, some f =>
      let act := x.mdBE 64 4
      if x.pipe != 1 || x.stage != 24 || x.running || !x.outst.isEmpty || !s.egressInOrder x cp.dest ||
          (f.isOpen && (bitOf act 1 || bitOf act 2)) then .next s
      else
        let s := (s.delCtx c).noteCompletion x.slice 1 x.stream
        let ps := deparse (s.ctxBank x) x (x.mdByte 68 % 128) 16 0
        let d := ps.flatMap (Piece.bytes f.data)
        let s := if d.length < 60 then s.egCount x 3 else s
        let l := withFcs (padTo60 d)
        let s := s.egressCopies x f l
        if bitOf act 0 then
          .next (((s.egCount x 0).dropProg f cp.dest cp.queue (x.mdByte 76) x.epoch).unref x.frame)
        else if 1024 ≤ cp.dest then .next ((s.recirculate x f l).unref x.frame)
        else
          let y := { cp with emitted := some ps, dropCode := x.mdByte 76 }
          .next (s.appendOut cp.dest y)
    | _, _ => .next s

/-! ### Transmission -/

/-- The copy a destination is sending. -/
def State.sending (s : State) (d : Nat) : Option Copy := (Store.read [] s.vat.out d).find? (·.sending)

/-- The state in which a destination's next copy is being sent. -/
def State.markSending (s : State) (d : Nat) : State :=
  match Store.read [] s.vat.out d with
  | [] => s
  | x :: r => { s with vat := { s.vat with out := Store.set s.vat.out d ({ x with sending := true } :: r) } }

/-- R240, R241, R298: a destination begins to send its next copy. A copy known to be longer than MAXLEN is not sent; one
of a frame that has closed as errored is ended at once (R237); a port that has gone down discards it (R227). -/
def execTransmitStart (d : Fin 1058) (s : State) : Out :=
  match Store.read [] s.vat.out d with
  | [] => .next s
  | x :: _ =>
    match s.frame? x.frame with
    | none => .next (s.dropOut d x)
    | some f =>
      if (s.sending d).isSome then .next s
      else if s.isDown d then
        .next (if s.bit (Reg.VAT_PCFG d) 30 then s else ((s.dropOut d x).vatDrop .portDown f d x.queue).unref x.frame)
      else if d.val < 1024 then
        if s.portState d ≠ 2 ∨ s.domOn (4 * (d.val / 32) + 2) = false then .next s
        else
          let s := s.setPort d { s.port d with txClk := clkAdd s.time.clk (signed 8 (s.fld (Reg.PORT_TEL0 d) 7 0))
                                               txMono := s.time.mono }
          if (f.err && !f.isOpen) || f.dropped then .next (s.endCopy d x 0 0 9)
          else if f.isOpen = false ∧ s.maxlen d < (s.wire d x f).1.length then
            .next (((s.dropOut d x).portCount d 10).unref x.frame)
          else .next (s.markSending d)
      else .next (s.markSending d)

/-- The DATA frame of a copy sent on port 1057 (R345 to R347). -/
def State.solyenData (s : State) (x : Copy) (f : Frame) : State :=
  let up := s.fld Reg.PAIR_STAT 17 16
  let rail := if up = 3 then x.queue % 2 else if up = 2 then 1 else 0
  let l := x.data f
  s.emit (.solyen rail (withFcs ([1, 5] ++ toBE 2 (s.fld Reg.PAIR_CTL 15 0) ++ toBE 4 (s.reg Reg.PAIR_TERM).toNat ++
    toBE 4 0 ++ toBE 2 l.length ++ toBE 1 rail ++ [0] ++ l)))

/-- A PTP event message sent whole pushes an entry of the two-step queue, or sets OVF (R303). -/
def State.twoStep (s : State) (p : Nat) (l : List Byte) : State :=
  if s.bit (Reg.PORT_TEL0 p) 31 && s.bit (Reg.PORT_TEL0 p) 28 then
    match ptpAt (s.fld (Reg.PORT_TAG p) 15 0) (dataOf l) with
    | none => s
    | some (m, _) =>
      let x := s.port p
      if 16 ≤ x.tsq.length then s.setBit (Reg.PORT_TSQ0 p) 30 true
      else s.setPort p { x with tsq := x.tsq ++ [{ msg := beAt l m 1 % 16, dom := beAt l (m + 4) 1, seqId := beAt l (m + 30) 2,
                                                   sec := x.txClk / 10 ^ 21 % 2 ^ 48, ns := x.txClk / 10 ^ 12 % 10 ^ 9 }] }
  else s

/-- R209, R241: the last byte of a copy is sent and the copy finishes. A cut-through copy that turns out longer than
MAXLEN ends at byte MAXLEN. -/
def execTransmitDone (d : Fin 1058) (s : State) : Out :=
  match s.sending d with
  | none => .next s
  | some x =>
    match s.frame? x.frame with
    | none => .next (s.dropOut d x)
    | some f =>
      if f.isOpen || f.spill.isSome then .next s
      else if d.val < 1024 then
        let (l, ev, pad) := s.wire d x f
        if s.maxlen d < l.length then .next (s.endCopy d x (s.maxlen d) (s.maxlen d) 10)
        else
          let s := (s.dropOut d x).emit (.frame d l false)
          let s := (s.countWide (Reg.PORT_GOOD d 2) (Reg.PORT_GOOD_HI d 2) 1).countWide (Reg.PORT_GOOD d 3)
            (Reg.PORT_GOOD_HI d 3) l.length
          let s := if pad then s.portCount d 15 else s
          let s := match ev with
            | some k => s.teleCount k 1
            | none => s
          .next ((if x.emitted.isSome then s.twoStep d l else s).unref x.frame)
      else .next (((s.dropOut d x).solyenData x f).unref x.frame)

/-- R243: the MAC needs a byte not yet in the vat: the copy is ended, at least its start threshold sent, and CT_STEP
rises. -/
def execTransmitUnderrun (p : Fin 1024) (s : State) : Out :=
  match s.sending p with
  | none => .next s
  | some x =>
    match s.frame? x.frame with
    | none => .next s
    | some f =>
      if !f.isOpen && f.spill.isNone then .next s
      else
        let avail := if f.spill.isSome then 256 * f.back.getD 0 else f.bytes.length
        let step := s.fld (Reg.PORT_CT p) 2 0
        let lo := min avail ((ctThreshold step).getD avail)
        let s := s.endCopy p x lo avail 8
        .next ((s.setFld (Reg.PORT_CT p) 2 0 (min 7 (step + 1))).setBit (Reg.PORT_CT p) 31 true)

/-! ### Host delivery (R377, R378) -/

/-- BSIZE of a queue pair in bytes. -/
def State.bufBytes (s : State) (h : Nat) : Nat :=
  let b := s.fld (Reg.HOST_QP_CTL h) 23 18
  256 * (if b = 0 then 64 else b)

/-- The bytes a host copy writes: its punt header with ORIG_LEN, CAP_LEN and FLAGS.TRUNC filled, and its frame data. -/
def hostBytes (x : Copy) (f : Frame) : List Byte :=
  let cap := min (x.trunc.getD (f.bytes.length - 4)) (f.bytes.length - 4)
  let fl := leAt x.punt 10 1 ||| (if cap < f.bytes.length - 4 then 1 else 0)
  overlay (overlay x.punt 10 (toLE 1 fl)) 12 (toLE 2 f.bytes.length ++ toLE 2 cap) ++ f.bytes.take cap

/-- Whether queue pair h can take the copy at its host queue's head (R226, R377, R379). -/
def State.hostReady (s : State) (q : Nat) : Bool :=
  let h := q - 21140
  match (s.queue q).head? with
  | none => false
  | some x =>
    match s.frame? x.frame with
    | none => false
    | some f =>
      let n := ((hostBytes x f).length + s.bufBytes h - 1) / s.bufBytes h
      s.bit (Reg.HOST_QP_CTL h) 31 && !s.bit (Reg.HOST_QP_STAT h) 31 &&
        decide (n ≤ min (2 ^ s.rxLog h) (posted (s.fld (Reg.HOST_QP_RXIDX h) 16 0) (s.fld (Reg.HOST_QP_RXHEAD h) 16 0)))

/-- The copy's bytes written buffer by buffer, each with its descriptor's write-back; `addrs` gives the buffers' ADDR
fields as host memory holds them. -/
def State.writeBuffers (s : State) (h : Nat) (first : Bool) : List Nat → List (List Byte) → State
  | _, [] => s
  | addrs, b :: r =>
    let head := s.fld (Reg.HOST_QP_RXHEAD h) 16 0
    let fn := s.qpOwner h
    let fl := 1 + (if r.isEmpty then 0 else 2) + (if first then 4 else 0)
    let s := s.emit (.dmaWrite fn (addrs.headD 0 / 64 * 64) b)
    let s := s.emit (.dmaWrite fn (s.rxDesc h head + 8) (toLE 2 b.length ++ toLE 1 fl))
    (s.setFld (Reg.HOST_QP_RXHEAD h) 16 0 ((head + 1) % 131072)).writeBuffers h false (addrs.drop 1) r

/-- A byte string cut into pieces of `n` bytes. -/
def chunks (n : Nat) : Nat → List Byte → List (List Byte)
  | 0, _ => []
  | k + 1, l => if l.isEmpty then [] else l.take n :: chunks n k (l.drop n)

/-- R377: the host port's scheduler serves a host queue whose receive ring holds enough buffers.
DESIGN CHOICE, log entry 40; DESIGN CHOICE, log entry 54. -/
def execHostRxDelivery (addrs : List Nat) (s : State) : Out :=
  if !s.host.up || s.flt.deviceSafe || !s.domOn 145 || !s.pShaperOk 1056 then .next s
  else
    match s.pick 1056 s.hostReady with
    | none => .next s
    | some (q, df) =>
      match s.popQueue 1056 q df with
      | none => .next s
      | some (x, s) =>
        match s.frame? x.frame with
        | none => .next s
        | some f =>
          let h := q - 21140
          let s := s.writeBuffers h true addrs (chunks (s.bufBytes h) 65 (hostBytes x f))
          .next ((s.raiseBit (Reg.HOST_QP_STAT h) 26).unref x.frame)

end Sys2Proof.Machine
end

