-- ==== Sys2Proof/Machine/TblOps.lean ====
section
/-!
DEFINITION. TblOps.lean: endpoint entries, their copies, tags and cache lines (R155 to R159), sequence numbers (R182),
objects (R151 to R153), route entries in the press banks (R179, R180), and what a table write means to stalled frames
(R161, R165) and to the pair (R352).
-/

namespace Sys2Proof.Machine

/-! ### Time and sequence numbers -/

/-- The time base in ms, modulo 65,536 (TBL_MOVE.NOW_MS). -/
def State.nowMs (s : State) : Nat := s.time.mono / 1000000 % 65536

/-- TBL_AGE.NOW. -/
def State.ageNow (s : State) : Nat := s.fld Reg.TBL_AGE 15 0

/-- Whether SEQ `a` is higher than SEQ `b` (R182). -/
def seqHigher (a b : Nat) : Bool :=
  let d := (a + 2 ^ 32 - b) % 2 ^ 32
  decide (1 ≤ d ∧ d < 2 ^ 31)

/-- The table counter takes its next value (R182). -/
def State.nextTblSeq (s : State) : Nat × State :=
  let v := s.reg Reg.TBL_SEQ + 1
  (v.toNat, s.setReg Reg.TBL_SEQ v)

/-- Count table event k of a compartment (Table 05.11). -/
def State.tblCount (s : State) (n c k : Nat) : State := s.count (Reg.SLC_TBL_CNT n c k)

/-- Count device table event k (TBL_GCNT). -/
def State.tblGcount (s : State) (k : Nat) : State := s.count (Reg.TBL_GCNT k)

/-- Whether TBL_CTL.EN is 1. -/
def State.tblOn (s : State) : Bool := s.bit Reg.TBL_CTL 31

/-- Whether entries are held in two copies (R158). -/
def State.tblDup (s : State) : Bool := s.bit Reg.TBL_CTL 30

/-! ### Entries (Table 05.5) -/

/-- The fields of an entry image. -/
def epKey (e : List Byte) : List Byte := bytesAt e 0 16
def epPart (e : List Byte) : Nat := leAt e 16 2
def epFlags (e : List Byte) : Nat := leAt e 18 1
def epValid (e : List Byte) : Bool := epFlags e % 2 == 1
def epStatic (e : List Byte) : Bool := (epFlags e).testBit 1
def epQuar (e : List Byte) : Bool := (epFlags e).testBit 3
def epSeq (e : List Byte) : Nat := leAt e 20 4
def epTs (e : List Byte) : Nat := leAt e 24 2
def epMove (e : List Byte) : Nat := leAt e 26 2
def epNhop (e : List Byte) : Nat := leAt e 28 4 % 2 ^ 20
def epFlaps (e : List Byte) : Nat := leAt e 36 1

/-- Whether an image is the valid entry of (P, K). -/
def epIs (e : List Byte) (p : Nat) (k : List Byte) : Bool := epValid e && epPart e == p && epKey e == k

/-- An image with `n` bytes at `off` replaced by a number. -/
def epPut (e : List Byte) (off n v : Nat) : List Byte := overlay e off (toLE n v)

/-- The image with TS, and with FLAPS, replaced. -/
def epWithTs (e : List Byte) (ts : Nat) : List Byte := epPut e 24 2 ts

/-- The image without TS and FLAPS, as replicas are compared (R183). -/
def epCore (e : List Byte) : List Byte := epPut (epPut e 24 2 0) 36 1 0

/-! ### Placement (R156) -/

/-- h1 of (P, K). -/
def State.epHash1 (s : State) (p : Nat) (k : List Byte) : Nat := (crc32c (s.reg Reg.TBL_HSEED1) (toBE 2 p ++ k)).toNat

/-- h2 of (P, K). -/
def State.epHash2 (s : State) (p : Nat) (k : List Byte) : Nat := (crc32c (s.reg Reg.TBL_HSEED2) (toBE 2 p ++ k)).toNat

/-- The shard of h1. -/
def hashShard (h1 : Nat) : Nat := bitsOf h1 22 19

/-- The two buckets. -/
def hashBuckets (h1 h2 : Nat) : Nat × Nat :=
  let b1 := bitsOf h1 18 0
  let b2 := bitsOf h2 18 0
  (b1, if b2 = b1 then b1 ^^^ 1 else b2)

/-- The tag. -/
def hashTag (h1 : Nat) : Nat := if bitsOf h1 30 23 = 0 then 1 else bitsOf h1 30 23

/-- The global slot of slot k of bucket b of shard s. -/
def epSlot (shard b k : Nat) : Nat := shard * 2097152 + 4 * b + k

/-- Where (P, K) may lie: its shard and two buckets. -/
def State.epPlace (s : State) (p : Nat) (k : List Byte) : Nat × Nat × Nat :=
  let h1 := s.epHash1 p k
  let b := hashBuckets h1 (s.epHash2 p k)
  (hashShard h1, b.1, b.2)

/-- The eight slots of (P, K), b1 first. -/
def State.epSlots (s : State) (p : Nat) (k : List Byte) : List Nat :=
  let x := s.epPlace p k
  ((List.range 4).map fun i => epSlot x.1 x.2.1 i) ++ (List.range 4).map fun i => epSlot x.1 x.2.2 i

/-! ### Copies and tags -/

/-- A copy of a slot; an empty slot is the empty list. -/
def State.epCopy (s : State) (dup : Bool) (slot : Nat) : List Byte :=
  Store.read [] s.tbl.ep (slot + if dup then 2 ^ 25 else 0)

/-- The primary copy of a slot. -/
def State.epAt (s : State) (slot : Nat) : List Byte := s.epCopy false slot

/-- One copy of a slot written. -/
def State.setCopy (s : State) (dup : Bool) (slot : Nat) (e : List Byte) : State :=
  { s with tbl := { s.tbl with ep := Store.put [] s.tbl.ep (slot + if dup then 2 ^ 25 else 0) e } }

/-- Every copy of a slot written (R158). -/
def State.setCopies (s : State) (slot : Nat) (e : List Byte) : State :=
  let s := s.setCopy false slot e
  if s.tblDup then s.setCopy true slot e else s

/-- The tag of a slot. -/
def State.epTag (s : State) (slot : Nat) : Nat := Store.read 0 s.tbl.tags slot

/-- A tag set. -/
def State.setTag (s : State) (slot t : Nat) : State := { s with tbl := { s.tbl with tags := Store.put 0 s.tbl.tags slot t } }

/-- The slot that holds (P, K), if any. -/
def State.epFind (s : State) (p : Nat) (k : List Byte) : Option Nat := (s.epSlots p k).find? fun i => epIs (s.epAt i) p k

/-! ### The cache (R159) -/

/-- The cache set of (P, K). -/
def State.epSet (s : State) (p : Nat) (k : List Byte) : Nat := bitsOf (s.epHash1 p k) 16 0

/-- The lines of a set. -/
def State.epLines (s : State) (set : Nat) : List (List Byte) := Store.read [] s.tbl.cache set

/-- The state with a set's lines replaced. -/
def State.setLines (s : State) (set : Nat) (l : List (List Byte)) : State :=
  { s with tbl := { s.tbl with cache := Store.put [] s.tbl.cache set l } }

/-- The cached line of (P, K). -/
def State.epLine (s : State) (p : Nat) (k : List Byte) : Option (List Byte) :=
  (s.epLines (s.epSet p k)).find? fun e => epIs e p k

/-- The line of an image's key updated where it is cached. -/
def State.lineUpdate (s : State) (e : List Byte) : State :=
  let set := s.epSet (epPart e) (epKey e)
  s.setLines set ((s.epLines set).map fun x => if epIs x (epPart e) (epKey e) then e else x)

/-- The line of (P, K) dropped. -/
def State.lineDrop (s : State) (p : Nat) (k : List Byte) : State :=
  let set := s.epSet p k
  s.setLines set ((s.epLines set).filter fun x => !epIs x p k)

/-- A line used: it becomes the most recently hit of its set, with TS = NOW. -/
def State.lineHit (s : State) (e : List Byte) : State :=
  let set := s.epSet (epPart e) (epKey e)
  s.setLines set (epWithTs e s.ageNow :: (s.epLines set).filter fun x => !epIs x (epPart e) (epKey e))

/-- A replaced line's TS written back to every copy of its entry (R159). -/
def State.writeBackTs (s : State) (e : List Byte) : State :=
  match s.epFind (epPart e) (epKey e) with
  | some i =>
    let s1 := s.setCopy false i (epWithTs (s.epAt i) (epTs e))
    if s.tblDup then s1.setCopy true i (epWithTs (s.epCopy true i) (epTs e)) else s1
  | none => s

/-- A line filled on a miss read; a full set gives up its least recently hit line. DESIGN CHOICE, log entry 67. -/
def State.lineFill (s : State) (e : List Byte) : State :=
  let set := s.epSet (epPart e) (epKey e)
  let old := (s.epLines set).filter fun x => !epIs x (epPart e) (epKey e)
  let s := (old.drop 7).foldl State.writeBackTs s
  s.setLines set (epWithTs e s.ageNow :: old.take 7)

/-- The TS of an entry that counts: its line's where it is cached. -/
def State.authTs (s : State) (e : List Byte) : Nat :=
  match s.epLine (epPart e) (epKey e) with
  | some l => epTs l
  | none => epTs e

/-- TS = NOW on the entry of a slot. -/
def State.touch (s : State) (slot : Nat) : State :=
  let e := s.epAt slot
  match s.epLine (epPart e) (epKey e) with
  | some l => s.lineHit l
  | none => (s.setCopy false slot (epWithTs e s.ageNow)).setCopy true slot
      (if s.tblDup then epWithTs (s.epCopy true slot) s.ageNow else s.epCopy true slot)

/-! ### Objects (R151 to R153) -/

/-- The content of an object; none for an index that holds none. -/
def State.objBytes (s : State) (i : Nat) : Option (List Byte) :=
  if i ≤ 1057 then some ([1, 0] ++ toLE 2 i ++ [0, 0, 0, 0])
  else match Store.at? s.tbl.objects i with
    | some o => if o.retired.isNone then some o.bytes else none
    | none => none

/-- The state of an object: 0 FREE, 1 VALID, 2 RETIRED. -/
def State.objState (s : State) (i : Nat) : Nat :=
  if i ≤ 1057 then 1
  else match Store.at? s.tbl.objects i with
    | some o => if o.retired.isNone then 1 else 2
    | none => 0

/-- The object a response carries: 0 for no object; the value is free when the index holds no valid one.
DESIGN CHOICE, log entry 61. -/
def State.objAnswer (s : State) (nhop : Nat) : List Byte × State :=
  if nhop = 0xFFFFF then (List.replicate 8 0, s)
  else match s.objBytes nhop with
    | some b => (b, s)
    | none =>
      let (a, s1) := s.drawWord
      let (b, s2) := s1.drawWord
      (toLE 4 a.toNat ++ toLE 4 b.toNat, s2)

/-- Whether an entry of compartment c of slice n may name an object (R152). -/
def State.objAllowed (s : State) (n c nhop : Nat) : Bool :=
  if nhop = 0xFFFFF ∨ nhop ≤ 1057 then true
  else match Store.at? s.tbl.objects nhop with
    | some o => o.retired.isNone && (o.shared || o.owner == n + 32 * c)
    | none => false

/-- A press bank. -/
def State.press (s : State) (b : Nat) : Press := Store.read {} s.tbl.press b

/-- The state with a press bank replaced. -/
def State.setPress (s : State) (b : Nat) (x : Press) : State :=
  { s with tbl := { s.tbl with press := Store.put {} s.tbl.press b x } }

/-- Press banks that are on. -/
def State.pressOn (s : State) : List Nat := (List.range 8).filter fun b => s.domOn (132 + b)

/-- NHOP of an ACL entry's image. -/
def aclNhop (e : List Byte) : Nat := leAt e 84 4 % 2 ^ 20

/-- How many endpoint, route and ACL entries name object i (R153). -/
def State.objRefs (s : State) (i : Nat) : Nat :=
  s.tbl.ep.countP (fun e => decide (e.1 < 2 ^ 25) && epNhop e.2 == i) +
  (s.press ((s.pressOn).headD 0)).routes.countP (fun r => r.nhop == i) +
  s.tbl.acl.countP fun e => aclNhop e.2 == i

/-! ### Routes (R179, R180) -/

/-- The region of a family and prefix length. -/
def routeRegion (af plen : Nat) : Nat := if af = 2 then 128 - plen else 129 + (32 - plen)

/-- Rows of an entry. -/
def routeRows (af : Nat) : Nat := if af = 2 then 2 else 1

/-- Whether a route is that of a prefix. -/
def Route.is (r : Route) (af plen vrf addr : Nat) : Bool := r.af == af && r.plen == plen && r.vrf == vrf && r.addr == addr

/-- Rows a bank's valid entries hold. -/
def Press.used (x : Press) : Nat := (x.routes.map fun r => routeRows r.af).sum

/-- Rows that are neither held nor holes. -/
def Press.freeRows (x : Press) : Nat :=
  262144 - x.used - (x.holes.map fun h => h.2 * (if h.1 ≤ 128 then 2 else 1)).sum

/-- The result of a route write in a bank: none when it finds no room (R180). -/
def Press.write (x : Press) (r : Route) : Option Press :=
  if x.routes.any fun q => q.is r.af r.plen r.vrf r.addr then
    some { x with routes := x.routes.map fun q => if q.is r.af r.plen r.vrf r.addr then r else q }
  else
    let g := routeRegion r.af r.plen
    if 0 < Store.read 0 x.holes g then
      some { routes := x.routes ++ [r], holes := Store.put 0 x.holes g (Store.read 0 x.holes g - 1) }
    else if routeRows r.af ≤ x.freeRows then some { x with routes := x.routes ++ [r] }
    else none

/-- A route deleted from a bank: its rows become a hole of its region. -/
def Press.delete (x : Press) (af plen vrf addr : Nat) : Press :=
  if x.routes.any fun q => q.is af plen vrf addr then
    let g := routeRegion af plen
    { routes := x.routes.filter fun q => !q.is af plen vrf addr, holes := Store.put 0 x.holes g (Store.read 0 x.holes g + 1) }
  else x

/-- The longest matching prefix of an address in a bank. -/
def Press.lookup (x : Press) (af vrf addr : Nat) : Option Route :=
  let w := if af = 2 then 128 else 32
  x.routes.foldl (fun (best : Option Route) r =>
    if r.af = af ∧ r.vrf = vrf ∧ r.quar = false ∧ r.addr / 2 ^ (w - r.plen) = addr / 2 ^ (w - r.plen) then
      match best with
      | some q => if q.plen < r.plen then some r else best
      | none => some r
    else best) none

/-! ### The pair's endpoint events (R352, R354, R356) -/

/-- A record of Table 12.3. -/
def pairRecord (kind flags slice index eseq : Nat) (body : List Byte) : List Byte :=
  [BitVec.ofNat 8 kind, BitVec.ofNat 8 ((16 + body.length) / 16), BitVec.ofNat 8 flags, BitVec.ofNat 8 slice] ++
    toLE 4 index ++ toLE 4 eseq ++ [0, 0, 0, 0] ++ body

/-- The pair state (Table 12.5). -/
def State.pairState (s : State) : Nat := s.fld Reg.PAIR_STAT 22 20

/-- A sender's fault: an event or record was lost, and a resync with this device as donor starts (R355, R356). -/
def State.resyncAsDonor (s : State) : State :=
  if s.pairState ≠ 4 then s
  else
    let s := ((s.setReg Reg.PAIR_TERM (s.reg Reg.PAIR_TERM + 1)).setFld Reg.PAIR_STAT 22 20 3).setBit Reg.PAIR_STAT 18 true
    { s with pair := { s.pair with rsAt := some 0, rsDone := false, partnerDonor := false, marked := true } }

/-- An endpoint event waits for the pair's link while a partner is mirrored to (R352, R356). -/
def State.pairNote (s : State) (r : List Byte) : State :=
  if s.pairState = 3 ∨ s.pairState = 4 then
    if 65536 ≤ s.pair.events.length then
      ((s.count (Reg.PAIR_CNT 9)).raiseBit Reg.PAIR_STAT 29).resyncAsDonor
    else { s with pair := { s.pair with events := s.pair.events ++ [r] } }
  else s

/-- An EP_SET record of an entry; a quarantined entry is not sent (R357). -/
def State.noteSet (s : State) (slot : Nat) (e : List Byte) : State :=
  if epQuar e then s else s.pairNote (pairRecord 1 0 0 slot (epSeq e) e)

/-- An EP_DEL record. -/
def State.noteDel (s : State) (slot : Nat) (e : List Byte) (aged : Bool) (seq : Nat) : State :=
  s.pairNote (pairRecord 2 aged.toNat 0 slot seq (epKey e ++ toLE 2 (epPart e) ++ List.replicate 14 0))

/-! ### Stalled frames (R161 to R165) -/

/-- The 16-byte response, HIT and ERR of an endpoint hit on an image. -/
def State.epAnswer (s : State) (e : List Byte) : State × List Byte × Bool × Bool :=
  if epQuar e then (s, (statusAnswer 0 false).1, false, false)
  else
    let (o, s) := s.objAnswer (epNhop e)
    (s, [1, BitVec.ofNat 8 (leAt e 19 1), BitVec.ofNat 8 (epFlags e), 0] ++ (bytesAt e 32 4).reverse ++ objBE o, true, false)
where
  /-- An object as a response slot holds it: its numeric fields big-endian (R150). -/
  objBE (o : List Byte) : List Byte := bytesAt o 0 2 ++ (bytesAt o 2 2).reverse ++ (bytesAt o 4 4).reverse

/-- The answer of a parked frame's operation arrives; the time it was parked counts (R162). -/
def State.unpark (s : State) (p : Parked) (r : List Byte × Bool × Bool) : State :=
  match s.ctx? p.ctx with
  | none => s
  | some x =>
    s.setCtx p.ctx { x with parked := x.parked + (s.time.mono - p.at_)
                            outst := x.outst.map fun o => if o.seq = p.seq then { o with resp := some r } else o }

/-- A stall flow ends and every frame of it resumes with one result. -/
def State.resumeAll (s : State) (i : Nat) (r : List Byte × Bool × Bool) : State :=
  match Store.at? s.tbl.stalls i with
  | none => s
  | some st => st.frames.foldl (fun t p => t.unpark p r) { s with tbl := { s.tbl with stalls := Store.del s.tbl.stalls i } }

/-- A write or delete of (P, K) is granted: the stall flows parked for it resume with the entry as written, or with
STATUS 0 (R165). -/
def State.resolveStalls (s : State) (p : Nat) (k : List Byte) (e : Option (List Byte)) : State :=
  s.tbl.stalls.foldl (fun t st =>
    if st.2.part = p ∧ st.2.key = k then
      match e with
      | some e =>
        let (t, r) := t.epAnswer e
        t.resumeAll st.1 r
      | none => t.resumeAll st.1 (statusAnswer 0 false)
    else t) s

/-! ### Writes, moves and deletes -/

/-- An entry written into a slot: copies, then tag (R157), its cached line (R159), and the stalled frames (R165). -/
def State.epWrite (s : State) (slot : Nat) (e : List Byte) : State :=
  (((s.setCopies slot e).setTag slot (hashTag (s.epHash1 (epPart e) (epKey e)))).lineUpdate e).resolveStalls
    (epPart e) (epKey e) (some e)

/-- A slot's entry removed: tag first, then copies and line (R157). -/
def State.epClear (s : State) (slot : Nat) : State :=
  let e := s.epAt slot
  ((((s.setTag slot 0).setCopy false slot []).setCopy true slot []).lineDrop (epPart e) (epKey e)).resolveStalls
    (epPart e) (epKey e) none

/-- A delete takes a value of TBL_SEQ (R182) and tells the pair. -/
def State.epDelete (s : State) (slot : Nat) (aged : Bool) : State :=
  let e := s.epAt slot
  let (q, s) := s.nextTblSeq
  (s.epClear slot).noteDel slot e aged q

/-- A write of this device's own: the image takes a new SEQ (R182) and the pair is told. -/
def State.epWriteNew (s : State) (slot : Nat) (e : List Byte) : State :=
  let (q, s) := s.nextTblSeq
  let e := epPut e 20 4 q
  (s.epWrite slot e).noteSet slot e

/-- An entry moved whole into an empty slot or over a moved one (R168); its line and tag follow. -/
def State.epMoveTo (s : State) (src dst : Nat) : State :=
  let d := if s.tblDup then s.epCopy true src else []
  ((s.setCopy false dst (s.epAt src)).setCopy true dst d).setTag dst (s.epTag src)

/-- The other bucket of the entry in a slot (R156). -/
def State.epAlternate (s : State) (slot : Nat) : Nat :=
  let e := s.epAt slot
  let x := s.epPlace (epPart e) (epKey e)
  if slot % 2097152 / 4 = x.2.1 then x.2.2 else x.2.1

/-- The lowest free slot of a bucket. -/
def State.epFree (s : State) (shard b : Nat) : Option Nat :=
  ((List.range 4).map fun k => epSlot shard b k).find? fun i => s.epAt i == []

/-- One look ahead of the walk in bucket c: a slot not on the path whose entry's alternate bucket has a free slot. -/
def State.epAhead (s : State) (shard c : Nat) (path : List Nat) : Option (Nat × Nat) :=
  ((List.range 4).map fun k => epSlot shard c k).findSome? fun i =>
    if path.contains i then none else (s.epFree shard (s.epAlternate i)).map fun f => (i, f)

/-- The walk of R167: the slots to vacate, in order, and the free slot at the end. -/
def State.epWalk (s : State) (shard h : Nat) : Nat → Nat → Nat → List Nat → Option (List Nat × Nat)
  | 0, _, _, _ => none
  | fuel + 1, d, c, path =>
    match s.epAhead shard c path with
    | some (i, f) => some (path ++ [i], f)
    | none =>
      let ks := (List.range 4).map fun t => (d + h % 4 + t) % 4
      match ks.find? fun k => !path.contains (epSlot shard c k) with
      | none => none
      | some k => s.epWalk shard h fuel (d + 1) (s.epAlternate (epSlot shard c k)) (path ++ [epSlot shard c k])

/-- The moves of a path, from its last back to its first (R168). -/
def State.epMoves (s : State) (f : Nat) : List Nat → State
  | [] => s
  | i :: r => (s.epMoveTo i f).epMoves i r

/-- R167: the slot an insert of (P, K) writes to, once its path's moves are made; none when it fails. -/
def State.epInsert (s : State) (p : Nat) (k : List Byte) : Option (Nat × State) :=
  let x := s.epPlace p k
  match s.epFree x.1 x.2.1, s.epFree x.1 x.2.2 with
  | some i, _ => some (i, s)
  | none, some i => some (i, s)
  | none, none =>
    match s.epWalk x.1 (s.epHash1 p k) (oneIfZero (s.fld Reg.TBL_CTL 28 24)) 0 x.2.1 [] with
    | some (path, f) => some (path.headD 0, s.epMoves f path.reverse)
    | none => none

/-- A cache set's lines are lost with a failed row and read again from HBM (Table 11.10). -/
def State.tblInvalidate (s : State) (set : Nat) : State := s.setLines set []

/-- Whether an entry with timestamp `ts` is aged out (R175). -/
def State.agedOut (s : State) (e : List Byte) (ts : Nat) : Bool :=
  let limit := s.fld (Reg.TBL_PART_CFG (epPart e)) 31 17
  epValid e && !epStatic e && !epQuar e && decide (limit ≠ 0 ∧ limit ≤ (s.ageNow + 65536 - ts) % 65536)

end Sys2Proof.Machine
end

