-- ==== Sys2Proof/Machine/Lookup.lean ====
section
/-!
DEFINITION. Lookup.lean: table operations of a microword (R147 to R150): endpoint lookups with their miss stalls (R160
to R165), route and ACL lookups, and learns as a stage posts them (R171, R174).
-/

namespace Sys2Proof.Machine

/-! ### Allowances and selectors -/

/-- Uses of allowance k so far. -/
def Ctx.uses (x : Ctx) (k : Nat) : Nat := Store.read 0 x.used k

/-- The frame with one more use of allowance k. -/
def Ctx.use (x : Ctx) (k : Nat) : Ctx := { x with used := Store.set x.used k (x.uses k + 1) }

/-- IMM of a frame's microword. -/
def State.memImm (s : State) (x : Ctx) : Nat := bitsOf (s.microword x) 63 32

/-- A lookup beyond its allowance: STATUS 3, ERR, counted (R148). -/
def State.overLimit (s : State) (x : Ctx) : State × List Byte × Bool × Bool :=
  (s.tblCount x.slice x.comp 5, statusAnswer 3 false)

/-- A lookup the rind answers: STATUS 0, ERR, a violation of kind TABLE (R150). -/
def State.tableAnswer (s : State) (x : Ctx) (detail : Nat) : State × List Byte × Bool × Bool :=
  (s.ctxViolate x 3 (detail % 65536), statusAnswer 0 true)

/-- A table operation its target answers at once, within an allowance of `max` uses. -/
def State.tableNow (s : State) (c op k max : Nat) (run : State → Ctx → State × List Byte × Bool × Bool) : State :=
  match s.ctx? c with
  | none => s
  | some x =>
    if s.mayIssue x op then
      if max ≤ x.uses k then s.memNow c op fun t y => t.overLimit y
      else (s.setCtx c (x.use k)).memNow c op run
    else s

/-! ### Endpoint lookups -/

/-- The miss-read bucket of slice n at the present time, in thousandths of a read (R163). -/
def State.missBucket (s : State) (n : Nat) : Bucket :=
  let b := Store.read {} s.tbl.buckets n
  b.refill (s.fld (Reg.TBL_MISS_RATE n) 15 0) s.time.mono

/-- Take one miss read from slice n's bucket; none when it holds none. -/
def State.takeMissRead (s : State) (n : Nat) : Option State :=
  let b := s.missBucket n
  if b.short + 1000 ≤ 4096000 then
    some { s with tbl := { s.tbl with buckets := Store.set s.tbl.buckets n (b.take 1000) } }
  else none

/-- The stall flows of a frame's stream. -/
def State.streamStalls (s : State) (x : Ctx) : List (Nat × MissStall) :=
  s.tbl.stalls.filter fun e => e.2.slice == x.slice && e.2.pipe == x.pipe && e.2.stream == x.stream

/-- Frames a stream parks. -/
def State.streamParked (s : State) (x : Ctx) : Nat := ((s.streamStalls x).map fun e => e.2.frames.length).sum

/-- The miss action of a partition (R164): STATUS 2, or the frame is dropped; `over` when it is caused by an empty
bucket or a full stall. -/
def State.missAction (s : State) (c : Nat) (x : Ctx) (part : Nat) (ovr : Bool)
    (answer : State → List Byte × Bool × Bool → State) : State :=
  let s := if ovr then s.tblCount x.slice x.comp 2 else s
  if s.bit (Reg.TBL_PART_CFG part) 14 then (s.tblCount x.slice x.comp 4).dropCtx c else answer s (statusAnswer 2 false)

/-- The miss action for a parked frame. -/
def State.parkedAction (s : State) (part : Nat) (ovr : Bool) (p : Parked) : State :=
  match s.ctx? p.ctx with
  | none => s
  | some x => s.missAction p.ctx x part ovr fun t r => t.unpark p r

/-- A stall flow ends with the miss action for each of its frames. -/
def State.stallAction (s : State) (i : Nat) (ovr : Bool) : State :=
  match Store.at? s.tbl.stalls i with
  | none => s
  | some st =>
    st.frames.foldl (fun t p => t.parkedAction st.part ovr p)
      { s with tbl := { s.tbl with stalls := Store.del s.tbl.stalls i } }

/-- An endpoint lookup answered at once. -/
def State.epNow (s : State) (c : Nat) (x : Ctx) (r : State × List Byte × Bool × Bool) : State :=
  r.1.setCtx c (x.issue 2 (s.memSlot x) (some r.2))

/-- An endpoint lookup that waits in stall `i`. -/
def State.epPark (s : State) (c : Nat) (x : Ctx) (i : Nat) (st : MissStall) : State :=
  let st := { st with frames := st.frames ++ [{ ctx := c, seq := x.nextSeq, at_ := s.time.mono }] }
  ({ s with tbl := { s.tbl with stalls := Store.set s.tbl.stalls i st } }).setCtx c (x.issue 2 (s.memSlot x) none)

/-- The candidates of (P, K): its slots whose tag matches (R160). -/
def State.epCands (s : State) (p : Nat) (k : List Byte) : List Nat :=
  (s.epSlots p k).filter fun i => s.epTag i == hashTag (s.epHash1 p k)

/-- R160: an endpoint lookup by the frame of context c, granted. DEDUCED, log entry 60. -/
def State.endpointLookup (s : State) (c : Nat) (x : Ctx) : State :=
  let p := s.memImm x % 4096
  let k := s.memKey x
  let ovr := s.missAction c x p true fun t r => t.epNow c x (t, r)
  if s.inWindow x.slice x.comp 24 2 p = false then s.epNow c x (s.tableAnswer x p)
  else if s.tblOn = false then s.epNow c x (s, statusAnswer 0 false)
  else
    match (s.streamStalls x).find? fun e => e.2.part == p && e.2.key == k with
    | some e => if 256 ≤ s.streamParked x then ovr else s.epPark c x e.1 e.2
    | none =>
      match s.epLine p k with
      | some l =>
        if epQuar l then s.epNow c x (s, statusAnswer 0 false) else s.epNow c x ((s.lineHit l).epAnswer l)
      | none =>
        match s.epCands p k with
        | [] => s.epNow c x (s.tblCount x.slice x.comp 1, statusAnswer 0 false)
        | i :: r =>
          if 256 ≤ s.streamParked x ∨ 128 ≤ (s.streamStalls x).length then ovr
          else
            match s.takeMissRead x.slice with
            | none => ovr
            | some s =>
              let st : MissStall := { slice := x.slice, pipe := x.pipe, stream := x.stream, part := p, key := k,
                                      frames := [], reading := i, cands := r, since := s.time.mono }
              let j := s.tbl.nextStall
              ({ s with tbl := { s.tbl with nextStall := j + 1 } }.tblCount x.slice x.comp 0).epPark c x j st

/-- MEMOP 2 looks up the endpoint cache, and on a tag match parks the frame and reads HBM (R160). -/
def execEndpointLookup (c : Nat) (s : State) : Out :=
  match s.ctx? c with
  | none => .next s
  | some x =>
    if s.mayIssue x 2 then
      if 2 ≤ x.uses 0 then .next (s.epNow c x (s.overLimit x))
      else .next (s.endpointLookup c (x.use 0))
    else .next s

/-- The next candidate of stall `i` is read, or its frames take the miss action on an empty bucket, or the lookup ends
with no entry. -/
def State.nextCand (s : State) (i : Nat) (st : MissStall) : State :=
  match st.cands with
  | [] => s.resumeAll i (statusAnswer 0 false)
  | j :: r =>
    match s.takeMissRead st.slice with
    | none => s.stallAction i true
    | some s =>
      let comp := (st.frames.head?.bind fun p => (s.ctx? p.ctx).map (·.comp)).getD 0
      ({ s with tbl := { s.tbl with stalls := Store.set s.tbl.stalls i { st with reading := j, cands := r } } }).tblCount
        st.slice comp 0

/-- A read found the entry: the line is filled with TS = NOW and the stall flow resumes (R160). -/
def State.missFound (s : State) (i : Nat) (e : List Byte) : State :=
  let (s, r) := (s.lineFill e).epAnswer e
  s.resumeAll i r

/-- R160, R158: an HBM miss read of stall `i` returns from a copy; `err` 1 when that copy's read failed and the other was
read, 2 when every copy failed, on channel `ch`. DESIGN CHOICE, log entry 66. -/
def execMissReadReturn (i : Nat) (dup : Bool) (err : Fin 3) (ch : Fin 16) (s : State) : Out :=
  match Store.at? s.tbl.stalls i with
  | none => .next s
  | some st =>
    let copy := if s.tblDup then dup else false
    let stack := (st.reading / 2097152 % 4) ^^^ (if copy then 1 else 0)
    let src := srcId 12 (16 * stack + ch.val)
    if err.val = 2 ∨ (err.val = 1 ∧ s.tblDup = false) then
      let q := fun (e : List Byte) => if e = [] then e else epPut e 18 1 (epFlags e ||| 8)
      let s := s.reportFault src .cont .memoryRow st.reading 0
      let s := (s.setCopy false st.reading (q (s.epAt st.reading))).setCopy true st.reading (q (s.epCopy true st.reading))
      let s := if epIs (s.epAt st.reading) st.part st.key then s.lineDrop st.part st.key else s
      .next ((s.raiseBit Reg.TBL_STAT 30).resumeAll i (statusAnswer 0 false))
    else
      let s := if err.val = 1 then s.reportFault src .corr .memoryRow st.reading 0 else s
      let e := s.epCopy (if err.val = 1 then !copy else copy) st.reading
      if epIs e st.part st.key then .next (s.missFound i e) else .next (s.nextCand i st)

/-- Whether a stall has lasted `tmo` ns, or would take a frame past 6 µs parked in its pass (R162). -/
def State.stallOver (s : State) (tmo since : Nat) (frames : List Parked) : Bool :=
  decide (since + tmo ≤ s.time.mono) || frames.any fun p => match s.ctx? p.ctx with
    | some x => decide (us 6 ≤ x.parked + (s.time.mono - p.at_))
    | none => false

/-- A stall timeout of 100 ns units: 0 acts as 1, values above 60 as 60. -/
def stallTmo (v : Nat) : Nat := 100 * oneIfZero (min 60 v)

/-- R162: a miss stall exceeds MISS_TMO, or 6 µs in all; the miss action applies to its whole stall flow. -/
def execMissStallTimeout (i : Nat) (s : State) : Out :=
  match Store.at? s.tbl.stalls i with
  | none => .next s
  | some st =>
    if s.stallOver (stallTmo (s.fld (Reg.TBL_PART_CFG st.part) 13 8)) st.since st.frames then
      let comp := (st.frames.findSome? fun p => (s.ctx? p.ctx).map (·.comp)).getD 0
      .next ((s.tblCount st.slice comp 3).stallAction i false)
    else .next s

/-! ### Route and ACL lookups -/

/-- Whether a press bank answers: its domain is on and no fault record holds it (R340, Table 11.10). -/
def State.pressServes (s : State) (b : Nat) : Bool :=
  s.domOn (132 + b) && !s.flt.recs.any fun e => e.2.src == srcId 14 b && e.2.state != .done

/-- The bank that serves slice n: its own, or the other of the pair. -/
def State.pressFor (s : State) (n : Nat) : Option Nat :=
  if s.pressServes (n / 4) then some (n / 4) else if s.pressServes (n / 4 ^^^ 1) then some (n / 4 ^^^ 1) else none

/-- R179: the longest matching prefix in the slice's bank. -/
def State.routeLookup (s : State) (x : Ctx) : State × List Byte × Bool × Bool :=
  let imm := s.memImm x
  let vrf := imm % 65536
  let af := if imm.testBit 16 then 2 else 1
  let addr := beNat ((s.memKey x).take (if af = 2 then 16 else 4))
  if s.inWindow x.slice x.comp 28 2 vrf = false then s.tableAnswer x vrf
  else match (s.pressFor x.slice).bind fun b => (s.press b).lookup af vrf addr with
    | none => (s, statusAnswer 0 false)
    | some r =>
      let (o, s) := s.objAnswer r.nhop
      (s, [1, BitVec.ofNat 8 r.opc, BitVec.ofNat 8 r.plen, 0, 0, 0, 0, 0] ++ State.epAnswer.objBE o, true, false)

/-- MEMOP 3 looks up the longest matching prefix in the slice's press bank (R179). -/
def execRouteLookup (c : Nat) (s : State) : Out := .next (s.tableNow c 3 1 2 State.routeLookup)

/-- The key of ACL entry i of a pipe. -/
def aclIndex (n pipe i : Nat) : Nat := (n * 2 + pipe) * 8192 + i

/-- The image of an ACL entry; one never written is all zero. -/
def State.aclAt (s : State) (n pipe i : Nat) : List Byte :=
  (Store.at? s.tbl.acl (aclIndex n pipe i)).getD (List.replicate 92 0)

/-- Whether an ACL entry matches a 40-byte key (R184). -/
def aclMatches (e key : List Byte) : Bool :=
  leAt e 80 1 % 2 == 1 && decide (leAt key 0 40 &&& leAt e 40 40 = leAt e 0 40 &&& leAt e 40 40)

/-- The descriptor offset of a pipe's ACL window (Table 02.2). -/
def aclWindow (pipe : Nat) : Nat := if pipe = 0 then 32 else 36

/-- R184: a lookup of a range of the pipe's ACL memory; the lowest matching index wins. -/
def State.aclLookup (s : State) (x : Ctx) : State × List Byte × Bool × Bool :=
  let imm := s.memImm x
  let lo := imm % 8192
  let len := bitsOf imm 26 13
  let b := s.ctxBank x
  let t := bitsOf (s.microword x) 17 16
  let key := b.key x t ++ b.key x ((t + 1) % 4) ++ x.mdBytes 0 8
  if len = 0 then (s, statusAnswer 0 false)
  else if (s.inWindow x.slice x.comp (aclWindow x.pipe) 2 lo && s.inWindow x.slice x.comp (aclWindow x.pipe) 2 (lo + len - 1)) = false then
    s.tableAnswer x lo
  else
    let hits := s.tbl.acl.filter fun e =>
      decide (aclIndex x.slice x.pipe lo ≤ e.1 ∧ e.1 < aclIndex x.slice x.pipe lo + len) && aclMatches e.2 key
    match hits with
    | [] => (s, statusAnswer 0 false)
    | e :: _ =>
      let (o, s) := if leAt e.2 80 1 / 2 % 2 = 1 then s.objAnswer (aclNhop e.2) else (List.replicate 8 0, s)
      (s, [1, BitVec.ofNat 8 (leAt e.2 81 1)] ++ toBE 2 (e.1 % 8192) ++ (bytesAt e.2 88 4).reverse ++ State.epAnswer.objBE o,
        true, false)

/-- MEMOP 4 searches a range of the pipe's ACL memory; the lowest matching index wins (R184). -/
def execAclLookup (c : Nat) (s : State) : Out :=
  match s.ctx? c with
  | none => .next s
  | some x =>
    if (s.ctxBank x).keyBusy x ((bitsOf (s.microword x) 17 16 + 1) % 4) then .next s
    else .next (s.tableNow c 4 2 4 State.aclLookup)

/-! ### Learns -/

/-- The learn queue of a shard. -/
def State.learnQ (s : State) (shard : Nat) : List Learn := Store.read [] s.tbl.learnq shard

/-- The state with a shard's learn queue replaced. -/
def State.setLearnQ (s : State) (shard : Nat) (l : List Learn) : State :=
  { s with tbl := { s.tbl with learnq := Store.put [] s.tbl.learnq shard l } }

/-- Whether learning is on for a partition (R171). -/
def State.learnOn (s : State) (p : Nat) : Bool := s.tblOn && s.bit (Reg.TBL_PART_CFG p) 16

/-- R171: a learn posted by a frame: ignored, refreshing TS in the cache, or taken into its shard's queue. -/
def State.learnPost (s : State) (x : Ctx) : State × List Byte × Bool × Bool :=
  let p := s.memImm x % 4096
  let k := s.memKey x
  let port := ((s.frame? x.frame).map (·.orig)).getD 0
  if s.inWindow x.slice x.comp 24 2 p = false then s.tableAnswer x p
  else if s.learnOn p = false then (s, statusAnswer 0 false)
  else
    match (s.epLine p k).filter fun l => epNhop l == port with
    | some l => (s.lineHit l, statusAnswer 1 false)
    | none =>
      let shard := hashShard (s.epHash1 p k)
      if 1024 ≤ (s.learnQ shard).length then (s.tblCount x.slice x.comp 6, statusAnswer 0 false)
      else (s.setLearnQ shard (s.learnQ shard ++ [⟨x.slice, x.comp, port, p, k⟩]), statusAnswer 1 false)

/-- MEMOP 9 posts a learn of the key at the frame's ORIG_PORT (R171). -/
def execLearn (c : Nat) (s : State) : Out := .next (s.tableNow c 9 3 1 State.learnPost)

end Sys2Proof.Machine
end

