-- ==== Sys2Proof/Machine/FlowOps.lean ====
section
/-!
DEFINITION. FlowOps.lean: flow contexts and their cache (R276 to R278, R281), ownership between two devices (R350), the
update of R285, notification frames (R288 to R290), and meters (R292).
-/

namespace Sys2Proof.Machine

/-! ### Ownership (R350, R363) -/

/-- Whether the mode is active/active (PAIR_CTL.MODE). -/
def State.pairAA (s : State) : Bool := s.bit Reg.PAIR_CTL 30

/-- Whether this device is the active one (PAIR_STAT.ACTIVE). -/
def State.pairActive (s : State) : Bool := s.bit Reg.PAIR_STAT 19

/-- Whether this device owns context i as in state PAIRED. -/
def State.pairedOwns (s : State) (i : Nat) : Bool :=
  if s.pairAA then decide (i < min 1048576 (s.fld Reg.PAIR_OWN 20 0)) != s.bit Reg.PAIR_CTL 29 else s.pairActive

/-- Whether this device owns context i. -/
def State.ownsFlow (s : State) (i : Nat) : Bool :=
  if s.pairState = 3 then
    if s.bit Reg.PAIR_STAT 18 && s.pair.partnerDonor then s.pairedOwns i else s.bit Reg.PAIR_STAT 18
  else if s.pairState = 4 ∨ s.pairState = 5 then s.pairedOwns i
  else true

/-! ### Contexts -/

/-- A context that is all zero. -/
def flowZero : List Byte := List.replicate 64 0

/-- The flow cache line that holds context i, among the eight of its set. DESIGN CHOICE, log entry 67. -/
def State.flowLine (s : State) (i : Nat) : Option (Nat × FlowLine) :=
  ((List.range 8).map fun w => i % 16384 * 8 + w).findSome? fun k => match Store.at? s.flow.cache k with
    | some l => if l.index = i then some (k, l) else none
    | none => none

/-- A context in HBM. -/
def State.flowHbm (s : State) (i : Nat) : List Byte := Store.read flowZero s.flow.hbm i

/-- The state with a context in HBM replaced. -/
def State.setFlowHbm (s : State) (i : Nat) (b : List Byte) : State :=
  { s with flow := { s.flow with hbm := Store.put flowZero s.flow.hbm i b } }

/-- The authoritative copy of a context (R277). -/
def State.flowGet (s : State) (i : Nat) : List Byte :=
  match s.flowLine i with
  | some (_, l) => l.bytes
  | none => s.flowHbm i

/-- The state with line k replaced, as its latest use. -/
def State.setFlowLine (s : State) (k : Nat) (l : FlowLine) : State :=
  { s with flow := { s.flow with cache := Store.set s.flow.cache k { l with used := s.flow.nextUse }
                                 nextUse := s.flow.nextUse + 1 } }

/-- A context's change is to be sent to the partner when this device owns it (R351, R353). -/
def State.flowChanged (s : State) (i : Nat) : State :=
  if s.ownsFlow i then { s with pair := { s.pair with flowDirty := NatSet.add s.pair.flowDirty i } } else s

/-- A context written where it is held. -/
def State.flowStore (s : State) (i : Nat) (b : List Byte) : State :=
  match s.flowLine i with
  | some (k, l) => s.setFlowLine k { l with bytes := b, dirty := true }
  | none => s.setFlowHbm i b

/-- CFLAGS without PEER (R350). -/
def clearPeer (b : List Byte) : List Byte := overlay b 0 [BitVec.ofNat 8 (leAt b 0 1) &&& 0xFB]

/-- A context written by this device itself (R350, R353). -/
def State.flowPut (s : State) (i : Nat) (b : List Byte) : State := (s.flowStore i (clearPeer b)).flowChanged i

/-- A flow record of the partner's form (Table 12.3). -/
def flowRecord (rs : Bool) (i : Nat) (b : List Byte) : List Byte := pairRecord 3 (2 * rs.toNat) 0 i 0 b

/-- A changed line written back to HBM, with its record when one is owed (R277, R353). -/
def State.flowWriteBack (s : State) (l : FlowLine) : State :=
  if l.dirty then
    let s1 := s.setFlowHbm l.index l.bytes
    if s.pair.flowDirty.contains l.index && s.pairState == 4 && s.bit Reg.PAIR_CTL 27 then
      { s1 with pair := { s1.pair with flowDirty := NatSet.drop s1.pair.flowDirty l.index
                                       made := s1.pair.made ++ [flowRecord false l.index l.bytes] } }
    else s1
  else s

/-- Slice n's bucket of flow HBM accesses now: thousandths below full (R278). -/
def State.flowBucket (s : State) (n : Nat) : Bucket :=
  (Store.read {} s.flow.buckets n).refill (s.fld (Reg.FLOW_RATE n) 15 0) s.time.mono

/-- One access taken from slice n's bucket, to at most −4,096. -/
def State.takeFlow (s : State) (n : Nat) : State :=
  let b := s.flowBucket n
  { s with flow := { s.flow with buckets := Store.set s.flow.buckets n { b with short := min 8192000 (b.short + 1000) } } }

/-- The line a fill of context i takes: a free one of its set, or the least recently used.
DESIGN CHOICE, log entry 67. -/
def State.flowVictim (s : State) (i : Nat) : Nat :=
  let ks := (List.range 8).map fun w => i % 16384 * 8 + w
  match ks.find? fun k => (Store.at? s.flow.cache k).isNone with
  | some k => k
  | none => (ks.foldl (fun (b : Nat × Nat) k => match Store.at? s.flow.cache k with
      | some l => if l.used < b.2 then (k, l.used) else b
      | none => b) (i % 16384 * 8, s.flow.nextUse)).1

/-- A miss read fills a line for context i, by slice n (R277, R278). -/
def State.flowFill (s : State) (n i : Nat) (b : List Byte) : State :=
  let k := s.flowVictim i
  let s := match Store.at? s.flow.cache k with
    | some l => if l.dirty then (s.flowWriteBack l).takeFlow n else s
    | none => s
  s.setFlowLine k { index := i, bytes := b }

/-- A cached context read: its line is used. -/
def State.flowTouch (s : State) (i : Nat) : State :=
  match s.flowLine i with
  | some (k, l) => s.setFlowLine k l
  | none => s

/-- Count flow event k of a compartment (Table 09.10). -/
def State.flowCount (s : State) (n c k : Nat) : State := s.count (Reg.SLC_FLOW_CNT n c k)

/-! ### The update (R285) -/

/-- The fields of a context (Table 09.1). -/
structure FlowCtx where
  cflags : Nat
  profile : Nat
  reply : Nat
  tag : Nat
  bytes : Nat
  pkts : Nat
  winStart : Nat
  winBytes : Nat
  est : Nat
  rate : Nat
  lastNotify : Nat
  lastRaise : Nat
  maxdly : Nat
  pdata : List Byte
  deriving DecidableEq, Repr

/-- A context's fields from its 64 bytes. -/
def FlowCtx.of (b : List Byte) : FlowCtx :=
  { cflags := leAt b 0 1, profile := leAt b 1 1, reply := leAt b 2 2, tag := leAt b 4 4, bytes := leAt b 8 8,
    pkts := leAt b 16 4, winStart := leAt b 20 4, winBytes := leAt b 24 4, est := leAt b 28 4, rate := leAt b 32 4,
    lastNotify := leAt b 36 4, lastRaise := leAt b 40 4, maxdly := leAt b 44 4, pdata := bytesAt b 48 16 }

/-- The 64 bytes of a context. -/
def FlowCtx.image (c : FlowCtx) : List Byte :=
  toLE 1 c.cflags ++ toLE 1 c.profile ++ toLE 2 c.reply ++ toLE 4 c.tag ++ toLE 8 c.bytes ++ toLE 4 c.pkts ++
    toLE 4 c.winStart ++ toLE 4 c.winBytes ++ toLE 4 c.est ++ toLE 4 c.rate ++ toLE 4 c.lastNotify ++ toLE 4 c.lastRaise ++
    toLE 4 c.maxdly ++ c.pdata

/-- CFLAGS bits. -/
def FlowCtx.valid (c : FlowCtx) : Bool := c.cflags.testBit 0
def FlowCtx.rated (c : FlowCtx) : Bool := c.cflags.testBit 1

/-- The context with RATED set or cleared. -/
def FlowCtx.setRated (c : FlowCtx) (b : Bool) : FlowCtx :=
  { c with cflags := c.cflags - (if c.rated then 2 else 0) + if b then 2 else 0 }

/-- NOW_US (R276). -/
def State.nowUs (s : State) : Nat := s.time.mono / 1000 % 2 ^ 32

/-- Microseconds elapsed since a stored value (R276). -/
def State.elapsedUs (s : State) (t : Nat) : Nat := min (2 ^ 31 - 1) ((s.nowUs + 2 ^ 32 - t) % 2 ^ 32)

/-- The base of profile p (R287). -/
def profileBase (p : Nat) : Nat := 0x6004000 + 0x20 * p

/-- A field of profile p (Table 09.3). -/
def State.prof (s : State) (p off n : Nat) : Nat := s.winLE (profileBase p) off n

/-- What an update decides. -/
inductive Decision where
  | decrease
  | increase
  | release
  deriving DecidableEq, Repr

/-- KIND of a control record (Table 09.6). -/
def Decision.kind : Decision → Nat
  | .decrease => 1
  | .increase => 2
  | .release => 3

/-- What a frame brings to an update: its length, arrival port, queue delay and depth. -/
structure FlowFrame where
  pipe : Nat
  len : Nat
  orig : Nat
  qdelay : Nat
  qdepth : Nat
  deriving DecidableEq, Repr

/-- The frame of a context as an update sees it (Tables 03.2 and 04.4). -/
def Ctx.flowFrame (x : Ctx) : FlowFrame :=
  { pipe := x.pipe, len := x.mdBE 4 2, orig := x.mdBE 2 2, qdepth := if x.pipe = 0 then 0 else x.mdBE 24 4,
    qdelay := if x.pipe = 0 then 0 else x.mdBE 28 4 }

/-- The greatest value of RATE and EST. -/
def rateMax : Nat := 2 ^ 32 - 1

/-- The ingress half of R285: measuring, and the raise when `loop`. DEDUCED, log entry 68. -/
def State.flowIngress (s : State) (c : FlowCtx) (f : FlowFrame) (p : Nat) (loop : Bool) : FlowCtx × Option Decision :=
  let c := { c with reply := f.orig }
  let e := s.elapsedUs c.winStart
  let c := if max 1 (min 1000 (s.prof p 12 2)) ≤ e then
      { c with est := min rateMax (c.winBytes * 8 / e), winStart := s.nowUs, winBytes := f.len }
    else { c with winBytes := min rateMax (c.winBytes + f.len) }
  let raise := s.prof p 28 2
  if loop && c.rated && raise != 0 && decide (raise ≤ s.elapsedUs c.lastRaise) then
    let c := { c with rate := min rateMax (c.rate + s.prof p 24 4), lastRaise := s.nowUs }
    if s.prof p 20 4 ≤ c.rate then ({ c with rate := 0 }.setRated false, some .release)
    else if (s.prof p 0 1).testBit 2 && decide (s.prof p 14 2 ≤ s.elapsedUs c.lastNotify) then (c, some .increase)
    else (c, none)
  else (c, none)

/-- Whether an egress update is congested. -/
def State.congested (s : State) (f : FlowFrame) (p : Nat) : Bool :=
  f.pipe == 1 && (decide (s.prof p 4 4 < f.qdelay) || (s.prof p 8 4 != 0 && decide (s.prof p 8 4 < f.qdepth)))

/-- The egress half of R285: the highest delay, and the decrease when `loop`. -/
def State.flowEgress (s : State) (c : FlowCtx) (f : FlowFrame) (p : Nat) (loop : Bool) : FlowCtx × Option Decision :=
  let c := { c with maxdly := max c.maxdly f.qdelay }
  if loop && s.congested f p && decide (s.prof p 14 2 ≤ s.elapsedUs c.lastNotify) then
    let base := if c.est ≠ 0 then c.est else s.prof p 20 4
    let base := if c.rated then min base c.rate else base
    let dec := if s.prof p 3 1 = 0 then 128 else s.prof p 3 1
    ({ c with rate := max (s.prof p 16 4) (min rateMax (base * dec / 256)), lastRaise := s.nowUs }.setRated true,
      some .decrease)
  else (c, none)

/-- R285's update of a context, valid or just created, under its profile; with the response of Table 09.2 and the
decision. A device that does not own the context makes none (R351). -/
def State.flowUpdate (s : State) (i imm : Nat) (b : List Byte) (f : FlowFrame) :
    Option (FlowCtx × List Byte × Option Decision) :=
  let c := FlowCtx.of b
  if c.valid = false ∧ imm % 2 = 0 then none
  else
    let created := !c.valid
    let c := if created then
        { FlowCtx.of flowZero with cflags := 1, profile := bitsOf imm 6 1, reply := 0xFFFF, winStart := s.nowUs,
                                   lastNotify := (s.nowUs + 2 ^ 31 + 1) % 2 ^ 32, lastRaise := (s.nowUs + 2 ^ 31 + 1) % 2 ^ 32 }
      else c
    let c := { c with bytes := min (2 ^ 64 - 1) (c.bytes + f.len), pkts := min rateMax (c.pkts + 1) }
    let p := c.profile % 64
    let loop := s.prof p 0 1 % 4 == 3 && s.ownsFlow i
    let (c, d) := if f.pipe = 0 then s.flowIngress c f p loop else s.flowEgress c f p loop
    let c := if d.isSome then { c with lastNotify := s.nowUs } else c
    let ovr := c.rated && decide (c.rate + c.rate * s.prof p 30 1 / 256 < c.est)
    let verdict := (s.congested f p).toNat + 2 * d.isSome.toNat + 4 * ovr.toNat + 8 * c.rated.toNat + 16 * created.toNat
    some (c, [1, BitVec.ofNat 8 verdict, 0, 0] ++ toBE 4 c.rate ++ toBE 4 c.est ++ toBE 4 c.tag, d)

/-! ### Notifications (R288 to R290) -/

/-- The control record (Table 09.6). -/
def State.controlRecord (s : State) (d : Decision) (n i : Nat) (c : FlowCtx) (f : FlowFrame) : List Byte :=
  [1, BitVec.ofNat 8 d.kind, BitVec.ofNat 8 n, BitVec.ofNat 8 (c.profile % 64)] ++ toBE 4 i ++ toBE 4 c.rate ++
    toBE 4 c.est ++ toBE 4 f.qdelay ++ toBE 4 f.qdepth ++ toBE 4 c.tag ++ toBE 4 (s.time.mono % 10 ^ 9)

/-- The base of notification program j (R289). -/
def notifyBase (j : Nat) : Nat := 0x6008000 + 0x100 * j

/-- Bytes written over an output where they fall within it, or not at all (Table 09.5). -/
def patch (out : List Byte) (off : Nat) (l : List Byte) : List Byte :=
  if off + l.length ≤ out.length then overlay out off l else out

/-- One command of Table 09.5 on the output so far; none for END. -/
def State.notifyCmd (s : State) (j : Nat) (frame rcd out : List Byte) (op len a : Nat) : Option (List Byte) :=
  match op with
  | 1 => some ((out ++ bytesAt (s.winBytes (notifyBase j) 128 128) a len).take 256)
  | 2 => some ((out ++ bytesAt frame a len).take 256)
  | 3 => some ((out ++ rcd).take 256)
  | 4 => some ((out ++ List.replicate len 0).take 256)
  | 5 => some (patch out a (toBE 2 ((out.length + 65536 - len) % 65536)))
  | 6 =>
    if out.length < a + 12 then some out
    else some (patch out (a + 10) (toBE 2 (inetSum (overlay (bytesAt out a len) 10 [0, 0]))))
  | 7 =>
    if out.length < a + 48 then some out
    else
      let seg := overlay (out.drop (a + 40)) 6 [0, 0]
      some (patch out (a + 46) (toBE 2 (udpSum (bytesAt out (a + 8) 32 ++ toBE 4 seg.length ++ [0, 0, 0, 17]) seg)))
  | _ => none

/-- The output of a program's commands from command k on. -/
def State.notifyRun (s : State) (j : Nat) (frame rcd : List Byte) : Nat → Nat → List Byte → List Byte
  | 0, _, out => out
  | fuel + 1, k, out =>
    let b := notifyBase j
    match s.notifyCmd j frame rcd out (s.winLE b (4 + 4 * k) 1) (s.winLE b (5 + 4 * k) 1) (s.winLE b (6 + 4 * k) 2) with
    | none => out
    | some o => State.notifyRun s j frame rcd fuel (k + 1) o

/-- Slice n's notification bucket now: thousandths below full (R288). -/
def State.notifyBucket (s : State) (n : Nat) : Bucket :=
  (Store.read {} s.flow.notify n).refill (s.fld (Reg.SLC_FLOW_CFG n) 31 16) s.time.mono

/-- Whether that bucket holds a notification. DESIGN CHOICE, log entry 70. -/
def State.notifyOk (s : State) (n : Nat) : Bool :=
  s.fld (Reg.SLC_FLOW_CFG n) 31 16 != 0 &&
    decide ((s.notifyBucket n).short + 1000 ≤ 16000 * oneIfZero (s.fld (Reg.SLC_FLOW_CFG n) 15 8))

/-- R288: the notification of a decision, triggered by the frame of context `x`. DESIGN CHOICE, log entry 70. -/
def State.notify (s : State) (x : Ctx) (i : Nat) (c : FlowCtx) (f : FlowFrame) (d : Decision) : State :=
  let n := x.slice
  let p := c.profile % 64
  let j := s.prof p 1 1 % 16
  if s.winLE (notifyBase j) 0 1 % 2 = 0 ∨ 1023 < c.reply then s.flowCount n x.comp 8
  else if s.notifyOk n = false then s.flowCount n x.comp 7
  else
    let s := { s with flow := { s.flow with notify := Store.set s.flow.notify n ((s.notifyBucket n).take 1000) } }
    let trig := ((s.frame? x.frame).map (·.bytes)).getD []
    let out : List Byte := State.notifyRun s j (bytesAt trig 0 256) (s.controlRecord d n i c f) 16 0 []
    let s := if out.length < 60 then s.egCount x 3 else s
    if s.destAllowed n x.comp c.reply = false then (s.ctxViolate x 1 c.reply).flowCount n x.comp 8
    else
      let cp : Copy := { frame := 0, kind := .made, dest := c.reply, queue := s.prof p 2 1 % 16, slice := n, comp := x.comp,
                         note := some (d == .release) }
      s.queueToStore 2048 { slice := n, comp := x.comp, inPort := 2048, orig := f.orig, rest := withFcs (padTo60 out),
                            after := some cp }

/-! ### Meters (R292) -/

/-- The key of meter i of slice n. -/
def meterKey (n i : Nat) : Nat := n * 65536 + i

/-- A meter's configuration words (Table 09.7). -/
def State.meterWord (s : State) (k w : Nat) : Nat := ((Store.read [] s.flow.meterCfg k).getD w 0).toNat

/-- A rate field, at most 1,600,000. -/
def meterRate (w : Nat) : Nat := min 1600000 (w % 2 ^ 21)

/-- A meter's tokens now: at CIR (and PIR) Mb/s, that is 1/8,000 byte per ns (R292). -/
def State.meterFill (s : State) (k : Nat) : Meter :=
  let m := Store.read {} s.flow.meters k
  let d := s.time.mono - m.last
  let cir := meterRate (s.meterWord k 0)
  let cbs := 8000 * (s.meterWord k 2 % 2 ^ 24)
  let ebs := 8000 * (s.meterWord k 3 % 2 ^ 24)
  let c := m.c + d * cir
  if s.meterWord k 0 / 2 ^ 30 = 1 then
    { c := min cbs c, e := min ebs (m.e + (c - cbs)), last := s.time.mono }
  else { c := min cbs c, e := min ebs (m.e + d * max cir (meterRate (s.meterWord k 1))), last := s.time.mono }

/-- A frame's colour (0 green, 1 yellow, 2 red) and the tokens after it: RFC 2697 in MODE 1, RFC 2698 in MODE 2; `pre`
is the input colour, 0 when the meter is colour-blind. -/
def meterColour (mode : Nat) (m : Meter) (len pre : Nat) : Nat × Meter :=
  let b := 8000 * len
  if mode = 1 then
    if pre = 0 ∧ b ≤ m.c then (0, { m with c := m.c - b })
    else if pre ≤ 1 ∧ b ≤ m.e then (1, { m with e := m.e - b })
    else (2, m)
  else if mode = 2 then
    if 2 ≤ pre ∨ m.e < b then (2, m)
    else if pre = 1 ∨ m.c < b then (1, { m with e := m.e - b })
    else (0, { m with c := m.c - b, e := m.e - b })
  else (0, m)

/-- The state with a meter's tokens replaced. -/
def State.setMeter (s : State) (k : Nat) (m : Meter) : State :=
  { s with flow := { s.flow with meters := Store.set s.flow.meters k m }
           pair := { s.pair with mtrDirty := NatSet.add s.pair.mtrDirty k } }

end Sys2Proof.Machine
end

