-- ==== Sys2Proof/Machine/FlowState.lean ====
section
/-!
DEFINITION. FlowState.lean: the commands of flow state, meters and counters: microword accesses (R279 to R285, R291,
R446), miss reads and stalls (R280, R282), software access (R281, R293, R447), the clear and the rates (R276, R278).
-/

namespace Sys2Proof.Machine

/-! ### Accesses from a stage -/

/-- The answer of an access to a context that is not performed: MEMOP 5 gives zeros and ERR, 6 and 10 a STATUS. -/
def flowRefused (op status : Nat) (rind : Bool) : List Byte × Bool × Bool :=
  if op = 5 then (List.replicate 16 0, false, true) else statusAnswer status rind

/-- One access to context i performed whole on its present bytes (R281, R283, R285). -/
def State.flowPerform (s : State) (x : Ctx) (op i imm : Nat) (data : List Byte) : State × List Byte × Bool × Bool :=
  let b := s.flowGet i
  if op = 5 then (s.flowTouch i, bytesAt b (16 * (imm % 4)) 16, true, false)
  else if op = 6 then
    let mask := bitsOf imm 31 16
    let q := 16 * (imm % 4)
    let new := (List.range 16).map fun j => if mask = 0 ∨ mask.testBit j then data.getD j 0 else b.getD (q + j) 0
    (s.flowPut i (overlay b q new), statusAnswer 1 false)
  else
    match s.flowUpdate i imm b x.flowFrame with
    | none => (s.flowTouch i, statusAnswer 0 false)
    | some (c, r, d) =>
      let s := s.flowPut i c.image
      let s := match d with
        | some d => s.notify x i c x.flowFrame d
        | none => s
      (s, r, true, false)

/-- The flow stalls of a frame's stream. -/
def State.streamFlows (s : State) (x : Ctx) : List (Nat × FlowStall) :=
  s.flow.stalls.filter fun e => e.2.slice == x.slice && e.2.pipe == x.pipe && e.2.stream == x.stream

/-- The index, IMM and bytes of a frame's flow access (R279, R283). -/
def State.flowArgs (s : State) (x : Ctx) : Nat × Nat × List Byte :=
  let w := s.microword x
  (beNat ((s.memKey x).take 4) % 2 ^ 20, s.memImm x,
    if bitsOf w 15 15 = 1 then x.respBytes (bitsOf w 95 88) 16 else x.mdBytes (bitsOf w 95 88) 16)

/-- A flow access answered at once. -/
def State.flowNow (s : State) (c op : Nat) (x : Ctx) (r : State × List Byte × Bool × Bool) : State :=
  r.1.setCtx c (x.issue op (s.memSlot x) (some r.2))

/-- The parked frames perform their accesses in order and resume. -/
def State.flowResume (s : State) (i : Nat) (frames : List Parked) : State :=
  frames.foldl (fun t p => match t.ctx? p.ctx with
    | none => t
    | some x =>
      let r := t.flowPerform x p.op i p.imm p.data
      r.1.unpark p r.2) s

/-- A stall taken off. -/
def State.dropFlowStall (s : State) (j : Nat) : State :=
  { s with flow := { s.flow with stalls := Store.del s.flow.stalls j } }

/-- A write of context i is granted while it is being read: the stalls for it resume with the context as written, and
the read's data is discarded (R281). -/
def State.resolveFlow (s : State) (i : Nat) : State :=
  s.flow.stalls.foldl (fun t e => if e.2.index = i then (t.dropFlowStall e.1).flowResume i e.2.frames else t) s

/-- A flow access that waits in stall j. -/
def State.flowPark (s : State) (c op : Nat) (x : Ctx) (j : Nat) (st : FlowStall) : State :=
  let a := s.flowArgs x
  let p : Parked := { ctx := c, seq := x.nextSeq, at_ := s.time.mono, op := op, imm := a.2.1, data := a.2.2 }
  let st := { st with frames := st.frames ++ [p] }
  ({ s with flow := { s.flow with stalls := Store.set s.flow.stalls j st } }).setCtx c (x.issue op (s.memSlot x) none)

/-- Writes to a response slot outstanding that a frame's data reads (R133). -/
def State.flowBusy (s : State) (x : Ctx) (op : Nat) : Bool :=
  let w := s.microword x
  op == 6 && bitsOf w 15 15 == 1 && x.respBusy (bitsOf w 95 88) 16

/-- R279, R280: a flow access by the frame of context c, granted. -/
def State.flowAccess (s : State) (c op : Nat) (x : Ctx) : State :=
  let (i, imm, data) := s.flowArgs x
  let x1 := x.use 4
  let ovr := fun (t : State) => t.flowNow c op x1 (t.flowCount x.slice x.comp 1, flowRefused op 2 false)
  if 2 ≤ x.uses 4 then s.flowNow c op x ((s.flowCount x.slice x.comp 3), flowRefused op 3 false)
  else if s.inWindow x.slice x.comp 40 4 i = false then
    s.flowNow c op x1 ((s.ctxViolate x 4 (i % 65536)), flowRefused op 0 true)
  else if s.bit Reg.FLOW_CTL 31 = false then s.flowNow c op x1 (s, flowRefused op 2 false)
  else
    match (s.streamFlows x).find? fun e => e.2.index == i with
    | some e =>
      if 128 ≤ ((s.streamFlows x).map fun e => e.2.frames.length).sum then ovr s else s.flowPark c op x1 e.1 e.2
    | none =>
      match s.flowLine i with
      | some _ =>
        let r := s.flowPerform x op i imm data
        let t := s.flowNow c op x1 r
        if op != 5 && r.2.1.headD 0 == 1 then t.resolveFlow i else t
      | none =>
        let b := s.flowBucket x.slice
        if 128 ≤ ((s.streamFlows x).map fun e => e.2.frames.length).sum ∨ 64 ≤ (s.streamFlows x).length ∨
            4096000 ≤ b.short then ovr s
        else
          let j := s.flow.nextStall
          let s := (s.takeFlow x.slice).flowCount x.slice x.comp 0
          let st : FlowStall := { slice := x.slice, pipe := x.pipe, stream := x.stream, index := i, frames := [],
                                  since := s.time.mono }
          { s with flow := { s.flow with nextStall := j + 1 } }.flowPark c op x1 j st

/-- A flow access of a frame's microword. DEDUCED, log entry 60. -/
def State.flowOp (s : State) (c op : Nat) : State :=
  match s.ctx? c with
  | none => s
  | some x => if s.mayIssue x op && !s.flowBusy x op then s.flowAccess c op x else s

/-- MEMOP 5 reads one quarter of a flow context into a response slot (R283). -/
def execFlowContextRead (c : Nat) (s : State) : Out := .next (s.flowOp c 5)

/-- MEMOP 6 writes masked bytes of one quarter of a flow context (R283). -/
def execFlowContextWrite (c : Nat) (s : State) : Out := .next (s.flowOp c 6)

/-- MEMOP 10 measures a flow context and may decide a decrease, increase or release (R285). -/
def execFlowStateUpdate (c : Nat) (s : State) : Out := .next (s.flowOp c 10)

/-! ### Stalls -/

/-- The parked frames resume with an access that is not performed. -/
def State.flowRefuseAll (s : State) (status k : Nat) (frames : List Parked) : State :=
  frames.foldl (fun t p => match t.ctx? p.ctx with
    | none => t
    | some x => (t.flowCount x.slice x.comp k).unpark p (flowRefused p.op status false)) s

/-- R280, R282: the flow miss read of stall j returns, or returns an uncorrectable error of channel `ch`.
DESIGN CHOICE, log entry 66. -/
def execFlowMissReturn (j : Nat) (ok : Bool) (ch : Fin 16) (s : State) : Out :=
  match Store.at? s.flow.stalls j with
  | none => .next s
  | some st =>
    let s := s.dropFlowStall j
    if ok then
      let s := (s.flowFill st.slice st.index (s.flowGet st.index)).flowResume st.index st.frames
      .next (if st.frames.any (·.op != 5) then s.resolveFlow st.index else s)
    else
      let s := s.reportFault (srcId 12 (16 * (st.index % 4) + ch.val)) .cont .memoryRow st.index 0
      let s := (s.setFlowHbm st.index flowZero).flowChanged st.index
      .next ((s.raiseBit Reg.FLOW_STAT 30).flowRefuseAll 4 4 st.frames)

/-- R280: a flow stall times out; every frame in it is answered as unresolved. -/
def execFlowStallTimeout (j : Nat) (s : State) : Out :=
  match Store.at? s.flow.stalls j with
  | none => .next s
  | some st =>
    if s.stallOver (stallTmo (s.fld (Reg.SLC_FLOW_CFG st.slice) 5 0)) st.since st.frames then
      .next ((s.dropFlowStall j).flowRefuseAll 2 2 st.frames)
    else .next s

/-- A cache set's rows are lost: changed lines clear their contexts, others are read again (Table 11.8, FLOW). -/
def State.flowInvalidate (s : State) (set : Nat) : State :=
  ((List.range 8).map fun w => set * 8 + w).foldl (fun t k => match Store.at? t.flow.cache k with
    | none => t
    | some l =>
      let t1 := { t with flow := { t.flow with cache := Store.del t.flow.cache k } }
      if l.dirty then ((t1.setFlowHbm l.index flowZero).flowChanged l.index).raiseBit Reg.FLOW_STAT 30 else t1) s

/-! ### Software access to contexts (R281, R294) -/

/-- An access through FLOW_ACC, confined to the FLOW windows of a VF's compartments. -/
def State.flowAccReg (s : State) (m : Master) (acc : Word) (run : Nat → State → State) : State :=
  s.gated m Reg.FLOW_ACC true fun s =>
    let i := fieldOf acc 19 0
    let s := s.setFld Reg.FLOW_ACC 19 0 i
    match m with
    | .vf n => if s.windowMay m n 40 4 i then run i s else s.vfViolation n 12 Reg.FLOW_ACC
    | _ => run i s

/-- FLOW_ACC.RD: context i into FLOW_DATA. -/
def State.flowAccRead (s : State) (i : Nat) : State :=
  let b := s.flowGet i
  (List.range 16).foldl (fun t w => t.setReg (Reg.FLOW_DATA w) (BitVec.ofNat 32 (leAt b (4 * w) 4))) s

/-- FLOW_ACC.WR: FLOW_DATA into context i. -/
def State.flowAccWrite (s : State) (i : Nat) : State :=
  (s.flowPut i ((List.range 16).flatMap fun w => toLE 4 (s.reg (Reg.FLOW_DATA w)).toNat)).resolveFlow i

/-- FLOW_ACC.WR writes a whole flow context under its arbiter (R281). -/
def execFlowAccWrite (m : Master) (acc : Word) (s : State) : Out :=
  .next (s.flowAccReg m acc fun i s => s.flowAccWrite i)

/-- FLOW_ACC.RD loads a flow context into FLOW_DATA (R281). -/
def execFlowAccRead (m : Master) (acc : Word) (s : State) : Out :=
  .next (s.flowAccReg m acc fun i s => s.flowAccRead i)

/-! ### Enable, clear and rates -/

/-- A write of FLOW_CTL: EN is the PF's; CLR clears every context and the cache while EN is 0 (R276). -/
def State.flowCtlWrite (s : State) (m : Master) (data : Word) : State :=
  let clr := fieldOf data 30 30 = 1 ∧ s.bit Reg.FLOW_CTL 31 = false
  let s := match m with
    | .pf => s.setBit Reg.FLOW_CTL 31 data.msb
    | _ => s
  if clr then { s with flow := { s.flow with hbm := [], cache := [] } }.setBit Reg.FLOW_CTL 29 true else s

/-- FLOW_CTL.CLR written while EN is 0 starts clearing every context and the cache (R276). -/
def execFlowClear (m : Master) (data : Word) (s : State) : Out :=
  .next (s.gated m Reg.FLOW_CTL true fun s => s.flowCtlWrite m (data ||| 0x40000000))

/-- The flow clear ends and CBUSY clears (R276). -/
def execFlowClearDone (s : State) : Out := .next (s.setBit Reg.FLOW_CTL 29 false)

/-- A write of FLOW_RATEn, the PF's: refused when the sum over all slices would pass 8,000 (R278). -/
def State.flowRateWrite (s : State) (m : Master) (n : Nat) (data : Word) : State :=
  match m with
  | .pf =>
    let v := fieldOf data 15 0
    let others := ((List.range 32).map fun k => if k = n then 0 else s.fld (Reg.FLOW_RATE k) 15 0).sum
    if 8000 < others + v then s.raiseBit Reg.FLOW_STAT 31
    else
      let s1 := { s with flow := { s.flow with buckets := Store.set s.flow.buckets n (s.flowBucket n) } }
      s1.setFld (Reg.FLOW_RATE n) 15 0 v
  | _ => s

/-- A write of FLOW_RATEn is accepted or refused with RATEERR (R278). -/
def execFlowRateWrite (m : Master) (n : Fin 32) (data : Word) (s : State) : Out :=
  .next (s.gated m (Reg.FLOW_RATE n) true fun s => s.flowRateWrite m n data)

/-! ### Meters -/

/-- R291: a meter colours a frame. An operation beyond the allowance returns red; byte 0 of its answer, which the spec
does not state, is a free value. DESIGN CHOICE, log entry 69. -/
def State.meterOp (s : State) (x : Ctx) : State × List Byte × Bool × Bool :=
  let key := s.memKey x
  let i := beNat (key.take 4) % 65536
  let red := fun (st : Byte) => (bytesAt [st, 2] 0 16, false, true)
  if 4 ≤ x.uses 6 then ({ s with fresh := s.fresh + 1 }.flowCount x.slice x.comp 5, red (Config.freeByte s.fresh))
  else if s.inWindow x.slice x.comp 56 4 i = false then (s.ctxViolate x 5 i, red 0)
  else
    let k := meterKey x.slice i
    let pre := if s.memImm x % 2 = 1 then min 2 (leAt key 4 1 % 4) else 0
    let (col, m) := meterColour (s.meterWord k 0 / 2 ^ 30) (s.meterFill k) (x.mdBE 4 2) pre
    (s.setMeter k m, bytesAt [1, BitVec.ofNat 8 col] 0 16, true, false)

/-- MEMOP 8 colours the frame with a meter of the slice (R292). -/
def execMeter (c : Nat) (s : State) : Out :=
  match s.ctx? c with
  | none => .next s
  | some x =>
    if s.mayIssue x 8 then
      let (s1, r) := s.meterOp x
      .next (s1.setCtx c ((if x.uses 6 < 4 then x.use 6 else x).issue 8 (s.memSlot x) (some r)))
    else .next s

/-- SLC_MTR_ACC.WR: configuration written, both buckets filled (R293). -/
def State.meterWrite (s : State) (n i : Nat) : State :=
  let ws := (List.range 4).map fun w => s.reg (Reg.SLC_MTR_DATA n w)
  let k := meterKey n i
  let s := { s with flow := { s.flow with meterCfg := Store.put [] s.flow.meterCfg k (if ws.all (· == 0) then [] else ws) } }
  s.setMeter k { c := 8000 * (s.meterWord k 2 % 2 ^ 24), e := 8000 * (s.meterWord k 3 % 2 ^ 24), last := s.time.mono }

/-- SLC_MTR_ACC.RD: configuration into the data words; bits not listed in Table 09.7 read 0. -/
def State.meterRead (s : State) (n i : Nat) : State :=
  let k := meterKey n i
  let mask : Nat → Word := fun w => if w = 0 then 0xC01FFFFF else if w = 1 then 0x001FFFFF else 0x00FFFFFF
  (List.range 4).foldl (fun t w => t.setReg (Reg.SLC_MTR_DATA n w) (BitVec.ofNat 32 (s.meterWord k w) &&& mask w)) s

/-- An access to a slice's meters or counters through an index register, confined to the windows at `off` (R293, R294,
R447). -/
def State.poolAcc (s : State) (m : Master) (n a off : Nat) (keep acc : Word) (i : Nat) (run : State → State) : State :=
  s.gated m a true fun s =>
    let s := s.setReg a (acc &&& keep)
    if s.windowMay m n off 4 i then run s else s.refuseVf m a

/-- SLC_MTR_ACC.WR writes a meter's configuration and fills both buckets (R293). -/
def execMeterConfigWrite (m : Master) (n : Fin 32) (acc : Word) (s : State) : Out :=
  .next (s.poolAcc m n (Reg.SLC_MTR_ACC n) 56 0xFFFF acc (fieldOf acc 15 0) fun s => s.meterWrite n (fieldOf acc 15 0))

/-- SLC_MTR_ACC.RD loads a meter's configuration (R293). -/
def execMeterConfigRead (m : Master) (n : Fin 32) (acc : Word) (s : State) : Out :=
  .next (s.poolAcc m n (Reg.SLC_MTR_ACC n) 56 0xFFFF acc (fieldOf acc 15 0) fun s => s.meterRead n (fieldOf acc 15 0))

/-! ### Counters (R446, R447) -/

/-- The key of counter i of slice n. -/
def counterKey (n i : Nat) : Nat := n * 131072 + i

/-- The state with a counter's PKTS and BYTES replaced. -/
def State.setCounter (s : State) (k : Nat) (v : Nat × Nat) : State :=
  { s with tele := { s.tele with counters := Store.put (0, 0) s.tele.counters k v }
           pair := { s.pair with ctrDirty := NatSet.add s.pair.ctrDirty k } }

/-- R446: 1 and LEN added to a counter. -/
def State.counterOp (s : State) (x : Ctx) : State × List Byte × Bool × Bool :=
  let i := beNat ((s.memKey x).take 4) % 131072
  if 4 ≤ x.uses 5 then (s.count (Reg.SLC_CTR_LIM x.slice x.comp), statusAnswer 3 false)
  else if s.inWindow x.slice x.comp 48 4 i = false then (s.ctxViolate x 5 (i % 65536), statusAnswer 0 true)
  else
    let k := counterKey x.slice i
    let v := Store.read (0, 0) s.tele.counters k
    (s.setCounter k (min (2 ^ 64 - 1) (v.1 + 1), min (2 ^ 64 - 1) (v.2 + x.mdBE 4 2)), statusAnswer 1 false)

/-- MEMOP 7 adds 1 and LEN to a counter of the slice's pool (R446). -/
def execCounterAdd (c : Nat) (s : State) : Out :=
  match s.ctx? c with
  | none => .next s
  | some x =>
    if s.mayIssue x 7 then
      let (s1, r) := s.counterOp x
      .next (s1.setCtx c ((if x.uses 5 < 4 then x.use 5 else x).issue 7 (s.memSlot x) (some r)))
    else .next s

/-- SLC_CTR_ACC.WR: both values from the data words. -/
def State.counterWrite (s : State) (n i : Nat) : State :=
  let w := fun j => (s.reg (Reg.SLC_CTR_DATA n j)).toNat
  s.setCounter (counterKey n i) (w 0 + 2 ^ 32 * w 1, w 2 + 2 ^ 32 * w 3)

/-- SLC_CTR_ACC.RD: both values into the data words, and cleared with CLR. -/
def State.counterRead (s : State) (n i : Nat) (clr : Bool) : State :=
  let v := Store.read (0, 0) s.tele.counters (counterKey n i)
  let s := [v.1, v.1 / 2 ^ 32, v.2, v.2 / 2 ^ 32].zipIdx.foldl
    (fun (t : State) (e : Nat × Nat) => t.setReg (Reg.SLC_CTR_DATA n e.2) (BitVec.ofNat 32 e.1)) s
  if clr then s.setCounter (counterKey n i) (0, 0) else s

/-- SLC_CTR_ACC.WR replaces a counter's PKTS and BYTES (R447). -/
def execCounterWrite (m : Master) (n : Fin 32) (acc : Word) (s : State) : Out :=
  .next (s.poolAcc m n (Reg.SLC_CTR_ACC n) 48 0x2001FFFF acc (fieldOf acc 16 0) fun s => s.counterWrite n (fieldOf acc 16 0))

/-- SLC_CTR_ACC.RD loads a counter, and clears it in the same action when CLR is 1 (R447). -/
def execCounterRead (m : Master) (n : Fin 32) (acc : Word) (s : State) : Out :=
  .next (s.poolAcc m n (Reg.SLC_CTR_ACC n) 48 0x2001FFFF acc (fieldOf acc 16 0) fun s =>
    s.counterRead n (fieldOf acc 16 0) (fieldOf acc 29 29 = 1))

end Sys2Proof.Machine
end

