-- ==== Sys2Proof/Machine/LaneOps.lean ====
section
/-!
DEFINITION. LaneOps.lean: the states of front ports and lanes, and how they change together (R245 to R248, R253, R256,
R264 to R268).
-/

namespace Sys2Proof.Machine

/-! ### Port states (R246) -/

/-- Whether a state of Table 07.5 is one in which the port is up. DEDUCED, log entry 58. -/
def stateUp (st : Nat) : Bool := st == 2 || st == 4

/-- The port's state changes; between up and down it sets LCHG, and from up to down it counts LINK_DOWN. -/
def State.setPortState (s : State) (p dst : Nat) : State :=
  let was := s.portState p
  let s := s.setFld (Reg.PORT_STAT p) 23 20 dst
  if stateUp was = stateUp dst then s
  else
    let s := s.raiseBit (Reg.PORT_STAT p) 31
    if stateUp was then s.portCount p 11 else s

/-- Whether the port is enabled. -/
def State.portOn (s : State) (p : Nat) : Bool := s.bit (Reg.PORT_CTL p) 31

/-- Whether the safe state covers the port, or FORCE_LF is 1. -/
def State.portSafe (s : State) (p : Nat) : Bool := (s.port p).safe || s.bit (Reg.PORT_CTL p) 30

/-- The port leaves the states in which it sends and receives: the copy in transmission is ended and the partial frame
closed (R237, R245, R247, R248). DEDUCED, log entry 53. -/
def State.portStop (s : State) (p : Nat) : State := (s.endSending p 9).rxTrunc p

/-- The port goes to DISABLED, SAFE or DOWN as its enable and its safe state give; the wait for UP starts again from
`since`. DEDUCED, log entry 58. -/
def State.portFall (s : State) (p : Nat) (since : Option Nat) : State :=
  let dst := if !s.portOn p then 0 else if s.portSafe p then 3 else 1
  let s := if s.portState p = dst then s else s.portStop p
  (s.setPort p { s.port p with since := since }).setPortState p dst

/-- MONO since when the port has been aligned with no fault ordered set, starting now. -/
def State.sinceNow (s : State) (p : Nat) : Option Nat :=
  if s.bit (Reg.PORT_STAT p) 28 ∧ s.fld (Reg.PORT_STAT p) 30 29 = 0 then some s.time.mono else none

/-- The port's link is lost (R245): alignment, or a fault ordered set. -/
def State.linkLost (s : State) (p : Nat) : State :=
  if stateUp (s.portState p) then s.portFall p none else s.setPort p { s.port p with since := none }

/-- The PCS of a port has lost alignment. -/
def State.alignLost (s : State) (p : Nat) : State := (s.setBit (Reg.PORT_STAT p) 28 false).linkLost p

/-- A fault's safe state takes a port (R247). -/
def State.safePort (s : State) (p : Nat) : State :=
  if !s.assigned p then s
  else
    let s := s.setPort p { s.port p with safe := true }
    if s.portOn p then s.portFall p (s.port p).since else s

/-- A fault's reaction releases a port (R247). -/
def State.unsafePort (s : State) (p : Nat) : State :=
  let s := s.setPort p { s.port p with safe := false }
  if s.portState p = 3 ∧ s.portSafe p = false then s.portFall p (s.sinceNow p) else s

/-! ### Lanes -/

/-- A lane beside its registers. -/
def State.lane (s : State) (l : Nat) : Lane := Store.read {} s.lanes l

/-- The state with a lane replaced. -/
def State.setLane (s : State) (l : Nat) (x : Lane) : State := { s with lanes := Store.put {} s.lanes l x }

/-- The front port a lane serves (R229, R251). -/
def State.lanePort (s : State) (l : Nat) : Nat := l - l % modeWidth (s.octMode l)

/-- LANE_STAT.STATE. -/
def State.laneState (s : State) (l : Nat) : Nat := s.fld (Reg.LANE_STAT l) 27 24

/-- Whether the lane's function is PATTERN (R265). -/
def State.lanePattern (s : State) (l : Nat) : Bool := s.fld (Reg.LANE_CTL l) 31 30 == 1

/-- LANE_CTL.LOOP. -/
def State.laneLoop (s : State) (l : Nat) : Nat := s.fld (Reg.LANE_CTL l) 29 28

/-- Whether the lane holds receive lock. -/
def State.laneLocked (s : State) (l : Nat) : Bool := s.bit (Reg.LANE_STAT l) 22

/-- Whether what the lane carries in MISSION is enabled: its front port, or the Solyen link. DEDUCED, log entry 59. -/
def State.laneUsed (s : State) (l : Nat) : Bool :=
  if l < 1024 then s.portOn (s.lanePort l) else s.bit Reg.PAIR_CTL 31

/-- A lane's line rate in quarter bits per ns (Table 08.2). -/
def State.laneRate (s : State) (l : Nat) : Nat := if l < 1024 ∧ 4 ≤ s.octMode l then 425 else 896

/-- The precoding in force (R256). -/
def State.lanePrecode (s : State) (l : Nat) : State :=
  let mode := s.fld (Reg.LANE_CTL l) 23 22
  let off := s.lanePattern l || s.laneLoop l != 0 || mode == 1
  let s1 := s.setBit (Reg.LANE_STAT l) 21 (!off && (mode == 2 || (s.lane l).partnerPre))
  s1.setBit (Reg.LANE_STAT l) 20 (!off && (mode == 2 || (s.lane l).ownPre))

/-- The state a lane begins in (Table 08.6, R265 to R267). DEDUCED, log entry 26. -/
def State.laneStart (s : State) (l : Nat) : Nat :=
  if (s.lane l).noClock then 0
  else if s.lanePattern l then (if s.bit (Reg.LANE_PAT l) 31 then 4 else 0)
  else if !s.laneUsed l then 0
  else if s.laneLoop l ≠ 0 then 5
  else 1

/-- A lane restarts from the beginning of Table 08.6 (R253, R254). -/
def State.laneRestart (s : State) (l : Nat) : State :=
  let s := s.setLane l { s.lane l with trainAt := none, quietUntil := none, partnerPre := false, ownPre := false }
  let s := ((s.setBit (Reg.LANE_STAT l) 22 false).setFld (Reg.LANE_STAT l) 27 24 (s.laneStart l)).setReg (Reg.LANE_EYE l) 0
  s.lanePrecode l

/-- Lanes `l` to `l + n − 1` restart. -/
def State.lanesRestart (s : State) (l n : Nat) : State := (List.range n).foldl (fun t i => t.laneRestart (l + i)) s

/-- The lane takes its receiver lock (R259, R262, R264): training begins, or data. -/
def State.laneLock (s : State) (l : Nat) : State :=
  let s := (s.setBit (Reg.LANE_STAT l) 23 true).setBit (Reg.LANE_STAT l) 22 true
  if s.laneState l = 1 then
    if s.bit (Reg.LANE_CTL l) 24 then
      (s.setLane l { s.lane l with trainAt := some s.time.mono }).setFld (Reg.LANE_STAT l) 27 24 2
    else (s.setFld (Reg.LANE_STAT l) 27 24 3).lanePrecode l
  else s

/-- The port on a lane loses its alignment. -/
def State.lanePortLost (s : State) (l : Nat) : State := if l < 1024 then s.alignLost (s.lanePort l) else s

/-- The lane stops with its reference group (R254). -/
def State.laneStop (s : State) (l : Nat) : State :=
  ((s.setLane l { s.lane l with noClock := true }).laneRestart l).lanePortLost l

/-- Whether a port's lanes allow alignment (R265, R268): all in data, or all in the same near-end loopback. -/
def State.lanesAllow (s : State) (p : Nat) : Bool :=
  let ls := (List.range (modeWidth (s.octMode p))).map (p + ·)
  ls.all (fun l => s.laneState l == 3) ||
    (ls.all fun l => s.laneState l == 5 && s.laneLoop l == s.laneLoop p && (s.laneLoop l == 1 || s.laneLoop l == 2))

end Sys2Proof.Machine
end

