-- ==== Sys2Proof/Machine/PairOps.lean ====
section
/-!
DEFINITION. PairOps.lean: the pair over the Solyen link: frames (R345, R346), states and donors (R360 to R365), and the
records a device applies (R357 to R359).
-/

namespace Sys2Proof.Machine

/-! ### Frames -/

/-- PAIR_TERM. -/
def State.term (s : State) : Nat := (s.reg Reg.PAIR_TERM).toNat

/-- PAIR_RXSEQ: the last record applied from the partner. -/
def State.rxSeq (s : State) : Nat := (s.reg Reg.PAIR_RXSEQ).toNat

/-- PAIR_TXSEQ: the last record sent. -/
def State.txSeq (s : State) : Nat := (s.reg Reg.PAIR_TXSEQ).toNat

/-- Count pair event k (PAIR_CNT). -/
def State.pairCount (s : State) (k n : Nat) : State := s.countFld (Reg.PAIR_CNT k) 31 0 n

/-- Whether the pair is enabled. -/
def State.pairOn (s : State) : Bool := s.bit Reg.PAIR_CTL 31

/-- Whether the device sends Solyen frames: enabled, powered, and not in a safe state (R365, Table 11.4). -/
def State.pairSends (s : State) : Bool := s.pairOn && !s.pair.safe && !s.flt.deviceSafe && s.domOn 144

/-- Whether rail r is up. -/
def State.railUp (s : State) (r : Nat) : Bool := s.bit Reg.PAIR_STAT (16 + r)

/-- A Solyen frame of the device (Table 12.1), padded to 64 bytes with its FCS. -/
def State.solyenFrame (s : State) (type seq rail count : Nat) (payload : List Byte) : List Byte :=
  withFcs (padTo60 ([1, BitVec.ofNat 8 type] ++ toBE 2 (s.fld Reg.PAIR_CTL 15 0) ++ toBE 4 s.term ++ toBE 4 seq ++
    toBE 2 payload.length ++ [BitVec.ofNat 8 rail, BitVec.ofNat 8 count] ++ payload))

/-- The rail a frame other than a heartbeat is sent on: the lowest that is up. -/
def State.anyRail (s : State) : Option Nat := if s.railUp 0 then some 0 else if s.railUp 1 then some 1 else none

/-- A frame sent on any rail that is up. -/
def State.sendSolyen (s : State) (type seq count : Nat) (payload : List Byte) : State :=
  match s.anyRail with
  | some r => s.emit (.solyen r (s.solyenFrame type seq r count payload))
  | none => s

/-- The heartbeat's payload (Table 12.2). -/
def State.heartbeat (s : State) : List Byte :=
  toBE 1 s.pairState ++ toBE 1 s.pairAA.toNat ++ toBE 1 (s.fld Reg.PAIR_CTL 29 29) ++
    toBE 1 ((s.fld Reg.PAIR_STAT 19 19) + 2 * s.fld Reg.PAIR_STAT 18 18) ++ toBE 4 (s.fld Reg.PAIR_OWN 20 0) ++ toBE 4 s.txSeq ++
    toBE 4 s.rxSeq ++ toBE 4 s.clkNs ++ List.replicate 24 0

/-- A received frame of one type: its TERM, SEQ, COUNT, PAIR_ID and payload. -/
structure SolyenRx where
  pairId : Nat
  term : Nat
  seq : Nat
  count : Nat
  payload : List Byte
  deriving DecidableEq, Repr

/-- A frame received on a rail: dropped in state OFF and on a rail that is not up; dropped and counted in BADFRM when its
FCS, length, VER or TYPE is bad (R344, R345, Table 12.6); otherwise handled when it is of `type`.
DEDUCED, log entry 71. -/
def State.solyenRx (s : State) (rail : Nat) (l : List Byte) (type : Nat) (run : State → SolyenRx → State) : State :=
  if s.pairOn = false ∨ s.railUp rail = false ∨ s.domOn 144 = false then s
  else
    let t := beAt l 1 1
    let n := beAt l 12 2
    if l.length < 64 ∨ 16400 < l.length ∨ tailOf l ≠ fcsOf (dataOf l) ∨ beAt l 0 1 ≠ 1 ∨ t = 0 ∨ 5 < t ∨ l.length < 20 + n then
      s.pairCount 3 1
    else if t ≠ type then s
    else run s { pairId := beAt l 2 2, term := beAt l 4 4, seq := beAt l 8 4, count := beAt l 15 1, payload := bytesAt l 16 n }

/-! ### States (Table 12.5, R360 to R365) -/

/-- PAIR_STAT.STATE set. -/
def State.setPairState (s : State) (st : Nat) : State := s.setFld Reg.PAIR_STAT 22 20 st

/-- ALONE with a TERM: no partner, every context and meter owned, active (Table 12.4, steps 3 and 4). -/
def State.enterAlone (s : State) (term : Nat) : State :=
  let s := ((s.setPairState 1).setReg Reg.PAIR_TERM (BitVec.ofNat 32 term)).setFld Reg.PAIR_STAT 19 18 2
  { s with pair := { s.pair with events := [], unacked := [], again := none, made := [], rsAt := none, rsDone := false,
                                 partnerDonor := false, marked := false, hbSeen := false, missed := 0, nak := none } }

/-- The takeover from step 3 of Table 12.4. -/
def State.takeOver (s : State) : State := (s.enterAlone ((s.term + 1) % 2 ^ 32)).raiseBit Reg.PAIR_STAT 31

/-- SYNC with its donors: the higher TERM, the sweep from its start, and in active/standby mode the single donor, or side
0, active (R362, R363). Records of the partner are numbered on from the TX_SEQ it last gave. DEDUCED, log entry 71. -/
def State.enterSync (s : State) (term : Nat) (donor partner : Bool) (rx : Nat) : State :=
  let active := !s.pairAA && (if donor && partner then !s.bit Reg.PAIR_CTL 29 else donor)
  let s := (((s.setPairState 3).setReg Reg.PAIR_TERM (BitVec.ofNat 32 term)).setBit Reg.PAIR_STAT 18 donor).setBit
    Reg.PAIR_STAT 19 active
  let s := (s.setReg Reg.PAIR_RXSEQ (BitVec.ofNat 32 rx)).setReg Reg.PAIR_ACKSEQ (s.reg Reg.PAIR_TXSEQ)
  { s with pair := { s.pair with unacked := [], again := none, made := [], rsAt := some 0, rsDone := false,
                                 partnerDonor := partner, marked := !partner, acked := rx, nak := none } }

/-- The own sweep has ended and every donor's RS_MARK is applied: PAIRED, with no resync to be donor of (R363). -/
def State.syncDone (s : State) : State :=
  if s.pairState = 3 ∧ s.pair.rsDone ∧ s.pair.marked then
    (({ s with pair := { s.pair with neverDonor := false } }.setPairState 4).setBit Reg.PAIR_STAT 18 false).raiseBit
      Reg.PAIR_STAT 26
  else s

/-- What a good heartbeat tells: the partner's state, whether it is a donor, its TERM and TX_SEQ. -/
structure Beat where
  state : Nat
  donor : Bool
  term : Nat
  txSeq : Nat
  deriving DecidableEq, Repr

/-- The donors as a heartbeat leaves them (R362): this device, the partner, and whether SPLIT is set. A partner found in
HELLO or SYNC has already decided, and its DONOR flag tells how; where no rule of R362 applies, both are donors.
DEDUCED, log entry 71. -/
def State.donors (s : State) (b : Beat) : Bool × Bool × Bool :=
  let alone := s.pairState == 1
  if s.pair.neverDonor then (false, true, false)
  else if b.state = 1 then
    if alone then
      if b.term < s.term then (true, false, false) else if s.term < b.term then (false, true, false) else (true, true, true)
    else (false, true, false)
  else if b.state = 2 ∨ b.state = 3 then
    if b.donor = false then (true, false, false)
    else if b.term = s.term ∧ s.pairState ≠ 4 then (true, true, alone)
    else (false, true, false)
  else if alone then (true, false, false)
  else (true, true, false)

/-- Whether a good heartbeat starts a rejoin (R362). -/
def State.rejoins (s : State) (b : Beat) : Bool :=
  let st := s.pairState
  st == 1 || st == 2 || st == 5 || st == 6 ||
    (st == 4 && (b.state == 1 || b.state == 2 || (b.state == 3 && decide (s.term < b.term))))

/-- A good heartbeat (R360, R362): HELLO, the donors, and SYNC. -/
def State.goodBeat (s : State) (b : Beat) : State :=
  let s := if s.term ≤ b.term then { s with pair := { s.pair with hbSeen := true } } else s
  if s.pair.safe = false ∧ s.rejoins b then
    let d := s.donors b
    let s := if d.2.2 then s.raiseBit Reg.PAIR_STAT 30 else s
    s.enterSync (max s.term b.term) d.1 d.2.1 b.txSeq
  else s

/-- Heartbeats that break R349: MISMATCH. -/
def State.enterMismatch (s : State) : State :=
  if s.pairState = 6 then s
  else
    let s := { s with pair := { s.pair with rsAt := none, made := [], events := [], unacked := [], again := none } }
    (s.setPairState 6).raiseBit Reg.PAIR_STAT 28

/-- A CONT fault of class PAIR: port 1057 in SAFE (R365). -/
def State.pairSafeStart (s : State) : State := { s with pair := { s.pair with safe := true } }

/-- Its record reaches DONE: HELLO as if ALONE, never a donor (R365). -/
def State.pairSafeEnd (s : State) : State :=
  if s.pairOn then { s with pair := { s.pair with safe := false, neverDonor := true } }.setPairState 2
  else { s with pair := { s.pair with safe := false } }

/-! ### Applying records (R357 to R359) -/

/-- TBL_SEQ follows a higher ESEQ. -/
def State.followSeq (s : State) (eseq : Nat) : State :=
  if seqHigher eseq (s.reg Reg.TBL_SEQ).toNat then s.setReg Reg.TBL_SEQ (BitVec.ofNat 32 eseq) else s

/-- An entry without TS, MOVE_MS and FLAPS, as R357 compares it. -/
def epPairCore (e : List Byte) : List Byte := epPut (epCore e) 26 2 0

/-- The entry as an applied record leaves it. -/
def State.epApplied (s : State) (eseq : Nat) (body : List Byte) : List Byte :=
  epPut (epPut (epPut (epPut (epPut body 18 1 (epFlags body &&& 0xF7)) 20 4 eseq) 24 2 s.ageNow) 26 2 s.nowMs) 36 1 0

/-- An EP_SET (R357). -/
def State.applySet (s : State) (eseq : Nat) (body : List Byte) : State :=
  let e := s.epApplied eseq body
  match s.epFind (epPart body) (epKey body) with
  | none =>
    match s.epInsert (epPart body) (epKey body) with
    | some (i, s) => (s.epWrite i e).followSeq eseq
    | none => ((s.tblGcount 4).pairCount 7 1).raiseBit Reg.PAIR_STAT 29
  | some i =>
    let old := s.epAt i
    if seqHigher eseq (epSeq old) then (s.epWrite i e).followSeq eseq
    else if seqHigher (epSeq old) eseq then s.pairCount 4 1
    else if epPairCore old = epPairCore (epPut body 20 4 eseq) then s
    else
      let s := s.pairCount 5 1
      if s.bit Reg.PAIR_CTL 29 then (s.epWrite i e).followSeq eseq else s

/-- An EP_DEL (R358). DEDUCED, log entry 71. -/
def State.applyDel (s : State) (aged : Bool) (eseq : Nat) (body : List Byte) : State :=
  match s.epFind (epPart body) (epKey body) with
  | none => s.followSeq eseq
  | some i =>
    let e := s.epAt i
    if seqHigher (epSeq e) eseq then s.pairCount 4 1
    else if aged && !s.agedOut e (s.authTs e) then (s.followSeq eseq).pairCount 8 1
    else (s.epClear i).followSeq eseq

/-- A FLOW record (R359). -/
def State.applyFlow (s : State) (i : Nat) (body : List Byte) : State :=
  if s.ownsFlow i then s.pairCount 6 1
  else (s.flowStore i (overlay body 0 [BitVec.ofNat 8 (leAt body 0 1) ||| 4])).resolveFlow i

/-- The length of a record's kind in 16-byte units (Table 12.3); none for an unknown kind. -/
def recordUnits (kind : Nat) : Option Nat :=
  match kind with
  | 1 => some 5
  | 2 => some 3
  | 3 => some 5
  | 4 => some 2
  | 5 => some 2
  | 6 => some 1
  | _ => none

/-- One record applied (R357 to R359, R363). -/
def State.applyRecord (s : State) (r : List Byte) : State :=
  let idx := leAt r 4 4
  let n := leAt r 3 1 % 32
  let body := r.drop 16
  match leAt r 0 1 with
  | 1 => s.applySet (leAt r 8 4) (bytesAt body 0 64)
  | 2 => s.applyDel ((leAt r 2 1).testBit 0) (leAt r 8 4) (bytesAt body 0 64)
  | 3 => s.applyFlow (idx % 2 ^ 20) (bytesAt body 0 64)
  | 4 => { s with flow := { s.flow with meters := Store.set s.flow.meters (meterKey n (idx % 65536))
                                          { c := 8000 * leAt body 0 8, e := 8000 * leAt body 8 8, last := s.time.mono } } }
  | 5 => { s with tele := { s.tele with counters := Store.put (0, 0) s.tele.counters (counterKey n (idx % 131072))
                                                      (leAt body 0 8, leAt body 8 8) } }
  | 6 => { s with pair := { s.pair with marked := true } }.syncDone
  | _ => s

/-- A NAK for the SEQ expected, at most one of a SEQ in 2 µs (R355). -/
def State.sendNak (s : State) : State :=
  let want := (s.rxSeq + 1) % 2 ^ 32
  let again := match s.pair.nak with
    | some (q, t) => q == want && decide (s.time.mono < t + us 2)
    | none => false
  if again then s
  else ({ s with pair := { s.pair with nak := some (want, s.time.mono) } }.sendSolyen 4 want 0 []).pairCount 1 1

/-- The records of a frame applied in SEQ order; one out of order, of an unknown kind or length, or cut short ends it
with a NAK (R355, Table 12.6). -/
def State.applyAll (s : State) : Nat → Nat → List Byte → State
  | 0, _, _ => s
  | k + 1, seq, l =>
    let u := recordUnits (leAt l 0 1)
    if seq ≠ (s.rxSeq + 1) % 2 ^ 32 ∨ u ≠ some (leAt l 1 1) ∨ l.length < 16 * leAt l 1 1 then (s.pairCount 3 1).sendNak
    else
      let n := 16 * leAt l 1 1
      State.applyAll ((s.setReg Reg.PAIR_RXSEQ (BitVec.ofNat 32 seq)).applyRecord (l.take n)) k ((seq + 1) % 2 ^ 32) (l.drop n)

end Sys2Proof.Machine
end

