-- ==== Sys2Proof/Machine/FaultOps.lean ====
section
/-!
DEFINITION. FaultOps.lean: fault sources, their domains and scopes (R319 to R323, Tables 11.1 to 11.4), the safe state
and its release (R331, R339), merging and records (R325 to R330), and the reactions of Table 11.8.
-/

namespace Sys2Proof.Machine

/-! ### Sources (Table 11.1) -/

/-- The block class of a source ID. -/
def srcCls (src : Nat) : Nat := src / 2048 % 32

/-- The instance of a source ID. -/
def srcInst (src : Nat) : Nat := src % 2048

/-- The domain of a source (Tables 11.1 and 11.2). -/
def srcDomain (src : Nat) : Nat :=
  let i := srcInst src
  match srcCls src with
  | 6 => 146 + i / 2
  | 9 => 145
  | 10 => 144
  | 11 => 128 + i / 512
  | 12 => 140 + i / 16
  | 13 => 140 + i % 4
  | 14 => 132 + i
  | 15 => 140 + i
  | 16 => 147
  | 17 => if i < 32 then 4 * i else aonDomain
  | 18 => 4 * (i / 64)
  | 19 => 4 * (i / 64) + 1
  | 20 => 4 * (i / 32) + 2
  | 21 => if i < 1024 then 4 * (i / 32) + 3 else if 1040 ≤ i ∧ i < 1072 then 4 * (i - 1040) + 3 else 144
  | _ => aonDomain

/-- Whether domain `d` is a declared dependant of domain `r` (Table 11.3). -/
def dependant (r d : Nat) : Bool :=
  if r < 128 then
    let n := r / 4
    match r % 4 with
    | 0 => d == 4 * n + 1 || d == 4 * n + 2
    | 1 => d == 4 * n || d == 4 * n + 2
    | 2 => d == 4 * n || d == 4 * n + 3
    | _ => d == 4 * n + 2
  else if r < 132 then decide (140 ≤ d ∧ d < 144)
  else if r < 140 then d == 132 + ((r - 132) ^^^ 1)
  else if r < 144 then decide (140 ≤ d ∧ d < 144 ∧ d ≠ r)
  else if r = 144 then false
  else if r = 145 then d == 146 || d == 147
  else if r = 146 then d == 147
  else if r = 147 then d == 146
  else decide (d ≤ aonDomain)

/-- Whether a source exists and reports the class (Tables 11.1 and 11.8). DESIGN CHOICE, log entry 77. -/
def reportable (src : Nat) (k : FaultClass) : Bool :=
  let i := srcInst src
  let stage := i / 2 % 32
  decide (src < 65536) &&
  match srcCls src, k with
  | 1, .fatal => i == 0
  | 2, .fatal => i == 0
  | 2, _ => decide (1 ≤ i ∧ i < 64)
  | 3, .fatal => i == 0
  | 4, .cont => decide (i ≤ 148)
  | 5, .corr => decide (i ≤ 1)
  | 5, .fatal => decide (i ≤ 1)
  | 6, .cont => decide (i < 4)
  | 7, .corr => decide (i ≤ 256)
  | 7, .cont => decide (i ≤ 256)
  | 8, .corr => i == 0
  | 9, .corr => decide (i ≤ 256)
  | 9, .cont => decide (i ≤ 256)
  | 10, .corr => i == 0
  | 10, .cont => i == 0
  | 11, .corr => true
  | 11, .cont => true
  | 12, .corr => decide (i < 64)
  | 12, .cont => decide (i < 64)
  | 13, .corr => decide (i < 16)
  | 13, .cont => decide (i < 16)
  | 14, .corr => decide (i < 8)
  | 14, .cont => decide (i < 8)
  | 15, .corr => decide (i < 4)
  | 15, .cont => decide (i < 4)
  | 16, .corr => i == 0
  | 16, .cont => i == 0
  | 17, .cont => decide (i < 64)
  | 18, .cont => decide (stage < 24 ∨ stage = 31) && i % 2 == 0
  | 19, .cont => decide (stage < 24 ∨ stage = 31) && i % 2 == 0
  | 20, .corr => decide (i < 1024)
  | 20, .cont => decide (i < 1024)
  | 21, .cont => decide (i ≤ 1072)
  | _, _ => false

/-- Whether a source of a class has elements of a kind (Table 11.8). -/
def elemOf (cls : Nat) : Element → Bool
  | .matchTile => cls == 18 || cls == 19
  | .actionTile => cls == 18 || cls == 19
  | .imageRow => cls == 18 || cls == 19
  | .storeWord => cls == 6 || cls == 18 || cls == 19
  | .memoryRow => [2, 5, 7, 9, 10, 11, 12, 13, 14, 15, 16, 17, 20].contains cls
  | .channel => cls == 12
  | .logic => true

/-- Whether a targeted self-test exists for an element of a source (Table 11.10). -/
def testable (src : Nat) (e : Element) : Bool :=
  match e with
  | .matchTile => true
  | .actionTile => true
  | .imageRow => true
  | .storeWord => srcCls src != 6
  | .memoryRow => [2, 7, 11, 12, 13, 14, 15, 20].contains (srcCls src) || (srcCls src == 17 && decide (32 ≤ srcInst src))
  | _ => false

/-- The slice of a source of class ING or EGR. -/
def srcSlice (src : Nat) : Nat := srcInst src / 64

/-- The rind records lost with a failed always-on memory row: DETAIL 0x100 + n names slice n's (Table 11.8, AON). -/
def lostRind (src detail : Nat) : Option Nat :=
  if srcCls src = 2 ∧ 0x100 ≤ detail ∧ detail < 0x120 then some (detail - 0x100) else none

/-- The scope of an ING or EGR report: a store word is an element, a failed drain check's slice is stopped already. -/
def State.pipeScope (s : State) (r : Report) : Scope :=
  if r.elem = .storeWord then .element
  else if (s.loader (srcSlice r.src)).phase = .revert then .none
  else .slice (srcSlice r.src)

/-- The scope of a report that opens a record (Tables 11.4 and 11.8). -/
def State.scopeOf (s : State) (r : Report) : Scope :=
  let i := srcInst r.src
  match r.cls with
  | .corr => .none
  | .fatal => .device
  | .cont =>
    match srcCls r.src with
    | 2 => match lostRind r.src r.detail with
      | some n => .slice n
      | none => .element
    | 4 => .none
    | 6 => .none
    | 8 => .none
    | 10 => .solyen
    | 16 => .none
    | 17 => if i < 32 then .none else .slice (i - 32)
    | 20 => .port i
    | 21 => if i < 1040 then .lanes i 1 else if i < 1072 then .lanes (32 * (i - 1040)) 32 else .lanes 1024 16
    | 18 => s.pipeScope r
    | 19 => s.pipeScope r
    | _ => .element

/-! ### The safe state (Table 11.4) -/

/-- Whether a record is being handled (R327). -/
def RecState.handled : RecState → Bool
  | .done => false
  | _ => true

/-- The ports of a slice enter SAFE, its frames inside the pipes are discarded, and it admits none. -/
def State.sliceSafe (s : State) (n : Nat) : State :=
  let s := s.setSlice n { s.slice n with safe := true }
  let s := (List.range 32).foldl (fun (t : State) i => t.safePort (32 * n + i)) s
  s.discardPipes n (Reg.SLC_FLT_DROP n)

/-- The device's FATAL safe state. -/
def State.enterDeviceSafe (s : State) : State :=
  let s := { s with flt := { s.flt with deviceSafe := true } }
  let s := (List.range 32).foldl (fun (t : State) n => t.sliceSafe n) s
  (List.range 4).foldl (fun (t : State) k => if t.engHalted k then t else t.engHalt k) s

/-- The outputs of a scope are placed in their safe state (R331). -/
def State.takeSafe (s : State) : Scope → State
  | .none => s
  | .element => s
  | .port p => s.safePort p
  | .solyen => s.pairSafeStart
  | .lanes l n => (List.range n).foldl (fun (t : State) i => t.laneStop (l + i)) s
  | .slice n => s.sliceSafe n
  | .device => s.enterDeviceSafe

/-- Whether a record that is being handled holds slice n. -/
def State.sliceHeld (s : State) (n : Nat) : Bool :=
  s.flt.recs.any fun e => e.2.state.handled && (e.2.scope == .slice n || e.2.scope == .device)

/-- Whether a record that is being handled holds port p. -/
def State.portHeld (s : State) (p : Nat) : Bool :=
  s.sliceHeld (p / 32) || s.flt.recs.any fun e => e.2.state.handled && e.2.scope == .port p

/-- A slice resumes: its ports leave SAFE for DOWN (Table 11.7, step 9), unless another record holds them. -/
def State.sliceResume (s : State) (n : Nat) : State :=
  if s.sliceHeld n then s
  else
    let s := s.setSlice n { s.slice n with safe := false }
    (List.range 32).foldl (fun (t : State) i => if t.portHeld (32 * n + i) then t else t.unsafePort (32 * n + i)) s

/-- A scope returns to service, where no other record holds it. -/
def State.releaseScope (s : State) : Scope → State
  | .port p => if s.portHeld p then s else s.unsafePort p
  | .solyen => if s.flt.recs.any fun e => e.2.state.handled && e.2.scope == .solyen then s else s.pairSafeEnd
  | .lanes l n => (List.range n).foldl (fun (t : State) i =>
      (t.setLane (l + i) { t.lane (l + i) with noClock := false }).laneRestart (l + i)) s
  | .slice n => s.sliceResume n
  | _ => s

/-! ### Records -/

/-- A fault record. -/
def State.rec? (s : State) (r : Nat) : Option FltRec := Store.at? s.flt.recs r

/-- The state with a record replaced. -/
def State.setRec (s : State) (r : Nat) (x : FltRec) : State := { s with flt := { s.flt with recs := Store.set s.flt.recs r x } }

/-- The state with a record freed. -/
def State.delRec (s : State) (r : Nat) : State := { s with flt := { s.flt with recs := Store.del s.flt.recs r } }

/-- Count k of the collector (FLT_CNTk). -/
def State.fltCount (s : State) (k : Nat) : State := s.count (Reg.FLT_CNT k)

/-- The lowest number from `k` on that names no record. -/
def freeFrom (m : Store FltRec) : Nat → Nat → Nat
  | 0, k => k
  | n + 1, k => if (Store.at? m k).isNone then k else freeFrom m n (k + 1)

/-- Whether one fault class sorts before another (R324): FATAL, CONT, CORR, and within a class by source. -/
def Report.before (a b : Report) : Bool :=
  decide (b.cls.code < a.cls.code) || (decide (a.cls.code = b.cls.code) && decide (a.src ≤ b.src))

/-- A report put in its place in a round's order. -/
def insertReport (r : Report) : List Report → List Report
  | [] => [r]
  | a :: l => if a.before r then a :: insertReport r l else r :: a :: l

/-- A round's reports in the order of R324; equal ones keep the order of their grants. -/
def sortReports (l : List Report) : List Report := l.foldl (fun a r => insertReport r a) []

/-- Whether a report falls in a record's reaction shadow (R329, R330). -/
def State.inShadow (s : State) (round : Nat) (r : Report) (x : FltRec) : Bool :=
  let d := srcDomain x.src
  r.cls != .fatal && x.round != round &&
    (match x.shadow with
      | some (a, b) => decide (a ≤ s.time.mono ∧ s.time.mono < b)
      | none => false) &&
    (srcDomain r.src == d || dependant d (srcDomain r.src))

/-- Whether a report merges into a record under R327; a FATAL one merges into a FATAL record alone. -/
def mergesInto (r : Report) (x : FltRec) : Bool :=
  x.state.handled &&
    (match x.cls with
      | .corr => r.cls != .fatal && r.src == x.src && r.detail == x.detail
      | .cont => r.cls != .fatal && srcDomain r.src == srcDomain x.src
      | .fatal => true)

/-- The first of the 64 records that satisfies `p`. -/
def State.findRec (s : State) (p : FltRec → Bool) : Option (Nat × FltRec) :=
  s.flt.recs.find? fun e => decide (e.1 < 64) && p e.2

/-- A report merges into a record (R327, R329). -/
def State.mergeRec (s : State) (i : Nat) (x : FltRec) (r : Report) (secondary : Bool) : State :=
  let x := { x with merge := min 255 (x.merge + 1), secmap := x.secmap ||| BitVec.ofNat 32 (2 ^ srcCls r.src),
                    sec := if secondary then min 255 (x.sec + 1) else x.sec }
  let s := (s.setRec i x).fltCount 4
  if secondary then s.fltCount 3 else s

/-- The index of the record a report opens (R328): the lowest FREE one, else the oldest CORR and DONE one; none when the
report is not recorded. DESIGN CHOICE, log entry 73. -/
def State.recSlot (s : State) : Option Nat :=
  let i := freeFrom s.flt.recs 64 0
  if i < 64 then some i
  else
    let old := s.flt.recs.filter fun e => decide (e.1 < 64) && e.2.cls == .corr && e.2.state == .done
    (old.foldl (fun a e => match a with
      | none => some e
      | some b => if e.2.seq < b.2.seq then some e else a) none).map (·.1)

/-! ### Tiles (R50, R118, R339) -/

/-- The pipe of an ING or EGR source. -/
def srcPipe (src : Nat) : Nat := srcCls src - 18

/-- Whether a record names a tile. -/
def FltRec.isTile (x : FltRec) : Bool := x.elem == .matchTile || x.elem == .actionTile

/-- The key of the tile a record names in its slice's excluded set. -/
def FltRec.tileKey (x : FltRec) : Nat := excludedKey (srcPipe x.src) (x.elem == .actionTile) (x.detail / 256 % 256)

/-- Whether the tile a record names is assigned by the active configuration. -/
def State.tileNeeded (s : State) (x : FltRec) : Bool :=
  let b := (s.slice (srcSlice x.src)).active
  let l := if x.elem = .actionTile then b.actionTiles (srcPipe x.src) else b.allMatchTiles (srcPipe x.src)
  l.contains (x.detail / 256 % 256)

/-- The tile a record names is excluded, or offered again. -/
def State.excludeTile (s : State) (x : FltRec) (out : Bool) : State :=
  let n := srcSlice x.src
  let m := (s.slice n).excluded
  s.setSlice n { s.slice n with excluded := if out then NatSet.add m x.tileKey else NatSet.drop m x.tileKey }

/-! ### Spares (R337, R338) -/

/-- The low bit of a tile kind's field in SLC_STG_STAT. -/
def FltRec.spareBit (x : FltRec) : Nat := 26 - 4 * srcPipe x.src - 2 * (x.elem == .actionTile).toNat

/-- The FLT_SPROW register of a source's rows, if it has one. -/
def spareRow (src : Nat) : Option Nat :=
  match srcCls src with
  | 11 => some (srcInst src / 512)
  | 14 => some (4 + srcInst src)
  | 12 => some (12 + srcInst src / 16)
  | _ => none

/-- The key of the spare rows of an array that no register counts: its source and kind of element. -/
def FltRec.spareKey (x : FltRec) : Nat :=
  x.src * 4 + (match x.elem with
    | .storeWord => 1
    | .imageRow => 2
    | _ => 0)

/-- Whether a spare of the kind a record needs remains. DESIGN CHOICE, log entry 76. -/
def State.spareLeft (s : State) (x : FltRec) : Bool :=
  if x.isTile then decide (s.fld (Reg.SLC_STG_STAT (srcSlice x.src)) (x.spareBit + 1) x.spareBit < 2)
  else
    match spareRow x.src with
    | some i => decide (0 < s.fld (Reg.FLT_SPROW i) 15 0)
    | none => decide (Store.read 0 s.flt.spares x.spareKey < 1)

/-- A spare is taken for a record, and the ledger notes it (R337, R315). -/
def State.takeSpare (s : State) (i : Nat) (x : FltRec) : State :=
  let s :=
    if x.isTile then
      let a := Reg.SLC_STG_STAT (srcSlice x.src)
      let n := srcSlice x.src
      (s.setFld a (x.spareBit + 1) x.spareBit (s.fld a (x.spareBit + 1) x.spareBit + 1)).sumCount
        (960 + 4 * n + 2 * srcPipe x.src + (x.elem == .actionTile).toNat) 1
    else
      match spareRow x.src with
      | some k =>
        let a := Reg.FLT_SPROW k
        ((s.setFld a 15 0 (s.fld a 15 0 - 1)).setFld a 31 16 (s.fld a 31 16 + 1)).sumCount (1088 + 8 * k) 1
      | none =>
        { s with flt := { s.flt with spares := Store.set s.flt.spares x.spareKey (Store.read 0 s.flt.spares x.spareKey + 1) } }
  (s.setRec i { x with state := .repair, spareUsed := true }).ledgerEvent true 3 x.cls.code x.src x.merge 0 x.tile x.detail

/-! ### The course of a record -/

/-- Handling ends with the element in service: DONE, and the scope resumes; a record that awaits software's load or
commits is HELD instead (R338, Table 11.8). A reaction without a record leaves nothing. -/
def State.recServed (s : State) (i : Nat) (x : FltRec) : State :=
  if x.needLoad || !x.needCommit.isEmpty then s.setRec i { x with state := .held }
  else
    let s := if i < 64 then s.setRec i { x with state := .done } else s.delRec i
    s.releaseScope x.scope

/-- A fault is lasting (R337, R339): a spare is brought into service, or the record is HELD; with none left, NOSPARE is
set and a tile is excluded. -/
def State.recLasting (s : State) (i : Nat) (x : FltRec) : State :=
  let x := { x with lasting := true }
  if s.bit Reg.FLT_CTL 29 = false then s.setRec i { x with state := .held }
  else if s.spareLeft x then s.takeSpare i x
  else
    let s := s.setBit Reg.FLT_STAT 28 true
    let s := if x.isTile then s.excludeTile x true else s
    s.setRec i { x with state := .held }

/-- The lasting fault of a record in the ledger (R315). -/
def State.ledgerLasting (s : State) (x : FltRec) : State := s.ledgerEvent true 2 x.cls.code x.src x.merge 2 x.tile x.detail

/-- Transient results of a record's element within 24 hours of MONO (R336). -/
def State.transients (s : State) (src detail : Nat) : Nat :=
  s.flt.history.countP fun h => h.1 == src && h.2.1 == detail && decide (s.time.mono ≤ h.2.2 + 86400 * 10 ^ 9)

/-- Whether the next fault on an element is lasting without a test (R336). DESIGN CHOICE, log entry 76. -/
def State.recurs (s : State) (src detail : Nat) : Bool :=
  s.fld Reg.FLT_CTL 23 16 != 0 && decide (s.fld Reg.FLT_CTL 23 16 ≤ s.transients src detail)

/-! ### Reactions (Table 11.8) -/

/-- The active bank of a pipe's stores is marked with a bad word, as a report names it (R142). -/
def State.markStore (s : State) (src detail : Nat) : State :=
  let n := srcSlice src
  let x := s.slice n
  let tgt := detail / 256 % 256
  let a := detail / 65536 % 65536
  let key := bankKey (if tgt = 1 then kDispatch else kMicro) (srcPipe src) (srcInst src / 2 % 32)
    (if tgt = 1 then 4 * a else 16 * a) * 4 + detail / 2 ^ 32 % 4
  let mark := fun (b : Bank) => { b with bad := NatSet.add b.bad key }
  s.setSlice n (if detail % 2 = 1 then { x with bankB := mark x.bankB } else { x with bankA := mark x.bankA })

/-- Engine k halts on a report of its class; a bad store word is a machine check (R143). -/
def State.engFault (s : State) (k : Nat) (word : Bool) (detail : Nat) : State :=
  let s := if s.engHalted k then s else s.engHalt k
  if word then
    let e := s.engine k
    (s.setEngine k { e with blocked := true, bad := NatSet.add e.bad detail }).raiseBit (Reg.MGE_STAT k) 30
  else s

/-- The open journal of engine k, lost with its failed row (Table 11.8, AON). -/
def State.journalLost (s : State) (k : Nat) : State :=
  let s := if s.engHalted k then s else s.engHalt k
  let e := s.engine k
  ((s.setEngine k { e with jopen := false, held := [], records := [], nextRec := 0 }).setBit (Reg.MGE_STAT k) 26 false).setReg
    (Reg.MGE_JRNL k) 0

/-- The frame that owns a cell. -/
def State.cellFrame (s : State) (cell : Nat) : Option Nat :=
  (s.vat.frames.find? fun e => e.2.cells.contains cell).map (·.1)

/-- What the source's row of Table 11.8 adds when a CONT report opens a record. DESIGN CHOICE, log entry 74. -/
def State.reactCont (s : State) (r : Report) : State :=
  let i := srcInst r.src
  match srcCls r.src with
  | 2 => if 1 ≤ r.detail ∧ r.detail ≤ 4 then s.journalLost (r.detail - 1) else s
  | 6 => s.engFault i (r.elem == .storeWord) r.detail
  | 7 => if i < 256 then s.mbxFault i else s
  | 9 => if r.detail < 256 then s.haltQp r.detail 5 else s
  | 11 => if r.elem = .memoryRow then
      match s.cellFrame r.detail with
      | some f => s.closeErr f
      | none => s
    else s
  | 12 => if r.elem = .channel then { s with vat := { s.vat with stacksOut := NatSet.add s.vat.stacksOut (i / 16) } } else s
  | 13 => if r.elem = .memoryRow then s.tblInvalidate r.detail else s
  | 15 => if r.elem = .memoryRow then s.flowInvalidate r.detail else s
  | 16 => if r.detail < 8 then
      let x := s.col r.detail
      (s.setCol r.detail { x with recs := [] }).teleCount 6 x.recs.length
    else s
  | 17 => if i < 32 ∧ 1 ≤ s.ldState i ∧ s.ldState i ≤ 4 then (s.setSlice i ((s.slice i).setShadow {})).ldEnd i 0x15 0xFFF else s
  | _ => s

/-- The committed descriptors of slice n that are valid. -/
def State.validDescs (s : State) (n : Nat) : NatSet := (List.range 9).filter fun i => s.desc n i 0 1 % 2 == 1

/-- What a record waits for before RELEASE (R338, Table 11.8). -/
def State.recNeeds (s : State) (r : Report) (x : FltRec) : FltRec :=
  let x := if r.elem = .imageRow then { x with needLoad := true } else x
  let n := if srcCls r.src = 17 ∧ 32 ≤ srcInst r.src then some (srcInst r.src - 32) else lostRind r.src r.detail
  match n with
  | some n => if r.cls = .cont then { x with needCommit := s.validDescs n } else x
  | none => x

/-- The shadow a record starts (R329). -/
def State.shadowNow (s : State) (k : FaultClass) : Option (Nat × Nat) :=
  let t := min 1000 (s.fld Reg.FLT_SHADOW 15 0)
  if k = .corr ∨ t = 0 then none else some (s.time.mono, s.time.mono + us t)

/-- How handling begins once the safe state is taken: a self-test, a lasting fault by recurrence, or none (R335, R336).
Outputs that are held stay so until the handling ends. DESIGN CHOICE, log entry 75. -/
def State.startHandling (s : State) (i : Nat) (x : FltRec) : State :=
  if x.cls = .fatal then s.setRec i { x with state := .fatal, notest := true }
  else if testable x.src x.elem then
    if s.recurs x.src x.detail then
      let x := { x with recur := true, lasting := true }
      (s.setRec i x).ledgerLasting x |>.recLasting i x
    else s.setRec i { x with state := .selftest }
  else
    let x := { x with notest := true }
    match x.scope with
    | .none => s.recServed i x
    | .element => s.recServed i x
    | _ => s.setRec i { x with state := .handling }

/-- A report opens a record (R325, R328, R331), or its reaction runs without one. -/
def State.openRec (s : State) (round : Nat) (r : Report) : State :=
  let slot := s.recSlot
  let scope := s.scopeOf r
  let i := slot.getD (freeFrom s.flt.recs s.flt.recs.length 64)
  let s := if slot.isSome then s.raiseBit Reg.FLT_STAT 30 else (s.setBit Reg.FLT_STAT 29 true).fltCount 5
  let x : FltRec := { src := r.src, cls := r.cls, elem := r.elem, state := .handling, detail := r.detail, tile := r.tile
                      round := round, monoUs := r.at_ / 1000, seq := s.flt.nextSeq, shadow := s.shadowNow r.cls
                      scope := scope, safe := r.cls != .corr }
  let x := s.recNeeds r x
  let s := { s with flt := { s.flt with nextSeq := s.flt.nextSeq + 1 } }
  let s := (s.setRec i x).takeSafe scope
  let s := if r.cls = .cont then s.reactCont r else s
  let s := if r.cls = .fatal ∧ s.bit Reg.DEV_RST 28 ∧ s.flt.fatalDue = none then
      { s with flt := { s.flt with fatalDue := some (s.time.mono + ms 10) } }
    else s
  s.startHandling i x

/-- FLT_FIRST takes the first report while it is empty; a CONT one is noted in the ledger's general ring (R324, R315).
DESIGN CHOICE, log entry 57. -/
def State.loadFirst (s : State) (round : Nat) (r : Report) : State :=
  if s.bit Reg.FLT_FIRST 31 then s
  else
    let s := (s.setReg Reg.FLT_FIRST (BitVec.ofNat 32 (2 ^ 31 + r.cls.code * 2 ^ 29 + r.src))).setReg Reg.FLT_FIRST_RND
      (BitVec.ofNat 32 round)
    if r.cls = .cont then s.ledgerEvent false 1 2 r.src 0 0 r.tile r.detail else s

/-- One report of a closed round (R324, R325). -/
def State.takeReport (s : State) (round : Nat) (r : Report) : State :=
  let s := (s.fltCount (r.cls.code - 1)).sumCount (320 + 12 * srcCls r.src + 4 * (r.cls.code - 1)) 1
  let s := if r.cls = .fatal then s.ledgerEvent true 1 3 r.src 0 0 r.tile r.detail else s
  match s.findRec (s.inShadow round r) with
  | some (i, x) => s.mergeRec i x r true
  | none =>
    match s.findRec (mergesInto r) with
    | some (i, x) => s.mergeRec i x r false
    | none => s.openRec round r

/-! ### The ERR pair (R334) -/

/-- Whether the ERR pair shows fault. -/
def State.errFault (s : State) : Bool :=
  let cont := s.bit Reg.FLT_CTL 30
  let latch := s.bit Reg.FLT_CTL 31
  !s.flt.selfChecked || s.flt.recs.any fun e =>
    match e.2.cls with
    | .fatal => true
    | .cont => cont && (e.2.state.handled || latch)
    | .corr => false

end Sys2Proof.Machine
end

