-- ==== Sys2Proof/Machine/PowerOps.lean ====
section
/-!
DEFINITION. PowerOps.lean: what a power domain loses when it is switched off and holds when it is on again (R51, R401,
Table 14.3), the PCI Express reset and the core reset (R404, Table 14.4), and an engine's reset.
-/

namespace Sys2Proof.Machine

/-! ### Queue pairs (R379, R380) -/

/-- Whether a master ID is the PF's or a VF's. -/
def hostId (id : Nat) : Bool := id == 1 || decide (0x40 ≤ id ∧ id < 0x60)

/-- A queue pair reset (R380): HEAD and TAIL 0, its host queue discarded under PORTDOWN, EN, HALTED and CAUSE clear.
DEDUCED, log entry 25. -/
def State.qpReset (s : State) (h : Nat) : State :=
  let s := (s.setReg (Reg.HOST_QP_RXIDX h) 0).setReg (Reg.HOST_QP_TXIDX h) 0
  let s := (s.setReg (Reg.HOST_QP_RXHEAD h) 0).setReg (Reg.HOST_QP_TXHEAD h) 0
  let s := ((s.setFld (Reg.HOST_QP_STAT h) 31 27 0).setBit (Reg.HOST_QP_CTL h) 31 false).setQp h {}
  let l := s.queue (hostQid h)
  l.foldl (fun (t : State) x => match t.frame? x.frame with
    | some f => ((t.count (Reg.VAT_PCNT 1056 4)).dropVat f 1056 x.queue Reason.portDown.row 0).unref x.frame
    | none => t) (s.setQueue (hostQid h) [])

/-! ### The PCI Express domain -/

/-- A PCI Express fundamental reset (Table 14.4): the link, the HOST registers, queue pairs and routing; the locks of the
PF and VFs (R37), and their mailboxes and doorbells as parties (R391, R392). -/
def State.pcieReset (s : State) : State :=
  let s := s.resetRegs fun a => domainOf a == 145
  let s := { s with host := {}, intr := { s.intr with msix := [], pba := [], itrLast := [], itrHeld := [] } }
  (s.freeLocks hostId).mbxPartyReset hostId

/-! ### What a domain loses -/

/-- The bank of a pipe that has lost its contents. -/
def Bank.lose (b : Bank) (pipe : Nat) : Bank :=
  { mem := Store.keep (fun k => k / 2 ^ 23 % 2 != pipe) b.mem, bad := b.bad.filter fun k => k / 2 ^ 25 % 2 != pipe }

/-- A pipe's domain loses what it holds: banks, match and ACL memory, pace, its frames; the slice's epoch is 0 (R51). -/
def State.pipeLost (s : State) (n pipe : Nat) : State :=
  let s := ((s.ctxs.filter fun e => e.2.slice == n && e.2.pipe == pipe).map (·.1)).foldl (fun (t : State) c => t.dropCtx c) s
  let x := s.slice n
  let x := { x with
    bankA := x.bankA.lose pipe, bankB := x.bankB.lose pipe, activeB := false, dead := []
    matchMem := Store.keep (fun k => k / 2 ^ 23 != pipe) x.matchMem
    loader := if pipe = 0 then {} else x.loader
    mirror := if pipe = 0 then [] else x.mirror }
  let s := ((s.setSlice n x).setReg (Reg.SLC_EPOCH n) 0).setBit (Reg.SLC_STG_STAT n) 31 false
  { s with tbl := { s.tbl with acl := Store.keep (fun k => k / 8192 != n * 2 + pipe) s.tbl.acl }
           pace := Store.keep (fun k => k / 4 != n * 2 + pipe) s.pace }

/-- An HBM interface loses its stack's contents and its quarters of the endpoint and flow caches; frames spilled there are
discarded at their read-back (R220). -/
def State.hbmLost (s : State) (st : Nat) : State :=
  let other := fun (slot : Nat) =>
    if slot < 2 ^ 25 then slot / 2097152 % 4 != st else slot % 2 ^ 25 / 2097152 % 4 != (st ^^^ 1)
  let line := fun (e : List Byte) => hashShard (s.epHash1 (epPart e) (epKey e)) % 4 != st
  { s with
    hbm := []
    tbl := { s.tbl with
      ep := Store.keep other s.tbl.ep
      tags := Store.keep (fun slot => slot / 2097152 % 4 != st) s.tbl.tags
      cache := (s.tbl.cache.map fun e => (e.1, e.2.filter line)).filter fun e => !e.2.isEmpty
      learnq := Store.keep (fun k => k % 4 != st) s.tbl.learnq }
    flow := { s.flow with hbm := Store.keep (fun i => i % 4 != st) s.flow.hbm
                          cache := s.flow.cache.filter fun e => e.2.index % 4 != st }
    vat := { s.vat with stacksOut := NatSet.drop s.vat.stacksOut st
                        frames := s.vat.frames.map fun e => match e.2.spill with
                          | some p => if p.stack = st then (e.1, { e.2 with skimErr := true }) else e
                          | none => e } }

/-- What an engine keeps when its domain is off: the journal, which lies in the always-on domain (R137). -/
def Engine.journal (e : Engine) : Engine :=
  { jopen := e.jopen, routine := e.routine, stepNo := e.stepNo, records := e.records, nextRec := e.nextRec }

/-- Whether a party value names engine k, by its ID or by a class it holds. -/
def State.engineParty (s : State) (k id : Nat) : Bool := s.isParty id (.me (Fin.ofNat 4 k))

/-- An engine as a reset master: its locks are freed and its mailboxes and doorbells answered (R37, R391, R392). -/
def State.engineGone (s : State) (k : Nat) : State :=
  (s.freeLocks (· == 0x80 + k)).mbxPartyReset (s.engineParty k)

/-- An engine's domain goes off: its stores are lost, its journal kept. -/
def State.engineLost (s : State) (k : Nat) : State :=
  (s.setEngine k (s.engine k).journal).engineGone k

/-- Telemetry loses its collectors and sample counts; the device-wide bins and the slices' counters lie elsewhere. -/
def State.teleLost (s : State) : State := { s with tele := { s.tele with cols := [], sample := [] } }

/-- Register bits that outlive their domain: spares in service (SLC_STG_STAT), and the journal's state in MGE_STAT and
MGE_JRNL. DESIGN CHOICE, log entry 30. -/
def keptBits (a : Nat) : Word :=
  match regPlace a with
  | (.slice, _, o) => if o = 0x1C0030 then 0x0FF00000 else 0
  | (.engine, _, o) => if o = 4 then 0x04000000 else if o = 8 then 0xFFFFFFFF else 0
  | _ => 0

/-- The registers at the addresses satisfying `p` at their reset values, with what outlives them. -/
def State.loseRegs (s : State) (p : Nat → Bool) : State :=
  let kept := (s.regs.filter fun e => p e.1 && keptBits e.1 != 0).map fun e => (e.1, e.2 &&& keptBits e.1)
  kept.foldl (fun (t : State) e => t.setReg e.1 ((regReset e.1 &&& ~~~ keptBits e.1) ||| e.2)) (s.resetRegs p)

/-- A domain loses what it holds, as its switch begins to open (Table 14.3, R373). DESIGN CHOICE, log entry 28. -/
def State.domainLost (s : State) (d : Nat) : State :=
  let s := s.loseRegs fun a => domainOf a == d
  let n := d / 4
  if d < 128 then
    match d % 4 with
    | 0 => s.pipeLost n 0
    | 1 => s.pipeLost n 1
    | 2 => (List.range 32).foldl (fun (t : State) i => t.setPort (32 * n + i) { safe := (t.port (32 * n + i)).safe }) s
    | _ => { s with lanes := Store.keep (fun l => l / 32 != n) s.lanes }
  else if d < 132 then s
  else if d < 140 then { s with tbl := { s.tbl with press := Store.del s.tbl.press (d - 132) } }
  else if d < 144 then s.hbmLost (d - 140)
  else if d = 144 then { s with pair := {}, lanes := Store.keep (fun l => decide (l < 1024)) s.lanes }
  else if d = 145 then s.pcieReset
  else
    let s := (s.engineLost (2 * (d - 146))).engineLost (2 * (d - 146) + 1)
    if d = 147 then s.teleLost else s

/-! ### What a domain does when it is on -/

/-- The wakes of masters whose domain has come on (R403, R391). -/
def State.wakeParties (s : State) (p : Nat → Bool) : State := s.rewake p

/-- The boot controller writes an engine's last accepted image into its store again (Table 14.3). -/
def State.loadImage (s : State) (k : Nat) (x : EngImage) : State :=
  let e := s.engine k
  let e := { e with store := putBytes (putBytes [] 0 (bytesAt x.body 16 393216)) engDispatch (bytesAt x.body 393232 1024)
                    bad := [], digest := x.digest, blocked := false }
  (s.setEngine k e).setFld (Reg.MGE_CTL k) 13 0 (leAt x.body 0 2 % 16384)

/-- An engine of a domain that has come on: its image again, and RUN when a wake switched the domain on.
DESIGN CHOICE, log entry 32. -/
def State.engineBack (s : State) (k : Nat) (run : Bool) : State :=
  match Store.at? s.boot.images k with
  | none => s
  | some x =>
    let s := s.loadImage k x
    if run then ((s.setBit (Reg.MGE_CTL k) 31 true).engStart k).rewake (s.engineParty k) else s

/-- What switching a domain on brings (Table 14.3). DESIGN CHOICE, log entry 32. -/
def State.domainUp (s : State) (d : Nat) (woken : Bool) : State :=
  if 132 ≤ d ∧ d < 140 then
    let b := d - 132
    let p := b ^^^ 1
    if s.domOn (132 + p) then
      ({ s with tbl := { s.tbl with press := Store.put {} s.tbl.press b (Store.read {} s.tbl.press p) } }).setReg
        (Reg.PRESS_SEQ b) (s.reg (Reg.PRESS_SEQ p))
    else s
  else if d = 145 then s.wakeParties hostId
  else if 146 ≤ d then (s.engineBack (2 * (d - 146)) woken).engineBack (2 * (d - 146) + 1) woken
  else s

/-! ### Power-up and core reset -/

/-- Every switched domain is asked for, the PCI Express domain first (Table 14.2, steps 4 and 5). -/
def State.powerUp (s : State) : State :=
  { s with pwr := { s.pwr with
      waiting := (145, true) :: (((List.range 148).filter (· != 145)).map fun d => (d, true)), bootStarted := false } }

/-- Whether a register lies in the always-on domain and keeps its value across a core reset (R321, R404): the DEV, PWR,
BOOT, FLT, MBX, TIME and LEDG blocks, MGE_DUTYMAP, the rind descriptors and SLC_FLT_DROP.
DESIGN CHOICE, log entry 30. -/
def coreKeeps (a : Nat) : Bool :=
  match regPlace a with
  | (.global, _, o) => decide (o < 0x80000) || o == Reg.MGE_DUTYMAP
  | (.slice, _, o) => decide (0x1E1000 ≤ o ∧ o < 0x1F0000) || o == 0x180000
  | _ => false

/-- The always-on registers a core reset changes: domains at reset, the command and status bits of DEV_RST and the boot
controller. DESIGN CHOICE, log entry 30. -/
def State.coreRegs (s : State) : State :=
  let s := s.loseRegs fun a => !coreKeeps a || decide (Reg.PWR_DOM 0 ≤ a ∧ a ≤ Reg.PWR_DOM 147)
  (((s.setBit Reg.DEV_RST 29 false).setFld Reg.BOOT_STAT 31 12 0).setBit Reg.BOOT_STAT 10 false).setBit Reg.BOOT_CMD 30 false

/-- A core reset (Table 14.4): all switched domains lose what they hold, every lock is freed, and the always-on domain
keeps its state. Records of FATAL faults may then be closed (Table 11.6); slices and ports whose records are HELD stay
safe. DESIGN CHOICE, log entry 31. -/
def State.coreReset (s : State) (cause : Nat) : State :=
  let s := s.mbxPartyReset fun _ => true
  let s := s.coreRegs
  let cnt := min 65535 (s.fld Reg.DEV_RSTCAUSE 31 16 + 1)
  let s := s.setReg Reg.DEV_RSTCAUSE (BitVec.ofNat 32 (cnt * 65536 + cause))
  let recs := s.flt.recs.map fun e => (e.1, { e.2 with coreReset := true })
  let held := fun (n : Nat) => recs.any fun e => e.2.state.handled && e.2.cls != .fatal && e.2.scope == .slice n
  let portHeld := fun (p : Nat) => held (p / 32) || recs.any fun e => e.2.state.handled && e.2.scope == .port p
  { s with
    reply := [], holds := [], locks := []
    tele := { devHist := s.tele.devHist }
    flt := { s.flt with recs := recs, fatalDue := none, deviceSafe := false }
    avs := { s.avs with released := false, awaiting := false }
    pace := [], intr := {}, host := {}
    mbx := { s.mbx with hold := [] }
    pwr := { s.pwr with ramping := [], waiting := [], shutdown := .none, deferred := [], woken := [], bootStarted := false }
    boot := { s.boot with op := none, attReply := none }
    slices := s.slices.map fun e => (e.1, { excluded := e.2.excluded, vwin := e.2.vwin, safe := held e.1 })
    vat := {}
    ports := ((List.range 1024).filter portHeld).map fun p => (p, { safe := true })
    lanes := [], ctxs := []
    engines := s.engines.map fun e => (e.1, e.2.journal)
    hbm := [], tbl := {}, flow := {}, pair := {} }

/-- Whether a core reset, its cause given, begins power-up at once: RESET_N is high (R400). -/
def State.resetCore (s : State) (cause : Nat) : State :=
  let s := s.coreReset cause
  if s.pwr.resetN then s.powerUp.setFld Reg.BOOT_STAT 31 28 (if s.pwr.bootSel then 6 else 1) else s

/-! ### Engine reset -/

/-- Engine k is reset (Table 14.4): registers, return stack and entry buffers cleared, its locks freed; with RUN = 1 it
restarts under R140. -/
def State.engineReset (s : State) (k : Nat) : State :=
  if s.domOn (146 + k / 2) then
    let s := s.engHalt k
    let s := (s.setEngine k (s.engine k).clear).engineGone k
    if s.bit (Reg.MGE_CTL k) 31 then (s.engStart k).rewake (s.engineParty k) else s
  else s

end Sys2Proof.Machine
end

