-- ==== Sys2Proof/Machine/Boot.lean ====
section
/-!
DEFINITION. Boot.lean: boot sources and firmware containers (R407 to R410), key slots and requests (R411 to R414), updates
(R420, R421) and the boot controller's commands (R422).
-/

namespace Sys2Proof.Machine

/-! ### Containers (R408, Table 14.7) -/

/-- TYPE, TARGET, VERSION, BODY_LEN and SIG_OFF of a firmware container (Table 14.6). -/
def fwType (b : List Byte) : Nat := leAt b 15 1
def fwTarget (b : List Byte) : Nat := leAt b 16 1
def fwVersion (b : List Byte) : Nat := leAt b 20 4
def fwBodyLen (b : List Byte) : Nat := leAt b 24 4
def fwSigOff (b : List Byte) : Nat := leAt b 28 4

/-- The KEYSLOT of a container's signature block. -/
def fwSlot (b : List Byte) : Nat := leAt b (fwSigOff b) 1

/-- The body of a firmware container. -/
def fwBody (b : List Byte) : List Byte := bytesAt b 64 (fwBodyLen b)

/-- FORMAT, the part judged on the header. -/
def fwFormatOk (b : List Byte) : Bool :=
  leAt b 0 4 == 0x57464C48 && leAt b 4 2 == 1 && leAt b 6 2 == 64 && fwSigOff b == 64 + fwBodyLen b &&
    allZero (bytesAt b 17 3) && allZero (bytesAt b 52 12)

/-- LENGTH: TOTAL_LEN as given and in range, BODY_LEN right for TYPE, and the parts add up. -/
def fwLengthOk (b : List Byte) (len : Nat) : Bool :=
  let lms := leAt b (fwSigOff b + 100) 4
  leAt b 8 4 == len && decide (leAt b 8 4 ≤ 524288) && leAt b 8 4 % 4 == 0 &&
    fwSigOff b + leAt b 32 4 + 4 == leAt b 8 4 && pad4 (104 + lms) == leAt b 32 4 &&
    (fwType b != 1 || fwBodyLen b == 394256) && (fwType b != 2 || fwBodyLen b == 80)

/-- FORMAT, the RSVD and PAD bytes of the signature block, judged after LENGTH. -/
def fwSigFormatOk (b : List Byte) : Bool :=
  let so := fwSigOff b
  let lms := leAt b (so + 100) 4
  allZero (bytesAt b (so + 1) 3) && allZero (bytesAt b (so + 104 + lms) (pad4 lms - lms))

/-- The type a boot operation expects: any for VERIFY. -/
def bootType (by_ : BootBy) (b : List Byte) : Bool :=
  match by_ with
  | .flash _ => fwType b == 1
  | .command cmd _ => if cmd = 2 then fwType b == 2 else if cmd = 5 then true else fwType b == 1

/-- TYPE: unknown, TARGET 0, a request code Table 14.8 does not list, or not the type the command expects. -/
def fwTypeOk (by_ : BootBy) (b : List Byte) : Bool :=
  (if fwType b = 1 then fwTarget b % 16 != 0
    else fwType b == 2 && decide (1 ≤ fwTarget b ∧ fwTarget b ≤ 3)) && bootType by_ b

/-- The 153 bytes of BOOT_KEYWIN's keys. -/
def State.keyWindow (s : State) : List Byte :=
  ((List.range 40).flatMap fun i => toLE 4 (s.reg (Reg.BOOT_KEYWIN i)).toNat).take 153

/-- SLOT and COUNT, NONCE and HASH of a request's body (R413). -/
def reqNonce (b : List Byte) : List Byte := bytesAt b 64 16
def reqSlot (b : List Byte) : Nat := leAt b 80 1
def reqCount (b : List Byte) : Nat := leAt b 81 1
def reqHash (b : List Byte) : List Byte := bytesAt b 96 48

/-- Whether a container is the first FUSE_KEY: no operator slot has ever been fused, and it is signed by the keys it
fuses, which BOOT_KEYWIN holds (Table 14.8). DEDUCED, log entry 35. -/
def State.firstKey (s : State) (b : List Byte) : Bool :=
  fwType b == 2 && fwTarget b == 1 && !s.boot.everFused && fwSlot b == reqSlot b && decide (1 ≤ reqSlot b ∧ reqSlot b ≤ 4) &&
    Config.sha384 s.keyWindow == reqHash b

/-- The checks up to SLOT (codes 0x02 to 0x07); 0 when all pass. -/
def State.fwCheck (s : State) (by_ : BootBy) (b : List Byte) (len : Nat) : Nat :=
  if containerCrcOk b = false then 0x02
  else if fwFormatOk b = false then 0x03
  else if fwLengthOk b len = false then 0x04
  else if fwSigFormatOk b = false then 0x03
  else if leAt b 12 2 ≠ 0x1F09 ∨ leAt b 14 1 ≠ 1 then 0x05
  else if fwTypeOk by_ b = false then 0x06
  else if s.slotValid (fwSlot b) = false ∧ s.firstKey b = false then 0x07
  else 0

/-- The keys a container's signatures are verified with. DEDUCED, log entry 35. -/
def State.fwKeys (s : State) (b : List Byte) : List Byte :=
  if s.slotValid (fwSlot b) then s.slotKeys (fwSlot b) else s.keyWindow

/-- SIG_EC, SIG_LMS and FLOOR (codes 0x08 to 0x0A). -/
def State.fwVerify (s : State) (b : List Byte) : Nat :=
  let c := sigVerify (s.fwKeys b) b (fwSigOff b)
  if c ≠ 0 then c else if fwVersion b / 2 ^ 24 < s.boot.floor then 0x0A else 0

/-! ### Requests (R413, Table 14.8) -/

/-- BOOT_NONCE's bytes. -/
def State.nonce (s : State) : List Byte := (List.range 4).flatMap fun i => toLE 4 (s.reg (Reg.BOOT_NONCE i)).toNat

/-- Whether a slot is neither EMPTY nor REVOKED. Slot 0 is fused at manufacture. -/
def State.slotLive (s : State) (k : Nat) : Bool :=
  (k == 0 || (Store.at? s.boot.hashes k).isSome) && !s.boot.revoked.contains k

/-- AUTH and STATE of a request (codes 0x0C, 0x0D). -/
def State.reqCheck (s : State) (b : List Byte) : Nat :=
  let k := fwSlot b
  let slot := reqSlot b
  match fwTarget b with
  | 1 =>
    if !(s.firstKey b || decide (1 ≤ k)) then 0x0C
    else if slot = 0 ∨ 4 < slot ∨ (Store.at? s.boot.hashes slot).isSome ∨ s.boot.revoked.contains slot ∨
        allZero (reqHash b) then 0x0D
    else 0
  | 2 =>
    if k = slot then 0x0C
    else if 4 < slot ∨ (List.range 5).all (fun i => i == slot || !s.slotLive i) then 0x0D
    else 0
  | _ => if 64 < reqCount b ∨ reqCount b ≤ s.boot.floor then 0x0D else 0

/-- NONCE, AUTH and STATE of a request (codes 0x0B to 0x0D). -/
def State.requestCheck (s : State) (b : List Byte) : Nat := if reqNonce b ≠ s.nonce then 0x0B else s.reqCheck b

/-- A request's effect on the fuses and the key store. -/
def State.reqApply (s : State) (b : List Byte) : State :=
  let slot := reqSlot b
  match fwTarget b with
  | 1 =>
    let keys := if s.firstKey b then Store.set s.boot.keys slot s.keyWindow else s.boot.keys
    { s with boot := { s.boot with hashes := Store.set s.boot.hashes slot (reqHash b), keys := keys, everFused := true } }
  | 2 => { s with boot := { s.boot with revoked := NatSet.add s.boot.revoked slot, keys := Store.del s.boot.keys slot } }
  | _ => { s with boot := { s.boot with floor := reqCount b } }

/-- BOOT_NONCE takes a new random value (R413). DESIGN CHOICE, log entry 3. -/
def State.newNonce (s : State) : State :=
  (List.range 4).foldl (fun (t : State) i =>
    let (w, t) := t.drawWord
    t.setReg (Reg.BOOT_NONCE i) w) s

/-- A request whose signatures and floor have passed: NONCE, AUTH and STATE, then the fuses; `fuseOk` is whether their
read-back passes. DEDUCED, log entry 35. -/
def State.request (s : State) (b : List Byte) (fuseOk : Bool) : State × Nat :=
  let c := s.requestCheck b
  if c ≠ 0 then (s, c) else if fuseOk then (s.reqApply b, 0) else (s, 0x0E)

/-! ### The controller's commands (R422) -/

/-- A command ends with a code; a request's end renews the nonce (R413). -/
def State.bootEnd (s : State) (code : Nat) : State :=
  let isReq : Bool := match s.boot.op with
    | some ⟨.command 2 _, _, _, _, _⟩ => true
    | _ => false
  let s := ({ s with boot := { s.boot with op := none } }.setBit Reg.BOOT_CMD 30 false).setFld Reg.BOOT_CMD 23 16 code
  if isReq then s.newNonce else s

/-- BOOT_STAT.STATE. -/
def State.bootState (s : State) : Nat := s.fld Reg.BOOT_STAT 31 28

/-- Whether a state of the boot chain is one in which commands are valid: RUN, FAILED or WAITHOST. -/
def State.bootReady (s : State) : Bool := decide (4 ≤ s.bootState) && s.boot.op.isNone

/-- INSTALL of a slot from BOOT_KEYWIN (R412). -/
def State.keyInstall (s : State) (slot : Nat) (keys : List Byte) : State × Nat :=
  if 1 ≤ slot ∧ Store.at? s.boot.hashes slot = some (Config.sha384 keys) ∧ s.boot.revoked.contains slot = false then
    ({ s with boot := { s.boot with keys := Store.set s.boot.keys slot keys } }, 0)
  else (s, 0x0F)

/-- A command written to BOOT_CMD: ignored with CMDREJ while one runs; refused with STATE when it is not valid; else it
runs. A container is read from host memory at BOOT_ADDR. -/
def State.bootCmd (s : State) (m : Master) (cmd arg : Nat) : State :=
  if s.bit Reg.BOOT_CMD 30 then s.setBit Reg.BOOT_CMD 29 true
  else if cmd = 3 then
    let (s, c) := s.keyInstall arg s.keyWindow
    s.setFld Reg.BOOT_CMD 23 16 c
  else if cmd = 0 ∨ 5 < cmd ∨ s.bootReady = false ∨ (cmd = 4 ∧ 2 < arg) then s.setFld Reg.BOOT_CMD 23 16 0x0D
  else
    let addr := (s.reg Reg.BOOT_ADDR_HI).toNat * 2 ^ 32 + s.fld Reg.BOOT_ADDR_LO 31 2 * 4
    let o : BootOp := { by_ := .command cmd arg, issuer := m, phase := .fetch, since := s.time.mono }
    ({ s with boot := { s.boot with op := some o } }.setBit Reg.BOOT_CMD 30 true).emit
      (.dmaRead ((hostFn m).getD 0) addr (s.fld Reg.BOOT_LEN 19 0))

/-- R420: BOOT_CMD LOAD. -/
def execBootLoad (m : Master) (s : State) : Out := .next (s.gated m Reg.BOOT_CMD true fun s => s.bootCmd m 1 0)

/-- R413: BOOT_CMD REQUEST. -/
def execBootRequest (m : Master) (s : State) : Out := .next (s.gated m Reg.BOOT_CMD true fun s => s.bootCmd m 2 0)

/-- R412: BOOT_CMD INSTALL with ARG = the slot. -/
def execInstall (m : Master) (arg : Fin 16) (s : State) : Out :=
  .next (s.gated m Reg.BOOT_CMD true fun s => s.bootCmd m 3 arg)

/-- R421: BOOT_CMD FLASH_WRITE into slot ARG. -/
def execFlashWrite (m : Master) (arg : Fin 16) (s : State) : Out :=
  .next (s.gated m Reg.BOOT_CMD true fun s => s.bootCmd m 4 arg)

/-- R409: BOOT_CMD VERIFY. -/
def execBootVerify (m : Master) (s : State) : Out := .next (s.gated m Reg.BOOT_CMD true fun s => s.bootCmd m 5 0)

/-- R422: a BOOT_CMD value that names no command ends with STATE. DEDUCED, log entry 15. -/
def execBootCmdReserved (m : Master) (cmd : Fin 16) (s : State) : Out :=
  if 1 ≤ cmd.val ∧ cmd.val ≤ 5 then .next s else .next (s.gated m Reg.BOOT_CMD true fun s => s.bootCmd m cmd 0)

/-! ### Flash boot (R407) -/

/-- Whether every switched domain has come on, or is HELD (Table 14.2, step 5). DESIGN CHOICE, log entry 34. -/
def State.allUp (s : State) : Bool := (List.range 148).all fun d => s.fld (Reg.PWR_DOM d) 29 27 == 2 || s.fld (Reg.PWR_DOM d) 29 27 == 4

/-- `n` bytes of the boot flash. DESIGN CHOICE, log entry 4. -/
def State.flashBytes (s : State) (at_ n : Nat) : List Byte := (List.range n).map fun i => Store.read 0xFF s.boot.flash (at_ + i)

/-- Where a flash slot begins: A, B, and the key block (R407). -/
def flashSlot (k : Nat) : Nat := if k = 0 then 0 else if k = 1 then 0x100000 else 0x1F0000

/-- The operator keys of the key block whose hashes match their slots' fuses are installed (R412).
DESIGN CHOICE, log entry 34. -/
def State.installKeyBlock (s : State) : State :=
  (List.range 4).foldl (fun (t : State) i => (t.keyInstall (1 + i) ((t.flashBytes (0x1F0000 + 160 * i) 160).take 153)).1) s

/-- The controller reads a flash slot. -/
def State.readFlash (s : State) (slot : Nat) : State :=
  { s with boot := { s.boot with op := some { by_ := .flash slot, issuer := .pf, phase := .fetch, since := s.time.mono } } }.setFld
    Reg.BOOT_STAT 31 28 2

/-- R407: after power-up with BOOT_SEL = 0, the controller installs the key block's keys and reads slot A.
DESIGN CHOICE, log entry 34. -/
def execFlashBoot (s : State) : Out :=
  if s.pwr.resetN && !s.pwr.bootSel && !s.pwr.bootStarted && s.allUp then
    .next ({ s with pwr := { s.pwr with bootStarted := true } }.installKeyBlock.readFlash 0)
  else .next s

/-- A flash slot has failed with a code: slot B is tried after slot A, and after both the state is FAILED (R407, R410). -/
def State.slotFailed (s : State) (slot code : Nat) : State :=
  if slot = 0 then (s.setFld Reg.BOOT_STAT 27 20 code).readFlash 1
  else ({ s with boot := { s.boot with op := none } }.setFld Reg.BOOT_STAT 19 12 code).setFld Reg.BOOT_STAT 31 28 5

/-- A boot operation ends with a code other than 0. DESIGN CHOICE, log entry 36. -/
def State.bootFail (s : State) (o : BootOp) (code : Nat) : State :=
  match o.by_ with
  | .flash slot => s.slotFailed slot code
  | .command cmd _ => (if cmd = 1 ∧ s.bootState ≠ 4 then s.setFld Reg.BOOT_STAT 27 20 code else s).bootEnd code

/-- The operation goes on to its next phase with a container. -/
def State.bootPhase (s : State) (o : BootOp) (ph : BootPhase) (b : List Byte) : State :=
  { s with boot := { s.boot with op := some { o with phase := ph, bytes := b } } }

/-! ### Steps of an operation (R409, R410) -/

/-- R410: a container's fetch ends. One in flash is read from there, TOTAL_LEN bytes long; the key block is written
unchecked (R421). -/
def execBootFetchDone (bytes : Option (List Byte)) (s : State) : Out :=
  match s.boot.op with
  | none => .next s
  | some o =>
    if o.phase ≠ .fetch then .next s
    else
      match bytes with
      | none => .next (s.bootFail o 0x01)
      | some b =>
        match o.by_ with
        | .flash slot =>
          let len := leNat (s.flashBytes (flashSlot slot + 8) 4)
          if 524288 < len then .next (s.bootFail o 0x04)
          else
            let b := s.flashBytes (flashSlot slot) len
            let c := s.fwCheck o.by_ b len
            if c ≠ 0 then .next (s.bootFail o c)
            else .next ((s.bootPhase o .verify b).setFld Reg.BOOT_STAT 31 28 3)
        | .command cmd arg =>
          let len := s.fld Reg.BOOT_LEN 19 0
          if b.length ≠ len then .next s
          else if cmd = 4 ∧ arg = 2 then .next (s.bootPhase o .flash b)
          else
            let c := s.fwCheck o.by_ b len
            if c ≠ 0 then .next (s.bootFail o c) else .next (s.bootPhase o .verify b)

/-- Whether an engine's store may be replaced (R146): halted with no journal open, or by a machine check. -/
def State.storeReplaceable (s : State) (k : Nat) : Bool :=
  s.domOn (146 + k / 2) && s.engHalted k && (!(s.engine k).jopen || (s.engine k).blocked)

/-- STATE of a LOAD (code 0x0D): the engines in TARGET, and at a host boot all four engines named.
DESIGN CHOICE, log entry 36. -/
def State.loadState (s : State) (b : List Byte) : Nat :=
  if s.bootState = 4 then
    if (List.range 4).all fun k => !(fwTarget b).testBit k || s.storeReplaceable k then 0 else 0x0D
  else if (s.bootState = 6 ∧ fwTarget b % 16 ≠ 15) ∨ !(s.domOn 146 && s.domOn 147) then 0x0D
  else 0

/-- R409: both signatures are verified, or one fails, and the checks after them are judged.
DESIGN CHOICE, log entry 36. -/
def execBootVerifyDone (fuseOk : Bool) (s : State) : Out :=
  match s.boot.op with
  | none => .next s
  | some o =>
    if o.phase ≠ .verify then .next s
    else
      let c := s.fwVerify o.bytes
      if c ≠ 0 then .next (s.bootFail o c)
      else
        match o.by_ with
        | .flash _ => .next (s.bootPhase o .write o.bytes)
        | .command cmd _ =>
          match cmd with
          | 1 =>
            let c := s.loadState o.bytes
            if c ≠ 0 then .next (s.bootFail o c) else .next (s.bootPhase o .write o.bytes)
          | 2 =>
            let (s, c) := s.request o.bytes fuseOk
            .next (s.bootEnd c)
          | 4 => .next (s.bootPhase o .flash o.bytes)
          | _ => .next (s.bootEnd (if fwType o.bytes = 2 then s.requestCheck o.bytes else 0))

/-- The image of a container, as the controller keeps it. -/
def fwImage (b : List Byte) : EngImage :=
  { body := fwBody b, digest := Config.sha384 ((fwBody b).drop 16), version := BitVec.ofNat 32 (fwVersion b), keyslot := fwSlot b }

/-- The body is written into each engine of TARGET; at boot RUN is set and the engine starts. -/
def State.writeEngines (s : State) (b : List Byte) (run : Bool) : State :=
  (List.range 4).foldl (fun (t : State) k =>
    if (fwTarget b).testBit k then
      let t := { t with boot := { t.boot with images := Store.set t.boot.images k (fwImage b) } }.loadImage k (fwImage b)
      if run then ((t.setBit (Reg.MGE_CTL k) 31 true).engStart k).rewake (t.engineParty k) else t
    else t) s

/-- R409: the stores are written. At boot the engines run, STATE becomes RUN and the voltage loop starts (Table 14.2,
step 6). -/
def execBootWriteDone (s : State) : Out :=
  match s.boot.op with
  | none => .next s
  | some o =>
    if o.phase ≠ .write then .next s
    else
      let boot := s.bootState != 4
      let s := s.writeEngines o.bytes boot
      let s := if boot then
          { s with avs := { s.avs with released := true, lastEval := s.time.mono } }.setFld Reg.BOOT_STAT 31 28 4
        else s
      match o.by_ with
      | .flash slot => .next ({ s with boot := { s.boot with op := none } }.setFld Reg.BOOT_STAT 10 10 slot)
      | .command _ _ => .next (s.bootEnd 0)

/-- R421: a flash write completes. -/
def execFlashWriteDone (s : State) : Out :=
  match s.boot.op with
  | none => .next s
  | some o =>
    match o.by_, o.phase with
    | .command _ arg, .flash =>
      let at_ := flashSlot arg
      let l := o.bytes.take (0x200000 - at_)
      let fl := (List.range l.length).foldl (fun (m : List Host.Cell) i => Store.put 0xFF m (at_ + i) (l.getD i 0)) s.boot.flash
      .next ({ s with boot := { s.boot with flash := fl } }.bootEnd 0)
    | _, _ => .next s

end Sys2Proof.Machine
end

