-- ==== Sys2Proof/Machine/StageRegs.lean ====
section
/-!
DEFINITION. StageRegs.lean: single-word access to the active stores (R145) and indirection tables (R105), mirror
sessions (R107) and the scrub of a slice's stores (R144).
-/

namespace Sys2Proof.Machine

/-- Whether only the loader writes the slice's banks: from the start of a LOAD to the end of the SWAP or DISCARD that
follows it (R70). -/
def State.loadPeriod (s : State) (n : Nat) : Bool :=
  s.ldState n != 0 && s.ldState n != 7 && !(s.loader n).isVerify

/-- A register write to bank contents is ignored under R70, setting BANKWR. -/
def State.bankWr (s : State) (n : Nat) : State := s.setBit (Reg.SLC_BS_STAT n) 14 true

/-- The active bank changed in place, by a register write of its own. -/
def State.writeActive (s : State) (n kind pipe stage off : Nat) (l : List Byte) : State :=
  s.setSlice n ((s.slice n).setActive ((s.slice n).active.write kind pipe stage off l))

/-- The RW fields of an access register take the values written with its command. -/
def State.setRW (s : State) (a : Nat) (mask data : Word) : State := s.setReg a ((s.reg a &&& ~~~ mask) ||| (data &&& mask))

/-- R145: SLC_CS_ACC.WR writes SLC_CS_DATA to one word of the active bank, in all four copies, with fresh parity, and
sets NOREF (R144). -/
def execCsWordWrite (m : Master) (n : Fin 32) (acc : Word) (s : State) : Out :=
  .next (s.gated m (Reg.SLC_CS_ACC n) true fun s =>
    let s := s.setRW (Reg.SLC_CS_ACC n) 0x3F8003FF acc
    let pipe := fieldOf acc 29 29
    let stage := fieldOf acc 28 24
    let tgt := fieldOf acc 23 23
    let a := if tgt = 1 then fieldOf acc 7 0 else fieldOf acc 9 0
    if 24 ≤ stage then s
    else if s.windowMay m n (if tgt = 1 then 72 else 64) 2 a = false then s.refuseVf m (Reg.SLC_CS_ACC n)
    else if s.loadPeriod n then s.bankWr n
    else if s.bit (Reg.SLC_CS_PROT n) 2 then s
    else
      let ws := (List.range (if tgt = 1 then 1 else 4)).flatMap fun w => toLE 4 (s.reg (Reg.SLC_CS_DATA n w)).toNat
      (s.writeActive n (if tgt = 1 then kDispatch else kMicro) pipe stage (if tgt = 1 then 4 * a else 16 * a) ws).setBit
        (Reg.SLC_CS_PROT n) 3 true)

/-- R145: SLC_CS_ACC.RD loads one word of the active bank into SLC_CS_DATA. -/
def execCsWordRead (m : Master) (n : Fin 32) (acc : Word) (s : State) : Out :=
  .next (s.gated m (Reg.SLC_CS_ACC n) true fun s =>
    let s := s.setRW (Reg.SLC_CS_ACC n) 0x3F8003FF acc
    let pipe := fieldOf acc 29 29
    let stage := fieldOf acc 28 24
    let b := (s.slice n).active
    if 24 ≤ stage then s
    else if fieldOf acc 23 23 = 1 then
      s.setReg (Reg.SLC_CS_DATA n 0) (BitVec.ofNat 32 (b.le kDispatch pipe stage (4 * fieldOf acc 7 0) 4))
    else (List.range 4).foldl (fun t w => t.setReg (Reg.SLC_CS_DATA n w)
      (BitVec.ofNat 32 (b.le kMicro pipe stage (16 * fieldOf acc 9 0 + 4 * w) 4))) s)

/-- R105: SLC_LB_ACC.WR writes one indirection entry of the active bank. -/
def execLbEntryWrite (m : Master) (n : Fin 32) (acc : Word) (s : State) : Out :=
  .next (s.gated m (Reg.SLC_LB_ACC n) true fun s =>
    let s := s.setRW (Reg.SLC_LB_ACC n) 0x0FFFF000 acc
    let g := fieldOf acc 27 24
    if s.windowMay m n 84 1 g = false then s.refuseVf m (Reg.SLC_LB_ACC n)
    else if s.loadPeriod n then s.bankWr n
    else s.writeActive n kHashSel 0 31 (8448 * g + 256 + 2 * fieldOf acc 23 12) (toLE 2 (s.fld (Reg.SLC_LB_DATA n) 15 0)))

/-- R105: SLC_LB_ACC.RD loads one indirection entry of the active bank. -/
def execLbEntryRead (m : Master) (n : Fin 32) (acc : Word) (s : State) : Out :=
  .next (s.gated m (Reg.SLC_LB_ACC n) true fun s =>
    let s := s.setRW (Reg.SLC_LB_ACC n) 0x0FFFF000 acc
    let g := fieldOf acc 27 24
    if s.windowMay m n 84 1 g = false then s.refuseVf m (Reg.SLC_LB_ACC n)
    else s.setReg (Reg.SLC_LB_DATA n)
      (BitVec.ofNat 32 ((s.slice n).active.le kHashSel 0 31 (8448 * g + 256 + 2 * fieldOf acc 23 12) 2)))

/-- R107: a write to SLC_MIR_CFG1 sets sampling and resets the session's sample counter. -/
def execMirrorCfg1Write (m : Master) (n : Fin 32) (i : Fin 16) (data : Word) (s : State) : Out :=
  .next (s.gated m (Reg.SLC_MIR_CFG1 n i) true fun s =>
    let s := s.setReg (Reg.SLC_MIR_CFG1 n i) (data &&& 0xFFFFFF00)
    s.setSlice n { s.slice n with mirror := Store.put 0 (s.slice n).mirror i 0 })

/-- R144: SCRUB starts a scrub of both pipes, unless one runs. -/
def execSliceScrub (m : Master) (n : Fin 32) (s : State) : Out :=
  .next (s.gated m (Reg.SLC_CS_PROT n) true fun s => s.setBit (Reg.SLC_CS_PROT n) 30 true)

/-- R144: a slice's scrub ends. With NOREF set it records the digests it computed; otherwise a mismatch sets SMISM and
reports a CONT fault of the pipe whose digest differs. -/
def State.sliceScrubDone (s : State) (n : Nat) : State :=
  if s.bit (Reg.SLC_CS_PROT n) 30 = false then s
  else
    let s := s.setBit (Reg.SLC_CS_PROT n) 30 false
    let b := (s.slice n).active
    let r := b.record
    if s.bit (Reg.SLC_CS_PROT n) 3 ∨ b.digestI = [] then (s.setSlice n ((s.slice n).setActive r)).setBit (Reg.SLC_CS_PROT n) 3 false
    else
      let bad := fun (t : State) (pipe : Nat) =>
        (t.setBit (Reg.SLC_CS_PROT n) 1 true).reportFault (stageSrc n pipe 31) .cont .logic 0 0
      let s1 := if r.digestI = b.digestI then s else bad s 0
      if r.digestE = b.digestE then s1 else bad s1 1

end Sys2Proof.Machine
end

