-- ==== Sys2Proof/Machine/EngRegs.lean ====
section
/-!
DEFINITION. EngRegs.lean: the registers of a management engine: run control (R140, R146), the scrub of its store (R144)
and the view of its store (R146).
-/

namespace Sys2Proof.Machine

/-- MGE_CTL.RUN goes to 1: the engine runs at once, or goes on when it had not halted yet (R140). Messages and bells that
wait raise its interrupt (R391). -/
def State.engRun (s : State) (k : Nat) : State :=
  let e := s.engine k
  let s := s.setEngine k { e with haltReq := false }
  if s.engHalted k then (s.engStart k).rewake (s.engineParty k) else s

/-- MGE_CTL.RUN goes to 0: the engine halts at its next microword, or at its next step while a journal is open (R146). -/
def State.engAskHalt (s : State) (k : Nat) : State :=
  if s.engHalted k then s else s.setEngine k { s.engine k with haltReq := true }

/-- A write of MGE_CTL: PARITY is the PF's (R440), RUN starts or halts, SCRUB starts a scrub unless one runs. -/
def State.mgeCtlWrite (s : State) (m : Master) (k : Nat) (data : Word) : State :=
  let a := Reg.MGE_CTL k
  s.pfBits m a 0x40000000 data fun s data =>
    let s := s.setReg a (data &&& 0xC0003FFF)
    let s := if data.msb then s.engRun k else s.engAskHalt k
    if fieldOf data 29 29 = 1 then s.setBit (Reg.MGE_STAT k) 27 true else s

/-- R140: MGE_CTL written with RUN = 1, its other fields as `data` holds them. -/
def execEngineRun (m : Master) (k : Fin 4) (data : Word) (s : State) : Out :=
  .next (s.gated m (Reg.MGE_CTL k) true fun s => s.mgeCtlWrite m k (data ||| 0x80000000))

/-- R146: MGE_CTL written with RUN = 0. -/
def execEngineHaltRequest (m : Master) (k : Fin 4) (data : Word) (s : State) : Out :=
  .next (s.gated m (Reg.MGE_CTL k) true fun s => s.mgeCtlWrite m k (data &&& 0x7FFFFFFF))

/-- R144: MGE_CTL written with SCRUB = 1. -/
def execEngineScrub (m : Master) (k : Fin 4) (data : Word) (s : State) : Out :=
  .next (s.gated m (Reg.MGE_CTL k) true fun s => s.mgeCtlWrite m k (data ||| 0x20000000))

/-- Whether the engine stands where a halt or an interrupt may come: between microwords, and after a step's commit while
a journal is open (R139, R146). -/
def Engine.atBoundary (e : Engine) : Bool := !e.memDone && !e.opDone && (!e.jopen || e.afterStep)

/-- R146: the engine reaches its boundary and halts. -/
def execEngineHalted (k : Fin 4) (s : State) : Out :=
  let e := s.engine k
  if s.engRuns k && e.haltReq && e.atBoundary then .next (s.engHalt k) else .next s

/-- R144: an engine's scrub ends; a mismatch sets SMISM and is reported as a CONT fault of the engine. -/
def State.engScrubDone (s : State) (k : Nat) : State :=
  if s.bit (Reg.MGE_STAT k) 27 = false then s
  else
    let s := s.setBit (Reg.MGE_STAT k) 27 false
    let e := s.engine k
    if e.digest = [] ∨ Config.sha384 e.image = e.digest then s
    else (s.setBit (Reg.MGE_STAT k) 28 true).reportFault (srcId 6 k) .cont .logic 0 0

/-- R144: a scrub ends, of a slice's stores or of an engine's. -/
def execScrubDone (x : ScrubTarget) (s : State) : Out :=
  match x with
  | .slice n => .next (s.sliceScrubDone n)
  | .engine k => .next (s.engScrubDone k)

/-- MGE_CS_ACC.RD loads one store word into MGE_CS_DATA0 to 5; a dispatch entry into DATA0 alone. -/
def State.engStoreRead (s : State) (k : Nat) (acc : Word) : State :=
  let s := s.setReg (Reg.MGE_CS_ACC k) (acc &&& 0x20003FFF)
  let e := s.engine k
  let n := fun (v : Nat) => BitVec.ofNat 32 v
  if fieldOf acc 29 29 = 1 then s.setReg (Reg.MGE_CS_DATA k 0) (n (e.entry (fieldOf acc 7 0)))
  else (List.range 6).foldl (fun (t : State) w =>
    t.setReg (Reg.MGE_CS_DATA k w) (n (e.word (fieldOf acc 13 0) / 2 ^ (32 * w)))) s

/-- R146: MGE_CS_ACC written with RD = 1. -/
def execEngineCsRead (m : Master) (k : Fin 4) (acc : Word) (s : State) : Out :=
  .next (s.gated m (Reg.MGE_CS_ACC k) true fun s => s.engStoreRead k acc)

end Sys2Proof.Machine
end

