-- ==== Sys2Proof/Machine/PairLink.lean ====
section
/-!
DEFINITION. PairLink.lean: the commands of the pair: heartbeats and windows (R346, R360), records, ACKs and NAKs (R352 to
R356), sweeps (R353, R363), data (R347), rails (R344), enable, takeover, resync and rates.
-/

namespace Sys2Proof.Machine

/-! ### Heartbeats -/

/-- R346: 5 µs after the last, a heartbeat on every rail that is up. -/
def execHeartbeatSend (s : State) : Out :=
  if s.pairSends && decide (s.pair.hbLast + us 5 ≤ s.time.mono) then
    let s := { s with pair := { s.pair with hbLast := s.time.mono } }
    .next ([0, 1].foldl (fun (t : State) r => if s.railUp r then t.emit (.solyen r (s.solyenFrame 1 0 r 0 s.heartbeat)) else t) s)
  else .next s

/-- R360, R362: a heartbeat arrives. -/
def execHeartbeatRx (rail : Fin 2) (frame : List Byte) (s : State) : Out :=
  .next (s.solyenRx rail frame 1 fun s r =>
    let p := r.payload
    if r.pairId ≠ s.fld Reg.PAIR_CTL 15 0 ∨ beAt p 1 1 ≠ s.pairAA.toNat ∨ beAt p 2 1 + s.fld Reg.PAIR_CTL 29 29 ≠ 1 then
      s.enterMismatch.pairCount 12 1
    else s.goodBeat { state := beAt p 0 1, donor := (beAt p 3 1).testBit 1, term := r.term, txSeq := beAt p 8 4 })

/-- Whether the link is silent: neither rail aligned, neither receiving Local Fault (R360). -/
def State.linkSilent (s : State) : Bool := s.pair.aligned.isEmpty && s.pair.localFault.isEmpty

/-- R360: a 5 µs window ends; a missed one counts, and MISS of them in a row start a takeover, or SUSPECT on a silent
link. -/
def execHeartbeatWindowEnd (s : State) : Out :=
  if s.pairOn && decide (s.pair.winStart + us 5 ≤ s.time.mono) then
    let seen := s.pair.hbSeen
    let k := if seen then 0 else s.pair.missed + 1
    let s := { s with pair := { s.pair with winStart := s.time.mono, hbSeen := false, missed := k } }
    let s := if seen then s else s.pairCount 0 1
    if (s.pairState = 3 ∨ s.pairState = 4) ∧ s.pair.safe = false ∧ max 2 (s.fld Reg.PAIR_CTL 24 20) ≤ k then
      if s.bit Reg.PAIR_CTL 28 && s.linkSilent then .next (s.setPairState 5) else .next s.takeOver
    else .next s
  else .next s

/-! ### Records -/

/-- R355, R357 to R359: a RECORDS frame arrives. Records are discarded in MISMATCH (counted), in the safe state, and with
a TERM below the receiver's, which enters HELLO (R362). -/
def execRecordsRx (rail : Fin 2) (frame : List Byte) (s : State) : Out :=
  .next (s.solyenRx rail frame 2 fun s r =>
    if s.pairState = 6 then s.pairCount 12 1
    else if s.pair.safe ∨ s.flt.deviceSafe ∨ s.pairState < 3 then s
    else if r.term < s.term then s.setPairState 2
    else if r.count = 0 then s.pairCount 3 1
    else s.applyAll r.count r.seq r.payload)

/-- Whether SEQ `a` comes after SEQ `b`. -/
def seqAfter (a b : Nat) : Bool := seqHigher a b

/-- R355: an ACK frees the records it acknowledges. -/
def execAckRx (rail : Fin 2) (frame : List Byte) (s : State) : Out :=
  .next (s.solyenRx rail frame 3 fun s r =>
    if s.pairState < 3 ∨ s.pairState = 6 ∨ s.pair.safe ∨ seqAfter r.seq s.txSeq then s
    else
      let s := { s with pair := { s.pair with unacked := s.pair.unacked.filter fun e => seqAfter e.1 r.seq } }
      s.setReg Reg.PAIR_ACKSEQ (BitVec.ofNat 32 r.seq))

/-- R355: a NAK makes the sender send again from the named SEQ, or start a resync when it no longer holds it. -/
def execNakRx (rail : Fin 2) (frame : List Byte) (s : State) : Out :=
  .next (s.solyenRx rail frame 4 fun s r =>
    if s.pairState < 3 ∨ s.pairState = 6 ∨ s.pair.safe then s
    else if s.pair.unacked.any fun e => e.1 == r.seq then { s with pair := { s.pair with again := some r.seq } }
    else if r.seq = (s.txSeq + 1) % 2 ^ 32 then s
    else s.resyncAsDonor)

/-- R346: an ACK is sent for applied records not yet acknowledged. -/
def execAckSend (s : State) : Out :=
  if s.pairSends && decide (3 ≤ s.pairState ∧ s.pairState ≤ 5) && s.rxSeq != s.pair.acked && s.anyRail.isSome then
    .next ({ s with pair := { s.pair with acked := s.rxSeq } }.sendSolyen 3 s.rxSeq 0 [])
  else .next s

/-- As many records as one frame takes: at most 255, and 16,400 bytes with header and FCS (R344, R345). -/
def packRecords : Nat → Nat → List (List Byte) → List (List Byte)
  | 0, _, _ => []
  | _, _, [] => []
  | k + 1, room, r :: rest => if r.length ≤ room then r :: packRecords k (room - r.length) rest else []

/-- A RECORDS frame of records numbered from `seq`. -/
def State.sendRecords (s : State) (seq : Nat) (rs : List (List Byte)) : State := s.sendSolyen 2 seq rs.length rs.flatten

/-- R352, R355: records are packed into a frame: those to send again first, else new ones, endpoint events before what the
sweeps have made, while fewer than 65,536 wait for an ACK. DESIGN CHOICE, log entry 72. -/
def execRecordSend (s : State) : Out :=
  if s.pairSends && (s.pairState == 3 || s.pairState == 4) && s.anyRail.isSome then
    match s.pair.again with
    | some n =>
      let held := s.pair.unacked.filter fun e => !seqAfter n e.1
      let rs := packRecords 255 16380 (held.map (·.2))
      let rest := held.drop rs.length
      let s1 := { s with pair := { s.pair with again := (rest.head?).map (·.1) } }
      .next (if rs = [] then s1 else (s1.sendRecords n rs).pairCount 2 rs.length)
    | none =>
      let room := 65536 - s.pair.unacked.length
      let rs := packRecords (min 255 room) 16380 (s.pair.events ++ s.pair.made)
      if rs = [] then .next s
      else
        let first := (s.txSeq + 1) % 2 ^ 32
        let ne := s.pair.events.length
        let nums := (List.range rs.length).map fun i => ((first + i) % 2 ^ 32, rs.getD i [])
        let s1 := { s with pair := { s.pair with events := s.pair.events.drop rs.length, made := s.pair.made.drop (rs.length - ne)
                                                 unacked := s.pair.unacked ++ nums } }
        .next ((s1.setReg Reg.PAIR_TXSEQ (BitVec.ofNat 32 (s.txSeq + rs.length))).sendRecords first rs)
  else .next s

/-! ### Sweeps -/

/-- A record a sweep has made. -/
def State.makeRecord (s : State) (r : List Byte) : State := { s with pair := { s.pair with made := s.pair.made ++ [r] } }

/-- The lowest number of a list. -/
def least (l : List Nat) : Option Nat := l.foldl (fun b a => match b with
  | some m => some (min m a)
  | none => some a) none

/-- Whether a context is VALID. -/
def flowValid (b : List Byte) : Bool := leAt b 0 1 % 2 == 1

/-- The next valid context a donor sends, from index i on. -/
def State.nextOwnedFlow (s : State) (i : Nat) : Option Nat :=
  least (((s.flow.hbm.map (·.1)) ++ s.flow.cache.map (·.2.index)).filter fun k =>
    decide (i ≤ k) && s.ownsFlow k && flowValid (s.flowGet k))

/-- Whether this device sends its meters: a single donor owns them all; otherwise as R350 gives. -/
def State.ownsMeters (s : State) : Bool :=
  if s.pairState = 3 ∧ s.pair.partnerDonor = false then s.bit Reg.PAIR_STAT 18 else s.pairAA || s.pairActive

/-- A meter's record (Table 12.3). -/
def State.meterRecord (s : State) (rs : Bool) (k : Nat) : List Byte :=
  let m := s.meterFill k
  pairRecord 4 (2 * rs.toNat) (k / 65536) (k % 65536) 0 (toLE 8 (m.c / 8000) ++ toLE 8 (m.e / 8000))

/-- The resync sweep's next item from position p (R363): slots, then a donor's contexts, meters and RS_MARK. -/
def State.resyncVisit (s : State) (p : Nat) : State :=
  let ended := fun (t : State) => { t with pair := { t.pair with rsAt := none, rsDone := true } }.syncDone
  let at_ := fun (t : State) (q : Nat) => { t with pair := { t.pair with rsAt := some q } }
  let donor := s.bit Reg.PAIR_STAT 18
  let mark := fun (t : State) => ended (t.makeRecord (pairRecord 6 2 0 t.txSeq 0 []))
  let meters := fun (t : State) (q : Nat) =>
    match (t.flow.meterCfg.map (·.1)).find? fun k => decide (q ≤ k) && t.ownsMeters with
    | some k => at_ (t.makeRecord (t.meterRecord true k)) (2 ^ 25 + 2 ^ 20 + k + 1)
    | none => mark t
  let flows := fun (t : State) (q : Nat) =>
    match t.nextOwnedFlow q with
    | some i => at_ (t.makeRecord (flowRecord true i (t.flowGet i))) (2 ^ 25 + i + 1)
    | none => meters t 0
  if p < 2 ^ 25 then
    match (s.tbl.tags.map (·.1)).find? fun k => decide (p ≤ k) with
    | some k =>
      let e := s.epAt k
      at_ (if epQuar e then s else s.makeRecord (pairRecord 1 2 0 k (epSeq e) e)) (k + 1)
    | none => if donor then flows s 0 else ended s
  else if p < 2 ^ 25 + 2 ^ 20 then flows s (p - 2 ^ 25)
  else meters s (p - 2 ^ 25 - 2 ^ 20)

/-- The flow sweep's next cache line (R353): the record of a changed context this device owns. -/
def State.flowVisit (s : State) : State :=
  let k := s.pair.flowAt
  let s := { s with pair := { s.pair with flowAt := (k + 1) % 131072 } }
  match Store.at? s.flow.cache k with
  | some l =>
    if s.pair.flowDirty.contains l.index && s.ownsFlow l.index then
      { s with pair := { s.pair with flowDirty := NatSet.drop s.pair.flowDirty l.index } }.makeRecord
        (flowRecord false l.index l.bytes)
    else s
  | none => s

/-- The meter sweep's next meter. -/
def State.meterVisit (s : State) : State :=
  let k := s.pair.mtrAt
  let s := { s with pair := { s.pair with mtrAt := (k + 1) % 2097152 } }
  if s.pair.mtrDirty.contains k then
    { s with pair := { s.pair with mtrDirty := NatSet.drop s.pair.mtrDirty k } }.makeRecord (s.meterRecord false k)
  else s

/-- The counter sweep's next counter. -/
def State.counterVisit (s : State) : State :=
  let k := s.pair.ctrAt
  let s := { s with pair := { s.pair with ctrAt := (k + 1) % 4194304 } }
  if s.pair.ctrDirty.contains k then
    let v := Store.read (0, 0) s.tele.counters k
    { s with pair := { s.pair with ctrDirty := NatSet.drop s.pair.ctrDirty k } }.makeRecord
      (pairRecord 5 0 (k / 131072) (k % 131072) 0 (toLE 8 v.1 ++ toLE 8 v.2))
  else s

/-- R352, R353, R363: sweep k visits its next item: 0 resync (in SYNC only), 1 flow, 2 meter, 3 counter (the last two of
the active device in active/standby mode). -/
def execSweepVisit (k : Fin 4) (s : State) : Out :=
  let live := s.pairState == 3 || s.pairState == 4
  let standby := !s.pairAA && s.pairActive
  if s.pairSends = false then .next s
  else match k.val with
    | 0 => .next (match s.pair.rsAt with
      | some p => if s.pairState = 3 then s.resyncVisit p else s
      | none => s)
    | 1 => .next (if live && s.bit Reg.PAIR_CTL 27 then s.flowVisit else s)
    | 2 => .next (if live && s.bit Reg.PAIR_CTL 26 && standby then s.meterVisit else s)
    | _ => .next (if live && s.bit Reg.PAIR_CTL 25 && standby then s.counterVisit else s)

/-! ### Data and rails -/

/-- The punt header of a received DATA frame (R347). -/
def State.dataPunt (s : State) : List Byte :=
  toLE 1 1 ++ toLE 1 32 ++ toLE 2 0xFE00 ++ toLE 2 1057 ++ toLE 2 1057 ++ toLE 1 0xFF ++ toLE 1 0 ++ toLE 1 0 ++ toLE 1 0 ++
    toLE 2 0 ++ toLE 2 0 ++ toLE 6 s.clkSec ++ toLE 4 s.clkNs ++ toLE 2 0xFFFF ++ toLE 4 0

/-- R347: a DATA frame is delivered to RX_QP's queue, or dropped and counted. -/
def execDataRx (rail : Fin 2) (frame : List Byte) (s : State) : Out :=
  .next (s.solyenRx rail frame 5 fun s r =>
    if s.pairState = 6 then s.pairCount 12 1
    else if s.pair.safe then s
    else if s.bit Reg.PAIR_DCFG 31 = false then s.pairCount 11 1
    else
      let cp : Copy := { frame := 0, kind := .host, dest := 1056, queue := s.fld Reg.PAIR_DCFG 7 0, punt := s.dataPunt, nodes := 2,
                         pairData := true }
      s.queueToStore 2048 { owned := false, inPort := 1057, orig := 1057, rest := withFcs r.payload, after := some cp })

/-- R344: a rail's PCS gains or loses alignment, or a fault ordered set begins or ends. -/
def execRailChange (rail : Fin 2) (aligned lf rf : Bool) (s : State) : Out :=
  let put := fun (m : NatSet) (b : Bool) => if b then NatSet.add m rail else NatSet.drop m rail
  let s := { s with pair := { s.pair with aligned := put s.pair.aligned aligned, localFault := put s.pair.localFault lf
                                          remoteFault := put s.pair.remoteFault rf } }
  .next (s.setBit Reg.PAIR_STAT (16 + rail) (aligned && !lf && !rf))

/-! ### Software -/

/-- A write of PAIR_CTL (R349): MODE, SIDE and PAIR_ID take their values only while EN is 0; EN going to 1 enters ALONE
with TERM 0, EN going to 0 enters OFF, and the Solyen lanes start or stop. DEDUCED, log entry 59. -/
def State.pairCtlWrite (s : State) (data : Word) : State :=
  let was := s.pairOn
  let s := s.setReg Reg.PAIR_CTL (if was then (s.reg Reg.PAIR_CTL &&& 0x6000FFFF) ||| (data &&& 0x9FF00000) else data &&& 0xFFF0FFFF)
  if s.pairOn = was then s
  else if was then
    let s := ((s.enterAlone 0).setPairState 0).setFld Reg.PAIR_STAT 19 16 0
    { s with pair := { s.pair with aligned := [], localFault := [], remoteFault := [] } }.lanesRestart 1024 16
  else
    let t := s.enterAlone 0
    let s := { t with pair := { t.pair with winStart := s.time.mono, hbLast := s.time.mono, neverDonor := false } }
    s.lanesRestart 1024 16

/-- R349: PAIR_CTL written with EN = 1. -/
def execPairEnable (m : Master) (data : Word) (s : State) : Out :=
  .next (s.gated m Reg.PAIR_CTL true fun s => s.pairCtlWrite (data ||| 0x80000000))

/-- R349: PAIR_CTL written with EN = 0. -/
def execPairDisable (m : Master) (data : Word) (s : State) : Out :=
  .next (s.gated m Reg.PAIR_CTL true fun s => s.pairCtlWrite (data &&& 0x7FFFFFFF))

/-- R360: PAIR_CMD.TAKEOVER, accepted in SUSPECT only. -/
def State.pairTakeover (s : State) : State :=
  if s.pairState = 5 then s.takeOver.setFld Reg.PAIR_CMD 29 27 0 else s.setFld Reg.PAIR_CMD 29 27 1

/-- R364: PAIR_CMD.RESYNC, accepted in PAIRED only. -/
def State.pairResync (s : State) : State :=
  if s.pairState = 4 then s.resyncAsDonor.setFld Reg.PAIR_CMD 29 27 0 else s.setFld Reg.PAIR_CMD 29 27 1

/-- PAIR_CMD.TAKEOVER, in SUSPECT, takes over from step 3 of Table 12.4. -/
def execPairTakeover (m : Master) (s : State) : Out := .next (s.gated m Reg.PAIR_CMD true State.pairTakeover)

/-- PAIR_CMD.RESYNC, in PAIRED, makes this device the only donor and starts SYNC. -/
def execResync (m : Master) (s : State) : Out := .next (s.gated m Reg.PAIR_CMD true State.pairResync)

/-- A write of PAIR_MCFG0 (i = 0) or PAIR_MCFG1 (R352). -/
def State.pairRateWrite (s : State) (i : Nat) (data : Word) : State :=
  let a := if i = 0 then data else s.reg Reg.PAIR_MCFG0
  let b := if i = 0 then s.reg Reg.PAIR_MCFG1 else data
  let rs := oneIfZero (fieldOf b 15 0)
  if 2000 < 256 + fieldOf a 31 16 + fieldOf a 15 0 + fieldOf b 31 16 + rs ∨ 1024 < fieldOf a 31 16 ∨ 512 < rs then
    s.raiseBit Reg.PAIR_STAT 27
  else s.setReg (if i = 0 then Reg.PAIR_MCFG0 else Reg.PAIR_MCFG1) data

/-- A write of PAIR_MCFG0 or PAIR_MCFG1 is accepted or refused with RATEERR. -/
def execPairRateWrite (m : Master) (i : Fin 2) (data : Word) (s : State) : Out :=
  .next (s.gated m (if i.val = 0 then Reg.PAIR_MCFG0 else Reg.PAIR_MCFG1) true fun s => s.pairRateWrite i data)

end Sys2Proof.Machine
end

