-- ==== Sys2Proof/Machine/Ports.lean ====
section
/-!
DEFINITION. Ports.lean: the commands of front ports: enable, forced fault, octet modes, cut-through steps and the link's
events (R229, R230, R244 to R248).
-/

namespace Sys2Proof.Machine

/-- The writable bits of PORT_CTL. -/
def portCtlMask : Word := 0xC0FF7FFF

/-- A write of PORT_CTL (R247, R248): the fields take their values; EN going to 0 stops the port and squelches its
lanes, EN going to 1 puts it in DOWN (or SAFE) and starts its lanes, and FORCE_LF puts it in SAFE or lets it leave. -/
def State.portCtlWrite (s : State) (p : Nat) (data : Word) : State :=
  let on := s.portOn p
  let lf := s.bit (Reg.PORT_CTL p) 30
  let s := s.setReg (Reg.PORT_CTL p) (data &&& portCtlMask)
  if s.portOn p = false then
    if on then (((s.setFld (Reg.PORT_STAT p) 30 28 0).portFall p none).lanesRestart p (modeWidth (s.octMode p))) else s
  else if on = false then (s.portFall p none).lanesRestart p (modeWidth (s.octMode p))
  else if s.bit (Reg.PORT_CTL p) 30 = lf then s
  else if lf then (if s.portSafe p then s else s.portFall p (s.sinceNow p))
  else s.portFall p (s.port p).since

/-- A write to a register of port p: an unassigned port's are ignored (R229). -/
def State.portWrite (s : State) (m : Master) (p a : Nat) (run : State → State) : State :=
  s.gated m a true fun s => if s.assigned p then run s else s

/-- R248: PORT_CTL written with EN = 1. -/
def execPortEnable (m : Master) (p : Fin 1024) (data : Word) (s : State) : Out :=
  .next (s.portWrite m p (Reg.PORT_CTL p) fun s => s.portCtlWrite p (data ||| 0x80000000))

/-- R248: PORT_CTL written with EN = 0. -/
def execPortDisable (m : Master) (p : Fin 1024) (data : Word) (s : State) : Out :=
  .next (s.portWrite m p (Reg.PORT_CTL p) fun s => s.portCtlWrite p (data &&& 0x7FFFFFFF))

/-- R247: PORT_CTL written with FORCE_LF = 1. -/
def execForceLf (m : Master) (p : Fin 1024) (data : Word) (s : State) : Out :=
  .next (s.portWrite m p (Reg.PORT_CTL p) fun s => s.portCtlWrite p (data ||| 0x40000000))

/-- A port of an octet whose mode has changed: DISABLED, counters 0, registers at their reset values (R230). -/
def State.portFresh (s : State) (p : Nat) : State :=
  let s := s.resetRegs fun a => decide (Reg.PORT_CTL p ≤ a ∧ a < Reg.PORT_CTL p + 0x800 ∧ a ≠ Reg.PORT_OCT p)
  s.setPort p { safe := (s.port p).safe }

/-- A write of PORT_OCT of octet k (R230): MERR cleared by a 1; a new MODE is taken while no assigned port of the octet is
enabled, else ignored with MERR set. -/
def State.octetWrite (s : State) (k : Nat) (data : Word) : State :=
  let a := Reg.PORT_OCT (8 * k)
  let s := if data.msb then s.setBit a 31 false else s
  let mode := fieldOf data 2 0
  if mode = s.fld a 2 0 then s
  else if (List.range 8).any fun i => s.assigned (8 * k + i) && s.portOn (8 * k + i) then s.raiseBit a 31
  else
    let s := (List.range 8).foldl (fun t i => t.portFresh (8 * k + i)) (s.setFld a 2 0 mode)
    s.lanesRestart (8 * k) 8

/-- R230: a write of PORT_OCT. -/
def execOctetModeWrite (m : Master) (k : Fin 128) (data : Word) (s : State) : Out :=
  .next (s.gated m (Reg.PORT_OCT (8 * k)) true fun s => s.octetWrite k data)

/-- A write of PORT_CT: the step takes the written value, and UNDERRUN is cleared by a 1 (R244). -/
def State.ctWrite (s : State) (p : Nat) (data : Word) : State :=
  let s := s.setFld (Reg.PORT_CT p) 2 0 (fieldOf data 2 0)
  if data.msb then s.setBit (Reg.PORT_CT p) 31 false else s

/-- R244: a software write of PORT_CT. -/
def execCtStepWrite (m : Master) (p : Fin 1024) (data : Word) (s : State) : Out :=
  .next (s.portWrite m p (Reg.PORT_CT p) fun s => s.ctWrite p data)

/-- R245, Table 07.6: the PCS loses alignment (neither `lf` nor `rf`), or a Local or Remote Fault ordered set
arrives. -/
def execLinkFault (p : Fin 1024) (lf rf : Bool) (s : State) : Out :=
  if s.assigned p && s.portOn p && s.domOn (4 * (p / 32) + 2) then
    let s1 := (s.setBit (Reg.PORT_STAT p) 30 lf).setBit (Reg.PORT_STAT p) 29 rf
    .next (if lf || rf then s1.linkLost p else s1.alignLost p)
  else .next s

/-- R246: the PCS is aligned on every lane with no fault ordered set received; the debounce starts. -/
def execPcsAligned (p : Fin 1024) (s : State) : Out :=
  if s.assigned p && s.portOn p && s.domOn (4 * (p / 32) + 2) && s.lanesAllow p then
    let s1 := (s.setFld (Reg.PORT_STAT p) 30 28 1)
    .next (if stateUp (s.portState p) then s1 else s1.setPort p { s1.port p with since := some s.time.mono })
  else .next s

/-- R246: the port has stayed aligned with no fault for LINKUP_DB × 10 µs, and enters UP, or DRAIN while its slice is in
a drain swap. -/
def execLinkupDebounce (p : Fin 1024) (s : State) : Out :=
  match (s.port p).since with
  | some t =>
    if s.portState p = 1 ∧ t + us (10 * oneIfZero (s.fld (Reg.PORT_CTL p) 23 16)) ≤ s.time.mono then
      .next (s.setPortState p (if s.draining (p / 32) then 4 else 2))
    else .next s
  | none => .next s

end Sys2Proof.Machine
end

