-- ==== Sys2Proof/Machine/Power.lean ====
section
/-!
DEFINITION. Power.lean: switching domains (R401 to R403), resets (R404, R405), loss of the always-on supply (R400, R317)
and the controlled shutdown (R406).
-/

namespace Sys2Proof.Machine

/-! ### Requests (R401, Table 14.3) -/

/-- PWR_DOMd.STATE. -/
def State.domState (s : State) (d : Nat) : Nat := s.fld (Reg.PWR_DOM d) 29 27

/-- Whether every assigned front port of slice n has EN = 0. -/
def State.portsOff (s : State) (n : Nat) : Bool := (List.range 32).all fun i => !s.assigned (32 * n + i) || !s.portOn (32 * n + i)

/-- Whether every queue of slice n's front ports and of port 1024 + n is empty. -/
def State.queuesEmpty (s : State) (n : Nat) : Bool :=
  (((List.range 32).flatMap fun i => destQids (32 * n + i)) ++ destQids (1024 + n)).all fun q => (s.queue q).isEmpty

/-- Whether an engine stands halted with no journal open. -/
def State.engIdle (s : State) (k : Nat) : Bool := s.engHalted k && !(s.engine k).jopen

/-- The conditions under which a domain may be switched off (Table 14.3). DESIGN CHOICE, log entry 28. -/
def State.offOk (s : State) (d : Nat) : Bool :=
  let n := d / 4
  if d < 128 then
    match d % 4 with
    | 0 => s.portsOff n && s.ldState n == 0
    | 1 => s.portsOff n && s.ldState n == 0 && s.queuesEmpty n
    | 2 => s.portsOff n
    | _ => s.portsOff n && (List.range 32).all fun i => !s.lanePattern (32 * n + i)
  else if d < 132 then !s.bit Reg.VAT_CTL (26 + (d - 128)) && s.quadEmpty (d - 128)
  else if d < 140 then s.pressServes ((d - 132) ^^^ 1)
  else if d < 144 then !s.bit Reg.TBL_CTL 31 && !s.bit Reg.FLOW_CTL 31
  else if d = 144 then !s.bit Reg.PAIR_CTL 31
  else if d = 145 then (List.range 256).all fun h => !s.bit (Reg.HOST_QP_CTL h) 31
  else
    let k := 2 * (d - 146)
    s.engIdle k && s.engIdle (k + 1) && (List.range 8).all fun c => s.dutyEngine c / 2 != d - 146

/-- Whether a master may write PWR_DOMd (R401): the PCI Express domain the engines alone, a management domain not its
own engines. DESIGN CHOICE, log entry 29. -/
def domWriter (m : Master) (d : Nat) : Bool :=
  match m with
  | .pf => d != 145
  | .vf _ => false
  | .me k => d != 146 + k.val / 2

/-- What a domain has last been asked for: the last request that waits, the ramp under way, or its present state. -/
def State.domAsked (s : State) (d : Nat) : Bool :=
  match ((s.pwr.waiting ++ s.pwr.deferred).reverse.find? fun e => e.1 == d) with
  | some e => e.2
  | none =>
    match s.pwr.ramping.find? fun e => e.dom == d with
    | some e => e.up
    | none => s.domState d == 2

/-- A granted request waits for its ramp, or for the end of a ramp under way (R402). -/
def State.domQueue (s : State) (d : Nat) (up : Bool) : State :=
  if s.pwr.ramping.any fun e => e.dom == d then { s with pwr := { s.pwr with deferred := s.pwr.deferred ++ [(d, up)] } }
  else { s with pwr := { s.pwr with waiting := s.pwr.waiting ++ [(d, up)] } }

/-- RESULT of the last request, and REQ as it reads back. DESIGN CHOICE, log entry 29. -/
def State.domResult (s : State) (d result : Nat) (req : Bool) : State :=
  (s.setFld (Reg.PWR_DOM d) 26 24 result).setBit (Reg.PWR_DOM d) 31 req

/-- Whether the record of a domain switch's fault is still open (PWR_DOMd, HELD). -/
def State.switchFault (s : State) (d : Nat) : Bool := s.flt.recs.any fun e => e.2.src == srcId 4 (1 + d)

/-- A write of REQ (R401, R402): refused with PERM, COND or HELD, or granted. -/
def State.domRequest (s : State) (m : Master) (d : Nat) (on : Bool) : State :=
  let req := s.bit (Reg.PWR_DOM d) 31
  if !domWriter m d then s.domResult d 2 req
  else if s.domState d = 4 then
    if on then
      if s.switchFault d then s.domResult d 3 req
      else if s.domAsked d then s.domResult d 0 true
      else (s.domResult d 0 true).domQueue d true
    else s.domResult d 0 false
  else if s.domAsked d = on then s.domResult d 0 on
  else if !on && !s.offOk d then s.domResult d 1 true
  else (s.domResult d 0 on).domQueue d on

/-- R401: PWR_DOMd written with REQ = 0. -/
def execDomainOffRequest (m : Master) (d : Fin 148) (s : State) : Out :=
  .next (s.gated m (Reg.PWR_DOM d) true fun s => s.domRequest m d false)

/-- R401: PWR_DOMd written with REQ = 1. -/
def execDomainOnRequest (m : Master) (d : Fin 148) (s : State) : Out :=
  .next (s.gated m (Reg.PWR_DOM d) true fun s => s.domRequest m d true)

/-! ### Ramps (R402) -/

/-- The first waiting request whose domain does not ramp, with the others. -/
def State.nextRamp (s : State) : Option ((Nat × Bool) × List (Nat × Bool)) :=
  match s.pwr.waiting.find? fun e => s.pwr.ramping.all (·.dom != e.1) with
  | none => none
  | some e => some (e, s.pwr.waiting.erase e)

/-- R402: a waiting request begins its ramp, in grant order, when fewer than 4 domains ramp. A domain that is switched
off serves no more from here on, and loses what it holds. DESIGN CHOICE, log entry 28. -/
def execDomainRampStart (s : State) : Out :=
  if 4 ≤ s.pwr.ramping.length then .next s
  else
    match s.nextRamp with
    | none => .next s
    | some ((d, up), rest) =>
      let s := { s with pwr := { s.pwr with waiting := rest } }
      if (s.domState d = 2) = (up = true) then .next s
      else
        let s := { s with pwr := { s.pwr with ramping := s.pwr.ramping ++ [Ramp.mk d up s.time.mono] } }
        let s := s.setFld (Reg.PWR_DOM d) 29 27 (if up then 1 else 3)
        .next (if up then s else s.domainLost d)

/-- A ramp has ended; a request that waited for it is taken. -/
def State.rampEnd (s : State) (d st : Nat) : State :=
  let later := s.pwr.deferred.filter fun e => e.1 == d
  let s := { s with pwr := { s.pwr with ramping := s.pwr.ramping.filter fun e => e.dom != d
                                        deferred := s.pwr.deferred.filter fun e => e.1 != d
                                        waiting := s.pwr.waiting ++ later } }
  s.setFld (Reg.PWR_DOM d) 29 27 st

/-- R402: a domain reaches its commanded state within its bound. -/
def execDomainRampDone (d : Fin 148) (s : State) : Out :=
  match s.pwr.ramping.find? fun e => e.dom == d.val with
  | none => .next s
  | some e =>
    if e.start + us 100 ≤ s.time.mono then .next s
    else if e.up then
      let woken := s.pwr.woken.contains d.val
      let s := s.rampEnd d 2
      .next ({ s with pwr := { s.pwr with woken := NatSet.drop s.pwr.woken d } }.domainUp d woken)
    else .next (s.rampEnd d 0)

/-- R402: 100 µs after its ramp started a domain has not reached its state: it is left off and HELD, and PWR source
1 + d is reported. -/
def execDomainRampTimeout (d : Fin 148) (s : State) : Out :=
  match s.pwr.ramping.find? fun e => e.dom == d.val with
  | none => .next s
  | some e =>
    if e.start + us 100 ≤ s.time.mono then
      let s := { s with pwr := { s.pwr with deferred := s.pwr.deferred.filter fun e => e.1 != d.val
                                            woken := NatSet.drop s.pwr.woken d } }
      .next (((s.rampEnd d 4).domainLost d).reportFault (srcId 4 (1 + d.val)) .cont .logic 0 0)
    else .next s

/-! ### Always-on supply and RESET_N (R400, R404) -/

/-- A write of the ledger cut short: its bytes are not given, but its CRC fails (R317).
DESIGN CHOICE, log entry 33. -/
def State.cutWrite (s : State) : State :=
  match s.ledger.busy with
  | none => s
  | some w =>
    let n := w.bytes.length - 4
    let junk := (List.range n).map fun i => Config.freeByte (s.fresh + i)
    let bad := (withCrc junk).drop n |>.map fun b => ~~~ b
    { s with fresh := s.fresh + n, ledger := { s.ledger with mem := putBytes s.ledger.mem w.addr (junk ++ bad) } }

/-- The device held in power-on reset (R400): what remains is the ledger, the fuses and the boot flash.
DESIGN CHOICE, log entry 89. -/
def State.aonLost (s : State) : State :=
  let s := s.cutWrite
  { State.reset with
    pending := s.pending, fresh := s.fresh, out := s.out
    ledger := { mem := s.ledger.mem, gen := s.ledger.gen, seq := s.ledger.seq, crit := s.ledger.crit
                general := s.ledger.general }
    flt := { spares := s.flt.spares }
    pwr := { aonValid := false }
    boot := { hashes := s.boot.hashes, revoked := s.boot.revoked, floor := s.boot.floor, everFused := s.boot.everFused
              flash := s.boot.flash } }

/-- R400: VDD_AON falls below its reset threshold. -/
def execAonSupplyLoss (s : State) : Out := .next (if s.pwr.aonValid then s.aonLost else s)

/-- The offsets of a summary's counts (Table 10.6). -/
def summaryOffsets : List Nat :=
  [16] ++ ((List.range 64).map fun i => 32 + 4 * i) ++ [288, 292, 296, 298] ++ ((List.range 160).map fun i => 320 + 4 * i) ++
    ((List.range 128).map fun i => 960 + i) ++ ((List.range 16).map fun i => 1088 + 8 * i) ++
    ((List.range 1040).map fun i => 1216 + 4 * i) ++ [5888, 5892, 5896, 5900]

/-- A summary copy of the ledger, when its CRC is valid. -/
def State.summaryAt (s : State) (addr : Nat) : Option (List Byte) :=
  let b := getBytes s.ledger.mem addr 8192
  if withCrc (b.take 8188) = b ∧ 0 < leAt b 0 8 then some b else none

/-- The valid summary copy with the higher GEN (R318). -/
def State.lastSummary (s : State) : Option (List Byte) :=
  match s.summaryAt 8192, s.summaryAt 16384 with
  | some a, some b => some (if leAt a 0 8 < leAt b 0 8 then b else a)
  | some a, none => some a
  | none, b => b

/-- The counts go on from the last summary (R314, R317), and the spares in service are those it lists.
DESIGN CHOICE, log entry 33. -/
def State.restoreCounts (s : State) : State :=
  match s.lastSummary with
  | none => s
  | some b =>
    let s := { s with
      ledger := { s.ledger with gen := leAt b 0 8, poh := 3600 * leAt b 8 4
                                counts := summaryOffsets.foldl (fun m o => Store.put 0 m o (leAt b o (summarySize o))) [] }
      tele := { s.tele with devHist := (List.range 64).foldl (fun m i => Store.put 0 m i (leAt b (5376 + 8 * i) 8)) [] } }
    let s := (List.range 16).foldl (fun (t : State) i =>
      let u := min 1 (leAt b (1088 + 8 * i) 8)
      t.setReg (Reg.FLT_SPROW i) (BitVec.ofNat 32 (u * 65536 + (1 - u)))) s
    (List.range 128).foldl (fun (t : State) i =>
      t.setFld (Reg.SLC_STG_STAT (i / 4)) (27 - 2 * (i % 4)) (26 - 2 * (i % 4)) (leAt b (960 + i) 1)) s

/-- R404: VDD_AON rises past its reset threshold: the whole device is reset but the ledger and the fuses; BOOTS counts,
the ledger notes a power-on, and BOOT_NONCE is random. -/
def execPowerOnReset (s : State) : Out :=
  let s := (if s.pwr.aonValid then s.aonLost else s).restoreCounts
  let s := { s with pwr := { s.pwr with aonValid := true }, time := {} }
  let s := (s.sumCount 16 1).ledgerEvent false 4 0 0 0 0 0 0
  .next ((List.range 4).foldl (fun (t : State) i =>
    let (w, t) := t.drawWord
    t.setReg (Reg.BOOT_NONCE i) w) s)

/-- R404: RESET_N goes low, and a core reset starts, which abandons a shutdown. -/
def execResetNAssert (s : State) : Out :=
  if s.pwr.resetN then
    let s1 := s.coreReset (if s.pwr.shutdown = .running then 5 else 2)
    .next { s1 with pwr := { s1.pwr with resetN := false } }
  else .next s

/-- R400: RESET_N rises; BOOT_SEL is sampled, and domain power-up and boot begin. DESIGN CHOICE, log entry 34. -/
def execResetNRelease (bootSel : Bool) (s : State) : Out :=
  if s.pwr.resetN then .next s
  else
    let s := { s with pwr := { s.pwr with resetN := true, bootSel := bootSel } }.powerUp
    .next ((s.setBit Reg.BOOT_STAT 11 bootSel).setFld Reg.BOOT_STAT 31 28 (if bootSel then 6 else 1))

/-- DEV_RST.CORE starts a core reset; ignored while a shutdown runs (R406). -/
def State.devCore (s : State) : State := if s.pwr.shutdown = .running then s else s.resetCore 3

/-- R404: DEV_RST.CORE. The PF alone writes it. -/
def execCore (m : Master) (s : State) : Out :=
  match m with
  | .pf => .next s.devCore
  | .me _ => .next s
  | .vf n => .next (s.vfViolation n.val 12 Reg.DEV_RST)

/-- R405: 10 ms after a FATAL record opened with FATAL_RST set. -/
def execFatalResetTimer (s : State) : Out :=
  match s.flt.fatalDue with
  | some t => if t ≤ s.time.mono then .next (s.resetCore 4) else .next s
  | none => .next s

/-! ### Shutdown (R406, Table 14.5) -/

/-- A controlled shutdown starts: every front port is disabled, admission stops, the engines halt at their next step
boundary, and the summary and the shutdown's record are asked for. -/
def State.shutDown (s : State) : State :=
  if s.pwr.shutdown ≠ .none then s
  else
    let s := { s with pwr := { s.pwr with shutdown := .running } }
    let s := (List.range 1024).foldl (fun (t : State) p =>
      if t.assigned p && t.portOn p then t.portCtlWrite p (t.reg (Reg.PORT_CTL p) &&& 0x7FFFFFFF) else t) s
    let s := (List.range 4).foldl (fun (t : State) k =>
      if t.engRuns k then t.setEngine k { t.engine k with haltReq := true } else t) s
    (s.ledgerSummary 2).ledgerEvent false 5 0 0 0 0 0 0

/-- R406: DEV_RST.SHUTDOWN. The PF alone writes it. -/
def execShutdown (m : Master) (s : State) : Out :=
  match m with
  | .pf => .next s.shutDown
  | .me _ => .next s
  | .vf n => .next (s.vfViolation n.val 12 Reg.DEV_RST)

/-- R406: the summary, the record and any repairs are done, and the engines stand halted: SDRDY. -/
def execShutdownComplete (s : State) : Out :=
  if s.pwr.shutdown = .running ∧ s.ledger.busy = none ∧ s.ledger.queue = [] ∧ s.ledger.wantSummary = none ∧
      (List.range 4).all (fun k => !s.engRuns k) then
    .next ({ s with pwr := { s.pwr with shutdown := .ready } }.setBit Reg.DEV_RST 29 true)
  else .next s

/-! ### Engine and PCI Express resets (Table 14.4) -/

/-- DEV_RST.ENG: each engine whose bit is set is reset. -/
def State.devEng (s : State) (bits : Nat) : State :=
  (List.range 4).foldl (fun (t : State) k => if bits.testBit k then t.engineReset k else t) s

/-- R404: DEV_RST.ENG, from the PF or an engine. -/
def execEng (m : Master) (bits : BitVec 4) (s : State) : Out :=
  match m with
  | .vf n => .next (s.vfViolation n.val 12 Reg.DEV_RST)
  | _ => .next (s.devEng bits.toNat)

/-- R404: a PCI Express fundamental reset: PERST_N goes low (`pin`), or the link receives a hot reset or a link
disable. -/
def execPerstN (pin : Bool) (s : State) : Out :=
  let s := if pin then { s with pwr := { s.pwr with perstN := false } } else s
  if pin || s.host.up then .next s.pcieReset else .next s

/-- R404: PERST_N goes high. -/
def execPerstNRelease (s : State) : Out := .next { s with pwr := { s.pwr with perstN := true } }

end Sys2Proof.Machine
end

