-- ==== Sys2Proof/Machine/Attest.lean ====
section
/-!
DEFINITION. Attest.lean: the device's identity key and its attestation reports (R415 to R419).
-/

namespace Sys2Proof.Machine

/-! ### The LMS key's state (R416) -/

/-- State record i of the ledger: Q and GEN, when its CRC is valid. -/
def State.lmsRecord (s : State) (i : Nat) : Option (Nat × Nat) :=
  let b := getBytes s.ledger.mem (4096 + 16 * i) 16
  if withCrc (b.take 12) = b then some (leAt b 0 4, leAt b 4 4) else none

/-- Q and GEN of the record with a valid CRC and the highest GEN; 0 and 0 before the first. -/
def State.lmsState (s : State) : Nat × Nat :=
  (List.range 256).foldl (fun a i => match s.lmsRecord i with
    | some r => if a.2 < r.2 then r else a
    | none => a) (0, 0)

/-- Index Q is used: Q + 1 and GEN + 1 are written into record (GEN + 1) mod 256. -/
def State.lmsUse (s : State) : State :=
  let (q, g) := s.lmsState
  { s with ledger := { s.ledger with
      mem := putBytes s.ledger.mem (4096 + 16 * ((g + 1) % 256)) (withCrc (toLE 4 (q + 1) ++ toLE 4 (g + 1) ++ toLE 4 0)) } }

/-! ### The report (R418, Table 14.9) -/

/-- FUSES of a report; TESTMODE and INJ are 0 in shipped parts (R342). -/
def State.attFuses (s : State) : Nat :=
  ((List.range 5).map fun k => if s.slotValid k then 2 ^ (2 + k) else 0).sum +
    ((List.range 5).map fun k => if s.boot.revoked.contains k then 2 ^ (7 + k) else 0).sum + s.boot.floor * 2 ^ 12

/-- The entry of engine k. -/
def State.attEngine (s : State) (k : Nat) : List Byte :=
  let e := s.engine k
  let (v, ks) := match Store.at? s.boot.images k with
    | some x => (x.version.toNat, x.keyslot)
    | none => (0, 0)
  bytesAt e.digest 0 48 ++ toLE 4 v ++ toLE 1 ks ++ toLE 1 (s.bit (Reg.MGE_CTL k) 31).toNat ++ List.replicate 10 0

/-- The entry of slice n. -/
def State.attSlice (s : State) (n : Nat) : List Byte :=
  let b := (s.slice n).active
  bytesAt b.digestI 0 48 ++ bytesAt b.digestE 0 48 ++ toLE 4 b.version.toNat ++ toLE 1 b.keyslot ++
    toLE 1 (s.curEpoch n) ++ toLE 1 (b.full.toNat + 2 * (s.bit (Reg.SLC_CS_PROT n) 3).toNat) ++ List.replicate 25 0

/-- The signed bytes of a report. -/
def State.attSigned (s : State) (q requester mask : Nat) (nonce : List Byte) : List Byte :=
  toLE 4 0x54414C48 ++ toLE 2 1 ++ toLE 2 4448 ++ bytesAt nonce 0 32 ++ toLE 4 (s.reg Reg.DEV_IDENT).toNat ++ Config.uid ++
    toLE 4 s.attFuses ++ toLE 4 s.poh ++ toLE 4 (s.sumField 16) ++ toLE 4 q ++ toLE 2 requester ++ toLE 2 0 ++
    toLE 4 mask ++ List.replicate 12 0 ++ ((List.range 4).flatMap fun k => s.attEngine k) ++
    (List.range 32).flatMap fun n => if mask.testBit n then s.attSlice n else List.replicate 128 0

/-- A report with both signatures. -/
def State.attReport (s : State) (q requester mask : Nat) (nonce : List Byte) : List Byte :=
  let m := s.attSigned q requester mask nonce
  m ++ ((List.finRange 96).map fun i => Config.identityEcByte s.fresh m i) ++
    (List.finRange 1772).map fun i => Config.identityLmsByte q m i

/-- The window holds a report. -/
def State.attHeld (s : State) : Bool := s.bit Reg.BOOT_ATTCTL 31

/-- The report is placed in the window, held for its requester. -/
def State.attPlace (s : State) (report : List Byte) (holder : Nat) : State :=
  let s := (List.range ((report.length + 3) / 4)).foldl (fun (t : State) i =>
    t.setReg (Reg.BOOT_ATTWIN i) (BitVec.ofNat 32 (leAt report (4 * i) 4))) s
  { s with fresh := s.fresh + 1, boot := { s.boot with attDue := some (s.time.mono + ms 100) } }.setReg Reg.BOOT_ATTCTL
    (BitVec.ofNat 32 (2 ^ 31 + holder))

/-- The window is released, and reads 0. -/
def State.attFree (s : State) : State :=
  let s := s.resetRegs fun a => decide (Reg.BOOT_ATTWIN 0 ≤ a ∧ a < Reg.BOOT_ATTWIN 2048)
  { s with boot := { s.boot with attDue := none } }.setReg Reg.BOOT_ATTCTL 0

/-- The bytes of a mailbox's message. -/
def State.mbxBytes (s : State) (i : Nat) : List Byte := (s.mbxMessage i).flatMap fun w => toLE 4 w.toNat

/-! ### Requests (R417, R419) -/

/-- R417: the engine that holds duty class 1 takes an attestation request from mailbox i. The report is signed and placed
in the window, or the answer is RATE or EXHAUSTED; the reply is still to be posted. Later requests wait.
DESIGN CHOICE, log entry 39. -/
def execAttestRequest (i : Fin 256) (s : State) : Out :=
  let b := s.mbxBytes i
  let sender := s.fld (Reg.MBX_CFG i) 31 16
  if s.bit (Reg.MBX_STAT i) 30 && s.mbxUsed i && s.fld (Reg.MBX_CFG i) 15 0 == 0xC001 && s.engRuns (s.dutyEngine 1) &&
      leAt b 0 2 == 1 && !s.attHeld && s.boot.attReply.isNone then
    let mask := if 0x40 ≤ sender ∧ sender < 0x60 then 2 ^ (sender - 0x40) else leAt b 4 4
    let box := leAt b 2 2
    let s := s.setBit (Reg.MBX_STAT i) 30 false
    let s := { s with mbx := { hold := Store.set s.mbx.hold i (s.mbxMessage i), posted := Store.del s.mbx.posted i } }
    let q := s.lmsState.1
    let answer := fun (t : State) (r : AttReply) => { t with boot := { t.boot with attReply := some r } }
    if s.boot.attTokens = 0 then .next (answer s ⟨box, 1, 0, 0⟩)
    else if 2 ^ 20 ≤ q then .next (answer s ⟨box, 2, 0, 0⟩)
    else
      let report := s.attReport q sender mask (bytesAt b 8 32)
      let s := { s.lmsUse with boot := { s.boot with attTokens := s.boot.attTokens - 1 } }
      .next (answer (s.attPlace report sender) ⟨box, 0, report.length, q⟩)
  else .next s

/-- R417: the reply is posted on mailbox REPLY, of which the engine is the sender. DESIGN CHOICE, log entry 39. -/
def execAttestReply (s : State) : Out :=
  match s.boot.attReply with
  | none => .next s
  | some r =>
    let s := { s with boot := { s.boot with attReply := none } }
    let me : Master := .me (Fin.ofNat 4 (s.dutyEngine 1))
    if 256 ≤ r.box then .next s
    else if s.mbxSender r.box me then
      let s := s.setReg (Reg.MBX_STAGE r.box 0) (BitVec.ofNat 32 (0x81 + 256 * r.status + 65536 * r.len))
      .next ((s.setReg (Reg.MBX_STAGE r.box 1) (BitVec.ofNat 32 r.q)).mbxPost r.box)
    else .next (s.mbxRefuse me r.box (Reg.MBX_STAT r.box))

/-- Whether a master may release the window: its holder, the PF and the engines. DESIGN CHOICE, log entry 39. -/
def State.attMay (s : State) (m : Master) : Bool := m.trusted || (s.attHeld && s.fld Reg.BOOT_ATTCTL 15 0 == m.id)

/-- R417: BOOT_ATTCTL.REL releases the window. -/
def execAttestRelease (m : Master) (s : State) : Out :=
  if s.attMay m then .next (if s.attHeld then s.attFree else s) else .next (s.refuseVf m Reg.BOOT_ATTCTL)

/-- R417: 100 ms after the report was placed, the window is released. -/
def execAttestWindowTimeout (s : State) : Out :=
  match s.boot.attDue with
  | some t => if t ≤ s.time.mono then .next s.attFree else .next s
  | none => .next s

/-- R419: every 10 minutes of MONO the bucket gains one report, up to 64. -/
def execAttestToken (s : State) : Out :=
  if s.boot.attLast + 600 * 10 ^ 9 ≤ s.time.mono then
    .next { s with boot := { s.boot with attTokens := min 64 (s.boot.attTokens + 1), attLast := s.boot.attLast + 600 * 10 ^ 9 } }
  else .next s

end Sys2Proof.Machine
end

