-- ==== Sys2Proof/Machine/Faults.lean ====
section
/-!
DEFINITION. Faults.lean: fault reports, collection rounds, self-tests and repairs, and the record commands (chapter 11).
-/

namespace Sys2Proof.Machine

/-- R31, R319: a detector's report is granted at the collector. A report that Tables 11.1 and 11.8 give no source for, or
from a domain that is off, is no report. A bad control-store word stays marked until it is written anew (R142).
DESIGN CHOICE, log entry 46. -/
def execFaultReport (src : Nat) (cls : FaultClass) (elem : Element) (detail tile : Nat) (s : State) : Out :=
  if reportable src cls && elemOf (srcCls src) elem && s.domOn (srcDomain src) then
    let s := if elem = .storeWord ∧ 18 ≤ srcCls src then s.markStore src detail else s
    .next (s.reportFault src cls elem detail tile)
  else .next s

/-- R324, R325: the snapshot closes the round; its reports are taken in order. -/
def execCollectionRoundClose (s : State) : Out :=
  match s.flt.round with
  | none => .next s
  | some _ =>
    let l := sortReports s.flt.reports
    let n := s.flt.roundNo + 1
    let s := { s with flt := { s.flt with round := none, reports := [], roundNo := n } }
    let s := match l with
      | r :: _ => s.loadFirst n r
      | [] => s
    .next (l.foldl (fun (t : State) r => t.takeReport n r) s)

/-- R329: a record's reaction shadow expires. -/
def execShadowEnd (r : Fin 64) (s : State) : Out :=
  match s.rec? r with
  | some x =>
    match x.shadow with
    | some (_, b) => if b ≤ s.time.mono then .next (s.setRec r { x with shadow := none }) else .next s
    | none => .next s
  | none => .next s

/-- R335, R336: a targeted self-test ends. A pass marks the fault transient; a failure marks it lasting (R337, R339).
Where no test was possible the end of the handling returns the scope to service. -/
def execSelftestDone (r : Nat) (pass : Bool) (s : State) : Out :=
  match s.rec? r with
  | none => .next s
  | some x =>
    if x.state = .handling ∧ x.notest ∧ ¬(srcCls x.src = 21 ∧ 1040 ≤ srcInst x.src) then .next (s.recServed r x)
    else if x.state ≠ .selftest then .next s
    else if pass then
      let s := { s with flt := { s.flt with history := s.flt.history ++ [(x.src, x.detail, s.time.mono)] } }
      let s := (s.sumCount (704 + 8 * srcCls x.src) 1).ledgerEvent false 2 x.cls.code x.src x.merge 1 x.tile x.detail
      .next (s.recServed r x)
    else .next (((s.sumCount (708 + 8 * srcCls x.src) 1).ledgerLasting x).recLasting r x)

/-- R337: the spare is mapped, filled and checked; the scope resumes service. -/
def execSpareRepairDone (r : Nat) (s : State) : Out :=
  match s.rec? r with
  | none => .next s
  | some x =>
    if x.state = .repair then .next ((if x.isTile then s.excludeTile x false else s).recServed r x) else .next s

/-- A write of 1 to FLT_FIRST.VALID clears the register (R324). -/
def State.firstClear (s : State) : State := (s.setReg Reg.FLT_FIRST 0).setReg Reg.FLT_FIRST_RND 0

/-- R324: software clears the first fault. -/
def execFirstFaultClear (m : Master) (s : State) : Out := .next (s.gated m Reg.FLT_FIRST true State.firstClear)

/-- FLT_REC_CMD.RESULT: 0 OK, 1 STATE, 2 NOSPARE, 3 FATAL. -/
def State.recResult (s : State) (v : Nat) : State := s.setFld Reg.FLT_REC_CMD 28 26 v

/-- FLT_REC_CMD.CLOSE. -/
def State.recClose (s : State) (r : Nat) : State :=
  match s.rec? r with
  | some x =>
    match x.state with
    | .done => (s.delRec r).recResult 0
    | .fatal => if x.coreReset then (s.delRec r).recResult 0 else s.recResult 3
    | _ => s.recResult 1
  | none => s.recResult 1

/-- R326: CLOSE frees a record in DONE, or in FATAL after a reset of the core. -/
def execClose (m : Master) (r : Fin 64) (s : State) : Out := .next (s.gated m Reg.FLT_REC_CMD true fun s => s.recClose r)

/-- FLT_REC_CMD.RELEASE: refused unless the record is HELD, what it waits for has come, and its element is not needed by
the active configuration (R338, R339). DESIGN CHOICE, log entry 75. -/
def State.recRelease (s : State) (r : Nat) : State :=
  match s.rec? r with
  | some x =>
    if x.state = .held ∧ x.needLoad = false ∧ x.needCommit = [] ∧
        ¬(x.isTile ∧ x.lasting ∧ x.spareUsed = false ∧ s.tileNeeded x) then
      (s.recServed r x).recResult 0
    else s.recResult 1
  | none => s.recResult 1

/-- R339: RELEASE returns the scope of a HELD record to service. -/
def execRelease (m : Master) (r : Fin 64) (s : State) : Out := .next (s.gated m Reg.FLT_REC_CMD true fun s => s.recRelease r)

/-- FLT_REC_CMD.REPAIR. -/
def State.recRepair (s : State) (r : Nat) : State :=
  match s.rec? r with
  | some x =>
    if x.state = .held ∧ x.lasting ∧ x.spareUsed = false then
      if s.spareLeft x then (s.takeSpare r x).recResult 0
      else
        let s := (if x.isTile then s.excludeTile x true else s).setBit Reg.FLT_STAT 28 true
        s.recResult 2
    else s.recResult 1
  | none => s.recResult 1

/-- R337: REPAIR brings a spare into service for a HELD record. -/
def execRepair (m : Master) (r : Fin 64) (s : State) : Out := .next (s.gated m Reg.FLT_REC_CMD true fun s => s.recRepair r)

/-- R334: the collector's self-check passes. -/
def execCollectorSelfcheckDone (s : State) : Out :=
  .next { s with flt := { s.flt with selfChecked := true } }

end Sys2Proof.Machine
end

