-- ==== Sys2Proof/Machine/HostQp.lean ====
section
/-!
DEFINITION. HostQp.lean: queue pairs' commands and DMA (R374 to R380), function-level resets (R395, R396) and the PCI
Express link (R398).
-/

namespace Sys2Proof.Machine

/-! ### Queue pairs -/

/-- A write of HOST_QP_CTL: RESET acts first; FUNC is the PF's; BSIZE is taken while EN is 0; EN = 1 is ignored while
HALTED is 1 (R380). -/
def State.qpCtlWrite (s : State) (m : Master) (h : Nat) (data : Word) : State :=
  let a := Reg.HOST_QP_CTL h
  s.pfBits m a 0x3F000000 data fun s data =>
    let s := if fieldOf data 30 30 = 1 then s.qpReset h else s
    let was := s.bit a 31
    let on := if fieldOf data 30 30 = 1 then false else fieldOf data 31 31 == 1 && (was || !s.bit (Reg.HOST_QP_STAT h) 31)
    let size := if was then s.fld a 23 18 else fieldOf data 23 18
    s.setReg a (withField (withField (data &&& 0x3F0003FF) 31 31 on.toNat) 23 18 size)

/-- R380: HOST_QP_CTL written with RESET = 1. DEDUCED, log entry 25. -/
def execQpReset (m : Master) (h : Fin 256) (data : Word) (s : State) : Out :=
  .next (s.gated m (Reg.HOST_QP_CTL h) true fun s => s.qpCtlWrite m h (data ||| 0x40000000))

/-- A TAIL write posts descriptors, or halts the queue pair with cause TAIL (R375). -/
def State.tailWrite (s : State) (h : Nat) (tx : Bool) (data : Word) : State :=
  let tail := fieldOf data 16 0
  let s := s.setReg (if tx then Reg.HOST_QP_TXIDX h else Reg.HOST_QP_RXIDX h) (BitVec.ofNat 32 tail)
  let head := s.fld (if tx then Reg.HOST_QP_TXHEAD h else Reg.HOST_QP_RXHEAD h) 16 0
  if 2 ^ (if tx then s.txLog h else s.rxLog h) < posted tail head then s.haltQp h 3 else s

/-- R375: a write of HOST_QP_RXIDX or HOST_QP_TXIDX. -/
def execQpTailWrite (m : Master) (h : Fin 256) (tx : Bool) (data : Word) (s : State) : Out :=
  .next (s.gated m (if tx then Reg.HOST_QP_TXIDX h else Reg.HOST_QP_RXIDX h) true fun s => s.tailWrite h tx data)

/-- Whether the return side of a stream is ready for a frame of the host (R82, R376): none of them waits there, is being
stored or is being fetched. -/
def State.returnReady (s : State) (n st : Nat) : Bool :=
  (s.waitingAt n st true).isEmpty &&
    (Store.read [] s.vat.toStore 1056).all (fun f => !(f.slice == n && f.stream == st)) &&
    (match (Store.at? s.vat.storing 1056).bind s.frame? with
      | some f => !(f.slice == n && f.stream == st)
      | none => true) &&
    s.host.qps.all fun e => match e.2.tx with
      | some x => !(x.slice == n && e.1 % 4 == st)
      | none => true

/-- Whether queue pair h fetches (R376, R379). -/
def State.qpFetches (s : State) (h : Nat) : Bool :=
  s.host.up && s.domOn 145 && !s.flt.deviceSafe && s.bit (Reg.HOST_QP_CTL h) 31 && !s.bit (Reg.HOST_QP_STAT h) 31 &&
    (s.qp h).tx.isNone && decide (0 < posted (s.fld (Reg.HOST_QP_TXIDX h) 16 0) (s.fld (Reg.HOST_QP_TXHEAD h) 16 0))

/-- Whether a function may inject into a slice (R376). -/
def txSliceOk (owner slice : Nat) : Bool := decide (slice < 32) && (owner == 0 || owner == 1 + slice)

/-- R376: a posted transmit descriptor is fetched, ADDR, LEN and SLICE as host memory holds them; it is completed with
BADLEN or SLICE, or its frame is read. DESIGN CHOICE, log entry 40. -/
def execHostTxFetch (h : Fin 256) (addr len slice : Nat) (s : State) : Out :=
  let addr := addr % 2 ^ 64
  let len := len % 65536
  let slice := slice % 256
  let owner := s.qpOwner h
  if s.qpFetches h && (decide (31 < slice) || s.returnReady slice (h % 4)) then
    if len < 60 ∨ 16380 < len then .next (s.txComplete h 1)
    else if txSliceOk owner slice = false then
      let s := if 0 < owner then s.vfViolation (owner - 1) 12 (Reg.HOST_QP_TXIDX h) else s
      .next (s.txComplete h 2)
    else
      .next ((s.setQp h { tx := some { addr := addr, len := len, slice := slice, started := s.time.mono } }).emit
        (.dmaRead owner addr len))
  else .next s

/-- The frame a queue pair injects (R376, R81, R52). -/
def State.hostFrame (s : State) (h n : Nat) (b : List Byte) : Frame :=
  let c := (List.range 8).find? fun c => s.compValid n c && s.inWindow n c 96 2 h
  { slice := n, comp := c.getD 0, owned := c.isSome, stream := h % 4, inPort := 1056, orig := 1056, rest := withFcs b, hostQp := some h }

/-- R376, R379: a queue pair's DMA read completes with its bytes, which go to be stored; or it fails, which halts the
queue pair and completes the descriptor with FETCH. DESIGN CHOICE, log entry 40. -/
def execDmaReadCompletion (h : Fin 256) (bytes : Option (List Byte)) (s : State) : Out :=
  match (s.qp h).tx.filter (!·.read) with
  | none => .next s
  | some x =>
    match bytes with
    | none => .next ((s.txComplete h 3).haltQp h 1)
    | some b =>
      if b.length ≠ x.len then .next s
      else .next ((s.setQp h { tx := some { x with read := true } }).queueToStore 1056 (s.hostFrame h x.slice b))

/-- R379: a queue pair's DMA read has no completion within the function's completion timeout. -/
def execDmaCompletionTimeout (h : Fin 256) (s : State) : Out :=
  match (s.qp h).tx.filter (!·.read) with
  | none => .next s
  | some _ => .next ((s.txComplete h 3).haltQp h 2)

/-! ### Function-level reset (R395, R396) -/

/-- The master ID of function fn. -/
def fnMaster (fn : Nat) : Nat := if fn = 0 then 1 else 0x40 + (fn - 1)

/-- The interrupt routing of function fn cleared: EN of the sources whose target it is, and of a VF its slice's VF_EN. -/
def State.routingReset (s : State) (fn : Nat) : State :=
  let s := (List.range 1224).foldl (fun (t : State) i =>
    if s.sourceTarget i = some (.inl fn) then t.setBit (Reg.HOST_IRT i) 31 false else t) s
  if fn = 0 then s
  else (List.range 4).foldl (fun (t : State) i => t.setBit (Reg.HOST_IRT (1096 + 4 * (fn - 1) + i)) 30 false) s

/-- What a function-level reset of function fn resets (R395). -/
def State.flr (s : State) (fn : Nat) : State :=
  let s := (List.range 256).foldl (fun (t : State) h =>
    if s.qpOwner h = fn then (t.haltQp h 6).qpReset h else t) s
  let id := fnMaster fn
  let s := (s.freeLocks (· == id)).mbxPartyReset (· == id)
  let s := { s with intr := { s.intr with msix := Store.keep (fun k => k / 0x8000 != fn) s.intr.msix
                                          pba := s.intr.pba.filter fun k => k / 512 != fn } }
  (s.routingReset fn).rewake (· == id)

/-- R395: a function-level reset of VF n. -/
def execFlrVf (n : Fin 32) (s : State) : Out :=
  if s.host.up && s.domOn 145 then .next (s.flr (1 + n.val)) else .next s

/-- R396: a function-level reset of the PF, which clears VF Enable. -/
def execFlrPf (s : State) : Out :=
  if s.host.up && s.domOn 145 then .next ((List.range 33).foldl (fun (t : State) fn => t.flr fn) s) else .next s

/-! ### The link (R398) -/

/-- R398: the link goes down: every queue pair halts with cause LINK, and LINKDN is set.
DESIGN CHOICE, log entry 38. -/
def execPcieLinkDown (s : State) : Out :=
  if s.host.up then
    let s := { s with host := { s.host with up := false } }
    .next (((List.range 256).foldl (fun (t : State) h => (t.setQp h {}).haltQp h 4) s).raiseBit Reg.HOST_STAT 28)
  else .next s

/-- R398, Table 14.2: the link has trained and is up. -/
def execPcieLinkUp (s : State) : Out :=
  if s.domOn 145 && s.pwr.perstN && s.pwr.resetN then .next { s with host := { s.host with up := true } } else .next s

end Sys2Proof.Machine
end

