-- ==== Sys2Proof/Machine/Lanes.lean ====
section
/-!
DEFINITION. Lanes.lean: the serial lanes' commands and events (chapter 8): transmit taps and training, lane functions and
loopbacks, the pattern generator and checker, margin scans and the eye readouts.
-/

namespace Sys2Proof.Machine

/-! ### Taps and training (R258 to R262) -/

/-- PRE_M, MAIN and POST_M of a LANE_TXFIR value. -/
def firTaps (w : Word) : Nat × Nat × Nat := (fieldOf w 20 16, fieldOf w 14 8, fieldOf w 4 0)

/-- Whether taps lie in the limits of R258. -/
def tapsOk (t : Nat × Nat × Nat) : Bool :=
  decide (24 ≤ t.2.1 ∧ t.2.1 ≤ 64 ∧ t.1 ≤ 16 ∧ t.2.2 ≤ 24 ∧ t.1 + t.2.1 + t.2.2 ≤ 64)

/-- A lane's taps replaced. -/
def State.setTaps (s : State) (l : Nat) (t : Nat × Nat × Nat) : State :=
  ((s.setFld (Reg.LANE_TXFIR l) 20 16 t.1).setFld (Reg.LANE_TXFIR l) 14 8 t.2.1).setFld (Reg.LANE_TXFIR l) 4 0 t.2.2

/-- A software write of LANE_TXFIR: ignored during training with TWR, out of range with FIRERR. -/
def State.txfirWrite (s : State) (l : Nat) (data : Word) : State :=
  if s.laneState l = 2 then s.setBit (Reg.LANE_STAT l) 31 true
  else if tapsOk (firTaps data) then s.setReg (Reg.LANE_TXFIR l) (data &&& 0x071F7F1F)
  else s.setBit (Reg.LANE_STAT l) 28 true

/-- R258, R262: a write of LANE_TXFIR. -/
def execLaneTxfirWrite (m : Master) (l : Fin 1040) (data : Word) (s : State) : Out :=
  .next (s.gated m (Reg.LANE_TXFIR l) true fun s => s.txfirWrite l data)

/-- Taps after one step of a tap up or down (R259): 0 c(−1), 1 c(0), 2 c(1); none below 0. -/
def stepTap (t : Nat × Nat × Nat) (tap : Nat) (up : Bool) : Option (Nat × Nat × Nat) :=
  match tap, up with
  | 0, true => if t.1 = 0 then none else some (t.1 - 1, t.2)
  | 0, false => some (t.1 + 1, t.2)
  | 1, true => some (t.1, t.2.1 + 1, t.2.2)
  | 1, false => if t.2.1 = 0 then none else some (t.1, t.2.1 - 1, t.2.2)
  | 2, true => if t.2.2 = 0 then none else some (t.1, t.2.1, t.2.2 - 1)
  | 2, false => some (t.1, t.2.1, t.2.2 + 1)
  | _, _ => none

/-- Preset taps (Table 08.5). -/
def presetTaps (k : Nat) : Option (Nat × Nat × Nat) :=
  match k with
  | 1 => some (0, 64, 0)
  | 2 => some (4, 52, 8)
  | 3 => some (8, 40, 16)
  | 4 => some (12, 32, 20)
  | 5 => some (0, 48, 16)
  | _ => none

/-- The training engine's answers: the request was carried out, a limit was reached, or it is not supported. -/
def trainUpdated : Nat := 0
def trainMaximum : Nat := 1
def trainMinimum : Nat := 2
def trainUnsupported : Nat := 3

/-- A partner's request is answered (R260). DEDUCED, log entry 26. -/
def State.trainAnswer (s : State) (l : Nat) (req : TrainReq) : State :=
  match req with
  | .hold => s.emit (.training l trainUpdated)
  | .precode on => ((s.setLane l { s.lane l with partnerPre := on }).lanePrecode l).emit (.training l trainUpdated)
  | .preset k =>
    match presetTaps k with
    | some t => (s.setTaps l t).emit (.training l trainUpdated)
    | none => s.emit (.training l trainUnsupported)
  | .step tap up =>
    if 2 < tap then s
    else
      match stepTap (firTaps (s.reg (Reg.LANE_TXFIR l))) tap up with
      | some t =>
        if tapsOk t then (s.setTaps l t).emit (.training l trainUpdated)
        else s.emit (.training l (if up || tap != 1 then trainMaximum else trainMinimum))
      | none => s.emit (.training l (if up || tap != 1 then trainMaximum else trainMinimum))

/-- Whether a lane's group is powered and clocked. -/
def State.laneAlive (s : State) (l : Nat) : Bool := s.domOn (domainOf (Reg.LANE_CTL l)) && !(s.lane l).noClock

/-- R260: a training frame arrives; a bad one is ignored. -/
def execTrainingFrameRx (l : Fin 1040) (valid : Bool) (req : TrainReq) (s : State) : Out :=
  .next (if s.laneAlive l && s.laneState l == 2 && valid then s.trainAnswer l req else s)

/-- R259, R264: the partner's signal is detected and the receiver clock locks. -/
def execSignalLock (l : Fin 1040) (s : State) : Out := .next (if s.laneAlive l then s.laneLock l else s)

/-- R261: both ends are ready; the lane enters data, TRAIN_OK counts and the ledger notes a retrain. -/
def execTrainingDone (l : Fin 1040) (ownPre : Bool) (s : State) : Out :=
  if s.laneState l = 2 then
    let s := s.setLane l { s.lane l with trainAt := none, ownPre := ownPre }
    let s := ((s.setFld (Reg.LANE_STAT l) 27 24 3).lanePrecode l).countFld (Reg.LANE_CNT l) 31 16 1
    .next (s.sumCount (1216 + 4 * l.val) 1)
  else .next s

/-- R261: training has not ended LT_TMO ms after it started. -/
def execTrainingTimeout (l : Fin 1040) (s : State) : Out :=
  match (s.lane l).trainAt with
  | some t =>
    if s.laneState l = 2 ∧ t + ms (oneIfZero (s.fld (Reg.LANE_CTL l) 15 0)) ≤ s.time.mono then
      let s := s.setLane l { s.lane l with trainAt := none, quietUntil := some (s.time.mono + ms 10) }
      .next ((((s.setBit (Reg.LANE_STAT l) 30 true).countFld (Reg.LANE_CNT l) 15 8 1).setFld (Reg.LANE_STAT l) 27 24 0))
    else .next s
  | none => .next s

/-- R261: the 10 ms pause ends and training starts again. -/
def execTrainingRestart (l : Fin 1040) (s : State) : Out :=
  match (s.lane l).quietUntil with
  | some t =>
    if t ≤ s.time.mono then
      let s := (s.setLane l { s.lane l with quietUntil := none }).setFld (Reg.LANE_STAT l) 27 24 (s.laneStart l)
      .next (if s.laneLocked l then s.laneLock l else s)
    else .next s
  | none => .next s

/-- R264: a lane in data loses its receive lock. -/
def execCdrLoss (l : Fin 1040) (s : State) : Out :=
  if s.laneState l = 3 then
    let s := (s.setBit (Reg.LANE_STAT l) 29 true).countFld (Reg.LANE_CNT l) 7 0 1
    .next ((s.laneRestart l).lanePortLost l)
  else .next s

/-! ### Function and loopback (R265 to R268) -/

/-- A write of LANE_CTL. A change of FUNC or LOOP is a loss of alignment, and the lane starts in its new function; a
changed PRE_MODE takes effect (R256). -/
def State.laneCtlWrite (s : State) (l : Nat) (data : Word) : State :=
  let was := (s.lanePattern l, s.laneLoop l)
  let s := s.setReg (Reg.LANE_CTL l) (data &&& 0xFFE0FFFF)
  if was = (s.lanePattern l, s.laneLoop l) then s.lanePrecode l
  else
    let s := if s.lanePattern l then s else s.setBit (Reg.LANE_PAT l) 29 false
    (s.laneRestart l).lanePortLost l

/-- R265: a write of LANE_CTL. -/
def execLaneCtlWrite (m : Master) (l : Fin 1040) (data : Word) (s : State) : Out :=
  .next (s.gated m (Reg.LANE_CTL l) true fun s => s.laneCtlWrite l data)

/-! ### Reference groups (R254) -/

/-- The first lane of a reference group, and how many it has (R251). -/
def groupLanes (g : Nat) : Nat × Nat := if g < 32 then (32 * g, 32) else (1024, 16)

/-- R254: a group's reference is lost or its PLL unlocks: its lanes stop and a CONT fault names the group. -/
def execRefclkLost (g : Fin 33) (s : State) : Out :=
  let (l, n) := groupLanes g
  if s.domOn (domainOf (Reg.LANE_CTL l)) then
    .next (((List.range n).foldl (fun (t : State) i => t.laneStop (l + i)) s).reportFault (srcId 21 (1040 + g.val)) .cont
      .logic 0 0)
  else .next s

/-- R254: the group's PLL has locked again; its lanes restart, and its record's handling ends (Table 11.8, LANE). -/
def execPllLock (g : Fin 33) (s : State) : Out :=
  let (l, n) := groupLanes g
  if s.domOn (domainOf (Reg.LANE_CTL l)) then
    let s := s.releaseScope (.lanes l n)
    match s.findRec (fun x => x.src == srcId 21 (1040 + g.val) && x.state == .handling) with
    | some (i, x) => .next (s.setRec i { x with state := .done })
    | none => .next s
  else .next s

/-! ### Pattern generator and checker (R269 to R271) -/

/-- One bit of the generator's output is inverted; a locked checker of a near-end loopback counts it. -/
def State.injectBit (s : State) (l : Nat) : State :=
  let s := s.setLane l { s.lane l with inverted := (s.lane l).inverted + 1 }
  if s.bit (Reg.LANE_PAT l) 29 && (s.laneLoop l == 1 || s.laneLoop l == 2) then
    s.countWide (Reg.LANE_PCNT l 1) (Reg.LANE_PCNT_HI l 1) 1
  else s

/-- Whether a lane's generator sends. -/
def State.laneSends (s : State) (l : Nat) : Bool := s.laneState l == 4 && s.bit (Reg.LANE_PAT l) 31

/-- A write of LANE_PAT: the generator starts from its seed when GEN_EN becomes 1, and on each write while it is 1
(R269); INJ_ONE inverts one bit (R271). -/
def State.lanePatWrite (s : State) (l : Nat) (data : Word) : State :=
  let lock := s.reg (Reg.LANE_PAT l) &&& 0x30000000 &&& ~~~ (data &&& 0x10000000)
  let s := s.setReg (Reg.LANE_PAT l) ((data &&& 0xCFFC0000) ||| lock)
  let s := if fieldOf data 30 30 = 0 then s.setBit (Reg.LANE_PAT l) 29 false else s
  let gen := if fieldOf data 31 31 = 1 then some s.time.mono else none
  let s := s.setLane l { s.lane l with gen := gen, injAt := s.time.mono * s.laneRate l }
  let s := if s.lanePattern l then s.setFld (Reg.LANE_STAT l) 27 24 (s.laneStart l) else s
  if fieldOf data 17 17 = 1 && s.laneSends l then s.injectBit l else s

/-- R269: a write of LANE_PAT. -/
def execPatternWrite (m : Master) (l : Fin 1040) (data : Word) (s : State) : Out :=
  .next (s.gated m (Reg.LANE_PAT l) true fun s => s.lanePatWrite l (data &&& 0xFFFDFFFF))

/-- R271: a write of LANE_PAT with INJ_ONE = 1. -/
def execInjOne (m : Master) (l : Fin 1040) (data : Word) (s : State) : Out :=
  .next (s.gated m (Reg.LANE_PAT l) true fun s => s.lanePatWrite l (data ||| 0x20000))

/-- The power of two between periodic injections, if any (R271). -/
def injExp (v : Nat) : Option Nat := if v = 0 then none else some (max 10 (min 46 v))

/-- R271: 2^INJ_EXP bits have been sent since the last periodic injection. -/
def execInjectPeriodic (l : Fin 1040) (s : State) : Out :=
  match injExp (s.fld (Reg.LANE_PAT l) 23 18) with
  | some e =>
    let at_ := (s.lane l).injAt + 4 * 2 ^ e
    if s.laneSends l && decide (at_ ≤ s.time.mono * s.laneRate l) then
      .next ((s.setLane l { s.lane l with injAt := at_ }).injectBit l)
    else .next s
  | none => .next s

/-- Whether a lane's checker runs (R270). -/
def State.laneChecks (s : State) (l : Nat) : Bool := s.lanePattern l && s.bit (Reg.LANE_PAT l) 30 && s.laneAlive l

/-- R270: 64 consecutive symbols without error. -/
def execCheckerLock (l : Fin 1040) (s : State) : Out :=
  .next (if s.laneChecks l then (s.setBit (Reg.LANE_PAT l) 29 true).setLane l { s.lane l with part := 0 } else s)

/-- R270: 32 or more of 256 consecutive symbols in error; `errs` bits of them differed from the pattern.
DESIGN CHOICE, log entry 27. -/
def execCheckerLockLoss (l : Fin 1040) (errs : Nat) (s : State) : Out :=
  if s.laneChecks l && s.bit (Reg.LANE_PAT l) 29 then
    let s := s.countWide (Reg.LANE_PCNT l 1) (Reg.LANE_PCNT_HI l 1) errs
    .next ((s.setBit (Reg.LANE_PAT l) 29 false).setBit (Reg.LANE_PAT l) 28 true)
  else .next s

/-- One nanosecond of a locked checker: the bits compared are added to BITS (R270). -/
def State.checkBits (s : State) (l : Nat) : State :=
  let n := (s.lane l).part + s.laneRate l
  let s := s.setLane l { s.lane l with part := n % 4 }
  s.countWide (Reg.LANE_PCNT l 0) (Reg.LANE_PCNT_HI l 0) (n / 4)

/-! ### Margin scans and the eye (R272, R273) -/

/-- A write of LANE_MARG; START begins a scan, or is refused with MERR while one runs, during training, or without
lock. DESIGN CHOICE, log entry 27. -/
def State.margWrite (s : State) (l : Nat) (data : Word) : State :=
  let a := Reg.LANE_MARG l
  let kept := s.reg a &&& 0x60000000 &&& ~~~ (data &&& 0x20000000)
  let s := s.setReg a ((data &&& 0x1FC0FF00) ||| kept)
  if fieldOf data 31 31 = 0 then s
  else if s.bit a 30 || s.laneState l == 2 || !s.laneLocked l then s.setBit a 29 true
  else s.setBit a 30 true

/-- R273: LANE_MARG.START. -/
def execMarginScanStart (m : Master) (l : Fin 1040) (data : Word) (s : State) : Out :=
  .next (s.gated m (Reg.LANE_MARG l) true fun s => s.margWrite l (data ||| 0x80000000))

/-- R273: the scan ends. -/
def execMarginScanDone (l : Fin 1040) (errors : Word) (s : State) : Out :=
  if s.bit (Reg.LANE_MARG l) 30 then
    .next ((s.setReg (Reg.LANE_MARG_RES l) errors).setBit (Reg.LANE_MARG l) 30 false)
  else .next s

/-- R272: the receiver refreshes LANE_EYE while it holds receive lock in data or in pattern mode. -/
def execEyeRefresh (l : Fin 1040) (eye : Word) (s : State) : Out :=
  .next (if s.laneLocked l && (s.laneState l == 3 || s.lanePattern l) then s.setReg (Reg.LANE_EYE l) eye else s)

end Sys2Proof.Machine
end

