-- ==== Sys2Proof/Machine/Ledger.lean ====
section
/-!
DEFINITION. Ledger.lean: the commands of the lifetime ledger (R316 to R318).
-/

namespace Sys2Proof.Machine

/-- R316: 3,600 s of MONO after the previous summary write, a summary is written. -/
def execSummaryHourly (s : State) : Out :=
  if s.ledger.lastSummary + 3600 * 10 ^ 9 ≤ s.time.mono ∧ s.ledger.wantSummary.isNone then .next (s.ledgerSummary 1)
  else .next s

/-- Whether a summary write runs or waits. -/
def State.summaryRuns (s : State) : Bool :=
  s.ledger.wantSummary.isSome || (match s.ledger.busy with
    | some w => w.summary
    | none => false)

/-- FLUSH is accepted with a token and no summary write running, and takes the token; otherwise FLUSHREJ is set (R316). -/
def State.ledgerFlush (s : State) : State :=
  if s.ledger.flushTokens = 0 ∨ s.summaryRuns then s.setBit Reg.LEDG_STAT 30 true
  else { s with ledger := { s.ledger with flushTokens := s.ledger.flushTokens - 1 } }.ledgerSummary 3

/-- R316: LEDG_CTL.FLUSH. A VF's access is a violation (R318). -/
def execFlush (m : Master) (s : State) : Out := .next (s.gated m Reg.LEDG_CTL true fun s => s.ledgerFlush)

/-- The bytes of a write are in the ledger (R317). -/
def State.ledgerStored (s : State) (w : LedWrite) : State :=
  { s with ledger := { s.ledger with mem := putBytes s.ledger.mem w.addr w.bytes, busy := none } }

/-- A write that fails twice: what its location holds is not given; NVMERR and a CORR report (R317). -/
def State.ledgerFailed (s : State) (w : LedWrite) : State :=
  let junk := (List.range w.bytes.length).map fun i => Config.freeByte (s.fresh + i)
  let s1 := { s with fresh := s.fresh + w.bytes.length, ledger := { s.ledger with
    mem := putBytes s.ledger.mem w.addr junk, busy := none } }
  (s1.setBit Reg.LEDG_STAT 27 true).reportFault (srcId 8 0) .corr .logic 0 0

/-- A write under way ends: verified, retried once, or failed (R316, R317). `shutdown` events follow a summary of a
controlled shutdown. -/
def State.ledgerDone (s : State) (w : LedWrite) (ok : Bool) : State :=
  if ok then (s.ledgerStored w).ledgerNext
  else if w.retried then (s.ledgerFailed w).ledgerNext
  else { s with ledger := { s.ledger with busy := some { w with retried := true } } }

/-- R316: a summary write completes and verifies, or is retried and reported. -/
def execLedgerSummaryDone (ok : Bool) (s : State) : Out :=
  match s.ledger.busy with
  | some w => .next (if w.summary then s.ledgerDone w ok else s)
  | none => .next s

/-- R317: an event record's write completes and verifies, or is retried and reported. -/
def execLedgerRecordDone (ok : Bool) (s : State) : Out :=
  match s.ledger.busy with
  | some w => .next (if w.summary then s else s.ledgerDone w ok)
  | none => .next s

/-- R316: every 2 hours of MONO the flush bucket gains a token, up to 8. -/
def execLedgerFlushToken (s : State) : Out :=
  if s.ledger.flushLast + 7200 * 10 ^ 9 ≤ s.time.mono then
    .next { s with ledger := { s.ledger with flushTokens := min 8 (s.ledger.flushTokens + 1)
                                             flushLast := s.ledger.flushLast + 7200 * 10 ^ 9 } }
  else .next s

/-- R316: every 60 s the record bucket gains one record, up to 64. -/
def execLedgerRecordToken (s : State) : Out :=
  if s.ledger.recLast + 60 * 10 ^ 9 ≤ s.time.mono then
    .next { s with ledger := { s.ledger with recTokens := min 64 (s.ledger.recTokens + 1)
                                             recLast := s.ledger.recLast + 60 * 10 ^ 9 } }
  else .next s

/-- The ledger's word at LEDG_ADDR; ADDR then moves on by 4, wrapping from 524,284 to 0 (LEDG_DATA). -/
def State.ledgerRead (s : State) : State :=
  let a := s.fld Reg.LEDG_ADDR 18 2
  (s.setFld Reg.LEDG_ADDR 18 2 ((a + 1) % 131072)).answer [BitVec.ofNat 32 (leNat (getBytes s.ledger.mem (4 * a) 4))]

/-- R318: a read of LEDG_DATA. -/
def execLedgerDataRead (m : Master) (s : State) : Out :=
  match m with
  | .vf n => .next ((s.vfViolation n 12 Reg.LEDG_DATA).answer [0])
  | _ => .next s.ledgerRead

end Sys2Proof.Machine
end

