-- ==== Sys2Proof/Machine/Skim.lean ====
section
/-!
DEFINITION. Skim.lean: the tails of congested front-port queues in HBM (R214 to R221).
-/

namespace Sys2Proof.Machine

/-- Skim slots of one stack (R214). -/
def stackSlots : Nat := 100663296

/-- Ranges of slots in use in a stack: by spilled frames and by spills under way. -/
def State.slotsUsed (s : State) (k : Nat) : List (Nat × Nat) :=
  s.vat.frames.filterMap (fun e => match e.2.spill with
    | some p => if p.stack = k then some (p.slot, e.2.charged) else none
    | none => none) ++
  s.vat.spills.filterMap fun o =>
    if o.stack = k then some (o.slot, ((s.frame? o.frame).map (·.charged)).getD 0) else none

/-- Free slots in the stacks in service (VAT_SKIM_FREE). -/
def State.skimFree (s : State) : Nat :=
  ((List.range 4).map fun k =>
    if s.vat.stacksOut.contains k then 0 else stackSlots - ((s.slotsUsed k).map (·.2)).sum).sum

/-- The lowest run of `n` free slots of a stack, among those that begin at its start or after a range in use.
DESIGN CHOICE, log entry 43. -/
def State.freeSlot (s : State) (k n : Nat) : Option Nat :=
  let used := s.slotsUsed k
  let ok := (0 :: used.map fun u => u.1 + u.2).filter fun a =>
    decide (a + n ≤ stackSlots) && used.all fun u => decide (a + n ≤ u.1 ∨ u.1 + u.2 ≤ a)
  match ok with
  | [] => none
  | a :: r => some (r.foldl min a)

/-- Whether a stack is in service for skim: its HBM interface is on, no request has been granted to switch it off (Table
14.3), and it has not been taken out. -/
def State.stackOk (s : State) (k : Nat) : Bool :=
  s.domOn (140 + k) && s.bit (Reg.PWR_DOM (140 + k)) 31 && !s.vat.stacksOut.contains k

/-- The next stack in turn with room for `n` cells, and the slot (R214). -/
def State.nextSlot (s : State) (n : Nat) : Option (Nat × Nat) :=
  ((List.range 4).map fun i => (s.vat.nextStack + i) % 4).findSome? fun k =>
    if s.stackOk k then (s.freeSlot k n).map fun a => (k, a) else none

/-- The cells of copies that stand before a frame's copy in a queue. -/
def State.cellsBefore (s : State) (f : Nat) : List Copy → Nat
  | [] => 0
  | x :: r => if x.frame = f then 0 else s.copyCells x + s.cellsBefore f r

/-- The AHEAD window of a queue in cells. -/
def State.ahead (s : State) (q : Nat) : Nat := 16 * s.qfld q 2 7 0

/-- Whether a copy's frame is a spill candidate in queue q (R215). -/
def State.candidate (s : State) (q : Nat) (x : Copy) : Bool :=
  match s.frame? x.frame with
  | none => false
  | some f =>
    !f.isOpen && !f.err && !f.dropped && f.refcnt == 1 && f.spill.isNone && !f.denied && f.owned &&
      s.vat.spills.all (·.frame != x.frame) && s.compFlag f.slice f.comp 2 && !(s.slice f.slice).safe &&
      !s.flt.deviceSafe && decide (s.ahead q < s.cellsBefore x.frame (s.queue q))

/-- Cells of a compartment's spills under way, which its skim use will hold. -/
def State.spillingOf (s : State) (n c : Nat) : Nat :=
  (s.vat.spills.map fun o => match s.frame? o.frame with
    | some f => if f.slice = n ∧ f.comp = c then f.charged else 0
    | none => 0).sum

/-- R216: while RES exceeds SPILL_ON × 16 cells, the candidate nearest the tail is spilled, or stays resident and is
counted in SKIM_DENY. -/
def execSpillStart (q : Fin 20480) (s : State) : Out :=
  if s.bit Reg.VAT_SKIM_CTL 31 = false ∨ s.qfld q 0 8 8 = 0 ∨ s.res q ≤ 16 * s.qfld q 1 15 0 then .next s
  else
    match (s.queue q).reverse.find? (s.candidate q) with
    | none => .next s
    | some x =>
      match s.frame? x.frame with
      | none => .next s
      | some f =>
        let deny := fun (t : State) => (t.count (Reg.SLC_VAT_CNT f.slice f.comp 10)).setFrame x.frame { f with denied := true }
        if s.desc f.slice (1 + f.comp) 92 4 < s.skimUse f.slice f.comp + s.spillingOf f.slice f.comp + f.charged ∨
            524288 ≤ (s.vat.frames.countP fun e => e.2.spill.isSome) + s.vat.spills.length then .next (deny s)
        else
          match s.nextSlot f.charged with
          | none => .next (deny (s.raiseBit Reg.VAT_STAT 28))
          | some (k, a) =>
            .next { s with vat := { s.vat with spills := s.vat.spills ++ [⟨q, x.frame, k, a⟩], nextStack := (k + 1) % 4 } }

/-- R217, R221: a spill's last write is acknowledged: the frame becomes spilled and its cells are released, unless it
has come within AHEAD of its queue's head, has gained a reference, or its slice is safe. -/
def execSpillWriteAck (f : Nat) (s : State) : Out :=
  match s.vat.spills.find? (·.frame == f), s.frame? f with
  | some o, some x =>
    let s := { s with vat := { s.vat with spills := s.vat.spills.filter (·.frame != f) } }
    if x.refcnt ≠ 1 ∨ (s.slice x.slice).safe ∨ s.flt.deviceSafe ∨ s.stackOk o.stack = false ∨
        (s.queue o.qid).all (·.frame != f) ∨ s.cellsBefore f (s.queue o.qid) < s.ahead o.qid then .next s
    else
      let s := s.releaseCells (if x.pool = 0 then x.cells else x.cells.take 1)
      .next (s.setFrame f { x with cells := [], spill := some ⟨o.stack, o.slot, false⟩ })
  | some _, none => .next { s with vat := { s.vat with spills := s.vat.spills.filter (·.frame != f) } }
  | none, _ => .next s

/-- The spilled frame of a queue whose read-back is due first, with the cells before it (R218). -/
def State.dueIn (s : State) (q : Nat) : Option (Nat × Nat) :=
  match (s.queue q).find? fun x => ((s.frame? x.frame).bind (·.spill)).any fun p => !p.reading with
  | some x =>
    let b := s.cellsBefore x.frame (s.queue q)
    if b < s.ahead q then some (x.frame, b) else none
  | none => none

/-- Whether a read-back of queue q is due before those of every other queue. -/
def State.dueFirst (s : State) (b : Nat) : Bool :=
  s.vat.queues.all fun e =>
    match s.dueIn e.1 with
    | some d => decide (b ≤ d.2)
    | none => true

/-- The lowest `n` free cells. -/
def State.freeCells (s : State) : Nat → Nat → Option (List Nat)
  | 0, _ => some []
  | n + 1, a =>
    match findFrom (fun i => !s.allocated i && s.quadEnabled i) (1572864 - a) a with
    | some c => (s.freeCells n (c + 1)).map (c :: ·)
    | none => none

/-- The cells a read-back takes for a frame: in native mode its cells, in pail mode a block of its pool. -/
def State.backCells (s : State) (f : Frame) : Option (List Nat) :=
  if f.pool = 0 then s.freeCells f.charged 0
  else (s.freeBlock (f.pool - 1)).map fun a => (List.range (poolCells (f.pool - 1))).map (a + ·)

/-- R218: a spilled frame in its AHEAD window is read back; its cells are taken, from the reserve too, or it waits and
RBWAIT is set. One whose stack is out of service is discarded at its queue's head (R220). -/
def execReadbackStart (q : Fin 20480) (s : State) : Out :=
  match s.dueIn q with
  | none => .next s
  | some (f, b) =>
    match s.frame? f with
    | none => .next s
    | some x =>
      match x.spill with
      | none => .next s
      | some p =>
        if s.dueFirst b = false then .next s
        else if s.stackOk p.stack = false then
          .next (s.setFrame f { x with skimErr := true, spill := some { p with reading := true } })
        else
          match s.backCells x with
          | none => .next (s.raiseBit Reg.VAT_STAT 27)
          | some cs =>
            let s := s.setFrame f { x with cells := cs, spill := some { p with reading := true }, back := some 0 }
            .next (if x.pool = 0 then s.linkChain x.bytes.length cs else s.setLink (cs.headD 0) 0x80000000)

/-- R218, R220: `cells` cells of a read-back are in the vat; with all of them the frame is resident again. An
uncorrectable error discards it at its queue's head and is reported, naming the frame's slot; which channel of the
stack holds the slot is open. -/
def execReadbackDone (f cells : Nat) (ok : Bool) (s : State) : Out :=
  match s.frame? f with
  | none => .next s
  | some x =>
    match x.spill, x.back with
    | some p, some k =>
      if !ok then
        .next ((({ s with fresh := s.fresh + 1 }.setFrame f { x with skimErr := true, spill := none, back := none })).reportFault
          (srcId 12 (16 * p.stack + Config.freeNat s.fresh % 16)) .cont .memoryRow p.slot 0)
      else if x.charged ≤ cells then .next (s.setFrame f { x with spill := none, back := none })
      else .next (s.setFrame f { x with back := some (max k cells) })
    | _, _ => .next s

end Sys2Proof.Machine
end

