-- ==== Sys2Proof/Machine/Tables.lean ====
section
/-!
DEFINITION. Tables.lean: update ports (R187, R445), learning (R171 to R174), aging and churn (R175 to R178), the press
banks' background work (R180, R183), objects (R153), miss-read rates (R163) and the flap record (R173).
-/

namespace Sys2Proof.Machine

/-! ### Update ports -/

/-- The command register of a port: slice n's, or the global one (32). -/
def tuCmd (port : Nat) : Nat := if port < 32 then Reg.SLC_TU_CMD port else Reg.TBL_TU_CMD

/-- The index register of a port. -/
def tuIdx (port : Nat) : Nat := if port < 32 then Reg.SLC_TU_IDX port else Reg.TBL_TU_IDX

/-- A data register of a port. -/
def tuData (port w : Nat) : Nat := if port < 32 then Reg.SLC_TU_DATA port w else Reg.TBL_TU_DATA w

/-- Whether a master may use compartment `comp` of port `port` (R187). -/
def State.tuMay (s : State) (m : Master) (port comp : Nat) : Bool :=
  match m with
  | .vf n => decide (n.val = port) && s.vfActs port comp
  | _ => true

/-- A write of a port's command register: GO starts a command when none runs, else sets CMDREJ; without GO the fields
take their values. -/
def State.tuWrite (s : State) (m : Master) (port : Nat) (data : Word) : State :=
  let a := tuCmd port
  let s := if data.getLsbD 8 then s.setBit a 8 false else s
  if data.msb then
    if s.tuMay m port (fieldOf data 25 23) = false then s.refuseVf m a
    else if s.bit a 30 then s.setBit a 8 true
    else
      let s := (s.setFld a 25 12 (fieldOf data 25 12)).setBit a 30 true
      let img := (List.range 24).flatMap fun w => toLE 4 (s.reg (tuData port w)).toNat
      { s with tbl := { s.tbl with cmds := Store.set s.tbl.cmds port ⟨data, s.fld (tuIdx port) 24 0, img⟩ } }
  else s.setFld a 25 12 (fieldOf data 25 12)

/-- GO with an operation, at a port. DESIGN CHOICE, log entry 62. -/
def State.tuGo (s : State) (m : Master) (port op : Nat) (cmd : Word) : State :=
  s.gated m (tuCmd port) true fun s => s.tuWrite m port (withField (cmd ||| 0x80000000) 13 12 op)

/-- R445: GO with OP 0. -/
def execTuReadIndex (m : Master) (port : Fin 33) (cmd : Word) (s : State) : Out := .next (s.tuGo m port 0 cmd)

/-- R445: GO with OP 1. -/
def execTuWrite (m : Master) (port : Fin 33) (cmd : Word) (s : State) : Out := .next (s.tuGo m port 1 cmd)

/-- R445: GO with OP 2. -/
def execTuDelete (m : Master) (port : Fin 33) (cmd : Word) (s : State) : Out := .next (s.tuGo m port 2 cmd)

/-- R445: GO with OP 3. -/
def execTuReadKey (m : Master) (port : Fin 33) (cmd : Word) (s : State) : Out := .next (s.tuGo m port 3 cmd)

/-! ### Commands -/

/-- Results of a command (SLC_TU_CMD.RESULT). -/
def tuOk : Nat := 0
def tuNotFound : Nat := 1
def tuFull : Nat := 2
def tuWindow : Nat := 3
def tuBadReq : Nat := 4
def tuBusy : Nat := 5
def tuRefHeld : Nat := 6
def tuObj : Nat := 7

/-- A command's fields. -/
def UpCmd.comp (x : UpCmd) : Nat := fieldOf x.cmd 25 23
def UpCmd.pipe (x : UpCmd) : Nat := fieldOf x.cmd 22 22
def UpCmd.stage (x : UpCmd) : Nat := fieldOf x.cmd 21 17
def UpCmd.tgt (x : UpCmd) : Nat := fieldOf x.cmd 16 14
def UpCmd.op (x : UpCmd) : Nat := fieldOf x.cmd 13 12
def UpCmd.word (x : UpCmd) (w : Nat) : Nat := leAt x.data (4 * w) 4

/-- The bytes an image leaves in the data words of a port; the words past it read 0. -/
def State.tuAnswer (s : State) (port : Nat) (l : List Byte) : State :=
  (List.range 24).foldl (fun t w => t.setReg (tuData port w) (BitVec.ofNat 32 (leAt l (4 * w) 4))) s

/-- Whether `x` lies in a window of the command's compartment; the global port has no window (R187). -/
def State.tuIn (s : State) (port : Nat) (u : UpCmd) (off size x : Nat) : Bool :=
  port == 32 || (s.compValid port u.comp && s.inWindow port u.comp off size x)

/-- Whether an entry written at the port may name an object (R152). -/
def State.tuObjOk (s : State) (port : Nat) (u : UpCmd) (nhop : Nat) : Bool := port == 32 || s.objAllowed port u.comp nhop

/-- An endpoint command (R445). -/
def State.tuEndpoint (s : State) (port : Nat) (u : UpCmd) : Nat × State :=
  let img := bytesAt u.data 0 64
  let p := epPart img
  let k := epKey img
  if u.op = 0 then
    if port < 32 then (tuBadReq, s)
    else
      let e := s.epAt u.idx
      if e = [] then (tuNotFound, s.tuAnswer port []) else (tuOk, s.tuAnswer port (epWithTs e (s.authTs e)))
  else if 4096 ≤ p ∨ 16 ≤ epFlags img ∨ 2 ^ 20 ≤ leAt img 28 4 ∨ leAt img 37 27 ≠ 0 then (tuBadReq, s)
  else if s.tuIn port u 24 2 p = false then (tuWindow, s)
  else if u.op = 3 then
    match s.epFind p k with
    | none => (tuNotFound, s)
    | some i => (tuOk, s.tuAnswer port (epWithTs (s.epAt i) (s.authTs (s.epAt i))))
  else if u.op = 2 then
    match s.epFind p k with
    | none => (tuNotFound, s)
    | some i => (tuOk, s.epDelete i false)
  else if s.tuObjOk port u (epNhop img) = false then (tuObj, s)
  else
    let e := epPut (epPut (epPut (epPut img 18 1 (1 + (epFlags img &&& 2))) 24 2 s.ageNow) 26 2 s.nowMs) 36 1 0
    match s.epFind p k with
    | some i => (tuOk, s.epWriteNew i e)
    | none =>
      match s.epInsert p k with
      | none => (tuFull, s.tblGcount 4)
      | some (i, s) => (tuOk, s.epWriteNew i e)

/-- The state with every press bank that is on replaced by what `f` makes of it, and its PRESS_SEQ (R181, R182).
DESIGN CHOICE, log entry 63. -/
def State.pressAll (s : State) (seq : Nat) (f : Press → Press) : State :=
  s.pressOn.foldl (fun t b => (t.setPress b (f (t.press b))).setReg (Reg.PRESS_SEQ b) (BitVec.ofNat 32 seq)) s

/-- A route command (R180, R181, Table 05.8, R445). -/
def State.tuRoute (s : State) (port : Nat) (u : UpCmd) : Nat × State :=
  let w0 := u.word 0
  let af := bitsOf w0 31 30
  let plen := bitsOf w0 23 16
  let vrf := bitsOf w0 15 0
  let width := if af = 2 then 128 else 32
  let addr := if af = 2 then
      ((u.word 1 * 2 ^ 32 + u.word 2) * 2 ^ 32 + u.word 3) * 2 ^ 32 + u.word 4
    else u.word 1
  if u.op = 0 ∨ ¬(af = 1 ∨ af = 2) ∨ width < plen ∨ addr % 2 ^ (width - plen) ≠ 0 then (tuBadReq, s)
  else if s.tuIn port u 28 2 vrf = false then (tuWindow, s)
  else
    let banks := s.pressOn
    let found := (s.press (banks.headD 0)).routes.find? fun r => r.is af plen vrf addr
    if u.op = 3 then
      match found with
      | none => (tuNotFound, s)
      | some r =>
        let ws := if af = 2 then toBE 16 addr else toBE 4 addr ++ List.replicate 12 0
        let img := toLE 4 w0 ++ (bytesAt ws 0 4).reverse ++ (bytesAt ws 4 4).reverse ++ (bytesAt ws 8 4).reverse ++
          (bytesAt ws 12 4).reverse ++ toLE 4 r.nhop ++ toLE 4 r.opc ++ toLE 4 r.seq
        (tuOk, s.tuAnswer port img)
    else if u.op = 2 then
      match found with
      | none => (tuNotFound, s)
      | some _ =>
        let (q, s) := s.nextTblSeq
        (tuOk, s.pressAll q fun x => x.delete af plen vrf addr)
    else
      let nhop := u.word 5 % 2 ^ 20
      if s.tuObjOk port u nhop = false then (tuObj, s)
      else
        let r : Route := { af := af, plen := plen, vrf := vrf, addr := addr, nhop := nhop, opc := u.word 6 % 256, seq := 0 }
        if banks.any fun b => ((s.press b).write r).isNone then (tuFull, s)
        else
          let (q, s) := s.nextTblSeq
          (tuOk, s.pressAll q fun x => (x.write { r with seq := q }).getD x)

/-- An ACL command of a slice port (R184, R185, R445). DESIGN CHOICE, log entry 64. -/
def State.tuAcl (s : State) (port : Nat) (u : UpCmd) : Nat × State :=
  let img := bytesAt u.data 0 92
  let put := fun (e : List Byte) =>
    { s with tbl := { s.tbl with acl := Store.set s.tbl.acl (aclIndex port u.pipe u.idx) e } }
  if u.op = 3 ∨ 8192 ≤ u.idx then (tuBadReq, s)
  else if s.tuIn port u (aclWindow u.pipe) 2 u.idx = false then (tuWindow, s)
  else if u.op = 0 then (tuOk, s.tuAnswer port (s.aclAt port u.pipe u.idx))
  else if u.op = 2 then (tuOk, put (List.replicate 84 0 ++ toLE 4 0xFFFFF ++ List.replicate 4 0))
  else if s.tuObjOk port u (aclNhop img) = false then (tuObj, s)
  else (tuOk, put img)

/-- A stage match memory command of a slice port (R122). DESIGN CHOICE, log entry 64. -/
def State.tuMatch (s : State) (port : Nat) (u : UpCmd) : Nat × State :=
  let x := s.slice port
  let b := x.active
  if u.op = 3 ∨ 24 ≤ u.stage ∨ 16384 ≤ u.idx ∨ (b.matchSlot u.pipe u.stage u.idx).isNone then (tuBadReq, s)
  else if s.tuIn port u 68 2 (u.idx / 64) = false then (tuWindow, s)
  else if u.op = 0 then (tuOk, s.tuAnswer port ((x.matchEntry b u.pipe u.stage u.idx).getD []))
  else
    let img := if u.op = 1 then bytesAt u.data 0 32 else List.replicate 32 0
    (tuOk, s.setSlice port (x.setMatchEntry b u.pipe u.stage u.idx img))

/-- An object command of the global port (R151 to R153). DESIGN CHOICE, log entry 64. -/
def State.tuObject (s : State) (port : Nat) (u : UpCmd) : Nat × State :=
  let i := u.idx
  let st := s.objState i
  if u.op = 3 ∨ 262144 ≤ i ∨ (i ≤ 1057 ∧ u.op ≠ 0) then (tuBadReq, s)
  else if u.op = 0 then
    let o := (Store.at? s.tbl.objects i).getD { bytes := List.replicate 8 0 }
    let own := if i ≤ 1057 then 256 else o.owner + if o.shared then 256 else 0
    let c := if i ≤ 1057 then (s.objBytes i).getD [] else o.bytes
    (tuOk, s.tuAnswer port (bytesAt c 0 8 ++ toLE 4 (own + 65536 * st) ++ toLE 4 (s.objRefs i)))
  else if u.op = 1 then
    if st = 2 then (tuBusy, s)
    else
      let o : Obj := { bytes := bytesAt u.data 0 8, owner := u.word 2 % 256, shared := bitOf (u.word 2) 8 }
      (tuOk, { s with tbl := { s.tbl with objects := Store.set s.tbl.objects i o } })
  else if st ≠ 1 then (tuNotFound, s)
  else if s.objRefs i ≠ 0 then (tuRefHeld, s)
  else
    match Store.at? s.tbl.objects i with
    | some o =>
      (tuOk, { s with tbl := { s.tbl with objects := Store.set s.tbl.objects i { o with retired := some s.nextCtx } } })
    | none => (tuNotFound, s)

/-- A command's result, and the state with its effect: the first result of R445 that applies. -/
def State.tuRun (s : State) (port : Nat) (u : UpCmd) : Nat × State :=
  match u.tgt with
  | 0 => s.tuEndpoint port u
  | 1 => s.tuRoute port u
  | 2 => if port = 32 then (tuBadReq, s) else s.tuAcl port u
  | 3 => if port = 32 then (tuBadReq, s) else s.tuMatch port u
  | 4 => if port < 32 then (tuBadReq, s) else s.tuObject port u
  | _ => (tuBadReq, s)

/-- Whether an endpoint command's shard is held (R166). -/
def State.tuHeld (s : State) (u : UpCmd) : Bool :=
  u.tgt == 0 && u.op != 0 &&
    s.bit Reg.TBL_HOLD (hashShard (s.epHash1 (epPart (bytesAt u.data 0 64)) (epKey (bytesAt u.data 0 64))))

/-- R169: an update command finishes: its effect, BUSY cleared and RESULT; WINDOW counts as a violation of kind TABLE
(R187). DESIGN CHOICE, log entry 62. -/
def execUpdateCmdDone (port : Fin 33) (s : State) : Out :=
  match Store.at? s.tbl.cmds port.val with
  | none => .next s
  | some u =>
    if s.tuHeld u then .next s
    else
      let s := { s with tbl := { s.tbl with cmds := Store.del s.tbl.cmds port.val } }
      let (r, s) := s.tuRun port.val u
      let s := if r = tuWindow then s.violate port.val u.comp 3 u.pipe 31 (u.idx % 65536) else s
      .next ((s.setFld (tuCmd port) 29 26 r).setBit (tuCmd port) 30 false)

/-- R153: every frame that was in a pipe pass when the delete completed has finished it; the object is FREE. -/
def execObjectFree (i : Fin 262144) (s : State) : Out :=
  match Store.at? s.tbl.objects i.val with
  | some { retired := some t, .. } =>
    if s.ctxs.all fun e => decide (t ≤ e.1) then
      .next { s with tbl := { s.tbl with objects := Store.del s.tbl.objects i.val } }
    else .next s
  | _ => .next s

/-! ### Learning -/

/-- A damped move (R173): FLAPS rises, and reaching FLAP_THR records the entry as flapping. -/
def State.dampMove (s : State) (slot : Nat) (e : List Byte) (l : Learn) : State :=
  let f := min 255 (epFlaps e + 1)
  let s := (s.setCopies slot (epPut e 36 1 f)).lineUpdate (epPut (epWithTs e (s.authTs e)) 36 1 f)
  let s := s.tblCount l.slice l.comp 9
  if epFlaps e < 255 ∧ f = oneIfZero (s.fld Reg.TBL_CTL 15 8) then
    let s := if s.bit Reg.TBL_FLAP_REC0 31 then s
      else (s.setReg Reg.TBL_FLAP_REC0 (BitVec.ofNat 32 (2 ^ 31 + 65536 * l.part + l.port))).setReg Reg.TBL_FLAP_REC1
        (BitVec.ofNat 32 slot)
    (s.tblGcount 5).raiseBit Reg.TBL_STAT 31
  else s

/-- A learn granted at its shard's arbiter (R171 to R173). -/
def State.learnApply (s : State) (l : Learn) : State :=
  if s.learnOn l.part = false then s
  else
    match s.epFind l.part l.key with
    | none =>
      match s.epInsert l.part l.key with
      | none => (s.tblGcount 4).tblCount l.slice l.comp 7
      | some (i, s) =>
        let e := bytesAt l.key 0 16 ++ toLE 2 l.part ++ [5, BitVec.ofNat 8 (s.fld (Reg.TBL_PART_CFG l.part) 7 0)] ++
          toLE 4 0 ++ toLE 2 s.ageNow ++ toLE 2 s.nowMs ++ toLE 4 l.port ++ List.replicate 32 0
        s.epWriteNew i e
    | some i =>
      let e := s.epAt i
      if epStatic e || epQuar e then s.tblCount l.slice l.comp 7
      else if epNhop e = l.port then s.touch i
      else
        let hold := min 32767 (s.fld Reg.TBL_MOVE 31 16)
        if s.bit (Reg.TBL_PART_CFG l.part) 15 = false ∨ (s.nowMs + 65536 - epMove e) % 65536 < hold then s.dampMove i e l
        else
          let e := epPut (epPut (epPut (epWithTs e s.ageNow) 28 4 l.port) 26 2 s.nowMs) 36 1 0
          (s.epWriteNew i e).tblCount l.slice l.comp 8

/-- R171: the oldest queued learn of a shard is granted, unless the shard is held (R166). -/
def execLearnApply (shard : Fin 16) (s : State) : Out :=
  if s.bit Reg.TBL_HOLD shard then .next s
  else
    match s.learnQ shard with
    | [] => .next s
    | l :: r => .next ((s.setLearnQ shard r).learnApply l)

/-! ### Aging and churn -/

/-- R175: TICK_MS ms of MONO have passed since TBL_AGE.NOW last rose. -/
def execAgeTick (s : State) : Out :=
  if s.tbl.ageLast + ms (max 10 (s.fld Reg.TBL_AGE 31 16)) ≤ s.time.mono then
    .next ({ s with tbl := { s.tbl with ageLast := s.time.mono } }.setFld Reg.TBL_AGE 15 0 ((s.ageNow + 1) % 65536))
  else .next s

/-- The global slot of churn visit v (R176). -/
def visitSlot (v : Nat) : Nat := v % 16 * 2097152 + v / 16 % 2097152

/-- Churn's comparison of a slot's two copies (R183); a held shard's updater takes no repair (R166). -/
def State.compareCopies (s : State) (slot : Nat) : State :=
  let a := s.epCopy false slot
  let b := s.epCopy true slot
  if s.tblDup = false ∨ s.bit Reg.TBL_HOLD (slot / 2097152) ∨ a = [] ∨ b = [] ∨ epCore a = epCore b then s
  else if epSeq a ≠ epSeq b then
    let w := if seqHigher (epSeq a) (epSeq b) then a else b
    ((s.setCopies slot w).lineUpdate w).tblGcount 2
  else
    let q := fun (e : List Byte) => epPut e 18 1 (epFlags e ||| 8)
    let s := (((s.setCopy false slot (q a)).setCopy true slot (q b)).lineUpdate (q a)).tblGcount 3
    (s.raiseBit Reg.TBL_STAT 30).reportFault (srcId 13 (slot / 2097152)) .cont .memoryRow slot 0

/-- Whether churn deletes: not on the standby of a pair in PAIRED (R358). -/
def State.churnDeletes (s : State) : Bool :=
  !(s.pairState == 4 && !s.bit Reg.PAIR_CTL 30 && !s.bit Reg.PAIR_STAT 19)

/-- R176, R177, R183: churn's next visit compares the copies of its slot and asks for the deletion of an aged entry. -/
def execChurnVisit (s : State) : Out :=
  if s.tblOn && s.bit Reg.TBL_CTL 29 &&
      decide (s.tbl.visitLast + (999 + oneIfZero (s.fld Reg.TBL_CTL 23 16)) / oneIfZero (s.fld Reg.TBL_CTL 23 16) ≤ s.time.mono) then
    let slot := visitSlot s.tbl.visit
    let s := { s with tbl := { s.tbl with visit := s.tbl.visit + 1, visitLast := s.time.mono } }
    let s := s.compareCopies slot
    let e := s.epAt slot
    if e ≠ [] ∧ s.agedOut e (s.authTs e) ∧ s.churnDeletes then
      .next { s with tbl := { s.tbl with churned := s.tbl.churned ++ [(slot, e.take 18, s.authTs e)] } }
    else .next s
  else .next s

/-- Whether a stall's read of a slot is outstanding (R178). -/
def State.readOutstanding (s : State) (slot : Nat) : Bool := s.tbl.stalls.any fun e => e.2.reading == slot

/-- R177: a compare-and-delete is granted: the entry goes only if its slot still holds the key and TS is unchanged, with
no miss read of it outstanding (R178). -/
def execChurnCompareDelete (slot : Nat) (s : State) : Out :=
  match s.tbl.churned.find? fun x => x.1 == slot with
  | none => .next s
  | some (_, pk, ts) =>
    if s.bit Reg.TBL_HOLD (slot / 2097152) then .next s
    else
      let s := { s with tbl := { s.tbl with churned := s.tbl.churned.filter fun x => x.1 != slot } }
      let e := s.epAt slot
      if e.take 18 = pk ∧ s.authTs e = ts ∧ s.readOutstanding slot = false then .next ((s.epDelete slot true).tblGcount 0)
      else .next (s.tblGcount 1)

/-! ### The press banks -/

/-- The copies of one prefix in the banks that are on. -/
def State.routeCopies (s : State) (r : Route) : List Route :=
  s.pressOn.filterMap fun b => (s.press b).routes.find? fun q => q.is r.af r.plen r.vrf r.addr

/-- One copy of a route replaced in a bank that holds it. -/
def Press.replace (x : Press) (r : Route) : Press :=
  { x with routes := x.routes.map fun q => if q.is r.af r.plen r.vrf r.addr then r else q }

/-- The comparison of the copies of one prefix (R183). DEDUCED, log entry 65. -/
def State.compareRoute (s : State) (r : Route) : State :=
  match s.routeCopies r with
  | [] => s
  | a :: rest =>
    if rest.all fun q => q == a then s
    else
      let best := rest.foldl (fun b q => if seqHigher q.seq b.seq then q else b) a
      let put := fun (t : State) (q : Route) => t.pressOn.foldl (fun u b => u.setPress b ((u.press b).replace q)) t
      if (a :: rest).all fun q => q.seq == best.seq then
        let s := s.pressOn.foldl (fun u b => u.setPress b { u.press b with
          routes := (u.press b).routes.map fun q => if q.is r.af r.plen r.vrf r.addr then { q with quar := true } else q }) s
        let bank := (s.pressOn.find? fun b => (s.press b).routes.any fun q =>
          q.is r.af r.plen r.vrf r.addr && { q with quar := false } != { a with quar := false }).getD 0
        ((s.tblGcount 3).raiseBit Reg.TBL_STAT 30).reportFault (srcId 14 bank) .cont .memoryRow 0 0
      else (put s best).tblGcount 2

/-- R183: the press scrub compares the copies of every route. -/
def execPressScrub (s : State) : Out :=
  .next ((s.pressOn.flatMap fun b => (s.press b).routes).foldl (fun t r => t.compareRoute r) s)

/-- R180: the background press of a bank moves its holes to the free rows. -/
def execPressCompact (b : Fin 8) (s : State) : Out :=
  if s.domOn (132 + b.val) then .next (s.setPress b { s.press b with holes := [] }) else .next s

/-! ### Registers -/

/-- A write of TBL_MISS_RATEn: refused when the sum over all slices would pass 12,000 (R163). -/
def State.missRateWrite (s : State) (n : Nat) (data : Word) : State :=
  let v := fieldOf data 15 0
  let others := ((List.range 32).map fun k => if k = n then 0 else s.fld (Reg.TBL_MISS_RATE k) 15 0).sum
  if 12000 < others + v then s.raiseBit Reg.TBL_STAT 29
  else
    let s1 := { s with tbl := { s.tbl with buckets := Store.set s.tbl.buckets n (s.missBucket n) } }
    s1.setFld (Reg.TBL_MISS_RATE n) 15 0 v

/-- R163: a write of TBL_MISS_RATEn. -/
def execMissRateWrite (m : Master) (n : Fin 32) (data : Word) (s : State) : Out :=
  .next (s.gated m (Reg.TBL_MISS_RATE n) true fun s => s.missRateWrite n data)

/-- R173: a read of TBL_FLAP_REC0 returns the record and releases both registers. -/
def execFlapRecRead (m : Master) (s : State) : Out :=
  match m with
  | .vf n => .next ((s.vfViolation n.val 12 Reg.TBL_FLAP_REC0).answer [0])
  | _ =>
    .next (((s.answer [s.reg Reg.TBL_FLAP_REC0]).setReg Reg.TBL_FLAP_REC0 0).setReg Reg.TBL_FLAP_REC1 0)

end Sys2Proof.Machine
end

