-- ==== Sys2Proof/Machine/TimeTele.lean ====
section
/-!
DEFINITION. TimeTele.lean: CLOCK and its pulses (R295 to R300), the two-step queue (R303), histogram snapshots (R312) and
the flush of collectors (R309).
-/

namespace Sys2Proof.Machine

/-! ### CLOCK -/

/-- TIME_STEP adds its signed value to CLOCK, which stops at 0 (R296). -/
def State.clockStep (s : State) (data : Word) : State :=
  { s with time := { s.time with clk := clkAdd s.time.clk (signed 32 data.toNat) } }

/-- R296: a write of TIME_STEP. -/
def execClockStep (m : Master) (data : Word) (s : State) : Out :=
  .next (s.gated m Reg.TIME_STEP true fun s => s.clockStep data)

/-- TIME_CTL.LOAD replaces CLOCK with TIME_SET0 to TIME_SET2 and sets LOADED (R296). For a nanosecond field of 10⁹ or more
the spec states no CLOCK: its nanoseconds are free. DESIGN CHOICE, log entry 19. -/
def State.clockLoad (s : State) : State :=
  let sec := (s.reg Reg.TIME_SET1).toNat + 2 ^ 32 * s.fld Reg.TIME_SET2 15 0
  let ns := s.fld Reg.TIME_SET0 29 0
  let ovr := decide (10 ^ 9 ≤ ns)
  let ns := if ovr then Config.freeNat s.fresh % 10 ^ 9 else ns
  let s := if ovr then { s with fresh := s.fresh + 1 } else s
  ({ s with time := { s.time with clk := (sec * 10 ^ 9 + ns) * 10 ^ 12 } }).setBit Reg.TIME_CTL 30 true

/-- A write of TIME_CTL: its RW fields and flags, and LOAD. -/
def State.timeCtlWrite (s : State) (data : Word) : State :=
  let s := s.plainWrite Reg.TIME_CTL data
  if fieldOf data 31 31 = 1 then s.clockLoad else s

/-- R296: a write of TIME_CTL with LOAD = 1, its other fields as `data` holds them. -/
def execClockLoad (m : Master) (data : Word) (s : State) : Out :=
  .next (s.gated m Reg.TIME_CTL true fun s => s.timeCtlWrite (data ||| 0x80000000))

/-- A read of TIME_CLK0: the nanoseconds, with the seconds words captured (R297). -/
def State.clockRead (s : State) (m : Master) : Word × State :=
  let s := (s.hold m Reg.TIME_CLK1 (BitVec.ofNat 32 s.clkSec)).hold m Reg.TIME_CLK2 (BitVec.ofNat 32 (s.clkSec / 2 ^ 32))
  (BitVec.ofNat 32 s.clkNs, s)

/-- R297: TIME_CLK0 is read. -/
def execClockRead (m : Master) (s : State) : Out :=
  .next ((s.answer [0]).gated m Reg.TIME_CLK0 false fun s =>
    let (w, s) := s.clockRead m
    s.answer [w])

/-- A read of TIME_PPSIN0: the capture's nanoseconds, with its seconds words captured (R297). -/
def State.ppsinRead (s : State) (m : Master) : Word × State :=
  let s := (s.hold m Reg.TIME_PPSIN1 (s.reg Reg.TIME_PPSIN1)).hold m Reg.TIME_PPSIN2 (s.reg Reg.TIME_PPSIN2)
  (s.reg Reg.TIME_PPSIN0, s)

/-- R297: TIME_PPSIN0 is read. -/
def execPpsinRead (m : Master) (s : State) : Out :=
  .next ((s.answer [0]).gated m Reg.TIME_PPSIN0 false fun s =>
    let (w, s) := s.ppsinRead m
    s.answer [w])

/-! ### Pulses per second -/

/-- R299: CLOCK's nanosecond field has wrapped to 0 by counting while PPSO_EN is 1, and PPS_OUT rises for PPS_W ms. A pulse
that still stands is extended. DESIGN CHOICE, log entry 19. -/
def execPpsOutPulse (s : State) : Out :=
  if s.time.wrapped then
    let due := s.time.mono + ms (oneIfZero (s.fld Reg.TIME_CTL 7 0))
    let t := { s with time := { s.time with wrapped := false, ppsEnd := some due } }
    .next (if s.time.ppsEnd.isSome then t else t.emit (.pps true))
  else .next s

/-- R299: PPS_W ms after its rise PPS_OUT falls. -/
def execPpsOutEnd (s : State) : Out :=
  match s.time.ppsEnd with
  | some t =>
    if t ≤ s.time.mono then .next (({ s with time := { s.time with ppsEnd := none } }).emit (.pps false)) else .next s
  | none => .next s

/-- R300: a rising edge on PPS_IN captures CLOCK and sets PPSI_VALID, or PPSI_OVF beside it when a capture was held. An
edge within 100 ns of the one before is ignored (R434). -/
def execPpsInEdge (s : State) : Out :=
  let near := match s.time.ppsIn with
    | some t => decide (s.time.mono < t + 100)
    | none => false
  if near then .next s
  else
    let s := { s with time := { s.time with ppsIn := some s.time.mono } }
    if s.bit Reg.TIME_CTL 28 then
      let s := ((s.setReg Reg.TIME_PPSIN0 (BitVec.ofNat 32 s.clkNs)).setReg Reg.TIME_PPSIN1
        (BitVec.ofNat 32 s.clkSec)).setReg Reg.TIME_PPSIN2 (BitVec.ofNat 32 (s.clkSec / 2 ^ 32))
      let s := if s.bit Reg.TIME_CTL 27 then s.setBit Reg.TIME_CTL 26 true else s
      .next (s.raiseBit Reg.TIME_CTL 27)
    else .next s

/-! ### Two-step timestamps -/

/-- A write of PORT_TSQ0: OVF is W1C, and POP removes the head entry (R303). -/
def State.tsqWrite (s : State) (p : Nat) (data : Word) : State :=
  let s := s.plainWrite (Reg.PORT_TSQ0 p) data
  if fieldOf data 29 29 = 1 then s.setPort p { s.port p with tsq := (s.port p).tsq.drop 1 } else s

/-- R303: a write of PORT_TSQ0 with POP = 1. -/
def execTsqPop (m : Master) (p : Fin 1024) (data : Word) (s : State) : Out :=
  .next (s.gated m (Reg.PORT_TSQ0 p) true fun s => s.tsqWrite p (data ||| 0x20000000))

/-! ### Histogram snapshots -/

/-- The window's registers for bin b. -/
def State.setBin (s : State) (b v : Nat) : State :=
  (s.setReg (Reg.TELE_HBIN b) (BitVec.ofNat 32 v)).setReg (Reg.TELE_HBIN_HI b) (BitVec.ofNat 32 (v / 2 ^ 32))

/-- GO copies the live bins of PORT into the window, and clears them when CLR is 1 (R312). -/
def State.histSnap (s : State) : State :=
  let p := s.fld Reg.TELE_HIST_CMD 9 0
  let h := (s.port p).hist
  let s := (List.range 64).foldl (fun (t : State) b => t.setBin b (Store.read 0 h b)) s
  let s := if s.bit Reg.TELE_HIST_CMD 29 then s.setPort p { s.port p with hist := [] } else s
  s.setBit Reg.TELE_HIST_CMD 30 true

/-- A write of TELE_HIST_CMD. -/
def State.histWrite (s : State) (data : Word) : State :=
  let s := s.plainWrite Reg.TELE_HIST_CMD data
  if fieldOf data 31 31 = 1 then s.histSnap else s

/-- R312: a write of TELE_HIST_CMD with GO = 1, CLR and PORT as `data` holds them. -/
def execHistSnapshot (m : Master) (data : Word) (s : State) : Out :=
  .next (s.gated m Reg.TELE_HIST_CMD true fun s => s.histWrite (data ||| 0x80000000))

/-- R312: the snapshot is taken. -/
def execHistSnapshotDone (s : State) : Out := .next (s.setBit Reg.TELE_HIST_CMD 30 false)

/-! ### Collectors -/

/-- R309: FLUSH_US after its first record a collector's frame is sent. -/
def execCollectorFlushTimeout (j : Fin 8) (s : State) : Out :=
  let x := s.col j
  if x.recs ≠ [] ∧ x.since + us (oneIfZero (s.winLE (colBase j) 6 2)) ≤ s.time.mono then .next (s.sendCollector j)
  else .next s

end Sys2Proof.Machine
end

