-- ==== Sys2Proof/Machine/VatRegs.lean ====
section
/-!
DEFINITION. VatRegs.lean: commands of the vat's access registers: queue settings (R198, R199), multicast entries (R206,
R210) and the buffer mode (R194, R196).
-/

namespace Sys2Proof.Machine

/-- Whether a VF may read queue q: of a port in its compartments' INGRESS_PORTS, or a host queue in their HQP windows. -/
def State.vfQueue (s : State) (n q : Nat) : Bool :=
  if q < 20480 then s.vfPort n (q / 20)
  else if 21140 ≤ q then
    (List.range 8).any fun c => s.vfActs n c && s.compValid n c && s.inWindow n c 96 2 (q - 21140)
  else false

/-- VAT_QACC.WR writes a queue's settings; a VF's write is a violation of kind REG. -/
def execQueueSettingsWrite (m : Master) (acc : Word) (s : State) : Out :=
  .next (s.gated m Reg.VAT_QACC true fun s =>
    let q := fieldOf acc 14 0
    match m with
    | .vf n => s.vfViolation n 12 Reg.VAT_QACC
    | _ =>
      let s := s.setRW Reg.VAT_QACC 0x7FFF acc
      if 21396 ≤ q then s
      else
        let put := fun (t : Store Word) i => Store.set t (4 * q + i) (s.reg (Reg.VAT_QDATA0 + 4 * i))
        { s with vat := { s.vat with qcfg := [0, 1, 2].foldl put s.vat.qcfg } })

/-- VAT_QACC.RD loads a queue's settings and depths. -/
def execQueueRead (m : Master) (acc : Word) (s : State) : Out :=
  .next (s.gated m Reg.VAT_QACC true fun s =>
    let q := fieldOf acc 14 0
    let may := match m with
      | .vf n => s.vfQueue n q
      | _ => true
    if may = false then s.refuseVf m Reg.VAT_QACC
    else
      let s := s.setRW Reg.VAT_QACC 0x7FFF acc
      if 21396 ≤ q then s
      else
        let s := [0, 1, 2].foldl (fun t i => t.setReg (Reg.VAT_QDATA0 + 4 * i) (s.qword q i)) s
        (s.setReg Reg.VAT_QDATA3 (BitVec.ofNat 32 (min (2 ^ 23 - 1) (s.dep q)))).setReg Reg.VAT_QDATA4
          (BitVec.ofNat 32 (min (2 ^ 21 - 1) (s.res q))))

/-- VAT_MC_ACC.WR writes a target entry, or a group entry after a check of its range (R210). -/
def execMcEntryWrite (m : Master) (acc : Word) (s : State) : Out :=
  .next (s.gated m Reg.VAT_MC_ACC true fun s =>
    let s := s.setRW Reg.VAT_MC_ACC 0x0807FFFF acc
    let w := s.reg Reg.VAT_MC_DATA
    let i := fieldOf acc 18 0
    if fieldOf acc 27 27 = 1 then
      if i ≤ 524286 then { s with vat := { s.vat with targets := Store.put 0 s.vat.targets i w } } else s
    else if 65535 < i then s
    else if 524287 < fieldOf w 18 0 + fieldOf w 29 19 then s.setBit Reg.VAT_MC_ACC 29 true
    else { s with vat := { s.vat with groups := Store.put 0 s.vat.groups i w } }.setBit Reg.VAT_MC_ACC 28 true)

/-- VAT_MC_ACC.RD loads an entry into VAT_MC_DATA. DEDUCED, log entry 23. -/
def execMcEntryRead (m : Master) (acc : Word) (s : State) : Out :=
  .next (s.gated m Reg.VAT_MC_ACC true fun s =>
    let s := s.setRW Reg.VAT_MC_ACC 0x0807FFFF acc
    s.setReg Reg.VAT_MC_DATA
      (Store.read 0 (if fieldOf acc 27 27 = 1 then s.vat.targets else s.vat.groups) (fieldOf acc 18 0)))

/-- R210: every replication that read the earlier group entry has finished. -/
def execMcGroupDrained (s : State) : Out := .next (s.setBit Reg.VAT_MC_ACC 28 false)

/-- Whether the pools' counts fit the vat (R194). -/
def State.poolsFit (s : State) : Bool :=
  decide (((List.range 5).map fun k => s.poolCount k * poolCells k).sum ≤ 1572864)

/-- A write of VAT_CTL: MODE changes only while EN is 0 (R196); EN, which the PF alone writes, is refused when the pools
do not fit (R194). Each refusal sets CFGERR. -/
def State.writeVatCtl (s : State) (m : Master) (data : Word) : State :=
  let old := s.reg Reg.VAT_CTL
  let en := fieldOf old 31 31
  let badMode := en = 1 ∧ fieldOf data 30 30 ≠ fieldOf old 30 30
  let wantEn := match m with
    | .pf => fieldOf data 31 31
    | _ => en
  let badEn := en = 0 ∧ wantEn = 1 ∧ s.poolsFit = false
  let s := s.setRW Reg.VAT_CTL 0x3C00FFFF data
  let s := if badMode then s else s.setFld Reg.VAT_CTL 30 30 (fieldOf data 30 30)
  let s := if badEn then s else s.setFld Reg.VAT_CTL 31 31 wantEn
  if badMode ∨ badEn then s.raiseBit Reg.VAT_STAT 31 else s

/-- R196: a write of VAT_CTL with its MODE. -/
def execVatModeWrite (m : Master) (data : Word) (s : State) : Out :=
  .next (s.gated m Reg.VAT_CTL true fun s => s.writeVatCtl m data)

end Sys2Proof.Machine
end

