-- ==== Sys2Proof/Machine/RegRead.lean ====
section
/-!
DEFINITION. RegRead.lean: what a read of any register returns and does (R10, R12, R24 to R30, R35, R370 to R373, R386).
-/

namespace Sys2Proof.Machine

/-- The state a command leaves. -/
def outState (o : Out) (s : State) : State :=
  match o with
  | .next t => t
  | _ => s

/-! ### Values that follow from the rest of the state -/

/-- The number of a record's state (Table 11.6). -/
def RecState.code : RecState → Nat
  | .handling => 1
  | .selftest => 2
  | .repair => 3
  | .done => 4
  | .held => 5
  | .fatal => 6

/-- A fault record's 32 bytes (Table 11.5). -/
def FltRec.bytes (x : FltRec) : List Byte :=
  toLE 2 x.src ++ toLE 1 x.cls.code ++ toLE 1 x.state.code ++ toLE 1 (srcDomain x.src) ++ toLE 1 x.merge ++ toLE 1 x.sec ++
    toLE 1 (x.lasting.toNat + 2 * x.spareUsed.toNat + 4 * x.notest.toNat + 8 * x.recur.toNat + 16 * x.safe.toNat) ++
    toLE 4 x.secmap.toNat ++ toLE 4 x.round ++ toLE 4 x.monoUs ++ toLE 4 x.tile ++ toLE 8 x.detail

/-- FLT_STAT: FATAL, the levels of the ERR pair (Table 11.9) and OPEN beside its flags. -/
def State.fltStat (s : State) : Word :=
  let recs := s.flt.recs.filter fun e => e.1 < 64
  let w := withField (s.reg Reg.FLT_STAT) 31 31 (recs.any fun e => e.2.cls == .fatal).toNat
  withField (withField (withField w 26 26 (!s.errFault).toNat) 25 25 s.errFault.toNat) 6 0 recs.length

/-- The state of key slot k (R411): 0 EMPTY, 1 FUSED, 2 VALID, 3 REVOKED. -/
def State.slotState (s : State) (k : Nat) : Nat :=
  if s.boot.revoked.contains k then 3
  else if k = 0 ∨ (Store.at? s.boot.keys k).isSome then 2
  else if (Store.at? s.boot.hashes k).isSome then 1
  else 0

/-- BOOT_KEYSTAT. DESIGN CHOICE, log entry 3. -/
def State.keyStat (s : State) : Word :=
  BitVec.ofNat 32 (s.boot.floor * 65536 + ((List.range 5).map fun k => s.slotState k * 4 ^ k).sum)

/-- HOST_LSUMn, as a function sees it. -/
def State.linkSum (s : State) (m : Master) (n : Nat) : Word :=
  let sees := fun (p : Nat) => match m with
    | .vf k => s.vfPort k p
    | _ => true
  BitVec.ofNat 32 (((List.range 32).map fun i =>
    if s.bit (Reg.PORT_STAT (32 * n + i)) 31 && sees (32 * n + i) then 2 ^ i else 0).sum)

/-- A global register whose value follows from the rest of the state. -/
def State.globalView (s : State) (m : Master) (a : Nat) : Word :=
  let n := fun (v : Nat) => BitVec.ofNat 32 v
  if 0x30000 ≤ a ∧ a < 0x40000 then
    if a = Reg.FLT_STAT then s.fltStat
    else if 0x31000 ≤ a then
      match s.rec? ((a - 0x31000) / 0x20) with
      | some x => n (leAt x.bytes ((a - 0x31000) % 0x20 / 4 * 4) 4)
      | none => 0
    else s.reg a
  else if 0x40A00 ≤ a ∧ a < 0x40B00 then n (s.lockOwner ((a - 0x40A00) / 4))
  else if a = Reg.PWR_AVS_STAT then withField (s.reg a) 28 28 s.avsActive.toNat
  else if a = Reg.BOOT_KEYSTAT then s.keyStat
  else if a = Reg.LEDG_STAT then withField (withField (s.reg a) 31 31 s.ledger.busy.isSome.toNat) 23 0 s.poh
  else if a = Reg.TIME_CLK1 then n s.clkSec
  else if a = Reg.TIME_CLK2 then n (s.clkSec / 2 ^ 32)
  else if a = Reg.TIME_MONO_LO then n s.time.mono
  else if a = Reg.TIME_MONO_HI then n (s.time.mono / 2 ^ 32)
  else if a = Reg.TBL_MOVE then withField (s.reg a) 15 0 s.nowMs
  else if 0x3000000 ≤ a ∧ a < 0x3000020 then n ((s.press ((a - 0x3000000) / 4)).used * 8192)
  else if a = Reg.VAT_FREE then n (if s.bit Reg.VAT_CTL 31 then s.vatFree else 0)
  else if a = Reg.VAT_STAT then withField (s.reg a) 3 0 (((List.range 4).map fun q => (s.quadEmpty q).toNat * 2 ^ q).sum)
  else if 0x1000030 ≤ a ∧ a < 0x1000044 then n (if s.pail then s.poolFree ((a - 0x1000030) / 4) else 0)
  else if a = Reg.VAT_SKIM_FREE then n s.skimFree
  else if 0x206000 ≤ a ∧ a < 0x206080 then s.linkSum m ((a - 0x206000) / 4)
  else if 0x208000 ≤ a ∧ a < 0x20A000 then s.msixWord ((hostFn m).getD 0) (a - 0x208000)
  else if 0x20C000 ≤ a ∧ a < 0x20C040 then
    n (((List.range 32).map fun i =>
      if s.intr.pba.contains ((hostFn m).getD 0 * 512 + (a - 0x20C000) / 4 * 32 + i) then 2 ^ i else 0).sum)
  else s.reg a

/-- A register's value, those that follow from the rest of the state computed from it. -/
def State.view (s : State) (m : Master) (a : Nat) : Word :=
  let n := fun (v : Nat) => BitVec.ofNat 32 v
  match regPlace a with
  | (.global, _, _) => s.globalView m a
  | (.slice, k, o) =>
    if o = 0x1E0104 then
      let e := s.fld (Reg.SLC_EPOCH k) 27 24
      n (min 65535 (s.inflIng k e) * 65536 + min 65535 (s.inflEg k e))
    else if 0x1A0040 ≤ o ∧ o < 0x1A0080 then
      n (if o % 8 = 0 then s.resident k ((o - 0x1A0040) / 8) else s.skimUse k ((o - 0x1A0040) / 8))
    else s.reg a
  | (.port, p, o) =>
    let e := (s.port p).tsq.head?
    if o = 0x14 then withField (s.reg a) 19 16 (s.speed p)
    else if o = 0x28 then
      match e with
      | some x => withField (s.reg a) 31 31 1 ||| n (x.msg % 16 * 2 ^ 24 + x.dom % 256 * 65536 + x.seqId % 65536)
      | none => s.reg a
    else if o = 0x2C then n ((e.map (·.ns)).getD 0)
    else if o = 0x30 then n ((e.map (·.sec)).getD 0)
    else s.reg a
  | (.lane, l, o) =>
    if o = 8 then withField (s.reg a) 19 16 (if s.laneRate l = 425 then 1 else 2) else s.reg a
  | (.engine, _, _) => s.reg a

/-! ### Words wider than 32 bits (R30) -/

/-- Whether an address is the low word of a value held in two registers. DEDUCED, log entry 11. -/
def isWideLow (a : Nat) : Bool :=
  match regPlace a with
  | (.global, _, o) =>
    o == Reg.TIME_MONO_LO || o == Reg.BOOT_ADDR_LO || (decide (0x5000400 ≤ o ∧ o < 0x5000600) && o % 8 == 0) ||
      (decide (0x210000 ≤ o ∧ o < 0x220000) && (o % 256 == 8 || o % 256 == 0x10))
  | (.slice, _, o) => o == 0x1E0004 || o == 0x170010 || o == 0x170018
  | (.port, _, o) => decide (0x200 ≤ o ∧ o < 0x220) && o % 8 == 0
  | (.lane, _, o) => o == 0x20 || o == 0x28
  | (.engine, _, _) => false

/-! ### Reads -/

/-- The bits of a register that read as it stands: all but RSVD and WO ones. -/
def RegDesc.seen (d : RegDesc) : Word := BitVec.ofNat 32 (d.ro ||| d.rw ||| d.w1c ||| d.rc)

/-- The word a read of a register returns, its RC fields cleared to their reset value by it (R10, R12). The low word of a
wide value captures the high one, both cleared where they are RC; a high word is read from the master's holding copy, if
it has one (R30). DEDUCED, log entry 14. -/
def State.readWord (s : State) (m : Master) (a : Nat) : Word × State :=
  match regAt a with
  | none => (0, s)
  | some d =>
    let rc := BitVec.ofNat 32 d.rc
    let clear := fun (t : State) (b : Nat) => t.setReg b ((t.reg b &&& ~~~ rc) ||| (regReset b &&& rc))
    let w := s.view m a &&& d.seen
    if isWideLow a then
      let s := s.hold m (a + 4) (s.view m (a + 4))
      (w, if d.rc = 0 then s else clear (clear s a) (a + 4))
    else
      match s.takeHold m a with
      | some (h, s) => (h, s)
      | none => (w, if d.rc = 0 then s else clear s a)

/-- A read that a mailbox or doorbell refuses under R386 returns 0. -/
def State.mbxRead (s : State) (m : Master) (may : Bool) (index a : Nat) (run : State → Word × State) : State :=
  if may then
    let (w, s) := run s
    s.answer [w]
  else (s.mbxRefuse m index a).answer [0]

/-- Word j of mailbox i's message: word 0 captures it (R388), the others come from the holding copy. -/
def State.messageRead (s : State) (m : Master) (i j : Nat) : State :=
  if j = 0 then outState (execMbxMessageRead m (Fin.ofNat 256 i) s) s
  else s.mbxRead m (s.mbxReceiver i m) i (Reg.MBX_MSG i j) fun s => (((Store.at? s.mbx.hold i).getD []).getD j 0, s)

/-- A master's read of one register: its confinement, its power domain and its access codes (R10, R62, R373). The answer is
the word read. -/
def State.busRead (s : State) (m : Master) (a : Nat) : State :=
  let plain := fun (t : State) => ((t.answer [0]).gated m a false fun t =>
    let (w, t) := t.readWord m a
    t.answer [w])
  match regPlace a with
  | (.global, _, _) =>
    if 0x40800 ≤ a ∧ a < 0x40900 then outState (execLockRead m (Fin.ofNat 64 ((a - 0x40800) / 4)) s) s
    else if 0x40A00 ≤ a ∧ a < 0x40B00 ∧ lockAvailable m ((a - 0x40A00) / 4) = false then
      (s.lockViolation m ((a - 0x40A00) / 4)).answer [0xFFFF]
    else if 0x40A00 ≤ a ∧ a < 0x40B00 then s.answer [s.globalView m a]
    else if 0x41400 ≤ a ∧ a < 0x41800 then
      let i := (a - 0x41400) / 4
      s.mbxRead m (s.mbxSender i m || s.mbxReceiver i m) i a fun s => s.readWord m a
    else if 0x44000 ≤ a ∧ a < 0x48000 then s.messageRead m ((a - 0x44000) / 0x40) ((a - 0x44000) % 0x40 / 4)
    else if 0x48000 ≤ a ∧ a < 0x4C000 then
      let i := (a - 0x48000) / 0x40
      s.mbxRead m (s.mbxSender i m) i a fun s => s.readWord m a
    else if 0x40D00 ≤ a ∧ a < 0x40E00 then
      let d := (a - 0x40D00) / 4
      s.mbxRead m (s.dbRinger d m || s.dbTarget d m) (256 + d) a fun s => s.readWord m a
    else if a = Reg.TIME_CLK0 then outState (execClockRead m s) s
    else if a = Reg.TIME_PPSIN0 then outState (execPpsinRead m s) s
    else if a = Reg.LEDG_DATA then outState (execLedgerDataRead m s) s
    else if a = Reg.TBL_FLAP_REC0 then outState (execFlapRecRead m s) s
    else plain s
  | (.port, p, _) => if s.assigned p then plain s else (s.answer [0]).gated m a false id
  | _ => plain s

end Sys2Proof.Machine
end

