-- ==== Sys2Proof/Machine/RegWrite.lean ====
section
/-!
DEFINITION. RegWrite.lean: what a write of any register does (R10, R14, R24 to R29, R370 to R373, R440): each register
whose write is a command of its own acts as that command, every other by its access codes.
-/

namespace Sys2Proof.Machine

/-! ### Fields written under a condition (R14) -/

/-- The fields of a register written only while an enable is 0, and that enable: register and bit. -/
def condField (a : Nat) : Option (Word × Nat × Nat) :=
  match regPlace a with
  | (.global, _, _) =>
    if 0x1000010 ≤ a ∧ a < 0x1000024 then some (0x001FFFFF, Reg.VAT_CTL, 31)
    else if a = Reg.TBL_CTL then some (0x40000000, Reg.TBL_CTL, 31)
    else if a = Reg.TBL_HSEED1 ∨ a = Reg.TBL_HSEED2 then some (0xFFFFFFFF, Reg.TBL_CTL, 31)
    else if a = Reg.PAIR_OWN then some (0x001FFFFF, Reg.PAIR_CTL, 31)
    else if 0x210000 ≤ a ∧ a < 0x220000 ∧ 4 ≤ a % 256 ∧ a % 256 < 0x18 then
      some (0xFFFFFFFF, Reg.HOST_QP_CTL ((a - 0x210000) / 256), 31)
    else none
  | _ => none

/-- The data of a write with its conditional fields as they stand, where their condition does not hold. -/
def State.condData (s : State) (a : Nat) (data : Word) : Word :=
  match condField a with
  | some (mask, r, b) => if s.bit r b then (data &&& ~~~ mask) ||| (s.reg a &&& mask) else data
  | none => data

/-- A write by the access codes alone: fields of the PF (R440), conditional fields (R14), RW and W1C fields (R10). A written
high word takes the place of the holding copies of it, so that a later read returns it (R24). -/
def State.codeWrite (s : State) (m : Master) (a : Nat) (data : Word) : State :=
  match regAt a with
  | none => s
  | some d =>
    s.pfBits m a (BitVec.ofNat 32 d.pf) data fun s data =>
      let s := s.plainWrite a (s.condData a data)
      { s with holds := Store.keep (fun k => k % 2 ^ 28 != a) s.holds }

/-- A write of an access register: RD reads, else WR writes, else the fields take their values. -/
def State.accWrite (s : State) (m : Master) (a : Nat) (data : Word) (rd wr : State → Out) : State :=
  if fieldOf data 30 30 = 1 then outState (rd s) s
  else if fieldOf data 31 31 = 1 then outState (wr s) s
  else s.gated m a true fun s => s.codeWrite m a data

/-! ### Blocks -/

/-- A granted write to the BOOT, FLT, TIME and LEDG registers. DESIGN CHOICE, log entry 16. -/
def State.bootFltWrite (s : State) (m : Master) (a : Nat) (data : Word) : State :=
  let b := fun (i : Nat) => fieldOf data i i == 1
  if a = Reg.BOOT_CMD then (if b 29 then s.setBit a 29 false else s).bootCmd m (fieldOf data 3 0) (fieldOf data 11 8)
  else if a = Reg.FLT_FIRST then (if b 31 then s.firstClear else s)
  else if a = Reg.FLT_REC_CMD then
    let r := fieldOf data 5 0
    let s := if b 31 then s.recClose r else s
    let s := if b 30 then s.recRelease r else s
    if b 29 then s.recRepair r else s
  else if a = Reg.TIME_CTL then s.timeCtlWrite data
  else if a = Reg.TIME_STEP then s.clockStep data
  else if a = Reg.LEDG_CTL then (if b 31 then s.ledgerFlush else s)
  else s.codeWrite m a data

/-- A write to the DEV, PWR, BOOT, FLT, TIME and LEDG registers. DESIGN CHOICE, log entry 16. -/
def State.aonWrite (s : State) (m : Master) (a : Nat) (data : Word) : State :=
  let b := fun (i : Nat) => fieldOf data i i == 1
  if a = Reg.BOOT_ATTCTL ∧ b 30 then outState (execAttestRelease m s) s
  else s.gated m a true fun s =>
    if a = Reg.DEV_RST then
      let s := match m with
        | .pf => s.setBit a 28 (b 28)
        | _ => s
      let s := outState (execEng m (BitVec.ofNat 4 (fieldOf data 27 24)) s) s
      let s := if b 30 then outState (execShutdown m s) s else s
      if b 31 then outState (execCore m s) s else s
    else if a = Reg.PWR_AVS_LIMIT then (s.codeWrite m a data).avsJudgeLimits
    else if a = Reg.PWR_AVS_STAT then (if b 31 then outState (execAvsBuserrClear m s) s else s)
    else if 0x10400 ≤ a ∧ a < 0x10650 then (s.plainWrite a (data &&& 0x40000000)).domRequest m ((a - 0x10400) / 4) (b 31)
    else s.bootFltWrite m a data

/-- A write of MBX_STATm: either party's W1C bits, and the sender's POST (R386, R387). DESIGN CHOICE, log entry 17. -/
def State.mbxStatWrite (s : State) (m : Master) (i : Nat) (data : Word) : State :=
  let a := Reg.MBX_STAT i
  let post := data.msb
  let s1 := if s.mbxSender i m || s.mbxReceiver i m then s.plainWrite a (data &&& 0x34000000) else s
  if post then outState (execMbxPost m (Fin.ofNat 256 i) s1) s1
  else if s.mbxSender i m || s.mbxReceiver i m then s1
  else s.mbxRefuse m i a

/-- A write to the MBX block. -/
def State.mbxWrite (s : State) (m : Master) (a : Nat) (data : Word) : State :=
  if 0x40800 ≤ a ∧ a < 0x40900 then outState (execLockWrite m (Fin.ofNat 64 ((a - 0x40800) / 4)) data s) s
  else if a = Reg.MBX_LOCK_CTL then
    s.gated m a true fun s =>
      let s := s.plainWrite a data
      if fieldOf data 8 8 = 1 then outState (execLockForce m (Fin.ofNat 64 (fieldOf data 5 0)) s) s else s
  else if 0x40A00 ≤ a ∧ a < 0x40B00 then
    if lockAvailable m ((a - 0x40A00) / 4) then s else s.lockViolation m ((a - 0x40A00) / 4)
  else if 0x40C00 ≤ a ∧ a < 0x40D00 then outState (execDoorbellCfgWrite m (Fin.ofNat 64 ((a - 0x40C00) / 4)) data s) s
  else if 0x40D00 ≤ a ∧ a < 0x40E00 then
    let d := (a - 0x40D00) / 4
    if s.dbRinger d m then outState (execDoorbellRing m (Fin.ofNat 64 d) data s) s
    else outState (execDoorbellClear m (Fin.ofNat 64 d) data s) s
  else if 0x41000 ≤ a ∧ a < 0x41400 then outState (execMbxCfgWrite m (Fin.ofNat 256 ((a - 0x41000) / 4)) data s) s
  else if 0x41400 ≤ a ∧ a < 0x41800 then s.mbxStatWrite m ((a - 0x41400) / 4) data
  else if 0x44000 ≤ a ∧ a < 0x48000 then
    let i := (a - 0x44000) / 0x40
    if s.mbxReceiver i m then s else s.mbxRefuse m i a
  else if 0x48000 ≤ a ∧ a < 0x4C000 then
    let i := (a - 0x48000) / 0x40
    if s.mbxSender i m then s.plainWrite a data else s.mbxRefuse m i a
  else s.gated m a true fun s => s.codeWrite m a data

/-- A write of a word of a function's MSI-X table; a vector that is unmasked sends what its pending bit holds (R383). -/
def State.msixWrite (s : State) (m : Master) (o : Nat) (data : Word) : State :=
  let fn := (hostFn m).getD 0
  if o % 16 = 12 then
    if fieldOf data 0 0 = 0 then
      let t := outState (execMsixUnmask (if fn = 0 then .pf else m) (Fin.ofNat 512 (o / 16)) s) s
      { t with intr := { t.intr with msix := Store.set t.intr.msix (fn * 0x8000 + o) 0 } }
    else { s with intr := { s.intr with msix := Store.set s.intr.msix (fn * 0x8000 + o) 1 } }
  else { s with intr := { s.intr with msix := Store.set s.intr.msix (fn * 0x8000 + o) data } }

/-- A write of HOST_IRTs: a VF writes EN and VEC of the sources whose target it is, VF_EN and VF_VEC of its slice's
(R382). DEDUCED, log entry 18. -/
def State.irtWrite (s : State) (m : Master) (src : Nat) (data : Word) : State :=
  let a := Reg.HOST_IRT src
  match m with
  | .vf n =>
    let mine : Word := if s.sourceTarget src = some (.inl (1 + n.val)) then 0x800001FF else 0
    let slice : Word := if 1096 ≤ src ∧ (src - 1096) / 4 = n.val then 0x7C000000 else 0
    let may := mine ||| slice
    let s1 := if (data ^^^ s.reg a) &&& 0xFC0001FF &&& ~~~ may = 0 then s else s.vfViolation n 12 a
    s1.setReg a ((s1.reg a &&& ~~~ may) ||| (data &&& may))
  | _ => s.plainWrite a data

/-- A write to the HOST block. -/
def State.hostWrite (s : State) (m : Master) (a : Nat) (data : Word) : State :=
  s.gated m a true fun s =>
    if 0x204000 ≤ a ∧ a < 0x205320 then s.irtWrite m ((a - 0x204000) / 4) data
    else if 0x208000 ≤ a ∧ a < 0x20A000 then s.msixWrite m (a - 0x208000) data
    else if 0x210000 ≤ a ∧ a < 0x220000 then
      let h := (a - 0x210000) / 256
      if a % 256 = 0 then s.qpCtlWrite m h data
      else if a % 256 = 0x18 then s.tailWrite h false data
      else if a % 256 = 0x1C then s.tailWrite h true data
      else s.codeWrite m a data
    else s.codeWrite m a data

/-- A write to the PAIR, VAT, TBL, TELE and FLOW blocks. -/
def State.coreWrite (s : State) (m : Master) (a : Nat) (data : Word) : State :=
  if a = Reg.VAT_QACC then s.accWrite m a data (execQueueRead m data) (execQueueSettingsWrite m data)
  else if a = Reg.VAT_MC_ACC then
    let s := if m.trusted && fieldOf data 29 29 == 1 then s.setBit a 29 false else s
    s.accWrite m a (data &&& 0xDFFFFFFF) (execMcEntryRead m data) (execMcEntryWrite m data)
  else if a = Reg.FLOW_ACC then s.accWrite m a data (execFlowAccRead m data) (execFlowAccWrite m data)
  else
    s.gated m a true fun s =>
      if a = Reg.PAIR_CTL then s.pairCtlWrite data
      else if a = Reg.PAIR_CMD then
        let s := if fieldOf data 31 31 = 1 then s.pairTakeover else s
        if fieldOf data 30 30 = 1 then s.pairResync else s
      else if a = Reg.PAIR_MCFG0 then s.pairRateWrite 0 data
      else if a = Reg.PAIR_MCFG1 then s.pairRateWrite 1 data
      else if a = Reg.VAT_CTL then s.writeVatCtl m data
      else if a = Reg.TBL_TU_CMD then s.tuWrite m 32 data
      else if 0x2000100 ≤ a ∧ a < 0x2000180 then s.missRateWrite ((a - 0x2000100) / 4) data
      else if a = Reg.TELE_HIST_CMD then s.histWrite data
      else if a = Reg.FLOW_CTL then s.flowCtlWrite m data
      else if 0x6000100 ≤ a ∧ a < 0x6000180 then s.flowRateWrite m ((a - 0x6000100) / 4) data
      else s.codeWrite m a data

/-- The loader's command of a write to SLC_BS_CMD (Table 02.9). -/
def execLoaderCmd (m : Master) (n : Fin 32) (cmd : Nat) (s : State) : Out :=
  match cmd with
  | 1 => execLoad m n s
  | 2 => execVerify m n s
  | 3 => execSwap m n s
  | 4 => execDiscard m n s
  | 5 => execForceRetire m n s
  | 6 => execAbort m n s
  | _ => execLoaderCmdReserved m n (Fin.ofNat 16 cmd) s

/-- A write to the registers of slice k at offset `o`. -/
def State.sliceWrite (s : State) (m : Master) (k o a : Nat) (data : Word) : State :=
  let n : Fin 32 := Fin.ofNat 32 k
  let b := fun (i : Nat) => fieldOf data i i == 1
  if o = 0x1E0010 then
    s.gated m a true fun s => outState (execLoaderCmd m n (fieldOf data 3 0) s) s
  else if o = 0x1E1004 then
    s.gated m a true fun s => if b 31 then outState (execRindCommit m n (Fin.ofNat 16 (fieldOf data 3 0)) s) s else s
  else if o = 0x1E1008 then
    s.gated m a true fun s =>
      let s := s.plainWrite a (data &&& 0x00FF0000)
      outState (execQuarantineRelease m n (BitVec.ofNat 8 (fieldOf data 31 24)) s) s
  else if o = 0x1D0010 then s.accWrite m a data (execLbEntryRead m n data) (execLbEntryWrite m n data)
  else if 0x1D0100 ≤ o ∧ o < 0x1D0180 ∧ o % 8 = 4 then
    outState (execMirrorCfg1Write m n (Fin.ofNat 16 ((o - 0x1D0100) / 8)) data s) s
  else if o = 0x1C0000 then s.accWrite m a data (execCsWordRead m n data) (execCsWordWrite m n data)
  else if o = 0x1C0020 then
    s.gated m a true fun s =>
      let s := s.codeWrite m a data
      if b 31 then s.setBit a 30 true else s
  else if o = 0x1B0000 then s.gated m a true fun s => s.tuWrite m k data
  else if o = 0x190010 then s.accWrite m a data (execMeterConfigRead m n data) (execMeterConfigWrite m n data)
  else if o = 0x170000 then s.accWrite m a data (execCounterRead m n data) (execCounterWrite m n data)
  else s.gated m a true fun s => s.codeWrite m a data

/-- A write to the registers of front port p at offset `o`; an unassigned port's are ignored (R229). -/
def State.portRegWrite (s : State) (m : Master) (p o a : Nat) (data : Word) : State :=
  s.portWrite m p a fun s =>
    if o = 0 then s.portCtlWrite p data
    else if o = 4 then (if p % 8 = 0 then s.octetWrite (p / 8) data else s)
    else if o = 0x10 then s.ctWrite p data
    else if o = 0x28 then s.tsqWrite p data
    else s.codeWrite m a data

/-- A write to the registers of lane l at offset `o`. -/
def State.laneRegWrite (s : State) (m : Master) (l o a : Nat) (data : Word) : State :=
  s.gated m a true fun s =>
    if o = 0 then s.laneCtlWrite l data
    else if o = 4 then s.txfirWrite l data
    else if o = 0x10 then s.lanePatWrite l data
    else if o = 0x44 then s.margWrite l data
    else s.codeWrite m a data

/-- A write to the registers of engine k at offset `o`. -/
def State.engRegWrite (s : State) (m : Master) (k o a : Nat) (data : Word) : State :=
  s.gated m a true fun s =>
    if o = 0 then s.mgeCtlWrite m k data
    else if o = 0x10 then (if fieldOf data 30 30 = 1 then s.engStoreRead k data else s.codeWrite m a data)
    else s.codeWrite m a data

/-- A master's write of one register. -/
def State.busWrite (s : State) (m : Master) (a : Nat) (data : Word) : State :=
  match regPlace a with
  | (.slice, n, o) => s.sliceWrite m n o a data
  | (.port, p, o) => s.portRegWrite m p o a data
  | (.lane, l, o) => s.laneRegWrite m l o a data
  | (.engine, k, o) => s.engRegWrite m k o a data
  | (.global, _, _) =>
    if a = Reg.MGE_DUTYMAP then outState (execDutymapWrite m data s) s
    else if 0x40000 ≤ a ∧ a < 0x50000 then s.mbxWrite m a data
    else if a < 0x70000 then s.aonWrite m a data
    else if 0x200000 ≤ a ∧ a < 0x300000 then s.hostWrite m a data
    else s.coreWrite m a data

end Sys2Proof.Machine
end

