-- ==== Sys2Proof/Machine/Access.lean ====
section
/-!
DEFINITION. Access.lean: register accesses of the masters (R10 to R14, R24 to R30, R370 to R373).
-/

namespace Sys2Proof.Machine

/-- An access to an offset outside every block of Table 13.2 (R372): the PF's sets UNMAP and is captured in HOST_UNMAP
when UNMAP was 0; a VF's is a violation of kind REG; an engine's does nothing. -/
def State.unmapped (s : State) (m : Master) (a : Nat) : State :=
  match m with
  | .pf =>
    let s := if s.bit Reg.HOST_STAT 31 then s else s.setReg Reg.HOST_UNMAP (BitVec.ofNat 32 (a % 2 ^ 28))
    s.raiseHostStat 31
  | .vf n => s.vfViolation n 12 a
  | .me _ => s

/-- R24: a master writes a register; a 32-bit word at an aligned address (R9, R371). -/
def execRegisterWrite (m : Master) (addr : Nat) (data : Word) (s : State) : Out :=
  if mapped addr then .next (s.busWrite m (addr / 4 * 4) data) else .next (s.unmapped m addr)

/-- R30: the low word of a value wider than 32 bits is read, and its high word is captured for the same master. Of any
other register the read returns its value. -/
def execWideLowRead (m : Master) (addr : Nat) (s : State) : Out :=
  if mapped addr then .next (s.busRead m (addr / 4 * 4)) else .next ((s.unmapped m addr).answer [0])

/-- R12: a register is read; its RC fields return their values and are cleared to their reset values.
DEDUCED, log entry 13. -/
def execClearOnRead (m : Master) (addr : Nat) (s : State) : Out :=
  if mapped addr then .next (s.busRead m (addr / 4 * 4)) else .next ((s.unmapped m addr).answer [0])

/-- R372: an access to an unmapped offset discards the write or returns 0. -/
def execUnmappedAccess (m : Master) (addr : Nat) (write : Bool) (s : State) : Out :=
  if mapped addr then .next s
  else
    let t := s.unmapped m addr
    .next (if write then t else t.answer [0])

/-- R371: a host request of a refused shape discards the write, or returns 0 for every DWORD of the read; BADACC is set. An
engine makes no such request. DEDUCED, log entry 23. -/
def execBadShapeRequest (m : Master) (write : Bool) (dwords : Nat) (s : State) : Out :=
  match hostFn m with
  | none => .next s
  | some _ =>
    let t := s.raiseHostStat 30
    .next (if write then t else t.answer (List.replicate dwords 0))

end Sys2Proof.Machine
end

