-- ==== Sys2Proof/Machine/Engine.lean ====
section
/-!
DEFINITION. Engine.lean: a management engine executes its microwords (R136 to R140, R143): its spaces, its journal and its
sequencing.
-/

namespace Sys2Proof.Machine

/-! ### Spaces (Table 04.10, SPACE) -/

/-- The number of bytes of each space of 64-byte entries and of the memories; space 0 is judged by the register map.
DESIGN CHOICE, log entry 79. -/
def spaceSize (space : Nat) : Nat :=
  match space with
  | 1 => 2 ^ 18
  | 2 => 2 ^ 31
  | 4 => 2 ^ 26
  | 5 => 144 * 2 ^ 30
  | 6 => 2 ^ 29
  | _ => 0

/-- `n` bytes the spec does not give. -/
def State.freeBytes (s : State) (n : Nat) : List Byte × State :=
  ((List.range n).map fun i => Config.freeByte (s.fresh + i), { s with fresh := s.fresh + n })

/-- `n` bytes of a space of 64-byte entries. -/
def entryBytes (entry : Nat → List Byte) (a n : Nat) : List Byte :=
  bytesAt (bytesAt (entry (a / 64)) 0 64 ++ bytesAt (entry (a / 64 + 1)) 0 64) (a % 64) n

/-- Engine k reads a register; the word stands in the engine alone. -/
def State.engRegister (s : State) (k a : Nat) : List Byte × State :=
  let t := if mapped a then s.busRead (.me (Fin.ofNat 4 k)) (a / 4 * 4) else s.answer [0]
  (toLE 4 (t.reply.headD 0).toNat, { t with reply := s.reply })

/-- A byte of the linear HBM space: what an engine stored there, else a value the spec does not give.
DESIGN CHOICE, log entry 4; DESIGN CHOICE, log entry 80. -/
def State.hbmBytes (s : State) (a n : Nat) : List Byte × State :=
  ((List.range n).map fun i => (Store.at? s.hbm (a + i)).getD (Config.freeByte (s.fresh + i)), { s with fresh := s.fresh + n })

/-- Engine k loads `n` bytes from a space. Route banks have no layout in the spec, and nothing is stated for addresses
beyond a space's end: those bytes are free. DESIGN CHOICE, log entry 79. -/
def State.engRead (s : State) (k space a n : Nat) : List Byte × State :=
  if space = 0 then s.engRegister k a
  else if spaceSize space < a + n then s.freeBytes n
  else
    match space with
    | 1 => (getBytes (s.engine k).ram a n, s)
    | 2 => (entryBytes s.epAt a n, s)
    | 4 => (entryBytes s.flowGet a n, s)
    | 5 => s.hbmBytes a n
    | 6 => (getBytes (s.slice (a / 2 ^ 24)).matchMem (a % 2 ^ 24) n, s)
    | _ => s.freeBytes n

/-- Bytes of one endpoint slot replaced; an image with VALID = 0 empties it. DESIGN CHOICE, log entry 81. -/
def State.engSlot (s : State) (i off : Nat) (l : List Byte) : State :=
  let e := overlay (bytesAt (s.epAt i) 0 64) off l
  if epValid e then s.epWrite i e else s.epClear i

/-- Bytes of one flow context replaced. -/
def State.engFlow (s : State) (i off : Nat) (l : List Byte) : State := s.flowPut i (overlay (bytesAt (s.flowGet i) 0 64) off l)

/-- A store into a space of 64-byte entries: the entry it starts in, and the next one when it reaches it. -/
def State.entryStore (s : State) (a : Nat) (l : List Byte) (one : State → Nat → Nat → List Byte → State) : State :=
  let n := 64 - a % 64
  let s := one s (a / 64) (a % 64) (l.take n)
  if l.length ≤ n then s else one s (a / 64 + 1) 0 (l.drop n)

/-- A store into the route banks: which entry it changes, and to what, follows from a layout the spec does not give.
DESIGN CHOICE, log entry 80. -/
def State.engRoute (s : State) : State :=
  let v := fun (i : Nat) => Config.freeNat (s.fresh + i)
  let r : Route := { af := v 2, plen := v 3, vrf := v 4, addr := v 5, nhop := v 6, opc := v 7, seq := v 8 }
  let b := v 0 % 8
  let p := s.press b
  let i := v 1 % (p.routes.length + 1)
  let s := { s with fresh := s.fresh + 9 }
  s.setPress b { p with routes := p.routes.take i ++ r :: p.routes.drop (i + 1) }

/-- Engine k stores bytes into a space; beyond a space's end nothing is stored.
DESIGN CHOICE, log entry 79; DESIGN CHOICE, log entry 80. -/
def State.engWrite (s : State) (k space a : Nat) (l : List Byte) : State :=
  if space = 0 then
    (if mapped a then s.busWrite (.me (Fin.ofNat 4 k)) (a / 4 * 4) (BitVec.ofNat 32 (leAt l 0 4)) else s)
  else if space = 3 then s.engRoute
  else if spaceSize space < a + l.length then s
  else
    match space with
    | 1 => s.setEngine k { s.engine k with ram := putBytes (s.engine k).ram a l }
    | 2 => s.entryStore a l State.engSlot
    | 4 => s.entryStore a l State.engFlow
    | 5 => { s with hbm := (List.range l.length).foldl (fun h i => Store.set h (a + i) (l.getD i 0)) s.hbm }
    | 6 => s.setSlice (a / 2 ^ 24) { s.slice (a / 2 ^ 24) with
        matchMem := putBytes (s.slice (a / 2 ^ 24)).matchMem (a % 2 ^ 24) l }
    | _ => s

/-! ### The microword (Table 04.10) -/

/-- The memory operation of a microword: 0 none, 1 LOAD, 2 STORE. -/
def engMemop (w : Nat) : Nat :=
  let m := bitsOf w 141 136
  if (m = 1 ∨ m = 2) ∧ bitsOf w 131 128 < 7 then m else 0

/-- Bytes a microword's memory operation moves; the register space has 4-byte accesses only. -/
def engSize (w : Nat) : Nat :=
  if bitsOf w 131 128 = 0 then 4
  else
    match bitsOf w 135 134 with
    | 1 => 8
    | 2 => 64
    | _ => 4

/-- The address of a microword's memory operation. -/
def Engine.address (e : Engine) (w : Nat) : Nat := (e.reg (bitsOf w 158 154)).toNat + bitsOf w 31 0

/-- The address wraps at 64 bits. -/
def Engine.addressOf (e : Engine) (w : Nat) : Nat := e.address w % 2 ^ 64

/-- The engine and the microword it is about to execute: it runs, does not wait, has not ended the microword's operation,
and does not stand at a boundary where it halts (R146). -/
def State.engAt (s : State) (k : Nat) : Option (Engine × Nat) :=
  let e := s.engine k
  if s.engRuns k && !e.waiting && !e.opDone && !(e.haltReq && e.atBoundary) then some (e, e.word e.upc) else none

/-- R143: the engine has fetched a word with bad parity. DEDUCED, log entry 87. -/
def State.engMachineCheck (s : State) (k key : Nat) : State :=
  let s := (s.engHalt k).setBit (Reg.MGE_STAT k) 30 true
  (s.setEngine k { s.engine k with blocked := true }).reportFault (srcId 6 k) .cont .storeWord key 0

/-- Whether the engine's fetch of a word of its store fails (MGE_CTL.PARITY). DESIGN CHOICE, log entry 74. -/
def State.engBad (s : State) (k key : Nat) : Bool := s.bit (Reg.MGE_CTL k) 30 && (s.engine k).bad.contains key

/-- The microword is fetched unless it has been; `run` executes it, or the machine check halts the engine (R143). -/
def State.engFetch (s : State) (k : Nat) (run : State → State) : State :=
  let e := s.engine k
  if e.memDone then run s
  else
    let s := s.setFld (Reg.MGE_STAT k) 13 0 e.upc
    if s.engBad k e.upc then s.engMachineCheck k e.upc else run s

/-- R138: a step write that may not be, a 17th write or 256 microsteps without a STEP. DEDUCED, log entry 87. -/
def State.stepError (s : State) (k : Nat) : State :=
  ((s.engHalt k).setBit (Reg.MGE_STAT k) 29 true).reportFault (srcId 6 k) .cont .logic 0 0

/-! ### Memory operations -/

/-- A held write seen by a load of `l` from an address of a space (R138). -/
def StepWrite.ovr (x : StepWrite) (space a : Nat) (l : List Byte) : List Byte :=
  if x.space = space then
    (List.range l.length).map fun i =>
      if x.addr ≤ a + i ∧ a + i < x.addr + x.bytes.length then x.bytes.getD (a + i - x.addr) 0 else l.getD i 0
  else l

/-- The LOAD of engine k's microword. -/
def State.engLoad (s : State) (k w : Nat) : State :=
  let e := s.engine k
  let space := bitsOf w 131 128
  let a := e.addressOf w
  let (l, s) := s.engRead k space a (engSize w)
  let e := s.engine k
  let l := e.held.foldl (fun l x => x.ovr space a l) l
  let rd := bitsOf w 163 159
  let e := if l.length = 64 then { e with eb := putBytes e.eb (64 * (rd % 4)) l }
    else { e with loaded := some (rd, BitVec.ofNat 64 (leNat l)) }
  if s.engRuns k then s.setEngine k { e with memDone := true } else s

/-- The STORE of engine k's microword: a step write while a journal is open, in spaces 2 to 6. -/
def State.engStore (s : State) (k w : Nat) : State :=
  let e := s.engine k
  let space := bitsOf w 131 128
  let a := e.addressOf w
  let n := engSize w
  let l := if n = 64 then getBytes e.eb (64 * (bitsOf w 163 159 % 4)) 64 else toLE n (e.reg (bitsOf w 153 149)).toNat
  if e.jopen && decide (2 ≤ space) then
    if 16 ≤ e.held.length then s.stepError k
    else s.setEngine k { e with held := e.held ++ [⟨space, a, l⟩], memDone := true }
  else
    let s := s.engWrite k space a l
    if s.engRuns k then s.setEngine k { s.engine k with memDone := true } else s

/-- A microword's memory operation, when it is the engine's next. -/
def State.engMem (s : State) (k op : Nat) (run : State → State) : State :=
  match s.engAt k with
  | none => s
  | some (e, w) => if engMemop w = op ∧ e.memDone = false then s.engFetch k run else s

/-- R136: LOAD. -/
def execEngineLoad (k : Fin 4) (s : State) : Out :=
  .next (s.engMem k 1 fun t => t.engLoad k ((s.engine k).word (s.engine k).upc))

/-- R136, R138: STORE. -/
def execEngineStore (k : Fin 4) (s : State) : Out :=
  .next (s.engMem k 2 fun t => t.engStore k ((s.engine k).word (s.engine k).upc))

/-! ### The journal (R137, R138) -/

/-- R137: a journal is opened for a routine. -/
def State.journalOpen (s : State) (k routine : Nat) : State :=
  let e := s.engine k
  if e.jopen then s
  else
    ((s.setEngine k { e with jopen := true, routine := routine, steps := 0, stepNo := 0, held := [], jlog := [] }).setBit
      (Reg.MGE_STAT k) 26 true).setFld (Reg.MGE_JRNL k) 31 16 routine

/-- The journal is closed. -/
def State.journalClose (s : State) (k : Nat) : State :=
  (s.setEngine k { s.engine k with jopen := false, held := [], steps := 0, afterStep := false }).setBit (Reg.MGE_STAT k) 26 false

/-- R138: the step's record, its held writes in issue order, then DONE. DEDUCED, log entry 83. -/
def State.stepCommit (s : State) (k : Nat) : State :=
  let e := s.engine k
  let no := (e.stepNo + 1) % 65536
  let r : JRec := { routine := e.routine, step := no, state := 1, nwr := e.held.length, args := bytesAt e.jlog 0 24 }
  let s := s.setEngine k { e with records := Store.set e.records (e.nextRec % 64) r, nextRec := e.nextRec + 1 }
  let s := e.held.foldl (fun (t : State) x => t.engWrite k x.space x.addr x.bytes) s
  let d := s.engine k
  let s := s.setEngine k { d with
    records := Store.set d.records (e.nextRec % 64) { r with state := 2 }
    held := [], jlog := [], steps := 0, stepNo := no, afterStep := true }
  s.setReg (Reg.MGE_JRNL k) (BitVec.ofNat 32 (e.routine * 65536 + 2 * 16384 + no % 16384))

/-! ### Operations and sequencing -/

/-- The condition of a microword (COND, CINV); 6 and above act as 0. -/
def Engine.cond (e : Engine) (w : Nat) : Bool :=
  (match bitsOf w 147 144 with
    | 1 => e.z
    | 2 => e.n
    | 3 => e.c
    | 4 => e.hit
    | 5 => e.err
    | _ => true) != (bitsOf w 143 143 == 1)

/-- Flags of a result. DEDUCED, log entry 22. -/
def Engine.flags (e : Engine) (r : Nat × Bool) : Engine := { e with z := r.1 == 0, n := r.1.testBit 63, c := r.2 }

/-- The registers and flags after a microword's operations: every operand is read first; OP's result, what its LOAD
brought and OP2's result are written in that order (Table 04.10). DEDUCED, log entry 82. -/
def Engine.operate (e : Engine) (w : Nat) : Engine :=
  let g := fun (hi lo : Nat) => (e.reg (bitsOf w hi lo)).toNat
  let op := bitsOf w 171 164
  let op2 := bitsOf w 63 56
  let imm := bitsOf w 127 64
  let r := aluResult op 64 (g 158 154) (if bitsOf w 148 148 = 1 then imm else g 153 149)
  let r2 := aluResult op2 64 (g 50 46) (g 45 41)
  let rd := bitsOf w 163 159
  let x := if setsFlags op (bitsOf w 142 142 == 1) then e.flags r else e
  let x := if op2 = 9 then x.flags r2 else x
  let x := if writesResult op then x.setReg rd (BitVec.ofNat 64 r.1)
    else if op = 18 then x.setReg rd (BitVec.ofNat 64 imm) else x
  let x := match e.loaded with
    | some (d, v) => x.setReg d v
    | none => x
  let x := if writesResult op2 then x.setReg (bitsOf w 55 51) (BitVec.ofNat 64 r2.1) else x
  let arg := fun (hi lo : Nat) => toLE 8 (g hi lo)
  { x with jlog := if bitsOf w 132 132 = 1 then arg 158 154 ++ arg 153 149 ++ arg 163 159 else e.jlog }

/-- The engine goes to a microword; the present one has ended. -/
def State.engGo (s : State) (k a : Nat) : State :=
  s.setEngine k { s.engine k with upc := a % 16384, memDone := false, opDone := false, loaded := none }

/-- R130, R136: a dispatch through entry i; where an entry with VALID = 0 leads the spec does not say.
DESIGN CHOICE, log entry 84. -/
def State.engDispatchTo (s : State) (k i : Nat) : State :=
  let e := (s.engine k).entry i
  if s.engBad k (0x10000 + i) then s.engMachineCheck k (0x10000 + i)
  else if e < 2 ^ 31 then { s with fresh := s.fresh + 1 }.engGo k (Config.freeNat s.fresh)
  else s.engGo k e

/-- The end of a microword: SEQ 0 to 3 here, 4 to 7 by their own commands. `sel` is the register DISPATCH reads. -/
def State.engSequence (s : State) (k w sel : Nat) : State :=
  let e := s.engine k
  let nadr := bitsOf w 185 172
  match bitsOf w 188 186 with
  | 0 => s.engGo k (e.upc + 1)
  | 1 => s.engGo k nadr
  | 2 => s.engGo k (if e.cond w then nadr else e.upc + 1)
  | 3 => s.engDispatchTo k (sel % 256)
  | _ => s.setEngine k { e with memDone := true, opDone := true, loaded := none }

/-- A microstep in an open journal: a STEP commits; 256 without one are the most (R138). -/
def State.journalStep (s : State) (k w : Nat) (cont : State → State) : State :=
  let e := s.engine k
  if e.jopen then
    if bitsOf w 133 133 = 1 then cont (s.stepCommit k)
    else if 256 ≤ e.steps then s.stepError k
    else cont (s.setEngine k { e with steps := e.steps + 1, afterStep := false })
  else cont s

/-- Engine k executes its microword's operations: registers, journal, then its sequencing. -/
def State.engExecute (s : State) (k w : Nat) : State :=
  let e := s.engine k
  let op := bitsOf w 171 164
  let s := s.setEngine k (e.operate w)
  let s := if op = 16 then s.journalOpen k (bitsOf w 79 64) else s
  s.journalStep k w fun t =>
    (if op = 17 then t.journalClose k else t).engSequence k w (e.reg (bitsOf w 158 154)).toNat

/-- One microword of engine k whose OP satisfies `is`; its memory operation comes first. DEDUCED, log entry 82. -/
def State.engOp (s : State) (k : Nat) (is : Nat → Bool) : State :=
  match s.engAt k with
  | none => s
  | some (e, w) =>
    if is (bitsOf w 171 164) && (e.memDone || engMemop w == 0) then s.engFetch k fun t => t.engExecute k w else s

/-- R137: JOPEN. DEDUCED, log entry 83. -/
def execJopen (k : Fin 4) (s : State) : Out := .next (s.engOp k (· == 16))

/-- R137: JCLOSE. DEDUCED, log entry 83. -/
def execJclose (k : Fin 4) (s : State) : Out := .next (s.engOp k (· == 17))

/-- R136: LDI. -/
def execLdi (k : Fin 4) (s : State) : Out := .next (s.engOp k (· == 18))

/-- The sequencing of a microword whose operations are done, when its SEQ is `seq`. -/
def State.engSeq (s : State) (k seq : Nat) (run : State → Engine → Nat → State) : State :=
  let e := s.engine k
  let w := e.word e.upc
  if s.engRuns k && e.opDone && bitsOf w 188 186 == seq then run s e w else s

/-- A return address on the return stack. What a full stack of 8 entries keeps the spec does not say.
DESIGN CHOICE, log entry 84. -/
def State.engPush (s : State) (k a : Nat) : State :=
  let e := s.engine k
  if e.rstack.length < 8 then s.setEngine k { e with rstack := a % 16384 :: e.rstack }
  else
    { s with fresh := s.fresh + 8 }.setEngine k
      { e with rstack := (List.range 8).map fun i => Config.freeNat (s.fresh + i) % 16384 }

/-- R136: CALL pushes address + 1 and goes to NADDR. -/
def execCall (k : Fin 4) (s : State) : Out :=
  .next (s.engSeq k 4 fun s e w => (s.engPush k (e.upc + 1)).engGo k (bitsOf w 185 172))

/-- R136: RET goes to the address popped; of an empty stack the spec gives none. DESIGN CHOICE, log entry 84. -/
def execRet (k : Fin 4) (s : State) : Out :=
  .next (s.engSeq k 5 fun s e _ =>
    match e.rstack with
    | a :: r => (s.setEngine k { e with rstack := r }).engGo k a
    | [] => { s with fresh := s.fresh + 1 }.engGo k (Config.freeNat s.fresh))

/-- R136: WAIT: the engine waits for an interrupt, at the next microword. DEDUCED, log entry 86. -/
def execWait (k : Fin 4) (s : State) : Out :=
  .next (s.engSeq k 6 fun s e _ =>
    let s := s.engGo k (e.upc + 1)
    s.setEngine k { s.engine k with waiting := true })

/-- R136: HALT: the engine halts after the microword. DEDUCED, log entry 86. -/
def execHalt (k : Fin 4) (s : State) : Out :=
  .next (s.engSeq k 7 fun s e _ => (s.engGo k (e.upc + 1)).engHalt k)

/-- R139: at a boundary, the engine takes its lowest pending source; where its handler lies the spec does not say. The
routine resumes by RET at the microword it had come to. DESIGN CHOICE, log entry 85. -/
def execEngineInterrupt (k : Fin 4) (s : State) : Out :=
  let e := s.engine k
  match Store.read [] s.intr.engine k with
  | [] => .next s
  | src :: rest =>
    if s.engRuns k && e.atBoundary && !e.haltReq then
      let s := { s with intr := { s.intr with engine := Store.put [] s.intr.engine k rest } }
      let s := s.engPush k e.upc
      let h := Config.freeNat (s.fresh + src)
      let s := { s with fresh := s.fresh + src + 1 }
      .next (s.setEngine k { s.engine k with upc := h % 16384, waiting := false, afterStep := false })
    else .next s

end Sys2Proof.Machine
end

