-- ==== Sys2Proof/Machine/MicroOps.lean ====
section
/-!
DEFINITION. MicroOps.lean: the operations of Table 04.7, by a frame in a pipe (R128) or by a management engine on 64-bit
registers (Table 04.10). The command of an operation that the microword does not hold does nothing.
-/

namespace Sys2Proof.Machine

/-- One microword of a frame or of an engine whose OP is `op`. -/
def State.microOp (s : State) (x : Exec) (op : Nat) : State :=
  match x with
  | .frame c => s.frameOp c (· == op)
  | .engine k => s.engOp k (· == op)

/-- NOP: no result. -/
def execNop (x : Exec) (s : State) : Out := .next (s.microOp x 0)

/-- MOV: B. -/
def execMov (x : Exec) (s : State) : Out := .next (s.microOp x 1)

/-- ADD: A + B. -/
def execAdd (x : Exec) (s : State) : Out := .next (s.microOp x 2)

/-- SUB: A − B. -/
def execSub (x : Exec) (s : State) : Out := .next (s.microOp x 3)

/-- AND: A AND B. -/
def execAnd (x : Exec) (s : State) : Out := .next (s.microOp x 4)

/-- OR: A OR B. -/
def execOr (x : Exec) (s : State) : Out := .next (s.microOp x 5)

/-- XOR: A XOR B. -/
def execXor (x : Exec) (s : State) : Out := .next (s.microOp x 6)

/-- SHL: A shifted left by B[5:0]. -/
def execShl (x : Exec) (s : State) : Out := .next (s.microOp x 7)

/-- SHR: A shifted right by B[5:0]. -/
def execShr (x : Exec) (s : State) : Out := .next (s.microOp x 8)

/-- CMP: the flags of A − B. -/
def execCmp (x : Exec) (s : State) : Out := .next (s.microOp x 9)

/-- MIN: the lower of A and B. -/
def execMin (x : Exec) (s : State) : Out := .next (s.microOp x 10)

/-- MAX: the higher of A and B. -/
def execMax (x : Exec) (s : State) : Out := .next (s.microOp x 11)

/-- CSUM: the ones'-complement sum of the 16-bit words of A and B. -/
def execCsum (x : Exec) (s : State) : Out := .next (s.microOp x 12)

/-- CRC: CRC-32C over A from B. -/
def execCrc (x : Exec) (s : State) : Out := .next (s.microOp x 13)

/-- SETB: A with bit B[5:0] set. -/
def execSetb (x : Exec) (s : State) : Out := .next (s.microOp x 14)

/-- CLRB: A with bit B[5:0] cleared. -/
def execClrb (x : Exec) (s : State) : Out := .next (s.microOp x 15)

/-- Operations without a meaning act as NOP (Table 04.7, 16 to 63; Table 04.10, 19 to 255); a frame's are counted in RSVOP. -/
def execRsvop (x : Exec) (s : State) : Out :=
  .next (match x with
    | .frame c => s.frameOp c fun op => decide (16 ≤ op)
    | .engine k => s.engOp k fun op => decide (19 ≤ op))

end Sys2Proof.Machine
end

