-- ==== Sys2Proof/Machine/Package.lean ====
section
/-!
DEFINITION. Package.lean: what the board and the package see: supply rails and references (R429, R431), temperatures
(R437, R438), and the boundary-scan port (R436).
-/

namespace Sys2Proof.Machine

/-! ### Supplies and references -/

/-- R429: a rail has stayed outside its transient limits for `dur` ns; over 2 µs it is reported as AON 0, FATAL. Rails
in the order of Table 15.2: VDD_AON and VDDIO are watched always, the others only while RESET_N is high and SDRDY is 0.
DESIGN CHOICE, log entry 21. -/
def execSupplyExcursion (rail : Fin 7) (dur : Nat) (s : State) : Out :=
  let watched := s.pwr.aonValid && (decide (rail.val < 2) || (s.pwr.resetN && !s.bit Reg.DEV_RST 29))
  .next (if watched ∧ us 2 < dur then s.reportFault (srcId 2 0) .fatal .logic 0 0 else s)

/-- R431: REFCLK_TB is lost, or the 1 GHz PLL loses lock: TIME 0, FATAL. -/
def execTimebaseRefLost (s : State) : Out := .next (s.reportFault (srcId 3 0) .fatal .logic 0 0)

/-! ### Temperatures -/

/-- Whether an HBM interface is on; only then do the stacks report a temperature (DEV_THERM.HBM_T). -/
def State.hbmOn (s : State) : Bool := (List.range 4).any fun k => s.domOn (140 + k)

/-- R437: the hottest junction reaches 115 °C or the hottest stack 105 °C: THERMTRIP_N is driven low, and stays low until
a power-on reset; TRIPPED is set. It is no fault report. -/
def execThermalTrip (tj hbm : BitVec 12) (s : State) : Out :=
  if 1150 ≤ tj.toInt ∨ (s.hbmOn ∧ 1050 ≤ hbm.toInt) then
    let t := (s.setBit Reg.DEV_THERM 31 true).ledgerTj tj.toNat
    .next (if s.bit Reg.DEV_THERM 31 then t else t.emit .thermTrip)
  else .next s

/-- R437: every 1 ms TJ and HBM_T are refreshed; above 85 °C a stack's refresh is doubled. -/
def execThermalRefresh (tj hbm : BitVec 12) (s : State) : Out :=
  let h := if s.hbmOn then hbm else 0
  let s := ((s.setFld Reg.DEV_THERM 27 16 tj.toNat).setFld Reg.DEV_THERM 11 0 h.toNat).setBit Reg.DEV_THERM 30 (decide (850 < h.toInt))
  .next (s.ledgerTj tj.toNat)

/-! ### Boundary scan (R436)

The boundary register holds the 17 low-speed pins of Table 15.5 that are not of the port itself, in the table's order. -/

/-- The places of the output pins in the boundary register. -/
def scanOutputs : List Nat := [3, 4, 6, 7, 8, 10, 11, 12, 13, 14, 15, 16]

/-- The state with an instruction in the port's instruction register: 0 BYPASS, 1 IDCODE, 2 SAMPLE, 3 PRELOAD, 4 EXTEST
(PRESUMED, log entry 20). -/
def State.scanIr (s : State) (ir : Nat) (x : Package) : State := { s with pkg := { x with ir := ir } }

/-- R436: BYPASS: `bits` pass through a register of one bit, which holds 0 first. Every instruction of factory test mode
acts so. -/
def execBypass (bits : List Bool) (s : State) : Out :=
  .next ((s.scanIr 0 { s.pkg with driven := false }).emit (.tdo ((false :: bits).take bits.length)))

/-- R436: IDCODE: bits 27:12 read 0x1F09 and bits 31:28 STEP_MAJOR; bit 0 is 1 by the standard, and bits 11:1, which the
spec does not give, are free. Bit 0 leaves first. -/
def execIdcode (s : State) : Out :=
  let w := 1 + 2 * (Config.freeNat s.fresh % 2048) + 0x1F09 * 4096 + s.fld Reg.DEV_IDENT 15 12 * 2 ^ 28
  let s := { s with fresh := s.fresh + 1 }
  .next ((s.scanIr 1 { s.pkg with driven := false }).emit (.tdo ((List.range 32).map fun i => w.testBit i)))

/-- R436: SAMPLE captures the levels of the low-speed pins, which then leave on TDO. -/
def execSample (levels : List Bool) (s : State) : Out :=
  let p := (List.range 17).map fun i => levels.getD i false
  .next ((s.scanIr 2 { s.pkg with pins := p, boundary := p, driven := false }).emit (.tdo p))

/-- R436: PRELOAD loads the boundary register. -/
def execPreload (bits : List Bool) (s : State) : Out :=
  .next (s.scanIr 3 { s.pkg with boundary := (List.range 17).map fun i => bits.getD i false, driven := false })

/-- R436: EXTEST drives the output pins from the boundary register. -/
def execExtest (s : State) : Out :=
  let p := (List.range 17).map fun i =>
    if scanOutputs.contains i then s.pkg.boundary.getD i false else s.pkg.pins.getD i false
  .next (s.scanIr 4 { s.pkg with pins := p, driven := true })

end Sys2Proof.Machine
end

