-- ==== Sys2Proof/Machine/Dispatch.lean ====
section
/-!
DEFINITION. Dispatch.lean: which meaning each command has, arm by arm.
-/

namespace Sys2Proof.Machine

def exec (i : Instr) (s : State) : Host.Outcome State Fault Refusal :=
  match i with
  | .registerWrite m addr data => Sys2Proof.Machine.execRegisterWrite m addr data s
  | .wideLowRead m addr => Sys2Proof.Machine.execWideLowRead m addr s
  | .unmappedAccess m addr write => Sys2Proof.Machine.execUnmappedAccess m addr write s
  | .badShapeRequest m write dwords => Sys2Proof.Machine.execBadShapeRequest m write dwords s
  | .lockRead m ix => Sys2Proof.Machine.execLockRead m ix s
  | .lockWrite m ix data => Sys2Proof.Machine.execLockWrite m ix data s
  | .lockForce m ix => Sys2Proof.Machine.execLockForce m ix s
  | .faultReport src cls elem detail tile => Sys2Proof.Machine.execFaultReport src cls elem detail tile s
  | .collectionRoundClose => Sys2Proof.Machine.execCollectionRoundClose s
  | .shadowEnd r => Sys2Proof.Machine.execShadowEnd r s
  | .selftestDone r pass => Sys2Proof.Machine.execSelftestDone r pass s
  | .spareRepairDone r => Sys2Proof.Machine.execSpareRepairDone r s
  | .firstFaultClear m => Sys2Proof.Machine.execFirstFaultClear m s
  | .close m r => Sys2Proof.Machine.execClose m r s
  | .release m r => Sys2Proof.Machine.execRelease m r s
  | .repair m r => Sys2Proof.Machine.execRepair m r s
  | .fatalResetTimer => Sys2Proof.Machine.execFatalResetTimer s
  | .collectorSelfcheckDone => Sys2Proof.Machine.execCollectorSelfcheckDone s
  | .avsLoopPeriod => Sys2Proof.Machine.execAvsLoopPeriod s
  | .avsTransactionDone ok => Sys2Proof.Machine.execAvsTransactionDone ok s
  | .avsVreadRefresh mv => Sys2Proof.Machine.execAvsVreadRefresh mv s
  | .avsBuserrClear m => Sys2Proof.Machine.execAvsBuserrClear m s
  | .paceWindowEnd n pipe st cap => Sys2Proof.Machine.execPaceWindowEnd n pipe st cap s
  | .rindCommit m n idx => Sys2Proof.Machine.execRindCommit m n idx s
  | .rindCommitDone n => Sys2Proof.Machine.execRindCommitDone n s
  | .quarantineWindowEnd => Sys2Proof.Machine.execQuarantineWindowEnd s
  | .quarantineRelease m n mask => Sys2Proof.Machine.execQuarantineRelease m n mask s
  | .load m n => Sys2Proof.Machine.execLoad m n s
  | .verify m n => Sys2Proof.Machine.execVerify m n s
  | .swap m n => Sys2Proof.Machine.execSwap m n s
  | .discard m n => Sys2Proof.Machine.execDiscard m n s
  | .forceRetire m n => Sys2Proof.Machine.execForceRetire m n s
  | .abort m n => Sys2Proof.Machine.execAbort m n s
  | .loaderCmdReserved m n cmd => Sys2Proof.Machine.execLoaderCmdReserved m n cmd s
  | .loadPlaceTaken n => Sys2Proof.Machine.execLoadPlaceTaken n s
  | .loadFetchDone n bytes => Sys2Proof.Machine.execLoadFetchDone n bytes s
  | .loadSignaturesDone n => Sys2Proof.Machine.execLoadSignaturesDone n s
  | .loadShadowDone n => Sys2Proof.Machine.execLoadShadowDone n s
  | .epochSwitch n => Sys2Proof.Machine.execEpochSwitch n s
  | .bankRetire n => Sys2Proof.Machine.execBankRetire n s
  | .retireTimeout n => Sys2Proof.Machine.execRetireTimeout n s
  | .drainStart n => Sys2Proof.Machine.execDrainStart n s
  | .drainPipesDone n => Sys2Proof.Machine.execDrainPipesDone n s
  | .drainBoundReached n => Sys2Proof.Machine.execDrainBoundReached n s
  | .drainSwitchDone n => Sys2Proof.Machine.execDrainSwitchDone n s
  | .continuityCheckDone n failed => Sys2Proof.Machine.execContinuityCheckDone n failed s
  | .revertCheckDone n => Sys2Proof.Machine.execRevertCheckDone n s
  | .rxFrameStart src bytes => Sys2Proof.Machine.execRxFrameStart src bytes s
  | .rxFrameEnd src bytes bad => Sys2Proof.Machine.execRxFrameEnd src bytes bad s
  | .rxOversize p => Sys2Proof.Machine.execRxOversize p s
  | .reasmTimeout f => Sys2Proof.Machine.execReasmTimeout f s
  | .ingressAdmit n st ret pace => Sys2Proof.Machine.execIngressAdmit n st ret pace s
  | .parseDone c => Sys2Proof.Machine.execParseDone c s
  | .stageEntry c => Sys2Proof.Machine.execStageEntry c s
  | .nop x => Sys2Proof.Machine.execNop x s
  | .mov x => Sys2Proof.Machine.execMov x s
  | .add x => Sys2Proof.Machine.execAdd x s
  | .sub x => Sys2Proof.Machine.execSub x s
  | .and x => Sys2Proof.Machine.execAnd x s
  | .or x => Sys2Proof.Machine.execOr x s
  | .xor x => Sys2Proof.Machine.execXor x s
  | .shl x => Sys2Proof.Machine.execShl x s
  | .shr x => Sys2Proof.Machine.execShr x s
  | .cmp x => Sys2Proof.Machine.execCmp x s
  | .min x => Sys2Proof.Machine.execMin x s
  | .max x => Sys2Proof.Machine.execMax x s
  | .csum x => Sys2Proof.Machine.execCsum x s
  | .crc x => Sys2Proof.Machine.execCrc x s
  | .setb x => Sys2Proof.Machine.execSetb x s
  | .clrb x => Sys2Proof.Machine.execClrb x s
  | .rsvop x => Sys2Proof.Machine.execRsvop x s
  | .stageTableLookup c => Sys2Proof.Machine.execStageTableLookup c s
  | .endpointLookup c => Sys2Proof.Machine.execEndpointLookup c s
  | .routeLookup c => Sys2Proof.Machine.execRouteLookup c s
  | .aclLookup c => Sys2Proof.Machine.execAclLookup c s
  | .flowContextRead c => Sys2Proof.Machine.execFlowContextRead c s
  | .flowContextWrite c => Sys2Proof.Machine.execFlowContextWrite c s
  | .counterAdd c => Sys2Proof.Machine.execCounterAdd c s
  | .meter c => Sys2Proof.Machine.execMeter c s
  | .learn c => Sys2Proof.Machine.execLearn c s
  | .flowStateUpdate c => Sys2Proof.Machine.execFlowStateUpdate c s
  | .memopComplete c ix => Sys2Proof.Machine.execMemopComplete c ix s
  | .missReadReturn ix dup err ch => Sys2Proof.Machine.execMissReadReturn ix dup err ch s
  | .missStallTimeout ix => Sys2Proof.Machine.execMissStallTimeout ix s
  | .flowMissReturn ix ok ch => Sys2Proof.Machine.execFlowMissReturn ix ok ch s
  | .flowStallTimeout ix => Sys2Proof.Machine.execFlowStallTimeout ix s
  | .resolve c => Sys2Proof.Machine.execResolve c s
  | .dequeue d => Sys2Proof.Machine.execDequeue d s
  | .collectorFlushTimeout j => Sys2Proof.Machine.execCollectorFlushTimeout j s
  | .queueHeadDiscard q => Sys2Proof.Machine.execQueueHeadDiscard q s
  | .deparse c => Sys2Proof.Machine.execDeparse c s
  | .transmitStart d => Sys2Proof.Machine.execTransmitStart d s
  | .transmitDone d => Sys2Proof.Machine.execTransmitDone d s
  | .transmitUnderrun p => Sys2Proof.Machine.execTransmitUnderrun p s
  | .spillStart q => Sys2Proof.Machine.execSpillStart q s
  | .spillWriteAck f => Sys2Proof.Machine.execSpillWriteAck f s
  | .readbackStart q => Sys2Proof.Machine.execReadbackStart q s
  | .readbackDone f cells ok => Sys2Proof.Machine.execReadbackDone f cells ok s
  | .objectFree ix => Sys2Proof.Machine.execObjectFree ix s
  | .lbEntryWrite m n acc => Sys2Proof.Machine.execLbEntryWrite m n acc s
  | .lbEntryRead m n acc => Sys2Proof.Machine.execLbEntryRead m n acc s
  | .mirrorCfg1Write m n ix data => Sys2Proof.Machine.execMirrorCfg1Write m n ix data s
  | .csWordWrite m n acc => Sys2Proof.Machine.execCsWordWrite m n acc s
  | .csWordRead m n acc => Sys2Proof.Machine.execCsWordRead m n acc s
  | .sliceScrub m n => Sys2Proof.Machine.execSliceScrub m n s
  | .engineScrub m k data => Sys2Proof.Machine.execEngineScrub m k data s
  | .scrubDone x => Sys2Proof.Machine.execScrubDone x s
  | .engineRun m k data => Sys2Proof.Machine.execEngineRun m k data s
  | .engineHaltRequest m k data => Sys2Proof.Machine.execEngineHaltRequest m k data s
  | .engineHalted k => Sys2Proof.Machine.execEngineHalted k s
  | .engineCsRead m k acc => Sys2Proof.Machine.execEngineCsRead m k acc s
  | .engineInterrupt k => Sys2Proof.Machine.execEngineInterrupt k s
  | .jopen k => Sys2Proof.Machine.execJopen k s
  | .jclose k => Sys2Proof.Machine.execJclose k s
  | .ldi k => Sys2Proof.Machine.execLdi k s
  | .engineLoad k => Sys2Proof.Machine.execEngineLoad k s
  | .engineStore k => Sys2Proof.Machine.execEngineStore k s
  | .call k => Sys2Proof.Machine.execCall k s
  | .ret k => Sys2Proof.Machine.execRet k s
  | .wait k => Sys2Proof.Machine.execWait k s
  | .halt k => Sys2Proof.Machine.execHalt k s
  | .tuReadIndex m port cmd => Sys2Proof.Machine.execTuReadIndex m port cmd s
  | .tuWrite m port cmd => Sys2Proof.Machine.execTuWrite m port cmd s
  | .tuDelete m port cmd => Sys2Proof.Machine.execTuDelete m port cmd s
  | .tuReadKey m port cmd => Sys2Proof.Machine.execTuReadKey m port cmd s
  | .updateCmdDone port => Sys2Proof.Machine.execUpdateCmdDone port s
  | .learnApply shard => Sys2Proof.Machine.execLearnApply shard s
  | .ageTick => Sys2Proof.Machine.execAgeTick s
  | .churnVisit => Sys2Proof.Machine.execChurnVisit s
  | .churnCompareDelete slot => Sys2Proof.Machine.execChurnCompareDelete slot s
  | .pressScrub => Sys2Proof.Machine.execPressScrub s
  | .pressCompact b => Sys2Proof.Machine.execPressCompact b s
  | .missRateWrite m n data => Sys2Proof.Machine.execMissRateWrite m n data s
  | .flapRecRead m => Sys2Proof.Machine.execFlapRecRead m s
  | .queueSettingsWrite m acc => Sys2Proof.Machine.execQueueSettingsWrite m acc s
  | .queueRead m acc => Sys2Proof.Machine.execQueueRead m acc s
  | .mcEntryWrite m acc => Sys2Proof.Machine.execMcEntryWrite m acc s
  | .mcEntryRead m acc => Sys2Proof.Machine.execMcEntryRead m acc s
  | .mcGroupDrained => Sys2Proof.Machine.execMcGroupDrained s
  | .vatModeWrite m data => Sys2Proof.Machine.execVatModeWrite m data s
  | .portEnable m p data => Sys2Proof.Machine.execPortEnable m p data s
  | .portDisable m p data => Sys2Proof.Machine.execPortDisable m p data s
  | .forceLf m p data => Sys2Proof.Machine.execForceLf m p data s
  | .octetModeWrite m k data => Sys2Proof.Machine.execOctetModeWrite m k data s
  | .ctStepWrite m p data => Sys2Proof.Machine.execCtStepWrite m p data s
  | .linkFault p lf rf => Sys2Proof.Machine.execLinkFault p lf rf s
  | .linkupDebounce p => Sys2Proof.Machine.execLinkupDebounce p s
  | .laneTxfirWrite m l data => Sys2Proof.Machine.execLaneTxfirWrite m l data s
  | .laneCtlWrite m l data => Sys2Proof.Machine.execLaneCtlWrite m l data s
  | .signalLock l => Sys2Proof.Machine.execSignalLock l s
  | .trainingFrameRx l valid req => Sys2Proof.Machine.execTrainingFrameRx l valid req s
  | .trainingDone l ownPre => Sys2Proof.Machine.execTrainingDone l ownPre s
  | .trainingTimeout l => Sys2Proof.Machine.execTrainingTimeout l s
  | .trainingRestart l => Sys2Proof.Machine.execTrainingRestart l s
  | .cdrLoss l => Sys2Proof.Machine.execCdrLoss l s
  | .refclkLost g => Sys2Proof.Machine.execRefclkLost g s
  | .pllLock g => Sys2Proof.Machine.execPllLock g s
  | .patternWrite m l data => Sys2Proof.Machine.execPatternWrite m l data s
  | .injOne m l data => Sys2Proof.Machine.execInjOne m l data s
  | .injectPeriodic l => Sys2Proof.Machine.execInjectPeriodic l s
  | .marginScanStart m l data => Sys2Proof.Machine.execMarginScanStart m l data s
  | .marginScanDone l errors => Sys2Proof.Machine.execMarginScanDone l errors s
  | .eyeRefresh l eye => Sys2Proof.Machine.execEyeRefresh l eye s
  | .flowAccWrite m acc => Sys2Proof.Machine.execFlowAccWrite m acc s
  | .flowAccRead m acc => Sys2Proof.Machine.execFlowAccRead m acc s
  | .flowClear m data => Sys2Proof.Machine.execFlowClear m data s
  | .flowClearDone => Sys2Proof.Machine.execFlowClearDone s
  | .flowRateWrite m n data => Sys2Proof.Machine.execFlowRateWrite m n data s
  | .meterConfigWrite m n acc => Sys2Proof.Machine.execMeterConfigWrite m n acc s
  | .meterConfigRead m n acc => Sys2Proof.Machine.execMeterConfigRead m n acc s
  | .counterWrite m n acc => Sys2Proof.Machine.execCounterWrite m n acc s
  | .counterRead m n acc => Sys2Proof.Machine.execCounterRead m n acc s
  | .clockStep m data => Sys2Proof.Machine.execClockStep m data s
  | .clockLoad m data => Sys2Proof.Machine.execClockLoad m data s
  | .clockRead m => Sys2Proof.Machine.execClockRead m s
  | .ppsinRead m => Sys2Proof.Machine.execPpsinRead m s
  | .ppsOutPulse => Sys2Proof.Machine.execPpsOutPulse s
  | .ppsOutEnd => Sys2Proof.Machine.execPpsOutEnd s
  | .ppsInEdge => Sys2Proof.Machine.execPpsInEdge s
  | .tsqPop m p data => Sys2Proof.Machine.execTsqPop m p data s
  | .histSnapshot m data => Sys2Proof.Machine.execHistSnapshot m data s
  | .histSnapshotDone => Sys2Proof.Machine.execHistSnapshotDone s
  | .summaryHourly => Sys2Proof.Machine.execSummaryHourly s
  | .flush m => Sys2Proof.Machine.execFlush m s
  | .ledgerSummaryDone ok => Sys2Proof.Machine.execLedgerSummaryDone ok s
  | .ledgerFlushToken => Sys2Proof.Machine.execLedgerFlushToken s
  | .ledgerRecordToken => Sys2Proof.Machine.execLedgerRecordToken s
  | .ledgerDataRead m => Sys2Proof.Machine.execLedgerDataRead m s
  | .heartbeatSend => Sys2Proof.Machine.execHeartbeatSend s
  | .heartbeatRx rail frame => Sys2Proof.Machine.execHeartbeatRx rail frame s
  | .heartbeatWindowEnd => Sys2Proof.Machine.execHeartbeatWindowEnd s
  | .recordsRx rail frame => Sys2Proof.Machine.execRecordsRx rail frame s
  | .ackRx rail frame => Sys2Proof.Machine.execAckRx rail frame s
  | .nakRx rail frame => Sys2Proof.Machine.execNakRx rail frame s
  | .ackSend => Sys2Proof.Machine.execAckSend s
  | .dataRx rail frame => Sys2Proof.Machine.execDataRx rail frame s
  | .recordSend => Sys2Proof.Machine.execRecordSend s
  | .sweepVisit k => Sys2Proof.Machine.execSweepVisit k s
  | .railChange rail aligned lf rf => Sys2Proof.Machine.execRailChange rail aligned lf rf s
  | .pairEnable m data => Sys2Proof.Machine.execPairEnable m data s
  | .pairDisable m data => Sys2Proof.Machine.execPairDisable m data s
  | .pairTakeover m => Sys2Proof.Machine.execPairTakeover m s
  | .resync m => Sys2Proof.Machine.execResync m s
  | .pairRateWrite m ix data => Sys2Proof.Machine.execPairRateWrite m ix data s
  | .qpReset m h data => Sys2Proof.Machine.execQpReset m h data s
  | .qpTailWrite m h tx data => Sys2Proof.Machine.execQpTailWrite m h tx data s
  | .hostTxFetch h addr len slice => Sys2Proof.Machine.execHostTxFetch h addr len slice s
  | .dmaReadCompletion h bytes => Sys2Proof.Machine.execDmaReadCompletion h bytes s
  | .dmaCompletionTimeout h => Sys2Proof.Machine.execDmaCompletionTimeout h s
  | .hostRxDelivery addrs => Sys2Proof.Machine.execHostRxDelivery addrs s
  | .itrHoldEnd h => Sys2Proof.Machine.execItrHoldEnd h s
  | .dutymapWrite m data => Sys2Proof.Machine.execDutymapWrite m data s
  | .mbxPost m ix => Sys2Proof.Machine.execMbxPost m ix s
  | .mbxMessageRead m ix => Sys2Proof.Machine.execMbxMessageRead m ix s
  | .mbxTimeout ix => Sys2Proof.Machine.execMbxTimeout ix s
  | .mbxCfgWrite m ix data => Sys2Proof.Machine.execMbxCfgWrite m ix data s
  | .doorbellRing m d bits => Sys2Proof.Machine.execDoorbellRing m d bits s
  | .doorbellClear m d bits => Sys2Proof.Machine.execDoorbellClear m d bits s
  | .doorbellCfgWrite m d data => Sys2Proof.Machine.execDoorbellCfgWrite m d data s
  | .flrVf n => Sys2Proof.Machine.execFlrVf n s
  | .flrPf => Sys2Proof.Machine.execFlrPf s
  | .pcieLinkDown => Sys2Proof.Machine.execPcieLinkDown s
  | .attestRequest ix => Sys2Proof.Machine.execAttestRequest ix s
  | .attestReply => Sys2Proof.Machine.execAttestReply s
  | .attestRelease m => Sys2Proof.Machine.execAttestRelease m s
  | .attestWindowTimeout => Sys2Proof.Machine.execAttestWindowTimeout s
  | .attestToken => Sys2Proof.Machine.execAttestToken s
  | .domainOffRequest m d => Sys2Proof.Machine.execDomainOffRequest m d s
  | .domainOnRequest m d => Sys2Proof.Machine.execDomainOnRequest m d s
  | .domainRampStart => Sys2Proof.Machine.execDomainRampStart s
  | .domainRampDone d => Sys2Proof.Machine.execDomainRampDone d s
  | .domainRampTimeout d => Sys2Proof.Machine.execDomainRampTimeout d s
  | .powerOnReset => Sys2Proof.Machine.execPowerOnReset s
  | .resetNAssert => Sys2Proof.Machine.execResetNAssert s
  | .resetNRelease bootSel => Sys2Proof.Machine.execResetNRelease bootSel s
  | .core m => Sys2Proof.Machine.execCore m s
  | .shutdown m => Sys2Proof.Machine.execShutdown m s
  | .shutdownComplete => Sys2Proof.Machine.execShutdownComplete s
  | .eng m bits => Sys2Proof.Machine.execEng m bits s
  | .perstN pin => Sys2Proof.Machine.execPerstN pin s
  | .bootLoad m => Sys2Proof.Machine.execBootLoad m s
  | .bootRequest m => Sys2Proof.Machine.execBootRequest m s
  | .install m arg => Sys2Proof.Machine.execInstall m arg s
  | .flashWrite m arg => Sys2Proof.Machine.execFlashWrite m arg s
  | .bootVerify m => Sys2Proof.Machine.execBootVerify m s
  | .bootCmdReserved m cmd => Sys2Proof.Machine.execBootCmdReserved m cmd s
  | .flashBoot => Sys2Proof.Machine.execFlashBoot s
  | .bootFetchDone bytes => Sys2Proof.Machine.execBootFetchDone bytes s
  | .bootVerifyDone fuseOk => Sys2Proof.Machine.execBootVerifyDone fuseOk s
  | .bootWriteDone => Sys2Proof.Machine.execBootWriteDone s
  | .flashWriteDone => Sys2Proof.Machine.execFlashWriteDone s
  | .supplyExcursion rail dur => Sys2Proof.Machine.execSupplyExcursion rail dur s
  | .timebaseRefLost => Sys2Proof.Machine.execTimebaseRefLost s
  | .thermalTrip tj hbm => Sys2Proof.Machine.execThermalTrip tj hbm s
  | .thermalRefresh tj hbm => Sys2Proof.Machine.execThermalRefresh tj hbm s
  | .bypass bits => Sys2Proof.Machine.execBypass bits s
  | .idcode => Sys2Proof.Machine.execIdcode s
  | .sample levels => Sys2Proof.Machine.execSample levels s
  | .preload bits => Sys2Proof.Machine.execPreload bits s
  | .extest => Sys2Proof.Machine.execExtest s
  | .clearOnRead m addr => Sys2Proof.Machine.execClearOnRead m addr s
  | .rxLaterCell src bytes => Sys2Proof.Machine.execRxLaterCell src bytes s
  | .pcsAligned p => Sys2Proof.Machine.execPcsAligned p s
  | .checkerLock l => Sys2Proof.Machine.execCheckerLock l s
  | .checkerLockLoss l errs => Sys2Proof.Machine.execCheckerLockLoss l errs s
  | .perstNRelease => Sys2Proof.Machine.execPerstNRelease s
  | .pcieLinkUp => Sys2Proof.Machine.execPcieLinkUp s
  | .aonSupplyLoss => Sys2Proof.Machine.execAonSupplyLoss s
  | .ledgerRecordDone ok => Sys2Proof.Machine.execLedgerRecordDone ok s
  | .msixUnmask m vec => Sys2Proof.Machine.execMsixUnmask m vec s

end Sys2Proof.Machine
end

