-- ==== Sys2Proof/Machine/Tick.lean ====
section
/-!
DEFINITION. Tick.lean: the time base counts one nanosecond (R295) when no command waits, and what counts with it: CLOCK
(R296, R299), the bits locked checkers compare (R270) and the ledger's seconds (Table 10.6).
-/

namespace Sys2Proof.Machine

/-- The supply voltage bin of HOURS (Table 10.6). -/
def voltageBin (mv : Nat) : Nat :=
  if mv < 600 then 0 else if mv < 640 then 1 else if mv < 680 then 2 else if mv < 700 then 3 else if mv < 720 then 4
  else if mv < 740 then 5 else if mv < 780 then 6 else 7

/-- The temperature bin of HOURS, of tenths of a degree (Table 10.6). -/
def temperatureBin (tj : Int) : Nat :=
  if tj < 250 then 0 else if tj < 500 then 1 else if tj < 700 then 2 else if tj < 850 then 3 else if tj < 950 then 4
  else if tj < 1000 then 5 else if tj < 1100 then 6 else 7

/-- One second powered: its HOURS cell and POH (Table 10.6). -/
def State.secondPowered (s : State) : State :=
  let v := voltageBin (s.fld Reg.PWR_AVS_STAT 9 0)
  let t := temperatureBin (signed 12 (s.fld Reg.DEV_THERM 27 16))
  let s := s.sumCount (32 + 4 * (8 * v + t)) 1
  { s with ledger := { s.ledger with poh := s.ledger.poh + 1 } }

/-- Lanes whose checker has lock. -/
def State.lockedLanes (s : State) : List Nat :=
  s.regs.filterMap fun e =>
    match regPlace e.1 with
    | (.lane, l, o) => if o = 0x10 ∧ e.2.getLsbD 29 then some l else none
    | _ => none

/-- MONO and CLOCK count one nanosecond, CLOCK at its own rate; a wrap of its nanosecond field owes a pulse while PPSO_EN
is 1 (R295, R296, R299). -/
def State.countTime (s : State) : State :=
  let clk := s.time.clk + ((10 : Int) ^ 12 + s.freq).toNat
  { s with time := { s.time with mono := s.time.mono + 1, clk := clk
                                 wrapped := s.time.wrapped ||
                                   (clk / 10 ^ 21 != s.time.clk / 10 ^ 21 && s.bit Reg.TIME_CTL 29) } }

/-- One nanosecond of the time base passes (R295). DESIGN CHOICE, log entry 1. -/
def State.tick (s : State) : State :=
  let s := s.countTime
  let s := s.lockedLanes.foldl (fun t l => if t.laneChecks l then t.checkBits l else t) s
  if s.time.mono % 10 ^ 9 = 0 then s.secondPowered else s

end Sys2Proof.Machine
end

