-- ==== Sys2Proof/Machine/Step.lean ====
section
/-!
DEFINITION. Step.lean: one step of the part: the command at the front of the queue is carried out, in the order the
commands were issued (R24, R26); with an empty queue the time base counts.
-/

namespace Sys2Proof.Machine

/-- One step. DESIGN CHOICE, log entry 1; DESIGN CHOICE, log entry 2. -/
def step (s : State) : Host.Outcome State Fault Refusal :=
  match s.pending with
  | [] => .next s.tick
  | c :: rest => exec c { s with pending := rest }

/-- The command a word spells is put at the front of the queue; where it spells none, nothing changes.
DESIGN CHOICE, log entry 8. -/
def State.withFetchWord (s : State) (nbits w : Nat) : State :=
  match decodeTableWord nbits w with
  | some c => { s with pending := c :: s.pending }
  | none => s

end Sys2Proof.Machine
end

