-- ==== Sys2Proof/Safety.lean ====
section
/-!
DEFINITION. Safety.lean: what a run must never break, in the terms the statements use: what the fuses may hold (R411,
R413, R414, Table 14.8), what a register map and the sparse memories look like in canonical form.
-/

namespace Sys2Proof.Machine

/-- What the fuses hold (R411, Table 14.8): operator slots 1 to 4 fused with hashes that are not all zero, revoked slots
among 0 to 4, a floor of at most 64, a note of any slot ever fused, and at least one slot neither EMPTY nor REVOKED. -/
def State.fusesOk (s : State) : Prop :=
  Store.rising 1 s.boot.hashes = true ∧ (∀ e ∈ s.boot.hashes, e.1 ≤ 4 ∧ allZero e.2 = false) ∧
    (∀ k ∈ s.boot.revoked, k ≤ 4) ∧ s.boot.floor ≤ 64 ∧ (s.boot.hashes ≠ [] → s.boot.everFused = true) ∧
    ∃ k, k ≤ 4 ∧ s.slotLive k = true

/-- The fuses themselves: hashes, revoked slots and floor (R411). -/
def State.fuses (s : State) : Store (List Byte) × NatSet × Nat := (s.boot.hashes, s.boot.revoked, s.boot.floor)

/-- Every frame in hand belongs to one of the 32 slices and one of its 8 compartments, and is in one of the two pipes
(R52, R72): frames in the pipes, frames stored, frames that wait to be stored, queue pairs' frames in fetch, and queued
learns. -/
def State.pipesOk (s : State) : Prop :=
  (∀ e ∈ s.ctxs, e.2.slice < 32 ∧ e.2.comp < 8 ∧ e.2.pipe < 2) ∧
    (∀ e ∈ s.vat.frames, e.2.slice < 32 ∧ e.2.comp < 8) ∧
    (∀ e ∈ s.vat.toStore, ∀ f ∈ e.2, f.slice < 32 ∧ f.comp < 8) ∧
    (∀ e ∈ s.host.qps, ∀ x ∈ e.2.tx, x.slice < 32) ∧
    ∀ e ∈ s.tbl.learnq, ∀ l ∈ e.2, l.slice < 32 ∧ l.comp < 8

/-- A sparse memory of bytes that read 0 where nothing is listed, in its one canonical form: addresses strictly rising,
no zero listed. DESIGN CHOICE, log entry 24. -/
def Memory.wf (m : List Host.Cell) : Bool := Store.rising 0 m && m.all fun e => e.2 != 0

end Sys2Proof.Machine
end

