-- ==== Sys2Proof/Certificates/Slice0/Obligations.lean ====
section
/-!
DEFINITION. Obligations.lean: what the provers are asked to prove of the model. Each statement cites the rules of the
spec it formalises; where a clause rests on a choice of the model, its docstring names the log entry.
-/

open Sys2Proof Sys2Proof.Machine

/-- With a command at the front of its queue, a step is exec of that command on the state with the rest of the queue. Choices of the model it meets: log entry 2. -/
def Obligations.StepTakesTheFrontCommand : Prop :=
  ∀ (c : Instr) (rest : List Instr) (s : State), s.pending = c :: rest → step s = exec c { s with pending := rest }

/-- On an empty queue a step answers a next state in which MONO is one nanosecond later and the queue is still empty; that the time base counts in this step is the model's choice (log entry 1). -/
def Obligations.EmptyQueueCountsTime : Prop :=
  ∀ s : State, s.pending = [] → ∃ t, step s = .next t ∧ t.time.mono = s.time.mono + 1 ∧ t.pending = []

/-- After reset MONO and CLOCK are 0, no lock is held, no slice has a configuration, its epoch is 0, every engine is halted in parity mode with no journal open, its fuses are unblown, and every register that nothing has written reads its reset value. Choices of the model it meets: log entries 3, 10. -/
def Obligations.ResetLeaves : Prop :=
  State.reset.time.mono = 0 ∧ State.reset.time.clk = 0 ∧ State.reset.pending = [] ∧
    (∀ i : Fin 64, State.reset.lockOwner i = 0) ∧
    (∀ n : Fin 32, State.reset.configured n = false ∧ State.reset.curEpoch n = 0) ∧
    (∀ k : Fin 4, State.reset.engHalted k = true ∧ State.reset.bit (Reg.MGE_CTL k) 30 = true ∧
      State.reset.bit (Reg.MGE_STAT k) 26 = false ∧ State.reset.bit (Reg.MGE_CTL k) 31 = false) ∧
    State.reset.fuses = ([], [], 0) ∧ (∀ a : Nat, State.reset.reg a = regReset a)

/-- In every state whose fuses are legal (slots 1 to 4, hashes not zero, floor at most 64, some slot neither EMPTY nor REVOKED), a step that answers a next state leaves them legal; and no step of the part lowers FLOOR, from any state. -/
def Obligations.FusesStayLegal : Prop :=
  (∀ s t : State, s.fusesOk → step s = .next t → t.fusesOk) ∧
    ∀ s t : State, step s = .next t → s.boot.floor ≤ t.boot.floor

/-- In every state whose frames, in the pipes, stored, waiting to be stored or in fetch, and whose queued learns name a slice below 32 and a compartment below 8, a step that answers a next state leaves it so. The statements about frames in the pipes take these bounds as premises. -/
def Obligations.FramesStayInRange : Prop :=
  ∀ s t : State, s.pipesOk → step s = .next t → t.pipesOk

/-- State.reset meets the invariant of the fuses and that of the frames in hand. -/
def Obligations.InvariantsHoldAtReset : Prop :=
  State.reset.fusesOk ∧ State.reset.pipesOk

/-- A command leaves the fuses as they are, unless it is the end of a container's verification while the boot controller runs BOOT_CMD REQUEST. -/
def Obligations.FusesChangeOnlyByRequests : Prop :=
  ∀ (c : Instr) (s t : State), exec c s = .next t → t.fuses = s.fuses ∨
    (∃ ok, c = .bootVerifyDone ok) ∧ ∃ o arg, s.boot.op = some o ∧ o.by_ = .command 2 arg ∧ o.phase = .verify

/-- MONO is never stepped or adjusted: apart from a loss of the always-on supply and the power-on reset, where MONO begins at 0 again, every command leaves MONO and the queue as it finds them. -/
def Obligations.TimeBaseIsNeverStepped : Prop :=
  ∀ (c : Instr) (s t : State), exec c s = .next t → t.pending = s.pending ∧
    (t.time.mono = s.time.mono ∨ ((c = .powerOnReset ∨ c = .aonSupplyLoss) ∧ t.time.mono = 0))

/-- Whatever the state, every command and every step answers a next state. -/
def Obligations.EveryCommandCompletes : Prop :=
  (∀ (c : Instr) (s : State), ∃ t, exec c s = .next t) ∧ ∀ s : State, ∃ t, step s = .next t

/-- Whichever of two different masters reads a free lock first gets 0 and holds it; the other read returns the winner's master ID. A read before the holder's release returns the holder; a read after it takes the lock. -/
def Obligations.TwoReadersOfOneLock : Prop :=
  ∀ (m m' : Master) (i : Fin 64) (d : Word) (s : State), m ≠ m' → lockAvailable m i = true → lockAvailable m' i = true →
    (s.lockOwner i = 0 → ∃ t, exec (.lockRead m i) s = .next t ∧ t.reply = [0] ∧ t.lockOwner i = m.id ∧
      ∃ u, exec (.lockRead m' i) t = .next u ∧ u.reply = [BitVec.ofNat 32 m.id] ∧ u.lockOwner i = m.id) ∧
    (s.lockOwner i = m.id →
      (∃ t, exec (.lockRead m' i) s = .next t ∧ t.reply = [BitVec.ofNat 32 m.id] ∧ t.lockOwner i = m.id) ∧
      ∃ t, exec (.lockWrite m i d) s = .next t ∧ t.lockOwner i = 0 ∧
        ∃ u, exec (.lockRead m' i) t = .next u ∧ u.reply = [0] ∧ u.lockOwner i = m'.id)

/-- A read of an available lock returns its holder and takes it when free; the holder's write and the PF's FORCE free it; another master's write sets VIOL and VIOL_LOCK. A VF's read of a lock not available to it returns 0xFFFF, takes nothing and is a violation of kind LOCK. -/
def Obligations.LockCommands : Prop :=
  ∀ (m : Master) (i : Fin 64) (n : Fin 32) (d : Word) (s : State),
    (lockAvailable m i = true → s.lockOwner i = 0 →
      exec (.lockRead m i) s = .next { s with locks := Store.put 0 s.locks i m.id, reply := [0] }) ∧
    (lockAvailable m i = true → s.lockOwner i ≠ 0 →
      exec (.lockRead m i) s = .next { s with reply := [BitVec.ofNat 32 (s.lockOwner i)] }) ∧
    (i.val ≠ 32 + n.val → exec (.lockRead (.vf n) i) s = .next { s.vfViolation n 13 i with reply := [0xFFFF] }) ∧
    (lockAvailable m i = true → s.lockOwner i = m.id →
      exec (.lockWrite m i d) s = .next { s with locks := Store.put 0 s.locks i 0 }) ∧
    (lockAvailable m i = true → s.lockOwner i ≠ m.id →
      exec (.lockWrite m i d) s = .next ((s.setBit Reg.MBX_LOCK_CTL 31 true).setFld Reg.MBX_LOCK_CTL 21 16 i)) ∧
    exec (.lockForce .pf i) s = .next { s with locks := Store.put 0 s.locks i 0 }

/-- The PF's write of a plain register puts the value into its RW bits and clears the W1C bits written as 1 and leaves every other register; a read of a register without RC fields returns its readable bits and changes no register; an RC register reads its value and is cleared. -/
def Obligations.RegisterReadsAndWrites : Prop :=
  ∀ (a : Nat) (d : RegDesc) (data : Word) (s : State), a % 4 = 0 → mapped a = true → regAt a = some d →
    s.domOn (domainOf a) = true →
    (a = Reg.SLC_EPOCH_CFG 0 ∨ a = Reg.TELE_CTL ∨ a = Reg.TBL_PART_CFG 0 →
      ∃ t, exec (.registerWrite .pf a data) s = .next t ∧
        t.reg a = ((s.reg a &&& ~~~ BitVec.ofNat 32 d.rw) ||| (data &&& BitVec.ofNat 32 d.rw)) &&&
          ~~~ (data &&& BitVec.ofNat 32 d.w1c) ∧
        ∀ b, b ≠ a → t.reg b = s.reg b) ∧
    (a = Reg.SLC_STG_EVT 0 0 0 ∨ a = Reg.SLC_TBL_CNT 0 0 0 → Store.at? s.holds (holdKey .pf a) = none →
      ∃ t, exec (.clearOnRead .pf a) s = .next t ∧ t.reply = [s.reg a &&& d.seen] ∧
        t.reg a = ((s.reg a &&& ~~~ BitVec.ofNat 32 d.rc) ||| (regReset a &&& BitVec.ofNat 32 d.rc)) ∧
        ∀ b, b ≠ a → t.reg b = s.reg b)

/-- The PF and the engines may use every lock, VF n lock 32 + n only. A VF's read of another lock returns 0x0000FFFF, acquires nothing and is reported as a violation of kind LOCK of its slice's rind: counted, and recorded when no violation is. -/
def Obligations.LockAvailability : Prop :=
  ∀ (n : Fin 32) (k : Fin 4) (i : Fin 64) (s : State), lockAvailable .pf i = true ∧ lockAvailable (.me k) i = true ∧
    (lockAvailable (.vf n) i = true ↔ i.val = 32 + n.val) ∧
    (lockAvailable (.vf n) i = false →
      ∃ t, exec (.lockRead (.vf n) i) s = .next t ∧ t.reply = [0xFFFF] ∧ (∀ j, t.lockOwner j = s.lockOwner j) ∧
        (s.fld (Reg.SLC_RIND_VREC n) 31 28 = 0 → t.fld (Reg.SLC_RIND_VREC n) 31 28 = 13) ∧
        ∃ c, c < 8 ∧ t.bit (Reg.SLC_RIND_STAT n) (16 + c) = true ∧
          (t.reg (Reg.SLC_RIND_VCNT n c)).toNat = min (2 ^ 32 - 1) ((s.reg (Reg.SLC_RIND_VCNT n c)).toNat + 1))

/-- A PF access to an unmapped offset discards the write or reads 0, sets UNMAP and captures the offset when UNMAP was 0; a request of a refused shape reads zeros and sets BADACC. No other register changes. A VF's unmapped access is a violation of kind REG. -/
def Obligations.AccessErrors : Prop :=
  ∀ (a dwords : Nat) (w : Bool) (n : Fin 32) (s : State), mapped a = false →
    (∃ t, exec (.unmappedAccess .pf a w) s = .next t ∧ t.bit Reg.HOST_STAT 31 = true ∧
      (s.bit Reg.HOST_STAT 31 = false → t.reg Reg.HOST_UNMAP = BitVec.ofNat 32 (a % 2 ^ 28)) ∧
      (s.bit Reg.HOST_STAT 31 = true → t.reg Reg.HOST_UNMAP = s.reg Reg.HOST_UNMAP) ∧
      (w = false → t.reply = [0]) ∧ ∀ b, b ≠ Reg.HOST_STAT → b ≠ Reg.HOST_UNMAP → t.reg b = s.reg b) ∧
    (∃ t, exec (.badShapeRequest .pf w dwords) s = .next t ∧ t.bit Reg.HOST_STAT 30 = true ∧
      (w = false → t.reply = List.replicate dwords 0) ∧ ∀ b, b ≠ Reg.HOST_STAT → t.reg b = s.reg b) ∧
    exec (.unmappedAccess (.vf n) a true) s = .next (s.vfViolation n 12 a)

/-- A read of TIME_MONO_LO by the PF or an engine returns the low word of MONO; that master's next read of TIME_MONO_HI returns the high word MONO had at the first read, however far MONO has counted since and whatever another master reads in between. -/
def Obligations.WideValuesReadConsistently : Prop :=
  ∀ (m m' : Master) (s : State) (now : Time), m.trusted = true → m'.trusted = true → m ≠ m' →
    ∃ t, exec (.wideLowRead m Reg.TIME_MONO_LO) s = .next t ∧ t.reply = [BitVec.ofNat 32 s.time.mono] ∧
      ∃ u, exec (.wideLowRead m' Reg.TIME_MONO_LO) { t with time := now } = .next u ∧
        u.reply = [BitVec.ofNat 32 now.mono] ∧
        ∃ v, exec (.clearOnRead m Reg.TIME_MONO_HI) u = .next v ∧
          v.reply = [BitVec.ofNat 32 (s.time.mono / 2 ^ 32)] ∧ v.regs = s.regs

/-- Each period the running loop raises the voltage at once when the lowest capacity is below need, lowers it by 5 mV after DOWN_HOLD periods of more than 1.03 times need, and holds it otherwise, within VMIN and VMAX; a changed voltage is sent and awaits its acknowledge. FIXED commands FIXED_MV in 5 mV steps. Only PWR_AVS_STAT changes among the registers. Choices of the model it meets: log entry 78. -/
def Obligations.VoltageLoop : Prop :=
  ∀ (s : State) (cap load need : Nat), s.avsActive = true → s.avs.awaiting = false →
    s.avs.lastEval + us (oneIfZero (s.fld Reg.PWR_AVS_CTL 11 8)) ≤ s.time.mono →
    (s.fld Reg.PWR_AVS_CTL 31 30 = 3 → s.avsClamp (s.fld Reg.PWR_AVS_LIMIT 9 0 / 5 * 5) ≠ s.fld Reg.PWR_AVS_STAT 25 16 →
      ∃ t, exec .avsLoopPeriod s = .next t ∧ t.avs.v = s.avsClamp (s.fld Reg.PWR_AVS_LIMIT 9 0 / 5 * 5) ∧
        t.avs.awaiting = true ∧ t.out = .avsVoltage t.avs.v :: s.out ∧ t.fld Reg.PWR_AVS_STAT 25 16 = t.avs.v % 1024 ∧
        ∀ a, a ≠ Reg.PWR_AVS_STAT → t.reg a = s.reg a) ∧
    (s.fld Reg.PWR_AVS_CTL 31 30 ≠ 3 →
      (∀ y ∈ s.serviceStreams, cap ≤ s.fld (Reg.SLC_PACE_RATE y.1 y.2.1 y.2.2) 31 16 ∧
        s.fld (Reg.SLC_PACE_RATE y.1 y.2.1 y.2.2) 15 0 ≤ load) →
      (∃ y ∈ s.serviceStreams, cap = s.fld (Reg.SLC_PACE_RATE y.1 y.2.1 y.2.2) 31 16) →
      (∃ y ∈ s.serviceStreams, load = s.fld (Reg.SLC_PACE_RATE y.1 y.2.1 y.2.2) 15 0) →
      need = (if s.fld Reg.PWR_AVS_CTL 31 30 = 1 then 100 * s.fld Reg.PWR_AVS_CTL 27 16 else max 100000 (110 * load)) →
      ∃ t, exec .avsLoopPeriod s = .next t ∧
        (100 * cap < need → t.avs.v = s.avsClamp (s.avs.v + 5 * oneIfZero (s.fld Reg.PWR_AVS_CTL 15 12)) ∧ t.avs.hold = 0) ∧
        (103 * need < 10000 * cap → oneIfZero (s.fld Reg.PWR_AVS_CTL 7 0) ≤ s.avs.hold + 1 →
          t.avs.v = s.avsClamp (s.avs.v - 5) ∧ t.avs.hold = 0) ∧
        (103 * need < 10000 * cap → s.avs.hold + 1 < oneIfZero (s.fld Reg.PWR_AVS_CTL 7 0) →
          t.avs.v = s.avsClamp s.avs.v ∧ t.avs.hold = s.avs.hold + 1) ∧
        (need ≤ 100 * cap → 10000 * cap ≤ 103 * need → t.avs.v = s.avsClamp s.avs.v ∧ t.avs.hold = 0) ∧
        (need ≤ 100 * cap → t.bit Reg.PWR_AVS_STAT 30 = false) ∧
        (100 * cap < need → s.avs.v = s.fld Reg.PWR_AVS_LIMIT 31 22 → t.bit Reg.PWR_AVS_STAT 30 = true) ∧
        t.out = (if t.avs.v = s.avs.v then s.out else .avsVoltage t.avs.v :: s.out) ∧
        ∀ a, a ≠ Reg.PWR_AVS_STAT → t.reg a = s.reg a)

/-- An acknowledged AVSBus transaction ends the failures; the third failure in a row stops the loop, sets BUSERR and reports a CONT fault of PWR instance 0; clearing BUSERR restarts it; a read-back writes VREAD. At the end of a pace window of a powered pipe CAP and LOAD are refreshed and MINCAP keeps the lowest CAP; an unpowered pipe's read 0. Choices of the model it meets: log entry 78. -/
def Obligations.AvsBusAndPace : Prop :=
  ∀ (n : Fin 32) (pipe : Fin 2) (st : Fin 4) (m : Master) (x : Nat) (s : State),
    (s.avs.released = true → s.bit Reg.PWR_AVS_STAT 31 = false →
      (∃ t, exec (.avsTransactionDone true) s = .next t ∧ t.avs.fails = 0 ∧ t.avs.awaiting = false ∧ t.avs.v = s.avs.v ∧
        t.regs = s.regs) ∧
      (s.avs.fails = 2 → ∃ t, exec (.avsTransactionDone false) s = .next t ∧ t.bit Reg.PWR_AVS_STAT 31 = true ∧
        t.avsActive = false ∧ t.avs.v = s.avs.v ∧
        t.flt.reports = s.flt.reports ++ [⟨srcId 4 0, .cont, .logic, 0, 0, s.time.mono⟩] ∧
        ∀ a, a ≠ Reg.PWR_AVS_STAT → a ≠ Reg.HOST_STAT → t.reg a = s.reg a)) ∧
    (m.trusted = true → ∃ t, exec (.avsBuserrClear m) s = .next t ∧ t.bit Reg.PWR_AVS_STAT 31 = false ∧ t.avs.fails = 0 ∧
      ∀ a, a ≠ Reg.PWR_AVS_STAT → t.reg a = s.reg a) ∧
    (s.avsActive = true → s.avs.readDue ≤ s.time.mono → ∃ t, exec (.avsVreadRefresh x) s = .next t ∧
      t.fld Reg.PWR_AVS_STAT 9 0 = min x 1023 ∧ t.avs.readDue = s.time.mono + 100000 ∧
      ∀ a, a ≠ Reg.PWR_AVS_STAT → t.reg a = s.reg a) ∧
    ((s.paceOf n pipe st).start + us (s.fld (Reg.SLC_PACE_CFG n) 3 0 + 1) ≤ s.time.mono →
      ∃ t, exec (.paceWindowEnd n pipe st x) s = .next t ∧
        (s.domOn (4 * n + pipe) = true → t.fld (Reg.SLC_PACE_RATE n pipe st) 31 16 = min x 65535 ∧
          t.fld (Reg.SLC_PACE_RATE n pipe st) 15 0 =
            min 65535 ((s.paceOf n pipe st).completions / (s.fld (Reg.SLC_PACE_CFG n) 3 0 + 1)) ∧
          t.fld (Reg.SLC_PACE_MIN n pipe st) 31 16 = min (min x 65535) (s.fld (Reg.SLC_PACE_MIN n pipe st) 31 16) ∧
          (min x 65535 < s.fld (Reg.SLC_PACE_CFG n) 31 16 → t.bit (Reg.SLC_PACE_MIN n pipe st) 0 = true)) ∧
        (s.domOn (4 * n + pipe) = false → t.reg (Reg.SLC_PACE_RATE n pipe st) = 0))

/-- A report joins the open round or opens one. When a round of CORR reports closes with FLT_FIRST empty, FLT_FIRST takes the report with the lowest source ID and the round's number; a single new report opens record 0, one of the same source and detail as a record being handled merges into it. A shadow ends, the first fault clears and the self-check makes the ERR pair good, each leaving the rest of the part as it is. -/
def Obligations.FaultReportsAndRounds : Prop :=
  ∀ (src d tile a b : Nat) (cls : FaultClass) (e : Element) (r : Report) (i : Fin 64) (x : FltRec) (s : State),
    (reportable src cls = true → elemOf (srcCls src) e = true → s.domOn (srcDomain src) = true → e ≠ .storeWord →
      exec (.faultReport src cls e d tile) s = .next { s with flt := { s.flt with
        round := some (s.flt.round.getD s.time.mono)
        reports := s.flt.reports ++ [⟨src, cls, e, d, tile, s.time.mono⟩] } }) ∧
    (s.flt.round.isSome = true → (∀ q ∈ s.flt.reports, q.cls = .corr) → s.flt.history = [] →
      s.bit Reg.FLT_FIRST 31 = false → r ∈ s.flt.reports → (∀ q ∈ s.flt.reports, q = r ∨ r.src < q.src) →
      ∃ t, exec .collectionRoundClose s = .next t ∧ t.flt.round = none ∧ t.flt.reports = [] ∧
        t.flt.roundNo = s.flt.roundNo + 1 ∧ t.reg Reg.FLT_FIRST = BitVec.ofNat 32 (2 ^ 31 + 2 ^ 29 + r.src) ∧
        t.reg Reg.FLT_FIRST_RND = BitVec.ofNat 32 (s.flt.roundNo + 1)) ∧
    (s.flt.round.isSome = true → s.flt.reports = [r] → r.cls = .corr → s.flt.history = [] → s.flt.recs = [] →
      ∃ t, exec .collectionRoundClose s = .next t ∧ t.bit Reg.FLT_STAT 30 = true ∧
        (t.rec? 0).map (fun y => (y.src, y.cls, y.detail, y.round, y.merge)) =
          some (r.src, FaultClass.corr, r.detail, s.flt.roundNo + 1, 0) ∧
        ∀ j, j ≠ 0 → t.rec? j = none) ∧
    (s.flt.round.isSome = true → s.flt.reports = [r] → r.cls = .corr → s.flt.recs = [(0, x)] → x.state = .selftest →
      x.cls = .corr → x.shadow = none → x.src = r.src → x.detail = r.detail →
      ∃ t, exec .collectionRoundClose s = .next t ∧ t.flt.recs.length = 1 ∧
        (t.rec? 0).map (fun y => (y.state, y.merge, y.sec)) = some (RecState.selftest, min 255 (x.merge + 1), x.sec)) ∧
    (s.rec? i = some x → x.shadow = some (a, b) → b ≤ s.time.mono →
      exec (.shadowEnd i) s = .next (s.setRec i { x with shadow := none })) ∧
    exec (.firstFaultClear .pf) s = .next ((s.setReg Reg.FLT_FIRST 0).setReg Reg.FLT_FIRST_RND 0) ∧
    (∃ t, exec .collectorSelfcheckDone s = .next t ∧ t.flt.selfChecked = true ∧ t.regs = s.regs ∧
      (s.flt.recs = [] → t.errFault = false)) ∧
    (s.flt.selfChecked = false → s.errFault = true)

/-- A record whose self-test passes is DONE; one whose self-test fails is lasting: HELD while AUTO_SPARE is 0, under REPAIR while a spare is left, else HELD with NOSPARE. A repair done leaves it DONE. CLOSE frees a record in DONE, RELEASE returns a HELD one to service, REPAIR takes a spare for it, each with RESULT OK. No other record changes. Choices of the model it meets: log entries 75, 76. -/
def Obligations.CourseOfARecord : Prop :=
  ∀ (r : Fin 64) (x : FltRec) (m : Master) (s : State), s.rec? r = some x → m.trusted = true →
    x.needLoad = false → x.needCommit = [] → x.scope = .none → x.isTile = false →
    (x.state = .selftest →
      (∃ t, exec (.selftestDone r true) s = .next t ∧ t.rec? r = some { x with state := .done } ∧
        t.flt.history = s.flt.history ++ [(x.src, x.detail, s.time.mono)] ∧ ∀ j, j ≠ r.val → t.rec? j = s.rec? j) ∧
      (∃ t, exec (.selftestDone r false) s = .next t ∧ (∀ j, j ≠ r.val → t.rec? j = s.rec? j) ∧
        (s.bit Reg.FLT_CTL 29 = false → t.rec? r = some { x with state := .held, lasting := true }) ∧
        (s.bit Reg.FLT_CTL 29 = true → s.spareLeft x = true →
          t.rec? r = some { x with state := .repair, lasting := true, spareUsed := true }) ∧
        (s.bit Reg.FLT_CTL 29 = true → s.spareLeft x = false →
          t.rec? r = some { x with state := .held, lasting := true } ∧ t.bit Reg.FLT_STAT 28 = true))) ∧
    (x.state = .repair → exec (.spareRepairDone r) s = .next (s.setRec r { x with state := .done })) ∧
    (x.state = .done → ∃ t, exec (.close m r) s = .next t ∧ t.rec? r = none ∧ t.fld Reg.FLT_REC_CMD 28 26 = 0 ∧
      ∀ j, j ≠ r.val → t.rec? j = s.rec? j) ∧
    (x.state = .held →
      (∃ t, exec (.release m r) s = .next t ∧ t.rec? r = some { x with state := .done } ∧
        t.fld Reg.FLT_REC_CMD 28 26 = 0 ∧ ∀ j, j ≠ r.val → t.rec? j = s.rec? j) ∧
      (x.lasting = true → x.spareUsed = false → s.spareLeft x = true →
        ∃ t, exec (.repair m r) s = .next t ∧ t.rec? r = some { x with state := .repair, spareUsed := true } ∧
          t.fld Reg.FLT_REC_CMD 28 26 = 0 ∧ ∀ j, j ≠ r.val → t.rec? j = s.rec? j))

/-- A granted request waits for its ramp; a switch-off whose conditions do not hold is refused with COND and REQ reads back 1; a master that may not write PWR_DOMd is refused with PERM. A ramp starts in grant order while fewer than four domains ramp, ends in the commanded state, and one that has not ended after 100 microseconds leaves the domain HELD with a CONT report of PWR source 1 + d. Choices of the model it meets: log entries 28, 29. -/
def Obligations.DomainRequests : Prop :=
  ∀ (d : Fin 148) (m : Master) (up : Bool) (e : Ramp) (rest : List (Nat × Bool)) (s : State),
    (domWriter m d = true → s.domState d = 0 → s.domAsked d = false → s.pwr.ramping = [] →
      ∃ t, exec (.domainOnRequest m d) s = .next t ∧ t.pwr = { s.pwr with waiting := s.pwr.waiting ++ [(d.val, true)] } ∧
        t.fld (Reg.PWR_DOM d) 26 24 = 0 ∧ t.bit (Reg.PWR_DOM d) 31 = true ∧
        ∀ a, a ≠ Reg.PWR_DOM d → t.reg a = s.reg a) ∧
    (domWriter m d = true → s.domState d = 2 → s.domAsked d = true → s.pwr.ramping = [] →
      (s.offOk d = true →
        ∃ t, exec (.domainOffRequest m d) s = .next t ∧ t.pwr = { s.pwr with waiting := s.pwr.waiting ++ [(d.val, false)] } ∧
          t.fld (Reg.PWR_DOM d) 26 24 = 0 ∧ t.bit (Reg.PWR_DOM d) 31 = false ∧
          ∀ a, a ≠ Reg.PWR_DOM d → t.reg a = s.reg a) ∧
      (s.offOk d = false →
        ∃ t, exec (.domainOffRequest m d) s = .next t ∧ t.pwr = s.pwr ∧ t.fld (Reg.PWR_DOM d) 26 24 = 1 ∧
          t.bit (Reg.PWR_DOM d) 31 = true)) ∧
    (m.trusted = true → domWriter m d = false →
      ∃ t, exec (.domainOnRequest m d) s = .next t ∧ t.pwr = s.pwr ∧ t.fld (Reg.PWR_DOM d) 26 24 = 2) ∧
    (s.pwr.ramping.length < 4 → s.nextRamp = some ((d.val, up), rest) →
      (up = true → s.domState d = 0 →
        ∃ t, exec .domainRampStart s = .next t ∧ t.domState d = 1 ∧
          t.pwr = { s.pwr with waiting := rest, ramping := s.pwr.ramping ++ [⟨d, true, s.time.mono⟩] } ∧
          ∀ a, a ≠ Reg.PWR_DOM d → t.reg a = s.reg a) ∧
      (up = false → s.domState d = 2 → 128 ≤ d.val → d.val < 132 →
        ∃ t, exec .domainRampStart s = .next t ∧ t.domState d = 3 ∧ t.domOn d = false ∧
          t.pwr = { s.pwr with waiting := rest, ramping := s.pwr.ramping ++ [⟨d, false, s.time.mono⟩] })) ∧
    (s.pwr.ramping.find? (fun y => y.dom == d.val) = some e →
      (s.time.mono < e.start + 100000 →
        (e.up = true → d.val < 132 → ∃ t, exec (.domainRampDone d) s = .next t ∧ t.domOn d = true ∧
          t.pwr.ramping = s.pwr.ramping.filter (fun y => y.dom != d.val) ∧ ∀ a, a ≠ Reg.PWR_DOM d → t.reg a = s.reg a) ∧
        (e.up = false → ∃ t, exec (.domainRampDone d) s = .next t ∧ t.domState d = 0 ∧
          t.pwr.ramping = s.pwr.ramping.filter (fun y => y.dom != d.val) ∧ ∀ a, a ≠ Reg.PWR_DOM d → t.reg a = s.reg a)) ∧
      (e.start + 100000 ≤ s.time.mono → 128 ≤ d.val → d.val < 132 →
        ∃ t, exec (.domainRampTimeout d) s = .next t ∧ t.domState d = 4 ∧
          t.pwr.ramping = s.pwr.ramping.filter (fun y => y.dom != d.val) ∧
          t.flt.reports = s.flt.reports ++ [⟨srcId 4 (1 + d.val), .cont, .logic, 0, 0, s.time.mono⟩]))

/-- Every core reset (RESET_N, DEV_RST.CORE, the FATAL timer) frees every lock, empties the vat, the tables and the pipes, records its cause and keeps MONO, the fuses and the flash. The loss of the always-on supply and the power-on reset restart MONO and keep the fuses and the flash. RESET_N's release asks for every domain, the PCI Express domain first. A PCI Express reset takes the link down and frees the locks of the PF and the VFs, and no other. Choices of the model it meets: log entries 30, 31. -/
def Obligations.Resets : Prop :=
  ∀ (at_ : Nat) (b : Bool) (s : State),
    (s.pwr.shutdown ≠ .running → ∃ t, exec (.core .pf) s = .next t ∧ t.fld Reg.DEV_RSTCAUSE 15 0 = 3 ∧ t.locks = [] ∧
      t.vat = {} ∧ t.tbl = {} ∧ t.ctxs = [] ∧ t.time = s.time ∧ t.fuses = s.fuses ∧ t.boot.flash = s.boot.flash ∧
      (s.pwr.resetN = true → t.pwr.waiting.length = 148)) ∧
    (s.flt.fatalDue = some at_ → at_ ≤ s.time.mono → ∃ t, exec .fatalResetTimer s = .next t ∧
      t.fld Reg.DEV_RSTCAUSE 15 0 = 4 ∧ t.flt.fatalDue = none ∧ t.locks = [] ∧ t.vat = {} ∧ t.time = s.time ∧
      t.fuses = s.fuses) ∧
    (s.pwr.resetN = true → ∃ t, exec .resetNAssert s = .next t ∧ t.pwr.resetN = false ∧
      t.fld Reg.DEV_RSTCAUSE 15 0 = (if s.pwr.shutdown = .running then 5 else 2) ∧ t.locks = [] ∧ t.vat = {} ∧
      t.time = s.time ∧ t.fuses = s.fuses) ∧
    (s.pwr.resetN = false → ∃ t, exec (.resetNRelease b) s = .next t ∧ t.pwr.resetN = true ∧
      t.fld Reg.BOOT_STAT 31 28 = (if b then 6 else 1) ∧ t.pwr.waiting.length = 148 ∧
      t.pwr.waiting.head? = some (145, true) ∧ ∀ a, a ≠ Reg.BOOT_STAT → t.reg a = s.reg a) ∧
    (s.pwr.aonValid = true → ∃ t, exec .aonSupplyLoss s = .next t ∧ t.pwr.aonValid = false ∧ t.regs = [] ∧
      t.time = State.reset.time ∧ t.locks = [] ∧ t.fuses = s.fuses ∧ t.boot.flash = s.boot.flash) ∧
    (∃ t, exec .powerOnReset s = .next t ∧ t.pwr.aonValid = true ∧ t.time = State.reset.time ∧ t.fuses = s.fuses ∧
      t.boot.flash = s.boot.flash) ∧
    (∃ t, exec (.perstN true) s = .next t ∧ t.pwr.perstN = false ∧ t.host.up = false ∧
      (∀ i, t.lockOwner i = if hostId (s.lockOwner i) then 0 else s.lockOwner i) ∧ t.time = s.time) ∧
    exec .perstNRelease s = .next { s with pwr := { s.pwr with perstN := true } }

/-- DEV_RST.ENG clears an engine's registers, return stack and entry buffers and frees its locks, and an engine with RUN = 0 stays halted; its journal and its store stay. A shutdown starts once, with every running engine asked to halt; it is complete, with SDRDY, when the ledger is idle and the engines stand halted. Choices of the model it meets: log entry 30. -/
def Obligations.EngineResetAndShutdown : Prop :=
  ∀ (k : Fin 4) (s : State),
    (s.domOn (146 + k.val / 2) = true → s.bit (Reg.MGE_CTL k) 31 = false →
      ∃ t, exec (.eng .pf (BitVec.ofNat 4 (2 ^ k.val))) s = .next t ∧ (t.engine k).g = [] ∧ (t.engine k).rstack = [] ∧
        (t.engine k).eb = [] ∧ (t.engine k).store = (s.engine k).store ∧ (t.engine k).records = (s.engine k).records ∧
        t.engHalted k = true ∧ ∀ i, t.lockOwner i = if s.lockOwner i = 0x80 + k.val then 0 else s.lockOwner i) ∧
    (s.pwr.shutdown = .none → (∀ p : Fin 1024, (s.assigned p && s.portOn p) = false) →
      ∃ t, exec (.shutdown .pf) s = .next t ∧ t.pwr = { s.pwr with shutdown := .running } ∧
        (∀ a, a ≠ Reg.LEDG_STAT → t.reg a = s.reg a) ∧
        (s.engRuns k = true → (t.engine k).haltReq = true) ∧ (s.ledger.busy.isSome = true → t.ledger.wantSummary = some 2)) ∧
    (s.pwr.shutdown = .running → s.ledger.busy = none → s.ledger.queue = [] → s.ledger.wantSummary = none →
      (∀ j : Fin 4, s.engRuns j = false) → ∃ t, exec .shutdownComplete s = .next t ∧ t.pwr.shutdown = .ready ∧
        t.bit Reg.DEV_RST 29 = true ∧ ∀ a, a ≠ Reg.DEV_RST → t.reg a = s.reg a)

/-- COMMIT snapshots the staging window; the check ends with RESULT, and on OK the whole descriptor takes effect and nothing else does; on any other result every descriptor stays. After an OK commit no two valid compartments of the slice share a front port. The millisecond window ends for every compartment, and the PF's QUAR write ends a quarantine. Choices of the model it meets: log entry 41. -/
def Obligations.RindCommits : Prop :=
  ∀ (m : Master) (n : Fin 32) (idx : Fin 16) (i : Nat) (ws : List Word) (j : Fin 64) (c c' : Fin 8) (q : BitVec 8) (s : State),
    (m.trusted = true → s.bit (Reg.SLC_RIND_CMD n) 30 = false → ∃ t, exec (.rindCommit m n idx) s = .next t ∧
      (t.slice n).commit = some (idx.val, (List.range 64).map fun k => s.reg (Reg.SLC_RIND_STAGE n k)) ∧
      t.bit (Reg.SLC_RIND_CMD n) 30 = true ∧ ∀ a, a ≠ Reg.SLC_RIND_CMD n → t.reg a = s.reg a) ∧
    ((s.slice n).commit = some (i, ws) →
      ∃ t, exec (.rindCommitDone n) s = .next t ∧ t.bit (Reg.SLC_RIND_CMD n) 30 = false ∧ (t.slice n).commit = none ∧
        t.fld (Reg.SLC_RIND_CMD n) 29 27 = s.commitResult n i (ws.flatMap fun w => toLE 4 w.toNat) ∧
        (t.fld (Reg.SLC_RIND_CMD n) 29 27 = 0 → t.reg (Reg.SLC_RIND_DESC n i j) = ws.getD j 0 ∧
          (c ≠ c' → t.compValid n c = true → t.compValid n c' = true →
            t.desc n (1 + c) 8 4 &&& t.desc n (1 + c') 8 4 = 0)) ∧
        ∀ a, a ≠ Reg.SLC_RIND_CMD n →
          (t.fld (Reg.SLC_RIND_CMD n) 29 27 ≠ 0 ∨ ∀ k : Fin 64, a ≠ Reg.SLC_RIND_DESC n i k) → t.reg a = s.reg a) ∧
    (s.vwinStart + 1000000 ≤ s.time.mono → ∃ t, exec .quarantineWindowEnd s = .next t ∧ (t.slice n).vwin = [] ∧
      t.vwinStart = s.vwinStart + 1000000 ∧ t.regs = s.regs) ∧
    (∃ t, exec (.quarantineRelease .pf n q) s = .next t ∧
      t.fld (Reg.SLC_RIND_STAT n) 31 24 = s.fld (Reg.SLC_RIND_STAT n) 31 24 &&& (255 - q.toNat) ∧
      t.fld (Reg.SLC_RIND_STAT n) 23 0 = s.fld (Reg.SLC_RIND_STAT n) 23 0 ∧
      ∀ a, a ≠ Reg.SLC_RIND_STAT n → t.reg a = s.reg a)

/-- A violation adds 1 to its compartment's counter, which stops at all ones, is recorded when VREC holds none, sets the compartment's flag, and quarantines the compartment when the window's violations pass QLIMIT; QLIMIT 0 never quarantines. Its slice's other registers stay. -/
def Obligations.ViolationsQuarantine : Prop :=
  ∀ (n : Fin 32) (c : Fin 8) (kind pipe stage detail : Nat) (s : State), 1 ≤ kind → kind < 16 → pipe < 2 → stage < 32 →
    ((s.violate n c kind pipe stage detail).reg (Reg.SLC_RIND_VCNT n c)).toNat =
      min (2 ^ 32 - 1) ((s.reg (Reg.SLC_RIND_VCNT n c)).toNat + 1) ∧
    (s.fld (Reg.SLC_RIND_VREC n) 31 28 = 0 → ((s.violate n c kind pipe stage detail).reg (Reg.SLC_RIND_VREC n)).toNat =
      kind * 2 ^ 28 + c * 2 ^ 25 + pipe * 2 ^ 24 + stage * 2 ^ 19 + detail % 65536) ∧
    (s.fld (Reg.SLC_RIND_VREC n) 31 28 ≠ 0 →
      (s.violate n c kind pipe stage detail).reg (Reg.SLC_RIND_VREC n) = s.reg (Reg.SLC_RIND_VREC n)) ∧
    (s.violate n c kind pipe stage detail).bit (Reg.SLC_RIND_STAT n) (16 + c) = true ∧
    (s.fld (Reg.SLC_RIND_CTL n) 15 8 ≠ 0 → s.fld (Reg.SLC_RIND_CTL n) 15 8 ≤ Store.read 0 (s.slice n).vwin c →
      (s.violate n c kind pipe stage detail).bit (Reg.SLC_RIND_STAT n) (24 + c) = true) ∧
    (s.fld (Reg.SLC_RIND_CTL n) 15 8 = 0 ∨ Store.read 0 (s.slice n).vwin c < s.fld (Reg.SLC_RIND_CTL n) 15 8 →
      (s.violate n c kind pipe stage detail).bit (Reg.SLC_RIND_STAT n) (24 + c) = s.bit (Reg.SLC_RIND_STAT n) (24 + c)) ∧
    ∀ a, a ≠ Reg.SLC_RIND_VCNT n c → a ≠ Reg.SLC_RIND_VREC n → a ≠ Reg.SLC_RIND_STAT n → a ≠ Reg.HOST_STAT →
      (s.violate n c kind pipe stage detail).reg a = s.reg a

/-- In the state that lists it, LOAD and VERIFY wait for a place, SWAP waits for its switch, DISCARD and ABORT end in IDLE with the shadow free, FORCE_RETIRE marks the old epoch dead; ISSUER names the master. A command issued while another runs is ignored and sets the busy flag; in any other state it is refused with STATE, as is every reserved code. Choices of the model it meets: log entry 15. -/
def Obligations.LoaderCommands : Prop :=
  ∀ (m : Master) (n : Fin 32) (k : Fin 16) (s : State), m.trusted = true →
    (s.ldState n = 0 → s.domOn (4 * n) = true → s.domOn (4 * n + 1) = true →
      (∃ t, exec (.load m n) s = .next t ∧ t.waitsPlace n = true ∧ (t.loader n).isVerify = false ∧ (t.loader n).issuer = m ∧
        (t.loader n).ticket = s.tickets ∧ t.tickets = s.tickets + 1 ∧ t.fld (Reg.SLC_BS_CMD n) 31 16 = m.id) ∧
      (∃ t, exec (.verify m n) s = .next t ∧ t.waitsPlace n = true ∧ (t.loader n).isVerify = true ∧ (t.loader n).issuer = m)) ∧
    (s.ldState n = 4 →
      (∃ t, exec (.swap m n) s = .next t ∧ t.ldState n = 5 ∧ t.slices = s.slices) ∧
      (∃ t, exec (.discard m n) s = .next t ∧ t.ldState n = 0 ∧ (t.slice n).shadow = {} ∧
        (t.slice n).active = (s.slice n).active ∧ t.fld (Reg.SLC_BS_STAT n) 23 16 = 0 ∧
        t.bit (Reg.SLC_BS_STAT n) 15 = true)) ∧
    (s.ldState n = 7 → ∃ t, exec (.forceRetire m n) s = .next t ∧ t.ldState n = 7 ∧
      t.isDead n (s.fld (Reg.SLC_EPOCH n) 27 24) = true) ∧
    (s.ldState n = 1 ∨ s.ldState n = 2 ∨ s.ldState n = 3 → ∃ t, exec (.abort m n) s = .next t ∧ t.ldState n = 0 ∧
      (t.slice n).shadow = {} ∧ t.fld (Reg.SLC_BS_STAT n) 23 16 = 0x15 ∧ t.bit (Reg.SLC_BS_STAT n) 15 = true) ∧
    (∃ t, exec (.loaderCmdReserved m n k) s = .next t ∧ t.ldState n = s.ldState n ∧
      (ldRunning (s.ldState n) = true → t.bit (Reg.SLC_BS_STAT n) 12 = true) ∧
      (ldRunning (s.ldState n) = false → t.fld (Reg.SLC_BS_STAT n) 23 16 = 0x14)) ∧
    (ldRunning (s.ldState n) = true → exec (.swap m n) s = .next (s.setBit (Reg.SLC_BS_STAT n) 12 true))

/-- The oldest waiting command takes one of the four places and reads its container. A failed read ends it with FETCH, a bad CRC with CRC; an accepted header has its claim checked. A failed signature, or the claim's verdict, ends the command with its code, else the frames are applied; they fill the shadow or end the load with a code and the frame's number. -/
def Obligations.LoadSteps : Prop :=
  ∀ (n : Fin 32) (b : Option (List Byte)) (bs : List Byte) (s : State),
    (s.waitsPlace n = true → s.placesHeld < 4 →
      (∀ k : Fin 32, s.waitsPlace k = true → (s.loader n).ticket ≤ (s.loader k).ticket) →
      ∃ t, exec (.loadPlaceTaken n) s = .next t ∧ (t.loader n).place = true ∧ t.out.length = s.out.length + 1 ∧
        t.regs = s.regs) ∧
    (s.ldState n = 1 → (s.loader n).place = true →
      (b = none → ∃ t, exec (.loadFetchDone n b) s = .next t ∧ t.ldState n = 0 ∧ t.fld (Reg.SLC_BS_STAT n) 23 16 = 1 ∧
        (t.loader n).place = false) ∧
      (b = some bs → bs.length = s.fld (Reg.SLC_BS_LEN n) 24 0 →
        (containerCrcOk bs = false → ∃ t, exec (.loadFetchDone n b) s = .next t ∧ t.ldState n = 0 ∧
          t.fld (Reg.SLC_BS_STAT n) 23 16 = 2 ∧ (t.slice n).active = (s.slice n).active) ∧
        (containerCrcOk bs = true → headerCheck bs bs.length = 0 → s.scopeOk n (s.loader n).issuer bs = true →
          s.slotValid (leAt bs (sigOff bs) 1) = true → s.bit (Reg.SLC_RIND_CTL n) (17 + leAt bs (sigOff bs) 1) = true →
          ∃ t, exec (.loadFetchDone n b) s = .next t ∧ t.ldState n = 2 ∧ (t.loader n).bytes = bs ∧
            (t.loader n).verdict = s.claimCheck n bs ∧ (t.slice n).active = (s.slice n).active))) ∧
    (s.ldState n = 2 → ∃ t, exec (.loadSignaturesDone n) s = .next t ∧
      (t.slice n).active = (s.slice n).active ∧
      t.bit (Reg.SLC_BS_STAT n) 13 = decide (s.sigCheck (s.loader n).bytes = 0) ∧
      t.ldState n = (if s.sigCheck (s.loader n).bytes = 0 ∧ (s.loader n).verdict = 0 ∧ (s.loader n).isVerify = false
        then 3 else 0)) ∧
    (s.ldState n = 3 → ∃ t, exec (.loadShadowDone n) s = .next t ∧ (t.slice n).active = (s.slice n).active ∧
      (∀ bk ∈ (s.buildShadow n (s.loader n).issuer (s.loader n).bytes (s.loader n).scopeDesc).toOption,
        t.ldState n = 4 ∧ (t.slice n).shadow = bk.record ∧ t.fld (Reg.SLC_BS_STAT n) 23 16 = 0) ∧
      ((s.buildShadow n (s.loader n).issuer (s.loader n).bytes (s.loader n).scopeDesc).toOption = none →
        t.ldState n = 0 ∧ (t.fld (Reg.SLC_BS_STAT n) 23 16, t.fld (Reg.SLC_BS_STAT n) 11 0) =
          (match s.buildShadow n (s.loader n).issuer (s.loader n).bytes (s.loader n).scopeDesc with
            | .ok _ => (0, 0)
            | .error e => (e.1 % 256, e.2 % 4096))))

/-- When no queued recirculation carries the new value, a swap makes the shadow the active bank under the next epoch, keeps the old bank for the old epoch and retires it once no frame of that epoch is in flight. A late retirement is flagged and, with AUTO_FORCE, forced. -/
def Obligations.EpochSwaps : Prop :=
  ∀ (n : Fin 32) (s : State),
    (s.ldState n = 5 → (s.loader n).drain = false → s.swapMayGo n = true →
      ∃ t, exec (.epochSwitch n) s = .next t ∧ t.curEpoch n = (s.curEpoch n + 1) % 16 ∧ t.ldState n = 7 ∧
        (t.slice n).activeB = !(s.slice n).activeB ∧
        (t.slice n).active = { (s.slice n).shadow with epoch := (s.curEpoch n + 1) % 16 } ∧
        (t.slice n).shadow = (s.slice n).active ∧ t.fld (Reg.SLC_EPOCH n) 27 24 = s.curEpoch n ∧
        t.bit (Reg.SLC_EPOCH n) 23 = true ∧ t.isDead n ((s.curEpoch n + 1) % 16) = false) ∧
    (s.ldState n = 7 → s.retireReady n = true → ∃ t, exec (.bankRetire n) s = .next t ∧ t.ldState n = 0 ∧
      (t.slice n).shadow = {} ∧ (t.slice n).active = (s.slice n).active ∧ t.curEpoch n = s.curEpoch n ∧
      t.bit (Reg.SLC_EPOCH n) 23 = false ∧ t.bit (Reg.SLC_BS_STAT n) 15 = true) ∧
    (s.ldState n = 7 → (s.loader n).since + us (max 1 (s.fld (Reg.SLC_EPOCH_CFG n) 31 16)) ≤ s.time.mono →
      ∃ t, exec (.retireTimeout n) s = .next t ∧ t.bit (Reg.SLC_EPOCH n) 22 = true ∧ t.ldState n = 7 ∧
        (s.bit (Reg.SLC_EPOCH_CFG n) 0 = true → t.isDead n (s.fld (Reg.SLC_EPOCH n) 27 24) = true) ∧
        ∀ a, a ≠ Reg.SLC_EPOCH n → t.reg a = s.reg a)

/-- A drain starts, ends with both pipes empty or at its bound with the frames inside discarded, switches the banks with the old epoch dead, and after a good continuity check the slice resumes with the loader IDLE; a failed check restores the banks and the epoch and reports a CONT fault, and the slice resumes with SELFCHECK once the restored interconnect is checked. -/
def Obligations.DrainSwaps : Prop :=
  ∀ (n : Fin 32) (p : TilePath) (s : State),
    (s.ldState n = 5 → (s.loader n).drain = true → s.swapMayGo n = true → ∃ t, exec (.drainStart n) s = .next t ∧
      (t.loader n).phase = .pipes ∧ t.ldState n = 6 ∧ (t.loader n).preEpoch = s.curEpoch n ∧
      (t.loader n).since = s.time.mono) ∧
    ((s.loader n).phase = .pipes →
      (s.ctxsOf n = [] → exec (.drainPipesDone n) s = .next (s.setLoader n { s.loader n with phase := .switching })) ∧
      ((s.loader n).since + 80000 ≤ s.time.mono → ∃ t, exec (.drainBoundReached n) s = .next t ∧
        (t.loader n).phase = .switching ∧ t.ctxsOf n = [])) ∧
    ((s.loader n).phase = .switching → ∃ t, exec (.drainSwitchDone n) s = .next t ∧ (t.loader n).phase = .check ∧
      (t.slice n).activeB = !(s.slice n).activeB ∧ t.curEpoch n = (s.curEpoch n + 1) % 16 ∧
      t.isDead n (s.loader n).preEpoch = true) ∧
    ((s.loader n).phase = .check →
      (∃ t, exec (.continuityCheckDone n none) s = .next t ∧ t.ldState n = 0 ∧ (t.loader n).phase = .none ∧
        t.fld (Reg.SLC_BS_STAT n) 23 16 = 0 ∧ (t.slice n).shadow = {}) ∧
      (∃ t, exec (.continuityCheckDone n (some p)) s = .next t ∧ (t.loader n).phase = .revert ∧
        (t.slice n).activeB = !(s.slice n).activeB ∧ t.curEpoch n = (s.loader n).preEpoch % 16 ∧
        t.flt.reports.length = s.flt.reports.length + 1 ∧
        t.flt.reports.getLast?.map (fun r => (r.src, r.cls)) =
          some (srcId (18 + p.pipe.val) (n.val * 64 + min p.stage 31 * 2), FaultClass.cont))) ∧
    ((s.loader n).phase = .revert → ∃ t, exec (.revertCheckDone n) s = .next t ∧ t.ldState n = 0 ∧
      t.fld (Reg.SLC_BS_STAT n) 23 16 = 0x16 ∧ (t.slice n).shadow = {})

/-- The first bytes at a port that is UP take a descriptor and a cell; a port in SAFE and a draining slice count the frame away. Later bytes join the frame; byte MAXLEN + 1 ends it as oversize; at its end a frame is counted once under its first reason; a staged frame that goes on for REASM_TMO microseconds without a byte is given up, and an open stored one is closed. Choices of the model it meets: log entry 47. -/
def Obligations.FramesArriveAtPorts : Prop :=
  ∀ (p : Fin 1024) (l : List Byte) (bad : Bool) (d a k f : Nat) (x : Rx) (s : State),
    ((s.port p).rx = none → s.assigned p = true → s.domOn (4 * (p / 32) + 2) = true →
      (s.portState p = 2 → s.pail = false → l.length ≤ 60 →
        s.cellCheck (s.ownerOf (p / 32) (p % 32)).isSome (p / 32) ((s.ownerOf (p / 32) (p % 32)).getD 0) true = none →
        s.freeDesc = some d → s.freeCell = some a →
        ∃ t, exec (.rxFrameStart (.port p) l) s = .next t ∧ t.allocated a = true ∧
          (t.frame? d).map (fun y => (y.cells, y.inPort, y.isOpen, y.hold, y.refcnt)) = some ([a], p.val, true, true, 1) ∧
          ((t.port p).rx.map fun y => (y.desc, y.raw)) = some (some d, l) ∧ t.regs = s.regs) ∧
      (s.portState p = 3 → exec (.rxFrameStart (.port p) l) s = .next (s.portCount p 7)) ∧
      (s.portState p = 4 → exec (.rxFrameStart (.port p) l) s = .next (s.count (Reg.SLC_DRAIN_DROP (p / 32))))) ∧
    ((s.port p).rx = some x → x.discard = false → x.tagLen = false → x.desc = none →
      (x.raw.length + l.length ≤ x.maxlen → (s.portStored p (x.raw ++ l)).length ≤ 16384 →
        ∃ t, exec (.rxLaterCell (.port p) l) s = .next t ∧
          (t.port p).rx = some { x with raw := x.raw ++ l, last := s.time.mono } ∧ t.regs = s.regs ∧ t.vat = s.vat) ∧
      (x.maxlen ≤ x.raw.length → ∃ t, exec (.rxOversize p) s = .next t ∧
        (t.port p).rx = some { x with discard := true } ∧
        (t.reg (Reg.PORT_CNT p 1)).toNat = min (2 ^ 32 - 1) ((s.reg (Reg.PORT_CNT p 1)).toNat + 1) ∧ t.vat = s.vat) ∧
      (x.raw.length ≤ x.maxlen → (s.portStored p x.raw).length ≤ 16384 →
        rxReason (s.fld (Reg.PORT_TAG p) 15 0) x bad = some k →
        ∃ t, exec (.rxFrameEnd (.port p) [] bad) s = .next t ∧ (t.port p).rx = none ∧
          (t.reg (Reg.PORT_CNT p k)).toNat = min (2 ^ 32 - 1) ((s.reg (Reg.PORT_CNT p k)).toNat + 1) ∧ t.vat = s.vat)) ∧
    (∀ y ∈ s.frame? f, f < 2097152 → y.isOpen = true → y.lastByte + us (max 1 (s.fld Reg.VAT_CTL 15 0)) ≤ s.time.mono →
      ∃ t, exec (.reasmTimeout f) s = .next t ∧ ∀ z ∈ t.frame? f, z.isOpen = false) ∧
    (f = 2097152 + p.val → (s.port p).rx = some x → s.pail = true →
      x.last + us (max 1 (s.fld Reg.VAT_CTL 15 0)) ≤ s.time.mono →
      ∃ t, exec (.reasmTimeout f) s = .next t ∧ (t.port p).rx = none)

/-- The admission arbiter grants the first waiting frame of a side: a frame of a valid compartment that is not quarantined enters the pipe under the current epoch; one that no valid compartment owns is dropped and counted in SLC_UNOWNED_DROP, a recirculated one of a dead epoch in SLC_EPOCH_DROP. A parse that ends gives the frame its length, payload offset and flags; one that leaves the node window is a violation of kind BRANCH and drops the frame. -/
def Obligations.AdmissionAndParse : Prop :=
  ∀ (n : Fin 32) (st : Fin 4) (k c node po fl : Nat) (f : Frame) (x : Ctx) (pr : Parse) (s : State),
    (firstSeq (s.waitingAt n st false) = some (k, f) → s.admits n = true → f.isOpen = false →
      (f.owned = true → s.compValid n f.comp = true → s.bit (Reg.SLC_RIND_STAT n) (24 + f.comp) = false →
        f.isRecirc = false → ∃ t, exec (.ingressAdmit n st false false) s = .next t ∧
          (t.ctx? s.nextCtx).map (fun y => (y.slice, y.pipe, y.frame, y.comp, y.epoch, y.stage)) =
            some (n.val, 0, k, f.comp, s.curEpoch n, 0) ∧
          (t.ctx? s.nextCtx).map (fun y => (y.mdBE 0 2, y.mdBE 2 2, y.mdBE 6 1)) =
            some (f.inPort % 65536, f.orig % 65536, f.comp % 256) ∧
          (t.frame? k).map (fun y => (y.waiting, y.epoch)) = some (false, s.curEpoch n) ∧ t.regs = s.regs) ∧
      (f.owned = false ∨ s.compValid n f.comp = false ∨ s.bit (Reg.SLC_RIND_STAT n) (24 + f.comp) = true →
        ∃ t, exec (.ingressAdmit n st false false) s = .next t ∧ t.ctxs = s.ctxs ∧
          (t.reg (Reg.SLC_UNOWNED_DROP n)).toNat = min (2 ^ 32 - 1) ((s.reg (Reg.SLC_UNOWNED_DROP n)).toNat + 1)) ∧
      (f.owned = true → s.compValid n f.comp = true → s.bit (Reg.SLC_RIND_STAT n) (24 + f.comp) = false →
        f.isRecirc = true → s.isDead n f.epoch = true →
        ∃ t, exec (.ingressAdmit n st false false) s = .next t ∧ t.ctxs = s.ctxs ∧
          (t.reg (Reg.SLC_EPOCH_DROP n)).toNat = min (2 ^ 32 - 1) ((s.reg (Reg.SLC_EPOCH_DROP n)).toNat + 1))) ∧
    (s.ctx? c = some x → s.frame? x.frame = some f → x.parsed = false → x.pipe = 0 → f.isOpen = false →
      (s.parse x f f.bytes.length = (pr, .done node po fl) → pr.hdrs = [] → fl % 2 = 0 →
        ∃ t, exec (.parseDone c) s = .next t ∧
          (t.ctx? c).map (fun y => (y.parsed, y.mdBE 4 2, y.mdBE 9 1, y.mdBE 10 1, y.mdBE 11 1, y.mdBE 12 2)) =
            some (true, f.bytes.length % 65536, (fl + if pr.hfull then 32 else 0) % 256, node % 256, 0, po % 65536) ∧
          (t.frame? x.frame).map (·.parsed) = some true ∧ t.regs = s.regs) ∧
      (s.parse x f f.bytes.length = (pr, .branch node) →
        exec (.parseDone c) s = .next ((s.violate x.slice x.comp 8 0 31 node).dropCtx c)))

/-- A frame passes a stage without an action tile unchanged; with ENTRY = 1 it dispatches on its sub-block's opcode and starts at the entry's microword; an opcode outside the compartment's window is a violation and drops it. A stage-table lookup answers into response slot 0, and its completion writes the slot and the flags it leaves for the microword that awaits it. Choices of the model it meets: log entry 56. -/
def Obligations.StagesAndStageTables : Prop :=
  ∀ (c e : Nat) (o : Outst) (r : List Byte) (h er : Bool) (x : Ctx) (s : State), s.ctx? c = some x → x.slice < 32 →
    x.comp < 8 →
    (x.parsed = true → x.running = false → x.stage < 24 → x.outst = [] →
      ((s.ctxBank x).actionTile x.pipe x.stage = 0 → ∃ t, exec (.stageEntry c) s = .next t ∧
        (t.ctx? c).map (fun y => (y.stage, y.md, y.resp)) = some (x.stage + 1, x.md, x.resp) ∧ t.regs = s.regs) ∧
      ((s.ctxBank x).actionTile x.pipe x.stage ≠ 0 → (s.ctxBank x).le kStageCfg x.pipe x.stage 0 4 % 2 = 0 →
        (s.ctxBank x).sub x 0 1 = 1 → e = (s.ctxBank x).le kDispatch x.pipe x.stage (4 * (s.ctxBank x).sub x 2 1) 4 →
        (s.inWindow x.slice x.comp 72 2 ((s.ctxBank x).sub x 2 1) = true → s.parityMode x.slice = false → 2 ^ 31 ≤ e →
          s.inWindow x.slice x.comp 64 2 (e % 1024) = true → ∃ t, exec (.stageEntry c) s = .next t ∧
            (t.ctx? c).map (fun y => (y.running, y.upc, y.stage, y.md)) = some (true, e % 1024, x.stage, x.md) ∧
            t.regs = s.regs) ∧
        (s.inWindow x.slice x.comp 72 2 ((s.ctxBank x).sub x 2 1) = false → ∃ t, exec (.stageEntry c) s = .next t ∧
          t.ctx? c = none ∧ t.bit (Reg.SLC_RIND_STAT x.slice) (16 + x.comp) = true))) ∧
    (s.mayIssue x 1 = true → s.stageTable x (s.ctxBank x) (s.memSlot x % 2) (s.memKey x) = .miss →
      exec (.stageTableLookup c) s = .next (s.setCtx c (x.issue 1 0 (some (List.replicate 16 0, false, false))))) ∧
    (o ∈ x.outst → (∀ q ∈ x.outst, q.seq = o.seq → q = o) → o.resp = some (r, h, er) →
      ∃ t, exec (.memopComplete c o.seq) s = .next t ∧ t.regs = s.regs ∧ ∀ y ∈ t.ctx? c, y.md = x.md ∧
        (∀ q ∈ y.outst, q.seq ≠ o.seq) ∧ (∀ i, i < r.length → 16 * o.slot + i < 128 →
          y.respBytes (16 * o.slot + i) 1 = [r.getD i 0]) ∧
        (o.seq + 1 = x.nextSeq → y.lastFlags = some (h, er)))

/-- A microword of a frame that may execute, with SEQ = END, writes the operation's result, taken from A and B at the operand width, to its destination bytes of the metadata and changes no other metadata byte, register or frame; with SETF it sets Z and N from the result. NOP writes nothing, CMP only the flags of A minus B, and a reserved operation only counts in RSVOP. -/
def Obligations.MicrowordsOfFrames : Prop :=
  ∀ (c w A B d bits o v : Nat) (ins : Instr) (x : Ctx) (s : State), s.ctx? c = some x → x.running = true →
    w = s.microword x → x.mayExecute w = true → bitsOf w 124 122 = 4 → (classOf x.pipe w).1 < 3 → (classOf x.pipe w).2 = false →
    memopReserved x.pipe w = false → bits = 8 * 2 ^ bitsOf w 105 104 → d = bitsOf w 103 96 →
    A = (if bitsOf w 15 15 = 1 then beNat (x.respBytes (bitsOf w 95 88) (bits / 8)) else x.mdBE (bitsOf w 95 88) (bits / 8)) →
    B = (match bitsOf w 79 78 with
      | 0 => x.mdBE (bitsOf w 87 80) (bits / 8)
      | 1 => bitsOf w 63 32 % 2 ^ bits
      | 2 => beNat (x.respBytes (bitsOf w 87 80) (bits / 8))
      | _ => x.flagByte) →
    ((o, ins, v) ∈ [(1, .mov (.frame c), B), (2, .add (.frame c), (A + B) % 2 ^ bits),
        (3, .sub (.frame c), (A + 2 ^ bits - B) % 2 ^ bits), (4, .and (.frame c), A &&& B), (5, .or (.frame c), A ||| B),
        (6, .xor (.frame c), A ^^^ B), (7, .shl (.frame c), A * 2 ^ (B % 64) % 2 ^ bits),
        (8, .shr (.frame c), A / 2 ^ (B % 64)), (10, .min (.frame c), min A B), (11, .max (.frame c), max A B),
        (12, .csum (.frame c), onesSum (aluResult.wordsOf bits A ++ aluResult.wordsOf bits B) % 2 ^ bits),
        (13, .crc (.frame c), (crc32c (BitVec.ofNat 32 B) (toBE (bits / 8) A)).toNat % 2 ^ bits),
        (14, .setb (.frame c), (A ||| 2 ^ (B % 64)) % 2 ^ bits), (15, .clrb (.frame c), A - (A &&& 2 ^ (B % 64)))] →
      bitsOf w 111 106 = o → 64 ≤ d → d + bits / 8 ≤ 256 →
      ∃ t, exec ins s = .next t ∧ t.regs = s.regs ∧ (∀ c', c' ≠ c → t.ctx? c' = s.ctx? c') ∧
        (t.ctx? c).map (·.stage) = some (x.stage + 1) ∧ ∀ y ∈ t.ctx? c, y.mdBE d (bits / 8) = v % 2 ^ bits ∧
          (∀ e, e < d ∨ d + bits / 8 ≤ e → y.mdByte e = x.mdByte e) ∧
          (bitsOf w 72 72 = 0 → (y.z, y.n, y.c) = (x.z, x.n, x.c)) ∧
          (bitsOf w 72 72 = 1 → y.z = (v == 0) ∧ y.n = v.testBit (bits - 1))) ∧
    (bitsOf w 111 106 = 0 → ∃ t, exec (.nop (.frame c)) s = .next t ∧ t.regs = s.regs ∧
      (t.ctx? c).map (fun y => (y.stage, y.md, y.z, y.n, y.c)) = some (x.stage + 1, x.md, x.z, x.n, x.c)) ∧
    (bitsOf w 111 106 = 9 → ∃ t, exec (.cmp (.frame c)) s = .next t ∧ t.regs = s.regs ∧
      (t.ctx? c).map (fun y => (y.stage, y.md, y.z, y.c)) = some (x.stage + 1, x.md, decide (A % 2 ^ bits = B), decide (A < B))) ∧
    (16 ≤ bitsOf w 111 106 → ∃ t, exec (.rsvop (.frame c)) s = .next t ∧
      t.fld (Reg.SLC_STG_EVT x.slice x.pipe x.stage) 23 16 =
        min 255 (s.fld (Reg.SLC_STG_EVT x.slice x.pipe x.stage) 23 16 + 1) ∧
      (t.ctx? c).map (fun y => (y.stage, y.md, y.z, y.n, y.c)) = some (x.stage + 1, x.md, x.z, x.n, x.c))

/-- Within its allowance and window an endpoint lookup answers a cached entry at once; with no matching tag it answers STATUS 0 and counts a miss; with one it parks the frame and reads the first candidate. A read that finds the entry ends the stall and answers its frame; a stall that lasts MISS_TMO takes the miss action: STATUS 2, or the frame is dropped. No register but the event counters changes. Choices of the model it meets: log entry 66. -/
def Obligations.EndpointLookups : Prop :=
  ∀ (c i p : Nat) (r : List Nat) (k l : List Byte) (q : Parked) (st : MissStall) (x : Ctx) (s : State), s.ctx? c = some x →
    x.slice < 32 → x.comp < 8 →
    (s.mayIssue x 2 = true → x.uses 0 < 2 → p = s.memImm x % 4096 → k = s.memKey x →
      s.inWindow x.slice x.comp 24 2 p = true → s.tblOn = true →
      ((s.streamStalls x).find? fun e => e.2.part == p && e.2.key == k) = none →
      (s.epLine p k = some l → epQuar l = false → ∃ t, exec (.endpointLookup c) s = .next t ∧ t.regs = s.regs ∧
        (t.ctx? c).map (·.outst) =
          some (x.outst ++ [⟨x.nextSeq, 2, s.memSlot x, some ((s.lineHit l).epAnswer l).2⟩]) ∧
        (((s.lineHit l).epAnswer l).2.1.head? = some 1 ∧ ((s.lineHit l).epAnswer l).2.2 = (true, false))) ∧
      (s.epLine p k = none → s.epCands p k = [] → ∃ t, exec (.endpointLookup c) s = .next t ∧
        (t.ctx? c).map (·.outst) =
          some (x.outst ++ [⟨x.nextSeq, 2, s.memSlot x, some (List.replicate 16 0, false, false)⟩]) ∧
        (t.reg (Reg.SLC_TBL_CNT x.slice x.comp 1)).toNat =
          min (2 ^ 32 - 1) ((s.reg (Reg.SLC_TBL_CNT x.slice x.comp 1)).toNat + 1)) ∧
      (s.epLine p k = none → s.epCands p k = i :: r → s.streamParked x < 256 → (s.streamStalls x).length < 128 →
        (s.takeMissRead x.slice).isSome = true → ∃ t, exec (.endpointLookup c) s = .next t ∧
          (t.ctx? c).map (·.outst) = some (x.outst ++ [⟨x.nextSeq, 2, s.memSlot x, none⟩]) ∧
          (Store.at? t.tbl.stalls s.tbl.nextStall).map (fun y => (y.part, y.key, y.reading, y.cands, y.frames.length)) =
            some (p, k, i, r, 1))) ∧
    (Store.at? s.tbl.stalls i = some st → st.frames = [q] → q.ctx = c →
      (epIs (s.epAt st.reading) st.part st.key = true → ∃ t, exec (.missReadReturn i false 0 0) s = .next t ∧
        Store.at? t.tbl.stalls i = none ∧ t.regs = s.regs ∧
        ∀ y ∈ t.ctx? c, ∀ o ∈ y.outst, o.seq = q.seq → o.resp.isSome = true) ∧
      (st.since + stallTmo (s.fld (Reg.TBL_PART_CFG st.part) 13 8) ≤ s.time.mono →
        ∃ t, exec (.missStallTimeout i) s = .next t ∧ Store.at? t.tbl.stalls i = none ∧
          (s.bit (Reg.TBL_PART_CFG st.part) 14 = true → t.ctx? c = none) ∧
          (s.bit (Reg.TBL_PART_CFG st.part) 14 = false → ∀ y ∈ t.ctx? c, ∀ o ∈ y.outst, o.seq = q.seq →
            o.resp = some (statusAnswer 2 false))))

/-- A route lookup answers the longest matching prefix of the slice's press bank, an ACL lookup the lowest matching index of its range, each with its opcode; a learn joins its shard's queue. A lookup outside its window answers STATUS 0 with ERR and is a violation, one beyond its allowance STATUS 3. Memory of tables and routes is unchanged by lookups. -/
def Obligations.RouteAclAndLearn : Prop :=
  ∀ (c b : Nat) (r : Route) (e : Nat × List Byte) (x : Ctx) (s : State), s.ctx? c = some x →
    x.slice < 32 → x.comp < 8 →
    (s.mayIssue x 3 = true → x.uses 1 < 2 → s.inWindow x.slice x.comp 28 2 (s.memImm x % 65536) = true →
      s.pressFor x.slice = some b → (s.memImm x).testBit 16 = false → r ∈ (s.press b).routes → r.af = 1 → r.quar = false →
      r.vrf = s.memImm x % 65536 → r.addr / 2 ^ (32 - r.plen) = beNat ((s.memKey x).take 4) / 2 ^ (32 - r.plen) →
      (∀ q ∈ (s.press b).routes, q.af = 1 → q.vrf = r.vrf → q.quar = false →
        q.addr / 2 ^ (32 - q.plen) = beNat ((s.memKey x).take 4) / 2 ^ (32 - q.plen) → q = r ∨ q.plen < r.plen) →
      ∃ t, exec (.routeLookup c) s = .next t ∧ t.regs = s.regs ∧ t.tbl = s.tbl ∧
        (t.ctx? c).map (·.outst) = some (x.outst ++ [⟨x.nextSeq, 3, s.memSlot x,
          some ([1, BitVec.ofNat 8 r.opc, BitVec.ofNat 8 r.plen, 0, 0, 0, 0, 0] ++
            State.epAnswer.objBE (s.objAnswer r.nhop).1, true, false)⟩])) ∧
    (s.mayIssue x 3 = true → x.uses 1 < 2 → s.inWindow x.slice x.comp 28 2 (s.memImm x % 65536) = false →
      ∃ t, exec (.routeLookup c) s = .next t ∧ (t.ctx? c).map (·.outst) =
          some (x.outst ++ [⟨x.nextSeq, 3, s.memSlot x, some (List.replicate 16 0, false, true)⟩]) ∧
        t.bit (Reg.SLC_RIND_STAT x.slice) (16 + x.comp) = true) ∧
    (s.mayIssue x 3 = true → 2 ≤ x.uses 1 → ∃ t, exec (.routeLookup c) s = .next t ∧
      (t.ctx? c).map (·.outst) =
        some (x.outst ++ [⟨x.nextSeq, 3, s.memSlot x, some ([3] ++ List.replicate 15 0, false, true)⟩])) ∧
    (s.mayIssue x 4 = true → (s.ctxBank x).keyBusy x ((bitsOf (s.microword x) 17 16 + 1) % 4) = false → x.uses 2 < 4 →
      bitsOf (s.memImm x) 26 13 ≠ 0 → s.inWindow x.slice x.comp (aclWindow x.pipe) 2 (s.memImm x % 8192) = true →
      s.inWindow x.slice x.comp (aclWindow x.pipe) 2 (s.memImm x % 8192 + bitsOf (s.memImm x) 26 13 - 1) = true →
      Store.rising 0 s.tbl.acl = true → e ∈ s.tbl.acl → leAt e.2 80 1 = 1 →
      aclIndex x.slice x.pipe (s.memImm x % 8192) ≤ e.1 →
      e.1 < aclIndex x.slice x.pipe (s.memImm x % 8192) + bitsOf (s.memImm x) 26 13 →
      aclMatches e.2 (s.memKey x ++ (s.ctxBank x).key x ((bitsOf (s.microword x) 17 16 + 1) % 4) ++ x.mdBytes 0 8) = true →
      (∀ q ∈ s.tbl.acl, aclIndex x.slice x.pipe (s.memImm x % 8192) ≤ q.1 → q.1 < e.1 →
        aclMatches q.2 (s.memKey x ++ (s.ctxBank x).key x ((bitsOf (s.microword x) 17 16 + 1) % 4) ++ x.mdBytes 0 8) = false) →
      ∃ t, exec (.aclLookup c) s = .next t ∧ t.regs = s.regs ∧ t.tbl = s.tbl ∧
        (t.ctx? c).map (fun y => y.outst.map (·.resp)) = some (x.outst.map (·.resp) ++
          [some ([1, BitVec.ofNat 8 (leAt e.2 81 1)] ++ toBE 2 (e.1 % 8192) ++ (bytesAt e.2 88 4).reverse ++
            List.replicate 8 0, true, false)])) ∧
    (s.mayIssue x 9 = true → x.uses 3 = 0 → s.inWindow x.slice x.comp 24 2 (s.memImm x % 4096) = true →
      s.learnOn (s.memImm x % 4096) = true → s.epLine (s.memImm x % 4096) (s.memKey x) = none →
      (s.learnQ (hashShard (s.epHash1 (s.memImm x % 4096) (s.memKey x)))).length < 1024 →
      ∃ t, exec (.learn c) s = .next t ∧ t.regs = s.regs ∧
        t.learnQ (hashShard (s.epHash1 (s.memImm x % 4096) (s.memKey x))) =
          s.learnQ (hashShard (s.epHash1 (s.memImm x % 4096) (s.memKey x))) ++
            [⟨x.slice, x.comp, ((s.frame? x.frame).map (·.orig)).getD 0, s.memImm x % 4096, s.memKey x⟩])

/-- On a cached context MEMOP 5 answers the quarter asked for, MEMOP 6 writes the bytes its mask names and leaves the other bytes of the context, and MEMOP 10 without a valid context and without CREATE answers STATUS 0. A context not cached parks the frame; the read's return fills the cache and answers it, and a stall that lasts its timeout answers STATUS 2. Every other context is unchanged. Choices of the model it meets: log entries 60, 66, 67. -/
def Obligations.FlowContextAccesses : Prop :=
  ∀ (c i k : Nat) (fl : FlowLine) (st : FlowStall) (q : Parked) (x : Ctx) (s : State), s.ctx? c = some x →
    x.slice < 32 → x.comp < 8 →
    (i = (s.flowArgs x).1 → x.uses 4 < 2 → s.inWindow x.slice x.comp 40 4 i = true → s.bit Reg.FLOW_CTL 31 = true →
      s.flow.stalls.all (·.2.index != i) = true →
      (s.flowLine i = some (k, fl) →
        (s.mayIssue x 5 = true → ∃ t, exec (.flowContextRead c) s = .next t ∧ t.regs = s.regs ∧
          (∀ j, t.flowGet j = s.flowGet j) ∧ (t.ctx? c).map (·.outst) = some (x.outst ++ [⟨x.nextSeq, 5, s.memSlot x,
            some (bytesAt fl.bytes (16 * (s.memImm x % 4)) 16, true, false)⟩])) ∧
        (s.mayIssue x 6 = true → s.flowBusy x 6 = false → fl.bytes.length = 64 → s.memImm x % 4 ≠ 0 →
          ∃ t, exec (.flowContextWrite c) s = .next t ∧ t.regs = s.regs ∧
            (∀ j, j ≠ i → t.flowGet j = s.flowGet j) ∧
            (∀ b : Fin 64, b.val ≠ 0 → (t.flowGet i).getD b 0 =
              if b.val / 16 = s.memImm x % 4 ∧
                (bitsOf (s.memImm x) 31 16 = 0 ∨ (bitsOf (s.memImm x) 31 16).testBit (b.val % 16) = true)
              then (s.flowArgs x).2.2.getD (b.val % 16) 0 else fl.bytes.getD b 0) ∧
            (t.ctx? c).map (·.outst) =
              some (x.outst ++ [⟨x.nextSeq, 6, s.memSlot x, some (statusAnswer 1 false)⟩])) ∧
        (s.mayIssue x 10 = true → leAt fl.bytes 0 1 % 2 = 0 → s.memImm x % 2 = 0 →
          ∃ t, exec (.flowStateUpdate c) s = .next t ∧ t.regs = s.regs ∧ (∀ j, t.flowGet j = s.flowGet j) ∧
            (t.ctx? c).map (·.outst) =
              some (x.outst ++ [⟨x.nextSeq, 10, s.memSlot x, some (List.replicate 16 0, false, false)⟩]))) ∧
      (s.flowLine i = none → s.streamFlows x = [] → (s.flowBucket x.slice).short < 4096000 → s.mayIssue x 5 = true →
        ∃ t, exec (.flowContextRead c) s = .next t ∧
          (t.ctx? c).map (·.outst) = some (x.outst ++ [⟨x.nextSeq, 5, s.memSlot x, none⟩]) ∧
          (Store.at? t.flow.stalls s.flow.nextStall).map (fun y => (y.index, y.frames.length)) = some (i, 1))) ∧
    (Store.at? s.flow.stalls k = some st → st.frames = [q] → q.ctx = c → q.op = 5 →
      (s.flowLine st.index = none → s.flow.cache = [] → ∃ t, exec (.flowMissReturn k true 0) s = .next t ∧
        Store.at? t.flow.stalls k = none ∧ t.regs = s.regs ∧ (t.flowLine st.index).isSome = true ∧
        (∀ j, t.flowGet j = s.flowGet j) ∧ ∀ y ∈ t.ctx? c, ∀ o ∈ y.outst, o.seq = q.seq →
          o.resp = some (bytesAt (s.flowGet st.index) (16 * (q.imm % 4)) 16, true, false)) ∧
      (st.since + stallTmo (s.fld (Reg.SLC_FLOW_CFG st.slice) 5 0) ≤ s.time.mono →
        ∃ t, exec (.flowStallTimeout k) s = .next t ∧ Store.at? t.flow.stalls k = none ∧
          ∀ y ∈ t.ctx? c, ∀ o ∈ y.outst, o.seq = q.seq → o.resp = some (List.replicate 16 0, false, true)))

/-- A meter answers the colour its buckets give and takes the tokens; a counter gains 1 and LEN, stopping at all ones. A configuration write fills both buckets, a read returns what was written; a counter write replaces both values, a read returns them and clears them with CLR. Other meters and counters stay. -/
def Obligations.MetersAndCounters : Prop :=
  ∀ (c i : Nat) (n : Fin 32) (m : Master) (acc : Word) (x : Ctx) (s : State), s.ctx? c = some x →
    x.slice < 32 → x.comp < 8 →
    (s.mayIssue x 8 = true → x.uses 6 < 4 → i = beNat ((s.memKey x).take 4) % 65536 →
      s.inWindow x.slice x.comp 56 4 i = true → s.memImm x % 2 = 0 →
      ∃ t, exec (.meter c) s = .next t ∧ t.regs = s.regs ∧
        Store.at? t.flow.meters (meterKey x.slice i) = some (meterColour (s.meterWord (meterKey x.slice i) 0 / 2 ^ 30)
          (s.meterFill (meterKey x.slice i)) (x.mdBE 4 2) 0).2 ∧
        (∀ j, j ≠ meterKey x.slice i → Store.at? t.flow.meters j = Store.at? s.flow.meters j) ∧
        (t.ctx? c).map (·.outst) = some (x.outst ++ [⟨x.nextSeq, 8, s.memSlot x, some ([1, BitVec.ofNat 8
          (meterColour (s.meterWord (meterKey x.slice i) 0 / 2 ^ 30) (s.meterFill (meterKey x.slice i)) (x.mdBE 4 2) 0).1] ++
            List.replicate 14 0, true, false)⟩])) ∧
    (s.mayIssue x 7 = true → x.uses 5 < 4 → i = beNat ((s.memKey x).take 4) % 131072 →
      s.inWindow x.slice x.comp 48 4 i = true →
      ∃ t, exec (.counterAdd c) s = .next t ∧ t.regs = s.regs ∧
        Store.read (0, 0) t.tele.counters (counterKey x.slice i) =
          (min (2 ^ 64 - 1) ((Store.read (0, 0) s.tele.counters (counterKey x.slice i)).1 + 1),
            min (2 ^ 64 - 1) ((Store.read (0, 0) s.tele.counters (counterKey x.slice i)).2 + x.mdBE 4 2)) ∧
        (∀ j, j ≠ counterKey x.slice i →
          Store.read (0, 0) t.tele.counters j = Store.read (0, 0) s.tele.counters j) ∧
        (t.ctx? c).map (·.outst) = some (x.outst ++ [⟨x.nextSeq, 7, s.memSlot x, some (statusAnswer 1 false)⟩])) ∧
    (m.trusted = true → s.domOn (domainOf (Reg.SLC_MTR_ACC n)) = true →
      (∃ t, exec (.meterConfigWrite m n acc) s = .next t ∧
        (∀ w : Fin 4, t.meterWord (meterKey n (fieldOf acc 15 0)) w = (s.reg (Reg.SLC_MTR_DATA n w)).toNat) ∧
        Store.at? t.flow.meters (meterKey n (fieldOf acc 15 0)) = some
          { c := 8000 * ((s.reg (Reg.SLC_MTR_DATA n 2)).toNat % 2 ^ 24), e := 8000 * ((s.reg (Reg.SLC_MTR_DATA n 3)).toNat % 2 ^ 24),
            last := s.time.mono } ∧ ∀ a, a ≠ Reg.SLC_MTR_ACC n → t.reg a = s.reg a) ∧
      (∃ t, exec (.meterConfigRead m n acc) s = .next t ∧ t.flow = s.flow ∧
        t.reg (Reg.SLC_MTR_DATA n 0) = BitVec.ofNat 32 (s.meterWord (meterKey n (fieldOf acc 15 0)) 0) &&& 0xC01FFFFF ∧
        t.reg (Reg.SLC_MTR_DATA n 2) = BitVec.ofNat 32 (s.meterWord (meterKey n (fieldOf acc 15 0)) 2) &&& 0x00FFFFFF)) ∧
    (m.trusted = true → s.domOn (domainOf (Reg.SLC_CTR_ACC n)) = true →
      (∃ t, exec (.counterWrite m n acc) s = .next t ∧
        Store.read (0, 0) t.tele.counters (counterKey n (fieldOf acc 16 0)) =
          ((s.reg (Reg.SLC_CTR_DATA n 0)).toNat + 2 ^ 32 * (s.reg (Reg.SLC_CTR_DATA n 1)).toNat,
            (s.reg (Reg.SLC_CTR_DATA n 2)).toNat + 2 ^ 32 * (s.reg (Reg.SLC_CTR_DATA n 3)).toNat) ∧
        ∀ a, a ≠ Reg.SLC_CTR_ACC n → t.reg a = s.reg a) ∧
      (∃ t, exec (.counterRead m n acc) s = .next t ∧
        t.reg (Reg.SLC_CTR_DATA n 0) =
          BitVec.ofNat 32 (Store.read (0, 0) s.tele.counters (counterKey n (fieldOf acc 16 0))).1 ∧
        t.reg (Reg.SLC_CTR_DATA n 3) =
          BitVec.ofNat 32 ((Store.read (0, 0) s.tele.counters (counterKey n (fieldOf acc 16 0))).2 / 2 ^ 32) ∧
        (fieldOf acc 29 29 = 1 → Store.read (0, 0) t.tele.counters (counterKey n (fieldOf acc 16 0)) = (0, 0)) ∧
        (fieldOf acc 29 29 = 0 → t.tele = s.tele)))

/-- FLOW_ACC writes a whole context from FLOW_DATA and reads one back; a clear while EN is 0 empties contexts and cache and is busy until it ends; a rate that would take the sum of all slices past 8,000 is refused with RATEERR and one that would not is taken. No other register changes. -/
def Obligations.FlowRegisters : Prop :=
  ∀ (m : Master) (n : Fin 32) (acc d : Word) (s : State), m.trusted = true →
    (s.domOn (domainOf Reg.FLOW_ACC) = true → s.flow.stalls = [] →
      (∃ t, exec (.flowAccWrite m acc) s = .next t ∧
        (∀ w : Fin 16, w.val ≠ 0 → leAt (t.flowGet (fieldOf acc 19 0)) (4 * w) 4 = (s.reg (Reg.FLOW_DATA w)).toNat) ∧
        (∀ j, j ≠ fieldOf acc 19 0 → t.flowGet j = s.flowGet j) ∧ ∀ a, a ≠ Reg.FLOW_ACC → t.reg a = s.reg a) ∧
      (∃ t, exec (.flowAccRead m acc) s = .next t ∧ t.flow = s.flow ∧
        (∀ w : Fin 16, t.reg (Reg.FLOW_DATA w) = BitVec.ofNat 32 (leAt (s.flowGet (fieldOf acc 19 0)) (4 * w) 4)) ∧
        ∀ a, a ≠ Reg.FLOW_ACC → (∀ w : Fin 16, a ≠ Reg.FLOW_DATA w) → t.reg a = s.reg a)) ∧
    (s.domOn (domainOf Reg.FLOW_CTL) = true → s.bit Reg.FLOW_CTL 31 = false →
      ∃ t, exec (.flowClear .pf 0) s = .next t ∧ t.bit Reg.FLOW_CTL 29 = true ∧ (∀ j, t.flowGet j = flowZero) ∧
        ∀ a, a ≠ Reg.FLOW_CTL → t.reg a = s.reg a) ∧
    (∃ t, exec .flowClearDone s = .next t ∧ t.bit Reg.FLOW_CTL 29 = false ∧ t.flow = s.flow ∧
      ∀ a, a ≠ Reg.FLOW_CTL → t.reg a = s.reg a) ∧
    (s.domOn (domainOf (Reg.FLOW_RATE n)) = true →
      (((List.range 32).map fun k => if k = n.val then fieldOf d 15 0 else s.fld (Reg.FLOW_RATE k) 15 0).sum ≤ 8000 →
        ∃ t, exec (.flowRateWrite .pf n d) s = .next t ∧ t.fld (Reg.FLOW_RATE n) 15 0 = fieldOf d 15 0 ∧
          ∀ a, a ≠ Reg.FLOW_RATE n → t.reg a = s.reg a) ∧
      (8000 < ((List.range 32).map fun k => if k = n.val then fieldOf d 15 0 else s.fld (Reg.FLOW_RATE k) 15 0).sum →
        ∃ t, exec (.flowRateWrite .pf n d) s = .next t ∧ t.bit Reg.FLOW_STAT 31 = true ∧
          t.reg (Reg.FLOW_RATE n) = s.reg (Reg.FLOW_RATE n)))

/-- A frame past stage I23 whose decision is a unicast to a front port that DEST and QCLASS allow and the vat admits joins that queue as its last copy, and no other queue or register changes. A destination outside DEST is a violation and makes no copy; a DROP decision and one without any forwarding are counted, make no copy, and release the frame's cells. -/
def Obligations.DecisionsBecomeCopies : Prop :=
  ∀ (c q : Nat) (x : Ctx) (f g : Frame) (y : Copy) (s u : State), s.ctx? c = some x → s.frame? x.frame = some f →
    x.slice < 32 → x.comp < 8 → x.pipe = 0 → x.parsed = true → x.stage = 24 → x.running = false → x.outst = [] →
    s.inOrder x = true → f.dropped = false →
    g = { f with carry := x.mdBytes 96 32, hash := 0, dropCode := x.mdByte 84, rnode := none } →
    u = ((s.delCtx c).noteCompletion x.slice 0 x.stream).setFrame x.frame g →
    y = { frame := x.frame, kind := .unicast, dest := x.mdBE 68 2, queue := x.decQueue, slice := x.slice, comp := x.comp } →
    q = qidOf y.dest y.queue →
    (x.mdBE 64 4 = 1 → y.dest < 1024 →
      (s.destAllowed x.slice x.comp y.dest = true → s.classAllowed x.slice x.comp y.queue = true → u.admitCheck y = none →
        ∃ t, exec (.resolve c) s = .next t ∧ t.ctx? c = none ∧
          t.queue q = s.queue q ++ [{ y with enq := s.time.mono, ct := u.cutThrough y g }] ∧
          (∀ j, j ≠ q → t.queue j = s.queue j) ∧ t.regs = s.regs) ∧
      (s.destAllowed x.slice x.comp y.dest = false → ∃ t, exec (.resolve c) s = .next t ∧ t.ctx? c = none ∧
        t.vat.queues = s.vat.queues ∧ t.bit (Reg.SLC_RIND_STAT x.slice) (16 + x.comp) = true ∧
        ∀ z ∈ t.frame? x.frame, z.cells = [])) ∧
    (x.mdBE 64 4 = 16 ∨ x.mdBE 64 4 = 0 → s.bit Reg.TELE_CTL 31 = false → ∃ t, exec (.resolve c) s = .next t ∧
      t.ctx? c = none ∧ t.vat.queues = s.vat.queues ∧ (∀ z ∈ t.frame? x.frame, z.cells = []) ∧
      (t.reg (Reg.SLC_ING_CNT x.slice x.comp (if x.mdBE 64 4 = 16 then 2 else 1))).toNat = min (2 ^ 32 - 1)
        ((s.reg (Reg.SLC_ING_CNT x.slice x.comp (if x.mdBE 64 4 = 16 then 2 else 1))).toNat + 1))

/-- A destination that may be served takes the head of the queue its scheduler picks: a unicast copy enters its egress pipe, a copy of another kind waits for its port, a recirculated copy of a dead epoch is dropped; other queues stay. A head that will not be sent leaves its queue and counts under its reason. The deparser appends the emitted copy to its port's output, or drops it and counts it. Choices of the model it meets: log entry 45. -/
def Obligations.QueuesAndEgress : Prop :=
  ∀ (d : Fin 1058) (q : Fin 21396) (c : Nat) (df : Store Nat) (x : Ctx) (y : Copy) (r : List Copy) (f : Frame) (why : Reason)
      (s : State), s.frame? y.frame = some f →
    (s.servable d = true → s.pShaperOk d = true → s.pick d (s.returnTakes d) = some (q.val, df) → s.queue q = y :: r →
      (d.val < 1024 → s.bit (Reg.PORT_TEL1 d) 31 = false → ∃ t, exec (.dequeue d) s = .next t ∧ t.queue q = r ∧
        (∀ j, j ≠ q.val → t.queue j = s.queue j) ∧ t.regs = s.regs ∧
        (y.dest < 1056 → y.kind = .unicast → t.vat.out = s.vat.out ∧
          (t.ctx? s.nextCtx).map (fun z => (z.slice, z.pipe, z.stream, z.frame, z.stage, z.parsed)) =
            some (d.val / 32, 1, d.val % 32 / 8, y.frame, 0, true)) ∧
        (y.kind = .made → t.ctxs = s.ctxs ∧ (Store.read [] t.vat.out d).map (·.frame) =
          (Store.read [] s.vat.out d).map (·.frame) ++ [y.frame])) ∧
      (1024 ≤ d.val → d.val < 1056 → s.isDead (d.val - 1024) f.epoch = true →
        ∃ t, exec (.dequeue d) s = .next t ∧ t.queue q = r ∧ t.ctxs = s.ctxs ∧ t.vat.out = s.vat.out ∧
          (t.reg (Reg.SLC_EPOCH_DROP (d.val - 1024))).toNat =
            min (2 ^ 32 - 1) ((s.reg (Reg.SLC_EPOCH_DROP (d.val - 1024))).toNat + 1))) ∧
    (s.queue q = y :: r → s.headDiscard y = some why → f.slice < 32 → f.comp < 8 →
      ∃ t, exec (.queueHeadDiscard q) s = .next t ∧ t.queue q = r ∧ (∀ j, j ≠ q.val → t.queue j = s.queue j) ∧
        ∀ k ∈ why.port, portCounted why y.dest = true → (t.reg (Reg.VAT_PCNT y.dest k)).toNat =
          min (2 ^ 32 - 1) ((s.reg (Reg.VAT_PCNT y.dest k)).toNat + 1)) ∧
    (s.ctx? c = some x → x.frame = y.frame → x.copy = some y → x.slice < 32 → x.comp < 8 → x.pipe = 1 → x.stage = 24 →
      x.running = false → x.outst = [] → s.egressInOrder x y.dest = true → y.dest < 1024 →
      (x.mdBE 64 4 = 0 → 60 ≤ ((deparse (s.ctxBank x) x (x.mdByte 68 % 128) 16 0).flatMap (Piece.bytes f.data)).length →
        ∃ t, exec (.deparse c) s = .next t ∧ t.ctx? c = none ∧ t.regs = s.regs ∧ Store.read [] t.vat.out y.dest =
          Store.read [] s.vat.out y.dest ++ [{ y with
            emitted := some (deparse (s.ctxBank x) x (x.mdByte 68 % 128) 16 0), dropCode := x.mdByte 76 }]) ∧
      (x.mdBE 64 4 = 1 → s.bit Reg.TELE_CTL 31 = false → ∃ t, exec (.deparse c) s = .next t ∧ t.ctx? c = none ∧
        t.vat.out = s.vat.out ∧ (t.reg (Reg.SLC_EG_CNT x.slice x.comp 0)).toNat =
          min (2 ^ 32 - 1) ((s.reg (Reg.SLC_EG_CNT x.slice x.comp 0)).toNat + 1)))

/-- A front port that is up begins its next copy and takes CLOCK, adjusted, as its departure time; a copy longer than MAXLEN is not sent and counted; a port that has gone down discards it. The last byte sent puts the copy's wire bytes on the port and counts one good frame; a frame that is sent over port 1057 leaves as one DATA frame; an underrun ends the copy and raises CT_STEP by 1, to at most 7, and its flag. Choices of the model it meets: log entry 53. -/
def Obligations.Transmission : Prop :=
  ∀ (d : Fin 1058) (y : Copy) (r : List Copy) (f : Frame) (s u : State), Store.read [] s.vat.out d = y :: r →
    s.frame? y.frame = some f → f.slice < 32 → f.comp < 8 →
    (d.val < 1024 → s.sending d = none →
      (s.portState d = 2 → s.domOn (4 * (d.val / 32) + 2) = true → f.dropped = false → f.isOpen = false → f.err = false →
        u = s.setPort d { s.port d with txClk := clkAdd s.time.clk (signed 8 (s.fld (Reg.PORT_TEL0 d) 7 0)),
                                        txMono := s.time.mono } →
        ((u.wire d y f).1.length ≤ s.maxlen d → ∃ t, exec (.transmitStart d) s = .next t ∧ t.regs = s.regs ∧
          Store.read [] t.vat.out d = { y with sending := true } :: r ∧ t.port d = u.port d ∧
          ∀ j, j ≠ d.val → Store.read [] t.vat.out j = Store.read [] s.vat.out j) ∧
        (s.maxlen d < (u.wire d y f).1.length → ∃ t, exec (.transmitStart d) s = .next t ∧
          Store.read [] t.vat.out d = r ∧ (t.reg (Reg.PORT_CNT d 10)).toNat =
            min (2 ^ 32 - 1) ((s.reg (Reg.PORT_CNT d 10)).toNat + 1))) ∧
      (s.isDown d = true → s.bit (Reg.VAT_PCFG d) 30 = false → ∃ t, exec (.transmitStart d) s = .next t ∧
        Store.read [] t.vat.out d = r ∧ (t.reg (Reg.VAT_PCNT d 4)).toNat =
          min (2 ^ 32 - 1) ((s.reg (Reg.VAT_PCNT d 4)).toNat + 1))) ∧
    (y.sending = true →
      (f.isOpen = false → f.spill = none →
        (d.val < 1024 → (s.wire d y f).1.length ≤ s.maxlen d → ∃ t, exec (.transmitDone d) s = .next t ∧
          Store.read [] t.vat.out d = r ∧ t.out = .frame d (s.wire d y f).1 false :: s.out ∧
          (t.reg (Reg.PORT_GOOD d 2)).toNat + 2 ^ 32 * (t.reg (Reg.PORT_GOOD_HI d 2)).toNat = min (2 ^ 64 - 1)
            ((s.reg (Reg.PORT_GOOD d 2)).toNat + 2 ^ 32 * (s.reg (Reg.PORT_GOOD_HI d 2)).toNat + 1)) ∧
        (1024 ≤ d.val → ∃ t, exec (.transmitDone d) s = .next t ∧ Store.read [] t.vat.out d = r ∧
          t.out = (s.solyenData y f).out)) ∧
      (∀ p : Fin 1024, p.val = d.val → f.isOpen = true → ∃ t, exec (.transmitUnderrun p) s = .next t ∧
        Store.read [] t.vat.out d = r ∧ t.fld (Reg.PORT_CT d) 2 0 = min 7 (s.fld (Reg.PORT_CT d) 2 0 + 1) ∧
        t.bit (Reg.PORT_CT d) 31 = true ∧ (t.reg (Reg.PORT_CNT d 8)).toNat =
          min (2 ^ 32 - 1) ((s.reg (Reg.PORT_CNT d 8)).toNat + 1)))

/-- In a queue over SPILL_ON the candidate nearest the tail begins to spill into the next stack with room, or stays and is counted in SKIM_DENY when its quota forbids it. The last write's acknowledge makes the frame spilled and empties its cell list. A spilled frame whose turn it is takes cells again, or waits with RBWAIT; when all its cells are back it is resident; an uncorrectable error marks it and is reported. Queues and other frames stay. Choices of the model it meets: log entries 43, 66. -/
def Obligations.SkimMovesFrames : Prop :=
  ∀ (q : Fin 20480) (c k a b : Nat) (x : Copy) (f : Frame) (p : Spill) (o : SpillOp) (s : State), s.frame? x.frame = some f →
    (s.bit Reg.VAT_SKIM_CTL 31 = true → s.qfld q 0 8 8 = 1 → 16 * s.qfld q 1 15 0 < s.res q →
      (s.queue q).reverse.find? (s.candidate q) = some x →
      (s.skimUse f.slice f.comp + s.spillingOf f.slice f.comp + f.charged ≤ s.desc f.slice (1 + f.comp) 92 4 →
        (s.vat.frames.countP fun e => e.2.spill.isSome) + s.vat.spills.length < 524288 → s.nextSlot f.charged = some (k, a) →
        ∃ t, exec (.spillStart q) s = .next t ∧ t.vat.spills = s.vat.spills ++ [⟨q, x.frame, k, a⟩] ∧ t.regs = s.regs ∧
          t.vat.frames = s.vat.frames ∧ t.vat.queues = s.vat.queues) ∧
      (s.desc f.slice (1 + f.comp) 92 4 < s.skimUse f.slice f.comp + s.spillingOf f.slice f.comp + f.charged → ∃ t, exec (.spillStart q) s = .next t ∧
        t.vat.spills = s.vat.spills ∧ t.frame? x.frame = some { f with denied := true } ∧
        (t.reg (Reg.SLC_VAT_CNT f.slice f.comp 10)).toNat =
          min (2 ^ 32 - 1) ((s.reg (Reg.SLC_VAT_CNT f.slice f.comp 10)).toNat + 1))) ∧
    (s.vat.spills.find? (·.frame == x.frame) = some o → f.refcnt = 1 → (s.slice f.slice).safe = false → s.flt.deviceSafe = false →
      s.stackOk o.stack = true → (s.queue o.qid).all (·.frame != x.frame) = false →
      s.ahead o.qid ≤ s.cellsBefore x.frame (s.queue o.qid) → ∃ t, exec (.spillWriteAck x.frame) s = .next t ∧
        t.frame? x.frame = some { f with cells := [], spill := some ⟨o.stack, o.slot, false⟩ } ∧
        (∀ j, j ≠ x.frame → t.frame? j = s.frame? j) ∧ t.vat.queues = s.vat.queues ∧
        t.vat.spills = s.vat.spills.filter (·.frame != x.frame)) ∧
    (f.spill = some p →
      (s.dueIn q = some (x.frame, b) → s.dueFirst b = true → s.stackOk p.stack = true →
        (∀ y ∈ s.backCells f, ∃ t, exec (.readbackStart q) s = .next t ∧ t.regs = s.regs ∧ t.vat.queues = s.vat.queues ∧
          t.frame? x.frame = some { f with cells := y, spill := some { p with reading := true }, back := some 0 }) ∧
        (s.backCells f = none → ∃ t, exec (.readbackStart q) s = .next t ∧ t.bit Reg.VAT_STAT 27 = true ∧ t.vat = s.vat)) ∧
      (f.back.isSome = true →
        (f.charged ≤ c → ∃ t, exec (.readbackDone x.frame c true) s = .next t ∧
          t.frame? x.frame = some { f with spill := none, back := none } ∧ t.regs = s.regs ∧ t.vat.queues = s.vat.queues) ∧
        (∃ t, exec (.readbackDone x.frame c false) s = .next t ∧ t.regs = s.regs ∧ t.vat.queues = s.vat.queues ∧
          t.frame? x.frame = some { f with skimErr := true, spill := none, back := none } ∧
          t.flt.reports.map (fun y => (y.cls, y.elem, y.detail)) = s.flt.reports.map (fun y => (y.cls, y.elem, y.detail)) ++
            [(FaultClass.cont, Element.memoryRow, p.slot)])))

/-- TIME_STEP moves CLOCK by its signed nanoseconds, never below 0. LOAD with a nanosecond field below one thousand million sets CLOCK to TIME_SET and LOADED. A read of TIME_CLK0 returns the nanoseconds, and the same master's read of TIME_CLK1 the seconds of that moment; a read of TIME_PPSIN0 does the same for the capture. POP removes the head of a port's queue and no other entry. Choices of the model it meets: log entry 19. -/
def Obligations.SettingAndReadingClock : Prop :=
  ∀ (m : Master) (p : Fin 1024) (d : Word) (now : Time) (s : State), m.trusted = true →
    (∃ t, exec (.clockStep m d) s = .next t ∧ (t.time.clk : Int) = max 0 (s.time.clk + signed 32 d.toNat * 10 ^ 12) ∧
      t.time.mono = s.time.mono ∧ t.regs = s.regs) ∧
    (s.fld Reg.TIME_SET0 29 0 < 10 ^ 9 → ∃ t, exec (.clockLoad m d) s = .next t ∧
      t.time.clk = (((s.reg Reg.TIME_SET1).toNat + 2 ^ 32 * s.fld Reg.TIME_SET2 15 0) * 10 ^ 9 +
        s.fld Reg.TIME_SET0 29 0) * 10 ^ 12 ∧ t.bit Reg.TIME_CTL 30 = true ∧ t.time.mono = s.time.mono ∧
      ∀ a, a ≠ Reg.TIME_CTL → t.reg a = s.reg a) ∧
    (∃ t, exec (.clockRead m) s = .next t ∧ t.reply = [BitVec.ofNat 32 s.clkNs] ∧ t.time = s.time ∧ t.regs = s.regs ∧
      ∃ u, exec (.clearOnRead m Reg.TIME_CLK1) { t with time := now } = .next u ∧ u.reply = [BitVec.ofNat 32 s.clkSec]) ∧
    (∃ t, exec (.ppsinRead m) s = .next t ∧ t.reply = [s.reg Reg.TIME_PPSIN0] ∧ t.regs = s.regs ∧
      ∃ u, exec (.clearOnRead m Reg.TIME_PPSIN1) t = .next u ∧ u.reply = [s.reg Reg.TIME_PPSIN1]) ∧
    (s.domOn (domainOf (Reg.PORT_TSQ0 p)) = true → ∃ t, exec (.tsqPop m p d) s = .next t ∧
      (t.port p).tsq = (s.port p).tsq.drop 1 ∧ (∀ j, j ≠ p.val → t.port j = s.port j) ∧
      ∀ a, a ≠ Reg.PORT_TSQ0 p → t.reg a = s.reg a)

/-- PPS_OUT rises when the nanosecond field has wrapped by counting and falls PPS_W milliseconds later. An edge on PPS_IN captures CLOCK and sets PPSI_VALID, and PPSI_OVF as well when a capture was held. A snapshot shows the addressed port's live bins and clears them only with CLR; its end clears BUSY. A collector's part-filled frame is sent when its time is up. Choices of the model it meets: log entry 19. -/
def Obligations.PulsesSnapshotsAndCollectors : Prop :=
  ∀ (m : Master) (j : Fin 8) (b p e : Nat) (d : Word) (s : State), m.trusted = true →
    (s.time.wrapped = true → s.time.ppsEnd = none → ∃ t, exec .ppsOutPulse s = .next t ∧ t.out = .pps true :: s.out ∧
      t.time.ppsEnd = some (s.time.mono + ms (oneIfZero (s.fld Reg.TIME_CTL 7 0))) ∧ t.time.wrapped = false ∧ t.regs = s.regs) ∧
    (s.time.ppsEnd = some e → e ≤ s.time.mono → ∃ t, exec .ppsOutEnd s = .next t ∧ t.out = .pps false :: s.out ∧
      t.time.ppsEnd = none ∧ t.regs = s.regs) ∧
    (s.time.ppsIn = none → s.bit Reg.TIME_CTL 28 = true → ∃ t, exec .ppsInEdge s = .next t ∧
      t.reg Reg.TIME_PPSIN0 = BitVec.ofNat 32 s.clkNs ∧ t.reg Reg.TIME_PPSIN1 = BitVec.ofNat 32 s.clkSec ∧
      t.reg Reg.TIME_PPSIN2 = BitVec.ofNat 32 (s.clkSec / 2 ^ 32) ∧ t.bit Reg.TIME_CTL 27 = true ∧
      t.bit Reg.TIME_CTL 26 = (s.bit Reg.TIME_CTL 26 || s.bit Reg.TIME_CTL 27) ∧ t.time.clk = s.time.clk) ∧
    (s.domOn (domainOf Reg.TELE_HIST_CMD) = true → p = fieldOf d 9 0 → b < 64 → ∃ t, exec (.histSnapshot m d) s = .next t ∧
      (t.reg (Reg.TELE_HBIN b)).toNat + 2 ^ 32 * (t.reg (Reg.TELE_HBIN_HI b)).toNat =
        Store.read 0 (s.port p).hist b % 2 ^ 64 ∧
      Store.read 0 (t.port p).hist b = (if fieldOf d 29 29 = 1 then 0 else Store.read 0 (s.port p).hist b) ∧
      t.bit Reg.TELE_HIST_CMD 30 = true ∧ ∀ i, i ≠ p → t.port i = s.port i) ∧
    (∃ t, exec .histSnapshotDone s = .next t ∧ t.bit Reg.TELE_HIST_CMD 30 = false ∧
      ∀ a, a ≠ Reg.TELE_HIST_CMD → t.reg a = s.reg a) ∧
    ((s.col j).recs ≠ [] → (s.col j).since + us (oneIfZero (s.winLE (colBase j) 6 2)) ≤ s.time.mono →
      ∃ t, exec (.collectorFlushTimeout j) s = .next t ∧ (t.col j).recs = [] ∧
        (t.col j).seq = ((s.col j).seq + 1) % 2 ^ 32 ∧ (∀ i, i ≠ j.val → t.col i = s.col i) ∧
        (Store.read [] t.vat.toStore 2048).length = (Store.read [] s.vat.toStore 2048).length + 1 ∧
        (t.reg (Reg.TELE_CNT 7)).toNat = min (2 ^ 32 - 1) ((s.reg (Reg.TELE_CNT 7)).toNat + 1))

/-- GO at a port with no command running starts the command its OP names, with the port's index and data words, and sets BUSY; one that runs turns GO away with CMDREJ. A command ends with BUSY clear and its RESULT: a slice's ACL write in its window whose object it may name stores the image at that index alone, one outside the window is WINDOW and a violation and changes no table, an object write stores the object, a target or operation no port has is BADREQ. Choices of the model it meets: log entry 62. -/
def Obligations.UpdatePortCommands : Prop :=
  ∀ (m : Master) (p : Fin 33) (cmd : Word) (o : Nat) (ins : Instr) (u : UpCmd) (s : State), m.trusted = true →
    ((o, ins) ∈ [(0, .tuReadIndex m p cmd), (1, .tuWrite m p cmd), (2, .tuDelete m p cmd), (3, .tuReadKey m p cmd)] →
      (s.bit (tuCmd p) 30 = false → ∃ t, exec ins s = .next t ∧ t.bit (tuCmd p) 30 = true ∧
        (Store.at? t.tbl.cmds p).map (fun x => (x.op, x.tgt, x.comp, x.idx, x.word 23)) =
          some (o, fieldOf cmd 16 14, fieldOf cmd 25 23, s.fld (tuIdx p) 24 0, (s.reg (tuData p 23)).toNat) ∧
        ∀ a, a ≠ tuCmd p → t.reg a = s.reg a) ∧
      (s.bit (tuCmd p) 30 = true → ∃ t, exec ins s = .next t ∧ t.bit (tuCmd p) 8 = true ∧ t.tbl = s.tbl ∧
        ∀ a, a ≠ tuCmd p → t.reg a = s.reg a)) ∧
    (Store.at? s.tbl.cmds p = some u → s.tuHeld u = false → ∃ t, exec (.updateCmdDone p) s = .next t ∧
      t.bit (tuCmd p) 30 = false ∧
      (p.val < 32 → u.tgt = 2 → u.op = 1 → u.idx < 8192 →
        (s.tuIn p u (aclWindow u.pipe) 2 u.idx = true → s.tuObjOk p u (aclNhop (bytesAt u.data 0 92)) = true →
          t.fld (tuCmd p) 29 26 = 0 ∧ t.aclAt p u.pipe u.idx = bytesAt u.data 0 92 ∧
          (∀ i, i ≠ aclIndex p u.pipe u.idx → Store.at? t.tbl.acl i = Store.at? s.tbl.acl i) ∧ t.tbl.ep = s.tbl.ep) ∧
        (s.tuIn p u (aclWindow u.pipe) 2 u.idx = false → t.fld (tuCmd p) 29 26 = 3 ∧ t.tbl.acl = s.tbl.acl ∧
          t.bit (Reg.SLC_RIND_STAT p) (16 + u.comp) = true)) ∧
      (p.val = 32 → u.tgt = 4 → u.op = 1 → 1057 < u.idx → u.idx < 262144 → s.objState u.idx ≠ 2 →
        t.fld (tuCmd p) 29 26 = 0 ∧ t.objBytes u.idx = some (bytesAt u.data 0 8)) ∧
      (4 < u.tgt ∨ (u.tgt = 2 ∧ u.op = 3) ∨ (u.tgt = 4 ∧ p.val < 32) → t.fld (tuCmd p) 29 26 = 4 ∧ t.tbl.ep = s.tbl.ep ∧
        t.tbl.acl = s.tbl.acl ∧ t.tbl.objects = s.tbl.objects ∧ t.tbl.press = s.tbl.press))

/-- The oldest learn of a shard that is not held leaves its queue; one for an entry that is STATIC counts as a failure and changes no entry. TBL_AGE.NOW rises by 1 every TICK_MS milliseconds. A churn visit asks for the deletion of an aged entry; the deletion happens only if the slot still holds its key and TS, no miss read of it is outstanding, and its shard is not held. A retired object is freed when the frames of its time are gone. Choices of the model it meets: log entry 67. -/
def Obligations.LearningAgingAndChurn : Prop :=
  ∀ (i : Fin 262144) (k ts x : Nat) (l : Learn) (r : List Learn) (pk : List Byte) (s : State),
    (∀ shard : Fin 16, s.bit Reg.TBL_HOLD shard = false → s.learnQ shard = l :: r →
      (s.learnOn l.part = false → exec (.learnApply shard) s = .next (s.setLearnQ shard r)) ∧
      (s.learnOn l.part = true → s.epFind l.part l.key = some k → epStatic (s.epAt k) = true → l.slice < 32 → l.comp < 8 →
        ∃ t, exec (.learnApply shard) s = .next t ∧ t.learnQ shard = r ∧ t.tbl.ep = s.tbl.ep ∧
          (t.reg (Reg.SLC_TBL_CNT l.slice l.comp 7)).toNat =
            min (2 ^ 32 - 1) ((s.reg (Reg.SLC_TBL_CNT l.slice l.comp 7)).toNat + 1))) ∧
    (s.tbl.ageLast + ms (max 10 (s.fld Reg.TBL_AGE 31 16)) ≤ s.time.mono → ∃ t, exec .ageTick s = .next t ∧
      t.fld Reg.TBL_AGE 15 0 = (s.fld Reg.TBL_AGE 15 0 + 1) % 65536 ∧ t.tbl.ageLast = s.time.mono ∧
      t.fld Reg.TBL_AGE 31 16 = s.fld Reg.TBL_AGE 31 16 ∧ ∀ a, a ≠ Reg.TBL_AGE → t.reg a = s.reg a) ∧
    (s.tblOn = true → s.tblDup = false → s.bit Reg.TBL_CTL 29 = true → s.churnDeletes = true →
      s.tbl.visitLast + 1000 ≤ s.time.mono → k = visitSlot s.tbl.visit → s.agedOut (s.epAt k) (s.authTs (s.epAt k)) = true →
      s.epAt k ≠ [] → ∃ t, exec .churnVisit s = .next t ∧ t.tbl.visit = s.tbl.visit + 1 ∧ t.regs = s.regs ∧
        t.tbl.ep = s.tbl.ep ∧ t.tbl.churned = s.tbl.churned ++ [(k, (s.epAt k).take 18, s.authTs (s.epAt k))]) ∧
    (s.tbl.churned = [(k, pk, ts)] → s.bit Reg.TBL_HOLD (k / 2097152) = false → k < 2 ^ 25 →
      ((s.epAt k).take 18 = pk → s.authTs (s.epAt k) = ts → s.readOutstanding k = false →
        ∃ t, exec (.churnCompareDelete k) s = .next t ∧ t.epAt k = [] ∧ t.tbl.churned = [] ∧
          (∀ j, j < 2 ^ 25 → j ≠ k → t.epAt j = s.epAt j) ∧
          (t.reg (Reg.TBL_GCNT 0)).toNat = min (2 ^ 32 - 1) ((s.reg (Reg.TBL_GCNT 0)).toNat + 1)) ∧
      (s.authTs (s.epAt k) ≠ ts → ∃ t, exec (.churnCompareDelete k) s = .next t ∧ t.tbl.ep = s.tbl.ep ∧
        t.tbl.churned = [] ∧ (t.reg (Reg.TBL_GCNT 1)).toNat = min (2 ^ 32 - 1) ((s.reg (Reg.TBL_GCNT 1)).toNat + 1))) ∧
    (∀ o ∈ Store.at? s.tbl.objects i, o.retired = some x → (∀ y ∈ s.ctxs, x ≤ y.1) →
      ∃ t, exec (.objectFree i) s = .next t ∧ t.objState i = (if i.val ≤ 1057 then 1 else 0) ∧ t.regs = s.regs ∧
        ∀ j, j ≠ i.val → Store.at? t.tbl.objects j = Store.at? s.tbl.objects j)

/-- The press scrub leaves banks whose copies agree as they are, and where two banks' copies of a route differ in SEQ puts the one with the higher SEQ into both and counts it. Compaction turns a bank's holes into free rows. A miss-read rate is taken only while the sum of all slices stays within 12,000, else its error is flagged. Reading the flap record returns and frees it. Choices of the model it meets: log entries 63, 65. -/
def Obligations.PressBanksAndRates : Prop :=
  ∀ (m : Master) (n : Fin 32) (d : Word) (b : Fin 8) (q r : Route) (s : State), m.trusted = true →
    ((∀ x ∈ s.pressOn, ∀ y ∈ (s.press x).routes, ∀ z ∈ s.routeCopies y, z = y) → exec .pressScrub s = .next s) ∧
    (s.pressOn = [0, 1] → (s.press 0).routes = [q] → (s.press 1).routes = [r] → r.is q.af q.plen q.vrf q.addr = true →
      seqHigher r.seq q.seq = true → ∃ t, exec .pressScrub s = .next t ∧ (t.press 0).routes = [r] ∧
        (t.press 1).routes = [r] ∧ (t.reg (Reg.TBL_GCNT 2)).toNat = min (2 ^ 32 - 1) ((s.reg (Reg.TBL_GCNT 2)).toNat + 1) ∧
        ∀ a, a ≠ Reg.TBL_GCNT 2 → a ≠ Reg.TBL_STAT → t.reg a = s.reg a) ∧
    (s.domOn (132 + b) = true → ∃ t, exec (.pressCompact b) s = .next t ∧ (t.press b).holes = [] ∧
      (t.press b).routes = (s.press b).routes ∧ t.regs = s.regs ∧ ∀ j, j ≠ b.val → t.press j = s.press j) ∧
    (s.domOn (domainOf (Reg.TBL_MISS_RATE n)) = true →
      (((List.range 32).map fun k => if k = n.val then fieldOf d 15 0 else s.fld (Reg.TBL_MISS_RATE k) 15 0).sum ≤ 12000 →
        ∃ t, exec (.missRateWrite m n d) s = .next t ∧ t.fld (Reg.TBL_MISS_RATE n) 15 0 = fieldOf d 15 0 ∧
          ∀ a, a ≠ Reg.TBL_MISS_RATE n → t.reg a = s.reg a) ∧
      (12000 < ((List.range 32).map fun k => if k = n.val then fieldOf d 15 0 else s.fld (Reg.TBL_MISS_RATE k) 15 0).sum →
        ∃ t, exec (.missRateWrite m n d) s = .next t ∧ t.bit Reg.TBL_STAT 29 = true ∧
          t.reg (Reg.TBL_MISS_RATE n) = s.reg (Reg.TBL_MISS_RATE n))) ∧
    (∃ t, exec (.flapRecRead m) s = .next t ∧ t.reply = [s.reg Reg.TBL_FLAP_REC0] ∧ t.reg Reg.TBL_FLAP_REC0 = 0 ∧
      t.reg Reg.TBL_FLAP_REC1 = 0 ∧ ∀ a, a ≠ Reg.TBL_FLAP_REC0 → a ≠ Reg.TBL_FLAP_REC1 → t.reg a = s.reg a)

/-- A write of one microword puts SLC_CS_DATA into the active bank's word alone and sets NOREF, a read returns it; from a load's start to its swap the write is refused with BANKWR and the bank stays. An indirection entry is written and read the same way. A write of SLC_MIR_CFG1 restarts the session's count. A scrub ends by recording digests while NOREF is 1, else by comparing them, a difference setting SMISM and reporting a fault. -/
def Obligations.StoreWordsAndMirrors : Prop :=
  ∀ (m : Master) (n : Fin 32) (i : Fin 16) (acc d : Word) (w : Fin 4) (p st a : Nat) (s : State), m.trusted = true →
    p = fieldOf acc 29 29 → st = fieldOf acc 28 24 → a = fieldOf acc 9 0 →
    (s.domOn (domainOf (Reg.SLC_CS_ACC n)) = true → fieldOf acc 23 23 = 0 → st < 24 →
      (s.loadPeriod n = false → s.bit (Reg.SLC_CS_PROT n) 2 = false → ∃ t, exec (.csWordWrite m n acc) s = .next t ∧
        (t.slice n).active.le kMicro p st (16 * a + 4 * w) 4 = (s.reg (Reg.SLC_CS_DATA n w)).toNat ∧
        (∀ b, b ≠ a → (t.slice n).active.bytes kMicro p st (16 * b) 16 = (s.slice n).active.bytes kMicro p st (16 * b) 16) ∧
        t.bit (Reg.SLC_CS_PROT n) 3 = true ∧ ∀ j, j ≠ n.val → t.slice j = s.slice j) ∧
      (s.loadPeriod n = true → ∃ t, exec (.csWordWrite m n acc) s = .next t ∧ t.slices = s.slices ∧
        t.bit (Reg.SLC_BS_STAT n) 14 = true) ∧
      (∃ t, exec (.csWordRead m n acc) s = .next t ∧ t.slices = s.slices ∧
        t.reg (Reg.SLC_CS_DATA n w) = BitVec.ofNat 32 ((s.slice n).active.le kMicro p st (16 * a + 4 * w) 4))) ∧
    (s.domOn (domainOf (Reg.SLC_LB_ACC n)) = true →
      (s.loadPeriod n = false → ∃ t, exec (.lbEntryWrite m n acc) s = .next t ∧
        (t.slice n).active.lbEntry (fieldOf acc 27 24) (fieldOf acc 23 12) = s.fld (Reg.SLC_LB_DATA n) 15 0 ∧
        ∀ j, j ≠ n.val → t.slice j = s.slice j) ∧
      (∃ t, exec (.lbEntryRead m n acc) s = .next t ∧ t.slices = s.slices ∧ t.reg (Reg.SLC_LB_DATA n) =
        BitVec.ofNat 32 ((s.slice n).active.lbEntry (fieldOf acc 27 24) (fieldOf acc 23 12)))) ∧
    (s.domOn (domainOf (Reg.SLC_MIR_CFG1 n i)) = true → ∃ t, exec (.mirrorCfg1Write m n i d) s = .next t ∧
      t.reg (Reg.SLC_MIR_CFG1 n i) = d &&& 0xFFFFFF00 ∧ Store.read 0 (t.slice n).mirror i = 0 ∧
      ∀ b, b ≠ Reg.SLC_MIR_CFG1 n i → t.reg b = s.reg b) ∧
    (s.domOn (domainOf (Reg.SLC_CS_PROT n)) = true → ∃ t, exec (.sliceScrub m n) s = .next t ∧
      t.bit (Reg.SLC_CS_PROT n) 30 = true ∧ t.slices = s.slices ∧ ∀ b, b ≠ Reg.SLC_CS_PROT n → t.reg b = s.reg b) ∧
    (s.bit (Reg.SLC_CS_PROT n) 30 = true →
      (s.bit (Reg.SLC_CS_PROT n) 3 = true → ∃ t, exec (.scrubDone (.slice n)) s = .next t ∧
        t.bit (Reg.SLC_CS_PROT n) 30 = false ∧ t.bit (Reg.SLC_CS_PROT n) 3 = false ∧ t.flt = s.flt ∧
        (t.slice n).active = (s.slice n).active.record) ∧
      (s.bit (Reg.SLC_CS_PROT n) 3 = false → (s.slice n).active.digestI ≠ [] →
        (s.slice n).active.record.digestI ≠ (s.slice n).active.digestI → ∃ t, exec (.scrubDone (.slice n)) s = .next t ∧
          t.bit (Reg.SLC_CS_PROT n) 30 = false ∧ t.bit (Reg.SLC_CS_PROT n) 1 = true ∧ t.slices = s.slices ∧
          s.flt.reports.length < t.flt.reports.length))

/-- RUN starts a halted engine at START, or at dispatch entry 0xFE with its last record in G1 to G3 while its journal is open. RUN = 0 asks a running engine to halt, which it does at its boundary. A scrub sets BUSY and ends by comparing digests. The view reads one word of the store. An interrupt pushes the address the routine had come to and takes the source off the list. Choices of the model it meets: log entries 83, 86. -/
def Obligations.EngineRunControl : Prop :=
  ∀ (m : Master) (k : Fin 4) (d : Word) (w : Fin 6) (src : Nat) (rest : List Nat) (e : Engine) (s : State), m.trusted = true →
    s.domOn (domainOf (Reg.MGE_CTL k)) = true → s.engine k = e →
    (s.engHalted k = true → e.blocked = false → fieldOf d 29 29 = 0 →
      (∀ i : Fin 256, s.bit (Reg.MBX_STAT i) 30 = false) → (∀ i : Fin 64, s.reg (Reg.MBX_DB i) = 0) →
      ∃ t, exec (.engineRun m k d) s = .next t ∧ t.engHalted k = false ∧
        (e.jopen = false → (t.engine k).upc = fieldOf d 13 0 ∧ (t.engine k).g = e.g) ∧
        (e.jopen = true → (t.engine k).upc = e.entry 0xFE % 16384 ∧ ∀ r ∈ e.lastRec, (t.engine k).reg 1 = BitVec.ofNat 64 r.routine ∧
          (t.engine k).reg 2 = BitVec.ofNat 64 r.step ∧ (t.engine k).reg 3 = BitVec.ofNat 64 r.state)) ∧
    (s.engHalted k = false →
      (fieldOf d 29 29 = 0 → ∃ t, exec (.engineHaltRequest m k d) s = .next t ∧ t.engine k = { e with haltReq := true } ∧
        ∀ a, a ≠ Reg.MGE_CTL k → t.reg a = s.reg a) ∧
      (e.haltReq = true → e.atBoundary = true → ∃ t, exec (.engineHalted k) s = .next t ∧ t.engHalted k = true ∧
        (t.engine k).upc = e.upc ∧ (t.engine k).g = e.g ∧ ∀ a, a ≠ Reg.MGE_STAT k → t.reg a = s.reg a) ∧
      (e.haltReq = false → e.atBoundary = true → Store.read [] s.intr.engine k = src :: rest → e.rstack.length < 8 →
        ∃ t, exec (.engineInterrupt k) s = .next t ∧ (t.engine k).rstack = e.upc % 16384 :: e.rstack ∧
          (t.engine k).waiting = false ∧ Store.read [] t.intr.engine k = rest ∧ (t.engine k).g = e.g ∧ t.regs = s.regs)) ∧
    (∃ t, exec (.engineScrub m k d) s = .next t ∧ t.bit (Reg.MGE_STAT k) 27 = true ∧ (t.engine k).store = e.store) ∧
    (s.bit (Reg.MGE_STAT k) 27 = true →
      (e.digest = [] → ∃ t, exec (.scrubDone (.engine k)) s = .next t ∧ t.bit (Reg.MGE_STAT k) 27 = false ∧ t.flt = s.flt ∧
        t.engines = s.engines) ∧
      (e.digest ≠ [] → Config.sha384 e.image ≠ e.digest → ∃ t, exec (.scrubDone (.engine k)) s = .next t ∧
        t.bit (Reg.MGE_STAT k) 28 = true ∧ t.bit (Reg.MGE_STAT k) 27 = false ∧
        t.flt.reports.length = s.flt.reports.length + 1)) ∧
    (∃ t, exec (.engineCsRead m k d) s = .next t ∧ t.engines = s.engines ∧
      (fieldOf d 29 29 = 0 →
        t.reg (Reg.MGE_CS_DATA k w) = BitVec.ofNat 32 (e.word (fieldOf d 13 0) / 2 ^ (32 * w.val))) ∧
      (fieldOf d 29 29 = 1 → t.reg (Reg.MGE_CS_DATA k 0) = BitVec.ofNat 32 (e.entry (fieldOf d 7 0))))

/-- A microword of a running engine with SEQ = NEXT writes its operation's result to its destination register and no other register, G0 staying 0, and the engine goes to the next microword; without SETF the flags stay. NOP and operations above 18 write nothing, CMP only the flags, LDI its immediate. JOPEN opens a journal for its routine and JCLOSE closes it. Choices of the model it meets: log entry 82. -/
def Obligations.MicrowordsOfEngines : Prop :=
  ∀ (k : Fin 4) (w A B d o v : Nat) (ins : Instr) (e : Engine) (s : State), s.engine k = e → s.engRuns k = true →
    e.waiting = false → e.haltReq = false → e.memDone = false → e.opDone = false → e.loaded = none → w = e.word e.upc →
    s.engBad k e.upc = false → engMemop w = 0 → bitsOf w 188 186 = 0 → bitsOf w 63 56 = 0 → d = bitsOf w 163 159 →
    A = (e.reg (bitsOf w 158 154)).toNat →
    B = (if bitsOf w 148 148 = 1 then bitsOf w 127 64 else (e.reg (bitsOf w 153 149)).toNat) →
    (e.jopen = false →
      ((o, ins, v) ∈ [(1, .mov (.engine k), B), (2, .add (.engine k), A + B), (3, .sub (.engine k), A + 2 ^ 64 - B),
          (4, .and (.engine k), A &&& B), (5, .or (.engine k), A ||| B), (6, .xor (.engine k), A ^^^ B),
          (7, .shl (.engine k), A * 2 ^ (B % 64)), (8, .shr (.engine k), A / 2 ^ (B % 64)),
          (10, .min (.engine k), min A B), (11, .max (.engine k), max A B),
          (12, .csum (.engine k), onesSum (aluResult.wordsOf 64 A ++ aluResult.wordsOf 64 B)),
          (13, .crc (.engine k), (crc32c (BitVec.ofNat 32 B) (toBE 8 A)).toNat),
          (14, .setb (.engine k), A ||| 2 ^ (B % 64)), (15, .clrb (.engine k), A - (A &&& 2 ^ (B % 64)))] →
        bitsOf w 171 164 = o → ∃ t, exec ins s = .next t ∧ (t.engine k).upc = (e.upc + 1) % 16384 ∧
          (∀ r, (t.engine k).reg r = if r = d ∧ r ≠ 0 then BitVec.ofNat 64 v else e.reg r) ∧
          (bitsOf w 142 142 = 0 → ((t.engine k).z, (t.engine k).n, (t.engine k).c) = (e.z, e.n, e.c)) ∧
          ∀ a, a ≠ Reg.MGE_STAT k → t.reg a = s.reg a) ∧
      (bitsOf w 171 164 = 0 → ∃ t, exec (.nop (.engine k)) s = .next t ∧ (t.engine k).upc = (e.upc + 1) % 16384 ∧
        (t.engine k).g = e.g ∧ ((t.engine k).z, (t.engine k).n, (t.engine k).c) = (e.z, e.n, e.c)) ∧
      (19 ≤ bitsOf w 171 164 → ∃ t, exec (.rsvop (.engine k)) s = .next t ∧ (t.engine k).upc = (e.upc + 1) % 16384 ∧
        (t.engine k).g = e.g ∧ ((t.engine k).z, (t.engine k).n, (t.engine k).c) = (e.z, e.n, e.c)) ∧
      (bitsOf w 171 164 = 9 → ∃ t, exec (.cmp (.engine k)) s = .next t ∧ (t.engine k).g = e.g ∧
        (t.engine k).upc = (e.upc + 1) % 16384 ∧ (t.engine k).z = decide (A = B) ∧ (t.engine k).c = decide (A < B)) ∧
      (bitsOf w 171 164 = 18 → ∃ t, exec (.ldi k) s = .next t ∧ (t.engine k).upc = (e.upc + 1) % 16384 ∧
        ∀ r, (t.engine k).reg r = if r = d ∧ r ≠ 0 then BitVec.ofNat 64 (bitsOf w 127 64) else e.reg r) ∧
      (bitsOf w 171 164 = 16 → ∃ t, exec (.jopen k) s = .next t ∧ (t.engine k).jopen = true ∧ (t.engine k).held = [] ∧
        t.bit (Reg.MGE_STAT k) 26 = true ∧ (t.engine k).g = e.g)) ∧
    (e.jopen = true → bitsOf w 171 164 = 17 → bitsOf w 133 133 = 0 → e.steps < 256 → ∃ t, exec (.jclose k) s = .next t ∧
      (t.engine k).jopen = false ∧ (t.engine k).held = [] ∧ t.bit (Reg.MGE_STAT k) 26 = false ∧ (t.engine k).g = e.g)

/-- A LOAD from data RAM brings the bytes at its address; a STORE without an open journal stores its register's bytes there and no other byte changes, the RAM keeping its canonical form. In an open journal a STORE to spaces 2 to 6 is held and changes nothing, and a 17th one is a step error that halts the engine. CALL pushes the next address and RET pops it; WAIT leaves the engine waiting and HALT halted, at the next microword. Choices of the model it meets: log entries 79, 82, 84. -/
def Obligations.EngineMemoryAndSequencing : Prop :=
  ∀ (k : Fin 4) (w a n : Nat) (r : List Nat) (e : Engine) (s : State), s.engine k = e → s.engRuns k = true → w = e.word e.upc →
    (e.waiting = false → e.haltReq = false → e.memDone = false → e.opDone = false → s.engBad k e.upc = false →
      a = ((e.reg (bitsOf w 158 154)).toNat + bitsOf w 31 0) % 2 ^ 64 → n = engSize w → n < 64 →
      (engMemop w = 1 → bitsOf w 131 128 = 1 → e.held = [] → a + n ≤ 2 ^ 18 → ∃ t, exec (.engineLoad k) s = .next t ∧
        t.engine k = { e with memDone := true, loaded := some (bitsOf w 163 159, BitVec.ofNat 64 (leNat (getBytes e.ram a n))) } ∧
        ∀ b, b ≠ Reg.MGE_STAT k → t.reg b = s.reg b) ∧
      (engMemop w = 2 → bitsOf w 131 128 = 1 → a + n ≤ 2 ^ 18 → ∃ t, exec (.engineStore k) s = .next t ∧
        getBytes (t.engine k).ram a n = toLE n (e.reg (bitsOf w 153 149)).toNat ∧
        (Memory.wf e.ram = true → Memory.wf (t.engine k).ram = true) ∧
        (∀ b, b < a ∨ a + n ≤ b → getBytes (t.engine k).ram b 1 = getBytes e.ram b 1) ∧ (t.engine k).g = e.g ∧
        (t.engine k).memDone = true ∧ ∀ b, b ≠ Reg.MGE_STAT k → t.reg b = s.reg b) ∧
      (engMemop w = 2 → e.jopen = true → 2 ≤ bitsOf w 131 128 →
        (e.held.length < 16 → ∃ t, exec (.engineStore k) s = .next t ∧ (t.engine k).memDone = true ∧ (t.engine k).ram = e.ram ∧
          (t.engine k).held = e.held ++ [⟨bitsOf w 131 128, a, toLE n (e.reg (bitsOf w 153 149)).toNat⟩] ∧
          t.tbl = s.tbl ∧ t.flow = s.flow ∧ t.slices = s.slices ∧ t.hbm = s.hbm) ∧
        (16 ≤ e.held.length → ∃ t, exec (.engineStore k) s = .next t ∧ t.engHalted k = true ∧ (t.engine k).held = [] ∧
          t.bit (Reg.MGE_STAT k) 29 = true ∧ t.tbl = s.tbl ∧ t.flow = s.flow ∧ t.slices = s.slices ∧ t.hbm = s.hbm))) ∧
    (e.opDone = true →
      (bitsOf w 188 186 = 4 → e.rstack.length < 8 → ∃ t, exec (.call k) s = .next t ∧ (t.engine k).upc = bitsOf w 185 172 ∧
        (t.engine k).rstack = (e.upc + 1) % 16384 :: e.rstack ∧ (t.engine k).g = e.g ∧ t.regs = s.regs) ∧
      (bitsOf w 188 186 = 5 → e.rstack = a :: r → ∃ t, exec (.ret k) s = .next t ∧ (t.engine k).upc = a % 16384 ∧
        (t.engine k).rstack = r ∧ (t.engine k).g = e.g ∧ t.regs = s.regs) ∧
      (bitsOf w 188 186 = 6 → ∃ t, exec (.wait k) s = .next t ∧ (t.engine k).upc = (e.upc + 1) % 16384 ∧
        (t.engine k).waiting = true ∧ (t.engine k).g = e.g ∧ t.regs = s.regs) ∧
      (bitsOf w 188 186 = 7 → ∃ t, exec (.halt k) s = .next t ∧ (t.engine k).upc = (e.upc + 1) % 16384 ∧
        t.engHalted k = true ∧ (t.engine k).g = e.g ∧ ∀ b, b ≠ Reg.MGE_STAT k → t.reg b = s.reg b))

/-- A write of VAT_QACC gives one queue the settings in VAT_QDATA0 to 2 and no other queue, a read returns a queue's settings and its depth. A target entry is written as given, a group entry only when its range fits, else flagged, and read back; the end of the replications that read the earlier entry clears BUSY. MODE changes only while EN is 0; a change while EN is 1 leaves it and sets CFGERR. Choices of the model it meets: log entry 23. -/
def Obligations.VatRegisters : Prop :=
  ∀ (m : Master) (acc d : Word) (q : Nat) (w : Fin 3) (s : State), m.trusted = true → q = fieldOf acc 14 0 →
    (q < 21396 → (∃ t, exec (.queueSettingsWrite m acc) s = .next t ∧ t.qword q w = s.reg (Reg.VAT_QDATA0 + 4 * w) ∧
        (∀ j i, j ≠ q → i < 4 → t.qword j i = s.qword j i) ∧ t.vat.queues = s.vat.queues ∧
        ∀ a, a ≠ Reg.VAT_QACC → t.reg a = s.reg a) ∧
      (∃ t, exec (.queueRead m acc) s = .next t ∧ t.reg (Reg.VAT_QDATA0 + 4 * w) = s.qword q w ∧ t.vat = s.vat ∧
        t.reg Reg.VAT_QDATA3 = BitVec.ofNat 32 (min (2 ^ 23 - 1) (s.dep q)))) ∧
    (fieldOf acc 27 27 = 1 → fieldOf acc 18 0 ≤ 524286 → ∃ t, exec (.mcEntryWrite m acc) s = .next t ∧
      Store.read 0 t.vat.targets (fieldOf acc 18 0) = s.reg Reg.VAT_MC_DATA ∧ t.vat.groups = s.vat.groups ∧
      (∀ j, j ≠ fieldOf acc 18 0 → Store.read 0 t.vat.targets j = Store.read 0 s.vat.targets j) ∧
      ∀ a, a ≠ Reg.VAT_MC_ACC → t.reg a = s.reg a) ∧
    (fieldOf acc 27 27 = 0 → fieldOf acc 18 0 ≤ 65535 →
      (fieldOf (s.reg Reg.VAT_MC_DATA) 18 0 + fieldOf (s.reg Reg.VAT_MC_DATA) 29 19 ≤ 524287 →
        ∃ t, exec (.mcEntryWrite m acc) s = .next t ∧ t.bit Reg.VAT_MC_ACC 28 = true ∧
          Store.read 0 t.vat.groups (fieldOf acc 18 0) = s.reg Reg.VAT_MC_DATA ∧ t.vat.targets = s.vat.targets) ∧
      (524287 < fieldOf (s.reg Reg.VAT_MC_DATA) 18 0 + fieldOf (s.reg Reg.VAT_MC_DATA) 29 19 →
        ∃ t, exec (.mcEntryWrite m acc) s = .next t ∧ t.bit Reg.VAT_MC_ACC 29 = true ∧ t.vat = s.vat)) ∧
    (∃ t, exec (.mcEntryRead m acc) s = .next t ∧ t.vat = s.vat ∧ t.reg Reg.VAT_MC_DATA =
      Store.read 0 (if fieldOf acc 27 27 = 1 then s.vat.targets else s.vat.groups) (fieldOf acc 18 0)) ∧
    (∃ t, exec .mcGroupDrained s = .next t ∧ t.bit Reg.VAT_MC_ACC 28 = false ∧ t.vat = s.vat ∧
      ∀ a, a ≠ Reg.VAT_MC_ACC → t.reg a = s.reg a) ∧
    (s.bit Reg.VAT_CTL 31 = true → fieldOf d 30 30 ≠ s.fld Reg.VAT_CTL 30 30 → ∃ t, exec (.vatModeWrite m d) s = .next t ∧
      t.fld Reg.VAT_CTL 30 30 = s.fld Reg.VAT_CTL 30 30 ∧ t.bit Reg.VAT_STAT 31 = true ∧ t.vat = s.vat) ∧
    (s.bit Reg.VAT_CTL 31 = false → fieldOf d 31 31 = 0 → ∃ t, exec (.vatModeWrite m d) s = .next t ∧
      t.fld Reg.VAT_CTL 30 30 = fieldOf d 30 30 ∧ t.bit Reg.VAT_CTL 31 = false ∧ t.vat = s.vat ∧
      ∀ a, a ≠ Reg.VAT_CTL → t.reg a = s.reg a)

/-- A disabled port that is enabled goes to DOWN, an UP port that is disabled to DISABLED with LCHG and LINK_DOWN, and FORCE_LF puts a port in SAFE. A fault ordered set or loss of alignment takes an UP port DOWN. Alignment starts the debounce, whose end takes the port UP, or to DRAIN while its slice drains. An octet's mode changes only while none of its ports is enabled, else MERR is set. A write of PORT_CT sets its step. No other port's state changes. -/
def Obligations.PortsComeAndGo : Prop :=
  ∀ (m : Master) (p : Fin 1024) (k : Fin 128) (d : Word) (lf rf : Bool) (a : Nat) (s : State), m.trusted = true →
    s.assigned p = true → s.domOn (4 * (p / 32) + 2) = true →
    (s.portOn p = false → s.portState p = 0 → (s.port p).safe = false → fieldOf d 30 30 = 0 →
      ∃ t, exec (.portEnable m p d) s = .next t ∧ t.portState p = 1 ∧ t.portOn p = true ∧
        t.fld (Reg.PORT_CTL p) 14 0 = fieldOf d 14 0 ∧ ∀ j : Fin 1024, j ≠ p → t.portState j = s.portState j) ∧
    (s.portOn p = true → s.portState p = 2 → (s.port p).rx = none → Store.read [] s.vat.out p = [] →
      (∃ t, exec (.portDisable m p d) s = .next t ∧ t.portState p = 0 ∧ t.portOn p = false ∧
        t.bit (Reg.PORT_STAT p) 31 = true ∧
        (t.reg (Reg.PORT_CNT p 11)).toNat = min (2 ^ 32 - 1) ((s.reg (Reg.PORT_CNT p 11)).toNat + 1) ∧
        ∀ j : Fin 1024, j ≠ p → t.portState j = s.portState j) ∧
      (fieldOf d 31 31 = 1 → s.bit (Reg.PORT_CTL p) 30 = false → ∃ t, exec (.forceLf m p d) s = .next t ∧
        t.portState p = 3 ∧ t.bit (Reg.PORT_CTL p) 30 = true ∧ ∀ j : Fin 1024, j ≠ p → t.portState j = s.portState j) ∧
      ((s.port p).safe = false → s.bit (Reg.PORT_CTL p) 30 = false → ∃ t, exec (.linkFault p lf rf) s = .next t ∧
        t.portState p = 1 ∧ (t.port p).since = none ∧ (lf || rf → t.bit (Reg.PORT_STAT p) 30 = lf ∧
          t.bit (Reg.PORT_STAT p) 29 = rf) ∧ ∀ j : Fin 1024, j ≠ p → t.portState j = s.portState j)) ∧
    (s.portOn p = true → s.portState p = 1 → s.lanesAllow p = true → ∃ t, exec (.pcsAligned p) s = .next t ∧
      t.portState p = 1 ∧ (t.port p).since = some s.time.mono ∧ t.bit (Reg.PORT_STAT p) 28 = true ∧
      ∀ j, j ≠ Reg.PORT_STAT p → t.reg j = s.reg j) ∧
    ((s.port p).since = some a → s.portState p = 1 → a + us (10 * oneIfZero (s.fld (Reg.PORT_CTL p) 23 16)) ≤ s.time.mono →
      ∃ t, exec (.linkupDebounce p) s = .next t ∧ t.portState p = (if s.draining (p / 32) then 4 else 2) ∧
        t.bit (Reg.PORT_STAT p) 31 = true ∧ ∀ j, j ≠ Reg.PORT_STAT p → t.reg j = s.reg j) ∧
    (∃ t, exec (.ctStepWrite m p d) s = .next t ∧ t.fld (Reg.PORT_CT p) 2 0 = fieldOf d 2 0 ∧
      (fieldOf d 31 31 = 1 → t.bit (Reg.PORT_CT p) 31 = false) ∧ ∀ j, j ≠ Reg.PORT_CT p → t.reg j = s.reg j) ∧
    (s.domOn (domainOf (Reg.PORT_OCT (8 * k))) = true → fieldOf d 2 0 ≠ s.fld (Reg.PORT_OCT (8 * k)) 2 0 →
      ((∀ i : Fin 8, s.portOn (8 * k + i) = false) → ∃ t, exec (.octetModeWrite m k d) s = .next t ∧
        t.fld (Reg.PORT_OCT (8 * k)) 2 0 = fieldOf d 2 0 ∧ ∀ i : Fin 8, t.portState (8 * k + i) = 0) ∧
      (∀ i : Fin 8, s.assigned (8 * k + i) = true → s.portOn (8 * k + i) = true →
        ∃ t, exec (.octetModeWrite m k d) s = .next t ∧ t.bit (Reg.PORT_OCT (8 * k)) 31 = true ∧
          t.fld (Reg.PORT_OCT (8 * k)) 2 0 = s.fld (Reg.PORT_OCT (8 * k)) 2 0))

/-- Taps in their limits are taken, others and writes in training only flagged. A lane that locks begins to train, answers its partner's requests, ends in data with TRAIN_OK counted, or times out with its flag, pauses and starts again; one that loses lock in data counts it. A change of function restarts the lane. The pattern generator takes its settings, an injected bit counts in a locked near-end checker, and a margin scan runs only with lock. A group without reference stops until its PLL locks. Choices of the model it meets: log entries 26, 27. -/
def Obligations.LanesTrainAndTest : Prop :=
  ∀ (m : Master) (l : Fin 1040) (g : Fin 33) (d : Word) (e a er : Nat) (s : State), m.trusted = true → s.laneAlive l = true →
    (s.laneState l ≠ 2 → tapsOk (firTaps d) = true → ∃ t, exec (.laneTxfirWrite m l d) s = .next t ∧
      firTaps (t.reg (Reg.LANE_TXFIR l)) = firTaps d ∧ ∀ b, b ≠ Reg.LANE_TXFIR l → t.reg b = s.reg b) ∧
    (s.laneState l ≠ 2 → tapsOk (firTaps d) = false → ∃ t, exec (.laneTxfirWrite m l d) s = .next t ∧
      t.bit (Reg.LANE_STAT l) 28 = true ∧ t.reg (Reg.LANE_TXFIR l) = s.reg (Reg.LANE_TXFIR l)) ∧
    (s.laneState l = 2 →
      (∃ t, exec (.laneTxfirWrite m l d) s = .next t ∧ t.bit (Reg.LANE_STAT l) 31 = true ∧
        t.reg (Reg.LANE_TXFIR l) = s.reg (Reg.LANE_TXFIR l)) ∧
      (∃ t, exec (.trainingFrameRx l true (.preset 2)) s = .next t ∧ firTaps (t.reg (Reg.LANE_TXFIR l)) = (4, 52, 8) ∧
        t.out = .training l trainUpdated :: s.out ∧ ∀ b, b ≠ Reg.LANE_TXFIR l → t.reg b = s.reg b) ∧
      (∃ t, exec (.trainingDone l false) s = .next t ∧ t.laneState l = 3 ∧ t.fld (Reg.LANE_CNT l) 31 16 =
        min 65535 (s.fld (Reg.LANE_CNT l) 31 16 + 1)) ∧
      ((s.lane l).trainAt = some a → a + ms (oneIfZero (s.fld (Reg.LANE_CTL l) 15 0)) ≤ s.time.mono →
        ∃ t, exec (.trainingTimeout l) s = .next t ∧ t.laneState l = 0 ∧ t.bit (Reg.LANE_STAT l) 30 = true ∧
          (t.lane l).quietUntil = some (s.time.mono + ms 10) ∧
          t.fld (Reg.LANE_CNT l) 15 8 = min 255 (s.fld (Reg.LANE_CNT l) 15 8 + 1))) ∧
    ((s.lane l).quietUntil = some a → a ≤ s.time.mono → s.laneLocked l = false → ∃ t, exec (.trainingRestart l) s = .next t ∧
      t.laneState l = s.laneStart l ∧ (t.lane l).quietUntil = none) ∧
    (s.laneState l = 1 → s.bit (Reg.LANE_CTL l) 24 = true → ∃ t, exec (.signalLock l) s = .next t ∧ t.laneState l = 2 ∧
      t.laneLocked l = true ∧ (t.lane l).trainAt = some s.time.mono) ∧
    (s.laneState l = 3 → ∃ t, exec (.cdrLoss l) s = .next t ∧ t.laneLocked l = false ∧
      t.laneState l = s.laneStart l ∧ t.fld (Reg.LANE_CNT l) 7 0 = min 255 (s.fld (Reg.LANE_CNT l) 7 0 + 1)) ∧
    (fieldOf d 31 30 = 1 → s.lanePattern l = false → ∃ t, exec (.laneCtlWrite m l d) s = .next t ∧
      t.reg (Reg.LANE_CTL l) = d &&& 0xFFE0FFFF ∧ t.laneLocked l = false ∧
      t.laneState l = if s.bit (Reg.LANE_PAT l) 31 then 4 else 0) ∧
    (∃ t, exec (.patternWrite m l d) s = .next t ∧ t.fld (Reg.LANE_PAT l) 27 18 = fieldOf d 27 18 ∧
      (t.lane l).gen = (if fieldOf d 31 31 = 1 then some s.time.mono else none) ∧ (t.lane l).inverted = (s.lane l).inverted) ∧
    (s.laneState l = 4 → s.lanePattern l = true → fieldOf d 31 31 = 1 → ∃ t, exec (.injOne m l d) s = .next t ∧
      (t.lane l).inverted = (s.lane l).inverted + 1) ∧
    (s.laneSends l = true → injExp (s.fld (Reg.LANE_PAT l) 23 18) = some e →
      (s.lane l).injAt + 4 * 2 ^ e ≤ s.time.mono * s.laneRate l → ∃ t, exec (.injectPeriodic l) s = .next t ∧
        (t.lane l).inverted = (s.lane l).inverted + 1 ∧ (t.lane l).injAt = (s.lane l).injAt + 4 * 2 ^ e) ∧
    (s.laneChecks l = true →
      (∃ t, exec (.checkerLock l) s = .next t ∧ t.bit (Reg.LANE_PAT l) 29 = true ∧
        ∀ b, b ≠ Reg.LANE_PAT l → t.reg b = s.reg b) ∧
      (s.bit (Reg.LANE_PAT l) 29 = true → ∃ t, exec (.checkerLockLoss l er) s = .next t ∧
        t.bit (Reg.LANE_PAT l) 29 = false ∧ t.bit (Reg.LANE_PAT l) 28 = true ∧
        (t.reg (Reg.LANE_PCNT l 1)).toNat + 2 ^ 32 * (t.reg (Reg.LANE_PCNT_HI l 1)).toNat = min (2 ^ 64 - 1)
          ((s.reg (Reg.LANE_PCNT l 1)).toNat + 2 ^ 32 * (s.reg (Reg.LANE_PCNT_HI l 1)).toNat + er))) ∧
    (s.bit (Reg.LANE_MARG l) 30 = false → s.laneState l = 3 → s.laneLocked l = true →
      ∃ t, exec (.marginScanStart m l d) s = .next t ∧ t.bit (Reg.LANE_MARG l) 30 = true ∧
        ∀ b, b ≠ Reg.LANE_MARG l → t.reg b = s.reg b) ∧
    (s.laneLocked l = false → ∃ t, exec (.marginScanStart m l d) s = .next t ∧ t.bit (Reg.LANE_MARG l) 29 = true) ∧
    (s.bit (Reg.LANE_MARG l) 30 = true → ∃ t, exec (.marginScanDone l d) s = .next t ∧
      t.reg (Reg.LANE_MARG_RES l) = d ∧ t.bit (Reg.LANE_MARG l) 30 = false ∧
      ∀ b, b ≠ Reg.LANE_MARG l → b ≠ Reg.LANE_MARG_RES l → t.reg b = s.reg b) ∧
    (s.laneLocked l = true → s.laneState l = 3 → ∃ t, exec (.eyeRefresh l d) s = .next t ∧ t.reg (Reg.LANE_EYE l) = d ∧
      ∀ b, b ≠ Reg.LANE_EYE l → t.reg b = s.reg b) ∧
    (s.domOn (domainOf (Reg.LANE_CTL (groupLanes g).1)) = true →
      (∃ t, exec (.refclkLost g) s = .next t ∧ (t.lane (groupLanes g).1).noClock = true ∧
        t.laneState (groupLanes g).1 = 0 ∧ s.flt.reports.length < t.flt.reports.length) ∧
      (s.flt.recs = [] → ∃ t, exec (.pllLock g) s = .next t ∧ (t.lane (groupLanes g).1).noClock = false ∧ t.flt = s.flt))

/-- An hour after the last one a summary is written to copy A or B in turn; FLUSH takes a token and asks for one, without a token it is rejected. A write that verifies puts its bytes at its address and changes no other byte of the ledger, which keeps its canonical form; one that fails is retried once, then flagged and reported. The token buckets fill up to 8 and 64. A read of LEDG_DATA returns the word at LEDG_ADDR and moves on by 4; a VF's is a violation and returns 0. Choices of the model it meets: log entries 33, 57. -/
def Obligations.LedgerWrites : Prop :=
  ∀ (m : Master) (n : Fin 32) (w : LedWrite) (s : State), m.trusted = true →
    (s.ledger.busy = none → s.ledger.wantSummary = none →
      (s.ledger.lastSummary + 3600 * 10 ^ 9 ≤ s.time.mono → ∃ t, exec .summaryHourly s = .next t ∧
        t.ledger.busy.map (fun x => (x.summary, x.addr, x.bytes, x.cause)) =
          some (true, if s.ledger.gen % 2 = 0 then 8192 else 16384, s.summaryBytes 1, 1) ∧
        t.ledger.gen = s.ledger.gen + 1 ∧ t.ledger.mem = s.ledger.mem ∧ t.bit Reg.LEDG_STAT 31 = true ∧
        ∀ b, b ≠ Reg.LEDG_STAT → t.reg b = s.reg b) ∧
      (0 < s.ledger.flushTokens → ∃ t, exec (.flush m) s = .next t ∧ t.ledger.flushTokens = s.ledger.flushTokens - 1 ∧
        t.ledger.busy.map (fun x => (x.summary, x.cause)) = some (true, 3) ∧ t.ledger.mem = s.ledger.mem) ∧
      (s.ledger.flushTokens = 0 → ∃ t, exec (.flush m) s = .next t ∧ t.ledger = s.ledger ∧
        t.bit Reg.LEDG_STAT 30 = true ∧ ∀ b, b ≠ Reg.LEDG_STAT → t.reg b = s.reg b)) ∧
    (s.ledger.busy = some w → s.ledger.wantSummary = none → s.ledger.queue = [] →
      (w.summary = true → ∃ t, exec (.ledgerSummaryDone true) s = .next t ∧
        (Memory.wf s.ledger.mem = true → Memory.wf t.ledger.mem = true) ∧
        getBytes t.ledger.mem w.addr w.bytes.length = w.bytes ∧ t.ledger.busy = none ∧ t.bit Reg.LEDG_STAT 31 = false ∧
        ∀ b, b < w.addr ∨ w.addr + w.bytes.length ≤ b → getBytes t.ledger.mem b 1 = getBytes s.ledger.mem b 1) ∧
      (w.summary = false → ∃ t, exec (.ledgerRecordDone true) s = .next t ∧
        (Memory.wf s.ledger.mem = true → Memory.wf t.ledger.mem = true) ∧
        getBytes t.ledger.mem w.addr w.bytes.length = w.bytes ∧ t.ledger.busy = none ∧ t.bit Reg.LEDG_STAT 31 = false ∧
        ∀ b, b < w.addr ∨ w.addr + w.bytes.length ≤ b → getBytes t.ledger.mem b 1 = getBytes s.ledger.mem b 1) ∧
      (w.retried = false → ∃ t, (if w.summary then exec (.ledgerSummaryDone false) s else exec (.ledgerRecordDone false) s) = .next t ∧
        t.ledger = { s.ledger with busy := some { w with retried := true } } ∧ t.regs = s.regs) ∧
      (w.retried = true → ∃ t, (if w.summary then exec (.ledgerSummaryDone false) s else exec (.ledgerRecordDone false) s) = .next t ∧
        t.bit Reg.LEDG_STAT 27 = true ∧ t.ledger.busy = none ∧ t.flt.reports.length = s.flt.reports.length + 1 ∧
        ∀ b, b < w.addr ∨ w.addr + w.bytes.length ≤ b → getBytes t.ledger.mem b 1 = getBytes s.ledger.mem b 1)) ∧
    (s.ledger.flushLast + 7200 * 10 ^ 9 ≤ s.time.mono → exec .ledgerFlushToken s = .next { s with ledger := { s.ledger with
      flushTokens := min 8 (s.ledger.flushTokens + 1), flushLast := s.ledger.flushLast + 7200 * 10 ^ 9 } }) ∧
    (s.ledger.recLast + 60 * 10 ^ 9 ≤ s.time.mono → exec .ledgerRecordToken s = .next { s with ledger := { s.ledger with
      recTokens := min 64 (s.ledger.recTokens + 1), recLast := s.ledger.recLast + 60 * 10 ^ 9 } }) ∧
    (∃ t, exec (.ledgerDataRead m) s = .next t ∧ t.ledger = s.ledger ∧
      t.reply = [BitVec.ofNat 32 (leNat (getBytes s.ledger.mem (4 * s.fld Reg.LEDG_ADDR 18 2) 4))] ∧
      t.fld Reg.LEDG_ADDR 18 2 = (s.fld Reg.LEDG_ADDR 18 2 + 1) % 131072) ∧
    (∃ t, exec (.ledgerDataRead (.vf n)) s = .next t ∧ t.reply = [0] ∧ t.ledger = s.ledger)

/-- Heartbeats go out on the rails that are up; one with another PAIR_ID is a mismatch, one of a partner alone with a lower TERM starts SYNC with this device as donor; windows missed in a row take over with TERM + 1. Records in order are applied and move PAIR_RXSEQ, an ACK frees what it acknowledges, a NAK makes the sender send again, and records leave numbered on from PAIR_TXSEQ. Enabling enters ALONE with TERM 0, disabling OFF; TAKEOVER acts only in SUSPECT and RESYNC only in PAIRED; DATA frames are delivered or counted; rates past their limits are refused. Choices of the model it meets: log entry 71. -/
def Obligations.PairOfDevices : Prop :=
  ∀ (m : Master) (rl : Fin 2) (d : Word) (l p r1 : List Byte) (sq : Nat) (s : State), m.trusted = true → s.domOn 144 = true →
    (s.pairOn = true → s.railUp 0 = true → s.pair.safe = false → s.flt.deviceSafe = false →
      (s.railUp 1 = false → s.pair.hbLast + us 5 ≤ s.time.mono → ∃ t, exec .heartbeatSend s = .next t ∧
        t.out = .solyen 0 (s.solyenFrame 1 0 0 0 s.heartbeat) :: s.out ∧ t.pair.hbLast = s.time.mono ∧ t.regs = s.regs) ∧
      (s.pair.winStart + us 5 ≤ s.time.mono → s.pair.hbSeen = false →
        (s.pair.missed + 1 < max 2 (s.fld Reg.PAIR_CTL 24 20) → ∃ t, exec .heartbeatWindowEnd s = .next t ∧
          t.pairState = s.pairState ∧ t.pair.missed = s.pair.missed + 1 ∧
          (t.reg (Reg.PAIR_CNT 0)).toNat = min (2 ^ 32 - 1) ((s.reg (Reg.PAIR_CNT 0)).toNat + 1)) ∧
        (max 2 (s.fld Reg.PAIR_CTL 24 20) ≤ s.pair.missed + 1 → s.pairState = 4 → s.bit Reg.PAIR_CTL 28 = false →
          ∃ t, exec .heartbeatWindowEnd s = .next t ∧ t.pairState = 1 ∧ t.term = (s.term + 1) % 2 ^ 32 ∧
            t.bit Reg.PAIR_STAT 31 = true ∧ t.pair.missed = 0)) ∧
      (s.railUp rl = true → 64 ≤ l.length → l.length ≤ 16400 → tailOf l = fcsOf (dataOf l) → beAt l 0 1 = 1 →
        20 + beAt l 12 2 ≤ l.length → p = bytesAt l 16 (beAt l 12 2) → beAt l 8 4 = sq →
        (beAt l 1 1 = 1 → beAt l 2 2 ≠ s.fld Reg.PAIR_CTL 15 0 → s.pairState ≠ 6 → ∃ t, exec (.heartbeatRx rl l) s = .next t ∧
          t.pairState = 6 ∧ t.bit Reg.PAIR_STAT 28 = true ∧
          (t.reg (Reg.PAIR_CNT 12)).toNat = min (2 ^ 32 - 1) ((s.reg (Reg.PAIR_CNT 12)).toNat + 1)) ∧
        (beAt l 1 1 = 1 → beAt l 2 2 = s.fld Reg.PAIR_CTL 15 0 → beAt p 1 1 = s.pairAA.toNat →
          beAt p 2 1 + s.fld Reg.PAIR_CTL 29 29 = 1 → beAt p 0 1 = 1 → s.pairState = 1 → s.pair.neverDonor = false →
          beAt l 4 4 < s.term → ∃ t, exec (.heartbeatRx rl l) s = .next t ∧ t.pairState = 3 ∧ t.term = s.term ∧
            t.bit Reg.PAIR_STAT 18 = true ∧ t.pair.partnerDonor = false) ∧
        (beAt l 1 1 = 2 → s.pairState = 4 → beAt l 4 4 = s.term → beAt l 15 1 = 1 → sq = (s.rxSeq + 1) % 2 ^ 32 →
          beAt l 12 2 = 32 → leAt p 0 1 = 5 → leAt p 1 1 = 2 → ∃ t, exec (.recordsRx rl l) s = .next t ∧ t.rxSeq = sq ∧
            Store.read (0, 0) t.tele.counters (counterKey (leAt p 3 1 % 32) (leAt p 4 4 % 131072)) = (leAt p 16 8, leAt p 24 8)) ∧
        (beAt l 1 1 = 3 → s.pairState = 4 → seqAfter sq s.txSeq = false → ∃ t, exec (.ackRx rl l) s = .next t ∧
          t.reg Reg.PAIR_ACKSEQ = BitVec.ofNat 32 sq ∧ t.pair.unacked = s.pair.unacked.filter (fun e => seqAfter e.1 sq) ∧
          ∀ b, b ≠ Reg.PAIR_ACKSEQ → t.reg b = s.reg b) ∧
        (beAt l 1 1 = 4 → s.pairState = 4 → (s.pair.unacked.any fun e => e.1 == sq) = true →
          ∃ t, exec (.nakRx rl l) s = .next t ∧ t.pair.again = some sq ∧ t.regs = s.regs) ∧
        (beAt l 1 1 = 5 → s.pairState ≠ 6 →
          (s.bit Reg.PAIR_DCFG 31 = false → ∃ t, exec (.dataRx rl l) s = .next t ∧
            (t.reg (Reg.PAIR_CNT 11)).toNat = min (2 ^ 32 - 1) ((s.reg (Reg.PAIR_CNT 11)).toNat + 1) ∧ t.vat = s.vat) ∧
          (s.bit Reg.PAIR_DCFG 31 = true → ∃ t, exec (.dataRx rl l) s = .next t ∧ t.regs = s.regs ∧
            (Store.read [] t.vat.toStore 2048).length = (Store.read [] s.vat.toStore 2048).length + 1))) ∧
      (s.pairState = 4 →
        (s.rxSeq ≠ s.pair.acked → ∃ t, exec .ackSend s = .next t ∧ t.pair.acked = s.rxSeq ∧ t.regs = s.regs ∧
          t.out = .solyen 0 (s.solyenFrame 3 s.rxSeq 0 0 []) :: s.out) ∧
        (s.pair.again = none → s.pair.unacked = [] → s.pair.events = [r1] → s.pair.made = [] → r1.length ≤ 16380 →
          ∃ t, exec .recordSend s = .next t ∧ t.txSeq = (s.txSeq + 1) % 2 ^ 32 ∧ t.pair.events = [] ∧
            t.pair.unacked = [((s.txSeq + 1) % 2 ^ 32, r1)] ∧ t.out.length = s.out.length + 1) ∧
        (s.bit Reg.PAIR_CTL 25 = true → s.pairAA = false → s.pairActive = true → s.pair.ctrAt = sq → sq < 4194303 →
          s.pair.ctrDirty = [sq] → ∃ t, exec (.sweepVisit 3) s = .next t ∧ t.pair.ctrAt = sq + 1 ∧ t.pair.ctrDirty = [] ∧
            t.pair.made.length = s.pair.made.length + 1 ∧ t.tele = s.tele ∧ t.regs = s.regs))) ∧
    (∀ al lf rf : Bool, ∃ t, exec (.railChange rl al lf rf) s = .next t ∧ t.railUp rl = (al && !lf && !rf) ∧
      ∀ b, b ≠ Reg.PAIR_STAT → t.reg b = s.reg b) ∧
    (s.pairOn = false → ∃ t, exec (.pairEnable m d) s = .next t ∧ t.pairState = 1 ∧ t.term = 0 ∧ t.pairOn = true) ∧
    (s.pairOn = true → ∃ t, exec (.pairDisable m d) s = .next t ∧ t.pairState = 0 ∧ t.pairOn = false ∧
      t.railUp 0 = false ∧ t.railUp 1 = false) ∧
    (∃ t, exec (.pairTakeover m) s = .next t ∧
      (s.pairState = 5 → t.pairState = 1 ∧ t.term = (s.term + 1) % 2 ^ 32 ∧ t.fld Reg.PAIR_CMD 29 27 = 0) ∧
      (s.pairState ≠ 5 → t.fld Reg.PAIR_CMD 29 27 = 1 ∧ t.pair = s.pair ∧ ∀ b, b ≠ Reg.PAIR_CMD → t.reg b = s.reg b)) ∧
    (∃ t, exec (.resync m) s = .next t ∧
      (s.pairState = 4 → t.pairState = 3 ∧ t.bit Reg.PAIR_STAT 18 = true ∧ t.fld Reg.PAIR_CMD 29 27 = 0) ∧
      (s.pairState ≠ 4 → t.fld Reg.PAIR_CMD 29 27 = 1 ∧ t.pair = s.pair ∧ ∀ b, b ≠ Reg.PAIR_CMD → t.reg b = s.reg b)) ∧
    (256 + fieldOf d 31 16 + fieldOf d 15 0 + s.fld Reg.PAIR_MCFG1 31 16 + oneIfZero (s.fld Reg.PAIR_MCFG1 15 0) ≤ 2000 →
      fieldOf d 31 16 ≤ 1024 → oneIfZero (s.fld Reg.PAIR_MCFG1 15 0) ≤ 512 → ∃ t, exec (.pairRateWrite m 0 d) s = .next t ∧
        t.reg Reg.PAIR_MCFG0 = d ∧ ∀ b, b ≠ Reg.PAIR_MCFG0 → t.reg b = s.reg b) ∧
    (1024 < fieldOf d 31 16 → ∃ t, exec (.pairRateWrite m 0 d) s = .next t ∧ t.bit Reg.PAIR_STAT 27 = true ∧
      t.reg Reg.PAIR_MCFG0 = s.reg Reg.PAIR_MCFG0)

/-- RESET stops a queue pair and clears its HALTED state and heads. A TAIL that posts more descriptors than the ring holds halts it with cause TAIL. A fetched descriptor with a bad length completes with BADLEN, a good one starts a read; a read's bytes go to be stored, a failed or late one halts the pair. A host queue's copy is written to posted buffers and RXHEAD moves on. A held message goes out when its interval ends, a pending one when its vector is unmasked. A link that goes down halts every queue pair. Choices of the model it meets: log entries 25, 38, 40. -/
def Obligations.HostQueuePairs : Prop :=
  ∀ (m : Master) (h : Fin 256) (d : Word) (ad ln sl q src tm : Nat) (rest : List Nat) (vec : Fin 512) (x : TxFetch) (b : List Byte)
      (y : Copy) (r : List Copy) (df : Store Nat) (f : Frame) (ads : List Nat) (s : State), m.trusted = true →
    s.domOn 145 = true →
    (∃ t, exec (.qpReset m h d) s = .next t ∧ t.bit (Reg.HOST_QP_CTL h) 31 = false ∧ t.bit (Reg.HOST_QP_STAT h) 31 = false ∧
      t.fld (Reg.HOST_QP_TXHEAD h) 16 0 = 0 ∧ t.fld (Reg.HOST_QP_RXHEAD h) 16 0 = 0 ∧ (t.qp h).tx = none) ∧
    (posted (fieldOf d 16 0) (s.fld (Reg.HOST_QP_TXHEAD h) 16 0) ≤ 2 ^ s.txLog h → ∃ t, exec (.qpTailWrite m h true d) s = .next t ∧
      t.fld (Reg.HOST_QP_TXIDX h) 16 0 = fieldOf d 16 0 ∧ ∀ a, a ≠ Reg.HOST_QP_TXIDX h → t.reg a = s.reg a) ∧
    (2 ^ s.txLog h < posted (fieldOf d 16 0) (s.fld (Reg.HOST_QP_TXHEAD h) 16 0) → s.bit (Reg.HOST_QP_STAT h) 31 = false →
      ∃ t, exec (.qpTailWrite m h true d) s = .next t ∧ t.bit (Reg.HOST_QP_STAT h) 31 = true ∧
        t.fld (Reg.HOST_QP_STAT h) 30 27 = 3) ∧
    (s.qpFetches h = true → s.returnReady sl (h % 4) = true → sl < 32 → s.qpOwner h = 0 → ln < 65536 →
      (60 ≤ ln → ln ≤ 16380 → ad < 2 ^ 64 → ∃ t, exec (.hostTxFetch h ad ln sl) s = .next t ∧ t.regs = s.regs ∧
        t.out = .dmaRead 0 ad ln :: s.out ∧
        (t.qp h).tx.map (fun z => (z.addr, z.len, z.slice, z.started)) = some (ad, ln, sl, s.time.mono)) ∧
      (ln < 60 → ∃ t, exec (.hostTxFetch h ad ln sl) s = .next t ∧ (t.qp h).tx = none ∧
        t.fld (Reg.HOST_QP_TXHEAD h) 16 0 = (s.fld (Reg.HOST_QP_TXHEAD h) 16 0 + 1) % 131072 ∧
        t.bit (Reg.HOST_QP_STAT h) 25 = true ∧ t.fld (Reg.HOST_QP_STAT h) 15 0 =
          min 65535 (s.fld (Reg.HOST_QP_STAT h) 15 0 + 1))) ∧
    ((s.qp h).tx = some x → x.read = false →
      (b.length = x.len → ∃ t, exec (.dmaReadCompletion h (some b)) s = .next t ∧ t.regs = s.regs ∧
        (t.qp h).tx = some { x with read := true } ∧ Store.read [] t.vat.toStore 1056 = Store.read [] s.vat.toStore 1056 ++ [s.hostFrame h x.slice b]) ∧
      (s.bit (Reg.HOST_QP_STAT h) 31 = false →
        (∃ t, exec (.dmaReadCompletion h none) s = .next t ∧ t.bit (Reg.HOST_QP_STAT h) 31 = true ∧
          t.fld (Reg.HOST_QP_STAT h) 30 27 = 1 ∧ t.vat = s.vat) ∧
        (∃ t, exec (.dmaCompletionTimeout h) s = .next t ∧ t.bit (Reg.HOST_QP_STAT h) 31 = true ∧
          t.fld (Reg.HOST_QP_STAT h) 30 27 = 2 ∧ t.vat = s.vat))) ∧
    (s.host.up = true → s.flt.deviceSafe = false → s.pShaperOk 1056 = true → s.pick 1056 s.hostReady = some (q, df) →
      s.queue q = y :: r → s.frame? y.frame = some f → q = 21140 + h → ∃ t, exec (.hostRxDelivery ads) s = .next t ∧
        t.queue q = r ∧ (∀ j, j ≠ q → t.queue j = s.queue j) ∧ t.bit (Reg.HOST_QP_STAT h) 26 = true ∧
        ∀ n, n = (chunks (s.bufBytes h) 65 (hostBytes y f)).length → t.fld (Reg.HOST_QP_RXHEAD h) 16 0 =
          (s.fld (Reg.HOST_QP_RXHEAD h) 16 0 + n) % 131072 ∧ s.out.length + 2 * n ≤ t.out.length) ∧
    (Store.read [] s.intr.itrHeld h = src :: rest → Store.at? s.intr.itrLast h = some tm →
      tm + us (s.fld (Reg.HOST_QP_CTL h) 9 0) ≤ s.time.mono → ∃ t, exec (.itrHoldEnd h) s = .next t ∧
        Store.read [] t.intr.itrHeld h = rest ∧ Store.at? t.intr.itrLast h = some s.time.mono) ∧
    (∃ t, exec (.msixUnmask .pf vec) s = .next t ∧ t.regs = s.regs ∧ fieldOf (t.msixWord 0 (16 * vec + 12)) 0 0 = 0 ∧
      t.intr.pba.contains vec.val = false ∧ (s.intr.pba.contains vec.val = true → s.host.up = true →
        t.out = .msix 0 vec ((s.msixWord 0 (16 * vec)).toNat + 2 ^ 32 * (s.msixWord 0 (16 * vec + 4)).toNat)
          (s.msixWord 0 (16 * vec + 8)) :: s.out)) ∧
    (s.host.up = true → ∃ t, exec .pcieLinkDown s = .next t ∧ t.host.up = false ∧ t.bit Reg.HOST_STAT 28 = true ∧
      ∀ k : Fin 256, t.bit (Reg.HOST_QP_STAT k) 31 = true) ∧
    (s.pwr.perstN = true → s.pwr.resetN = true → ∃ t, exec .pcieLinkUp s = .next t ∧ t.host.up = true ∧ t.regs = s.regs)

/-- POST by a mailbox's sender copies the staging window whole into the message and sets FULL, with COLL if one was unread; by any other trusted master it is refused and recorded. The receiver's read of word 0 returns it and clears FULL; a message unread for TMO_MS raises TMO and stays. Only the PF sets the parties, which discards the message. A ringer sets bells, a target clears them. DUTYMAP takes its 16 bits. A function-level reset frees the function's locks and clears its MSI-X table. Choices of the model it meets: log entries 17, 31. -/
def Obligations.MailboxesDoorbellsAndResets : Prop :=
  ∀ (m : Master) (i : Fin 256) (b : Fin 64) (d : Word) (j : Fin 16) (tm : Nat) (n : Fin 32) (o : Nat) (s : State), m.trusted = true →
    (s.mbxSender i m = true → ∃ t, exec (.mbxPost m i) s = .next t ∧ t.bit (Reg.MBX_STAT i) 30 = true ∧
      t.reg (Reg.MBX_MSG i j) = s.reg (Reg.MBX_STAGE i j) ∧
      t.bit (Reg.MBX_STAT i) 29 = (s.bit (Reg.MBX_STAT i) 29 || s.bit (Reg.MBX_STAT i) 30) ∧
      Store.at? t.mbx.posted i = some s.time.mono) ∧
    (s.mbxSender i m = false → s.bit Reg.MBX_GSTAT 31 = false → ∃ t, exec (.mbxPost m i) s = .next t ∧
      t.reg Reg.MBX_GSTAT = BitVec.ofNat 32 (2 ^ 31 + i * 65536 + m.id) ∧ t.mbx = s.mbx ∧
      ∀ a, a ≠ Reg.MBX_GSTAT → t.reg a = s.reg a) ∧
    (s.mbxReceiver i m = true → ∃ t, exec (.mbxMessageRead m i) s = .next t ∧ t.reply = [s.reg (Reg.MBX_MSG i 0)] ∧
      t.bit (Reg.MBX_STAT i) 30 = false ∧ Store.at? t.mbx.posted i = none ∧ (∀ a, a ≠ Reg.MBX_STAT i → t.reg a = s.reg a)) ∧
    (Store.at? s.mbx.posted i = some tm → s.bit (Reg.MBX_STAT i) 30 = true → 0 < s.fld Reg.MBX_CTL 15 0 →
      tm + ms (s.fld Reg.MBX_CTL 15 0) ≤ s.time.mono → ∃ t, exec (.mbxTimeout i) s = .next t ∧
        t.bit (Reg.MBX_STAT i) 28 = true ∧ t.bit (Reg.MBX_STAT i) 30 = true ∧ Store.at? t.mbx.posted i = none ∧
        t.reg (Reg.MBX_MSG i j) = s.reg (Reg.MBX_MSG i j)) ∧
    (∃ t, exec (.mbxCfgWrite .pf i d) s = .next t ∧ t.reg (Reg.MBX_CFG i) = d ∧ t.reg (Reg.MBX_STAT i) = 0 ∧
      t.reg (Reg.MBX_MSG i j) = 0 ∧ Store.at? t.mbx.posted i = none) ∧
    (∀ k : Fin 4, exec (.mbxCfgWrite (.me k) i d) s = .next s ∧ exec (.doorbellCfgWrite (.me k) b d) s = .next s) ∧
    (s.dbRinger b m = true → ∃ t, exec (.doorbellRing m b d) s = .next t ∧
      t.reg (Reg.MBX_DB b) = s.reg (Reg.MBX_DB b) ||| d) ∧
    (s.dbTarget b m = true → exec (.doorbellClear m b d) s = .next (s.setReg (Reg.MBX_DB b) (s.reg (Reg.MBX_DB b) &&& ~~~ d))) ∧
    (∃ t, exec (.doorbellCfgWrite .pf b d) s = .next t ∧ t.reg (Reg.MBX_DB b) = 0 ∧ t.reg (Reg.MBX_DBCFG b) = d ∧
      ∀ a, a ≠ Reg.MBX_DB b → a ≠ Reg.MBX_DBCFG b → t.reg a = s.reg a) ∧
    (∃ t, exec (.dutymapWrite m d) s = .next t ∧ t.reg Reg.MGE_DUTYMAP = d &&& 0xFFFF ∧
      t.reg (Reg.MBX_STAT i) = s.reg (Reg.MBX_STAT i)) ∧
    (s.host.up = true → s.domOn 145 = true → o < 0x8000 →
      (∃ t, exec (.flrVf n) s = .next t ∧ (∀ k, Store.at? t.locks k ≠ some (0x40 + n)) ∧
        Store.at? t.intr.msix ((1 + n) * 0x8000 + o) = none) ∧
      (∃ t, exec .flrPf s = .next t ∧ (∀ k, Store.at? t.locks k ≠ some 1 ∧ Store.at? t.locks k ≠ some (0x40 + n)) ∧
        Store.at? t.intr.msix o = none))

/-- A command written while one runs sets CMDREJ and starts nothing; LOAD, REQUEST, FLASH_WRITE and VERIFY start an operation that reads the container, one that is not valid ends with STATE. INSTALL takes the keys in BOOT_KEYWIN when their digest is the slot's fused hash, else ends with its own code. A fetch that fails ends with code 01, slot A of the flash giving way to slot B; a container that passes the first checks goes on to verification, whose result VERIFY reports. A written image is kept for each engine named; a flash write changes the slot's bytes alone. Choices of the model it meets: log entries 34, 35. -/
def Obligations.BootAndFirmware : Prop :=
  ∀ (m : Master) (a cmd : Fin 16) (c : Nat) (b : List Byte) (o : BootOp) (ok : Bool) (s : State),
    m.trusted = true →
    (s.bit Reg.BOOT_CMD 30 = true → ∀ x ∈ [exec (.bootLoad m) s, exec (.bootRequest m) s, exec (.install m a) s,
        exec (.flashWrite m a) s, exec (.bootVerify m) s], ∃ t, x = .next t ∧ t.bit Reg.BOOT_CMD 29 = true ∧
      t.boot = s.boot ∧ t.out = s.out ∧ ∀ b, b ≠ Reg.BOOT_CMD → t.reg b = s.reg b) ∧
    (s.bit Reg.BOOT_CMD 30 = false →
      (a.val ≤ 2 → ∀ x ∈ [(1, 0, exec (.bootLoad m) s), (2, 0, exec (.bootRequest m) s), (4, a.val, exec (.flashWrite m a) s),
          (5, 0, exec (.bootVerify m) s)], ∃ t, x.2.2 = .next t ∧ (∀ b, b ≠ Reg.BOOT_CMD → t.reg b = s.reg b) ∧
        (s.bootReady = true → t.bit Reg.BOOT_CMD 30 = true ∧ t.out.length = s.out.length + 1 ∧
          t.boot.op.map (fun y => (y.by_, y.phase, y.since)) = some (.command x.1 x.2.1, BootPhase.fetch, s.time.mono)) ∧
        (s.bootReady = false → t.fld Reg.BOOT_CMD 23 16 = 0x0D ∧ t.boot = s.boot ∧ t.out = s.out)) ∧
      (1 ≤ a.val → Store.at? s.boot.hashes a = some (Config.sha384 s.keyWindow) → s.boot.revoked.contains a.val = false →
        ∃ t, exec (.install m a) s = .next t ∧ t.fld Reg.BOOT_CMD 23 16 = 0 ∧
          Store.at? t.boot.keys a = some s.keyWindow ∧ t.boot.hashes = s.boot.hashes) ∧
      (Store.at? s.boot.hashes a = none → ∃ t, exec (.install m a) s = .next t ∧ t.fld Reg.BOOT_CMD 23 16 = 0x0F ∧
        t.boot = s.boot) ∧
      (cmd.val = 0 ∨ 5 < cmd.val → ∃ t, exec (.bootCmdReserved m cmd) s = .next t ∧ t.fld Reg.BOOT_CMD 23 16 = 0x0D ∧
        t.boot = s.boot)) ∧
    (s.pwr.resetN = true → s.pwr.bootSel = false → s.pwr.bootStarted = false → s.allUp = true →
      ∃ t, exec .flashBoot s = .next t ∧ t.pwr.bootStarted = true ∧ t.bootState = 2 ∧
        t.boot.op.map (fun x => (x.by_, x.phase)) = some (BootBy.flash 0, BootPhase.fetch)) ∧
    (s.boot.op = some o → o.phase = .fetch →
      (∀ e, o.by_ = .command 5 e → ∃ t, exec (.bootFetchDone none) s = .next t ∧ t.fld Reg.BOOT_CMD 23 16 = 1 ∧
        t.bit Reg.BOOT_CMD 30 = false ∧ t.boot.op = none) ∧
      (o.by_ = .flash 0 → ∃ t, exec (.bootFetchDone none) s = .next t ∧ t.fld Reg.BOOT_STAT 27 20 = 1 ∧
        t.boot.op.map (fun x => (x.by_, x.phase)) = some (BootBy.flash 1, BootPhase.fetch)) ∧
      (∀ e, o.by_ = .command 5 e → b.length = s.fld Reg.BOOT_LEN 19 0 →
        (s.fwCheck o.by_ b b.length = 0 → ∃ t, exec (.bootFetchDone (some b)) s = .next t ∧ t.regs = s.regs ∧
          t.boot.op = some { o with phase := .verify, bytes := b }) ∧
        (s.fwCheck o.by_ b b.length ≠ 0 → ∃ t, exec (.bootFetchDone (some b)) s = .next t ∧ t.boot.op = none ∧
          t.fld Reg.BOOT_CMD 23 16 = s.fwCheck o.by_ b b.length))) ∧
    (∀ e, s.boot.op = some o → o.phase = .verify → o.by_ = .command 5 e → ∃ t, exec (.bootVerifyDone ok) s = .next t ∧
      t.fld Reg.BOOT_CMD 23 16 =
        (if s.fwVerify o.bytes = 0 ∧ fwType o.bytes = 2 then s.requestCheck o.bytes else s.fwVerify o.bytes) ∧ t.boot.op = none ∧ t.fuses = s.fuses) ∧
    (∀ e, s.boot.op = some o → o.phase = .write → o.by_ = .command 1 e → ∃ t, exec .bootWriteDone s = .next t ∧
      t.boot.op = none ∧ t.bit Reg.BOOT_CMD 30 = false ∧ t.bootState = 4 ∧
      ∀ j : Fin 4, (fwTarget o.bytes).testBit j = true → Store.at? t.boot.images j = some (fwImage o.bytes)) ∧
    (s.boot.op = some o → o.phase = .flash → o.by_ = .command 4 c → c ≤ 2 → flashSlot c + o.bytes.length ≤ 0x200000 →
      ∃ t, exec .flashWriteDone s = .next t ∧ t.boot.op = none ∧ t.fld Reg.BOOT_CMD 23 16 = 0 ∧
        t.flashBytes (flashSlot c) o.bytes.length = o.bytes ∧
        ∀ x, x < flashSlot c ∨ flashSlot c + o.bytes.length ≤ x → t.flashBytes x 1 = s.flashBytes x 1)

/-- A request that the engine of duty class 1 takes from its mailbox empties the mailbox. With no token left the answer is RATE and nothing is placed; with one, and an unused index, the report stands in the window, held for the requester, and the token is gone. The reply is posted on the mailbox the request named when the engine is its sender. A release, or 100 ms, empties the window; the bucket gains a report every 10 minutes, up to 64. Choices of the model it meets: log entry 39. -/
def Obligations.Attestation : Prop :=
  ∀ (m : Master) (i : Fin 256) (r : AttReply) (tm : Nat) (s : State), m.trusted = true →
    (s.bit (Reg.MBX_STAT i) 30 = true → s.mbxUsed i = true → s.fld (Reg.MBX_CFG i) 15 0 = 0xC001 →
      s.engRuns (s.dutyEngine 1) = true → leAt (s.mbxBytes i) 0 2 = 1 → s.attHeld = false → s.boot.attReply = none →
      (s.boot.attTokens = 0 → ∃ t, exec (.attestRequest i) s = .next t ∧ t.bit (Reg.MBX_STAT i) 30 = false ∧
        t.boot.attReply = some ⟨leAt (s.mbxBytes i) 2 2, 1, 0, 0⟩ ∧ t.attHeld = false ∧ t.ledger = s.ledger) ∧
      (0 < s.boot.attTokens → s.lmsState.1 < 2 ^ 20 → ∃ t, exec (.attestRequest i) s = .next t ∧ t.attHeld = true ∧
        t.bit (Reg.MBX_STAT i) 30 = false ∧ t.fld Reg.BOOT_ATTCTL 15 0 = s.fld (Reg.MBX_CFG i) 31 16 ∧
        t.boot.attReply.map (fun x => (x.box, x.status, x.q)) =
          some (leAt (s.mbxBytes i) 2 2, 0, s.lmsState.1) ∧ t.boot.attTokens = s.boot.attTokens - 1 ∧
        t.boot.attDue = some (s.time.mono + ms 100))) ∧
    (s.boot.attReply = some r → r.box < 256 → s.mbxSender r.box (.me (Fin.ofNat 4 (s.dutyEngine 1))) = true →
      ∃ t, exec .attestReply s = .next t ∧ t.boot.attReply = none ∧ t.bit (Reg.MBX_STAT r.box) 30 = true ∧
        t.reg (Reg.MBX_MSG r.box 0) = BitVec.ofNat 32 (0x81 + 256 * r.status + 65536 * r.len) ∧
        t.reg (Reg.MBX_MSG r.box 1) = BitVec.ofNat 32 r.q) ∧
    (s.attHeld = true → ∃ t, exec (.attestRelease m) s = .next t ∧ t.attHeld = false ∧ t.boot.attDue = none ∧
      ∀ j : Fin 2048, t.reg (Reg.BOOT_ATTWIN j) = regReset (Reg.BOOT_ATTWIN j)) ∧
    (s.boot.attDue = some tm → tm ≤ s.time.mono → ∃ t, exec .attestWindowTimeout s = .next t ∧ t.attHeld = false ∧
      t.boot.attDue = none) ∧
    (s.boot.attLast + 600 * 10 ^ 9 ≤ s.time.mono → ∃ t, exec .attestToken s = .next t ∧ t.regs = s.regs ∧
      t.boot.attTokens = min 64 (s.boot.attTokens + 1) ∧ t.boot.attLast = s.boot.attLast + 600 * 10 ^ 9)

/-- A watched rail outside its limits for more than 2 microseconds is a FATAL report, as is a lost time-base reference; a shorter excursion is nothing. A junction at 115 degrees trips once and for all; every refresh shows the temperatures. BYPASS delays by one bit, IDCODE gives the part number and the major step, SAMPLE shows the pins, PRELOAD loads the boundary register and EXTEST drives the outputs from it; no register changes. The instruction codes and the order of the boundary register are the model's own (log). Choices of the model it meets: log entries 20, 21. -/
def Obligations.PackageAndBoundaryScan : Prop :=
  ∀ (rail : Fin 7) (dur : Nat) (tj hb : BitVec 12) (l : List Bool) (s : State),
    (s.pwr.aonValid = true → rail.val < 2 →
      (2000 < dur → ∃ t, exec (.supplyExcursion rail dur) s = .next t ∧ t.regs = s.regs ∧
        t.flt.reports.map (fun x => (x.src, x.cls)) =
          s.flt.reports.map (fun x => (x.src, x.cls)) ++ [(srcId 2 0, FaultClass.fatal)]) ∧
      (dur ≤ 2000 → exec (.supplyExcursion rail dur) s = .next s)) ∧
    (∃ t, exec .timebaseRefLost s = .next t ∧ t.regs = s.regs ∧ t.flt.reports.map (fun x => (x.src, x.cls)) =
      s.flt.reports.map (fun x => (x.src, x.cls)) ++ [(srcId 3 0, FaultClass.fatal)]) ∧
    (1150 ≤ tj.toInt → s.bit Reg.DEV_THERM 31 = false → ∃ t, exec (.thermalTrip tj hb) s = .next t ∧
      t.bit Reg.DEV_THERM 31 = true ∧ t.out = .thermTrip :: s.out ∧ t.flt = s.flt ∧
      ∀ a, a ≠ Reg.DEV_THERM → t.reg a = s.reg a) ∧
    (∃ t, exec (.thermalRefresh tj hb) s = .next t ∧ t.fld Reg.DEV_THERM 27 16 = tj.toNat ∧
      t.fld Reg.DEV_THERM 11 0 = (if s.hbmOn then hb.toNat else 0) ∧ t.bit Reg.DEV_THERM 31 = s.bit Reg.DEV_THERM 31 ∧
      ∀ a, a ≠ Reg.DEV_THERM → t.reg a = s.reg a) ∧
    (∃ t, exec (.bypass l) s = .next t ∧ t.out = .tdo ((false :: l).take l.length) :: s.out ∧ t.regs = s.regs) ∧
    (∃ t, exec .idcode s = .next t ∧ t.regs = s.regs ∧ t.out = .tdo ((List.range 32).map fun i => (1 +
      2 * (Config.freeNat s.fresh % 2048) + 0x1F09 * 2 ^ 12 + s.fld Reg.DEV_IDENT 15 12 * 2 ^ 28).testBit i) :: s.out) ∧
    (∃ t, exec (.sample l) s = .next t ∧ t.pkg.boundary = (List.range 17).map (fun i => l.getD i false) ∧
      t.out = .tdo t.pkg.boundary :: s.out ∧ t.regs = s.regs) ∧
    (∃ t, exec (.preload l) s = .next t ∧ t.pkg.boundary = (List.range 17).map (fun i => l.getD i false) ∧
      t.out = s.out ∧ t.regs = s.regs) ∧
    (∃ t, exec .extest s = .next t ∧ t.pkg.driven = true ∧ t.pkg.boundary = s.pkg.boundary ∧ t.regs = s.regs ∧
      ∀ i : Fin 17, t.pkg.pins.getD i false = if scanOutputs.contains i.val then s.pkg.boundary.getD i false
        else s.pkg.pins.getD i false)
end

