-- ==== Sys2Proof/Laws/Kept.lean ====
section
/-!
SUPPORT. Kept.lean: what almost every command keeps: the queue, MONO (R295) and the fuses (R411 to R414).
Every operation of the model has one lemma that says so, so that a proof about the whole command set is a case split.
-/

namespace Sys2Proof.Machine

/-- The queue, MONO and the fuses. -/
structure Kept where
  pending : List Instr
  mono : Nat
  hashes : Store (List Byte)
  revoked : NatSet
  floor : Nat
  everFused : Bool
  deriving DecidableEq, Repr

/-- What almost every command keeps. -/
def State.kept (s : State) : Kept :=
  ⟨s.pending, s.time.mono, s.boot.hashes, s.boot.revoked, s.boot.floor, s.boot.everFused⟩

/-- A command's outcome keeps `k`. -/
def Out.keeps (o : Out) (k : Kept) : Prop :=
  match o with
  | .next t => t.kept = k
  | _ => True

@[simp] theorem Out.keeps_next (t : State) (k : Kept) : Out.keeps (.next t) k ↔ t.kept = k := Iff.rfl
@[simp] theorem kept_eta (s : State) :
    (⟨s.pending, s.time.mono, s.boot.hashes, s.boot.revoked, s.boot.floor, s.boot.everFused⟩ : Kept) = s.kept := rfl
/-- What a record update keeps follows from the fields it leaves. -/
@[simp] theorem kept_mk (pending_ : List Instr) (fresh_ : Nat) (reply_ : List Word) (out_ : List Output) (regs_ : Store Word) (holds_
    : Store Word) (locks_ : Store Nat) (time_ : Time) (tele_ : Tele) (ledger_ : Ledger) (flt_ : Collector) (avs_ :
    Avs) (pace_ : Store Pace) (intr_ : Interrupts) (mbx_ : Mailboxes) (host_ : HostLink) (pwr_ : Power) (boot_ :
    Boot) (slices_ : Store Slice) (vat_ : Vat) (ports_ : Store Port) (lanes_ : Store Lane) (ctxs_ : Store Ctx)
    (nextCtx_ : Nat) (engines_ : Store Engine) (hbm_ : List Host.Cell) (tbl_ : Tbl) (flow_ : Flow) (pair_ : Pair)
    (pkg_ : Package) (vwinStart_ : Nat) (tickets_ : Nat) :
    State.kept (State.mk pending_ fresh_ reply_ out_ regs_ holds_ locks_ time_ tele_ ledger_ flt_ avs_ pace_ intr_ mbx_ host_ pwr_
      boot_ slices_ vat_ ports_ lanes_ ctxs_ nextCtx_ engines_ hbm_ tbl_ flow_ pair_ pkg_ vwinStart_ tickets_) =
      ⟨pending_, time_.mono, boot_.hashes, boot_.revoked, boot_.floor, boot_.everFused⟩ := rfl

@[simp] theorem kept_ite (c : Prop) [Decidable c] (a b : State) : (if c then a else b).kept = if c then a.kept else b.kept := by
  split <;> rfl
@[simp] theorem kept_fst_ite {α : Type} (c : Prop) [Decidable c] (p q : State × α) :
    (if c then p else q).1.kept = if c then p.1.kept else q.1.kept := by
  split <;> rfl
@[simp] theorem kept_snd_ite {α : Type} (c : Prop) [Decidable c] (p q : α × State) :
    (if c then p else q).2.kept = if c then p.2.kept else q.2.kept := by
  split <;> rfl
@[simp] theorem keeps_ite (c : Prop) [Decidable c] (a b : Out) (k : Kept) :
    Out.keeps (if c then a else b) k ↔ if c then a.keeps k else b.keeps k := by
  split <;> rfl

@[simp] theorem foldl_kept {α : Type} (f : State → α → State) (h : ∀ t x, (f t x).kept = t.kept) (l : List α) (s : State) :
    (l.foldl f s).kept = s.kept := by
  induction l generalizing s with
  | nil => rfl
  | cons a l ih => simp [ih, h]

theorem kept_of_fst {α : Type} {p : State × α} {a : State} {b : α} {k : Kept} (h : p = (a, b)) (hp : p.1.kept = k) : a.kept = k := by
  subst h
  exact hp

theorem kept_of_snd {α : Type} {p : α × State} {a : State} {b : α} {k : Kept} (h : p = (b, a)) (hp : p.2.kept = k) : a.kept = k := by
  subst h
  exact hp

end Sys2Proof.Machine
end

