-- ==== Sys2Proof/Laws/Ops.lean ====
section
/-!
SUPPORT. Laws/Ops.lean: what the operations of Machine/Ops.lean keep (Laws/Kept.lean).
-/

namespace Sys2Proof.Machine

@[simp] theorem State.setReg_kept (s : State) (a : Nat) (w : Word) :
    (State.setReg s a w).kept = s.kept := by
  simp [State.setReg]

@[simp] theorem State.setFld_kept (s : State) (a : Nat) (hi : Nat) (lo : Nat) (v : Nat) :
    (State.setFld s a hi lo v).kept = s.kept := by
  simp [State.setFld]

@[simp] theorem State.setBit_kept (s : State) (a : Nat) (i : Nat) (b : Bool) :
    (State.setBit s a i b).kept = s.kept := by
  simp [State.setBit]

@[simp] theorem State.resetRegs_kept (s : State) (p : Nat → Bool) :
    (State.resetRegs s p).kept = s.kept := by
  simp [State.resetRegs]

@[simp] theorem State.answer_kept (s : State) (ws : List Word) :
    (State.answer s ws).kept = s.kept := by
  simp [State.answer]

@[simp] theorem State.emit_kept (s : State) (o : Output) :
    (State.emit s o).kept = s.kept := by
  simp [State.emit]

@[simp] theorem State.drawWord_kept (s : State) :
    (State.drawWord s).2.kept = s.kept := by
  simp [State.drawWord]

@[simp] theorem State.setSlice_kept (s : State) (n : Nat) (x : Slice) :
    (State.setSlice s n x).kept = s.kept := by
  simp [State.setSlice]

@[simp] theorem State.sendMsix_kept (s : State) (fn : Nat) (vec : Nat) :
    (State.sendMsix s fn vec).kept = s.kept := by
  simp [State.sendMsix]

@[simp] theorem State.raiseHostStat_kept (s : State) (bit : Nat) :
    (State.raiseHostStat s bit).kept = s.kept := by
  simp [State.raiseHostStat]

@[simp] theorem State.sendVector_kept (s : State) (fn : Nat) (vec : Nat) :
    (State.sendVector s fn vec).kept = s.kept := by
  simp [State.sendVector]

@[simp] theorem State.noteMessage_kept (s : State) (h : Nat) :
    (State.noteMessage s h).kept = s.kept := by
  simp [State.noteMessage]

@[simp] theorem State.sendQpMessage_kept (s : State) (src : Nat) (fn : Nat) (vec : Nat) :
    (State.sendQpMessage s src fn vec).kept = s.kept := by
  simp only [State.sendQpMessage]
  split <;> simp

@[simp] theorem State.raiseEngine_kept (s : State) (k : Nat) (src : Nat) :
    (State.raiseEngine s k src).kept = s.kept := by
  simp [State.raiseEngine]

@[simp] theorem State.deliver_kept (s : State) (src : Nat) (new : Word) :
    (State.deliver s src new).kept = s.kept := by
  simp only [State.deliver]
  repeat' split
  all_goals simp

@[simp] theorem State.raise_kept (s : State) (a : Nat) (mask : Word) :
    (State.raise s a mask).kept = s.kept := by
  simp [State.raise]

@[simp] theorem State.raiseBit_kept (s : State) (a : Nat) (i : Nat) :
    (State.raiseBit s a i).kept = s.kept := by
  simp [State.raiseBit]

@[simp] theorem State.countFld_kept (s : State) (a : Nat) (hi : Nat) (lo : Nat) (n : Nat) :
    (State.countFld s a hi lo n).kept = s.kept := by
  simp only [State.countFld]
  repeat' split
  all_goals simp

@[simp] theorem State.count_kept (s : State) (a : Nat) :
    (State.count s a).kept = s.kept := by
  simp [State.count]

@[simp] theorem State.reportFault_kept (s : State) (src : Nat) (cls : FaultClass) (elem : Element) (detail : Nat) (tile : Nat) :
    (State.reportFault s src cls elem detail tile).kept = s.kept := by
  simp [State.reportFault]

@[simp] theorem State.violate_kept (s : State) (n : Nat) (c : Nat) (kind : Nat) (pipe : Nat) (stage : Nat) (detail : Nat) :
    (State.violate s n c kind pipe stage detail).kept = s.kept := by
  simp [State.violate]

@[simp] theorem State.vfViolation_kept (s : State) (n : Nat) (kind : Nat) (addr : Nat) :
    (State.vfViolation s n kind addr).kept = s.kept := by
  simp [State.vfViolation]

end Sys2Proof.Machine
end

