-- ==== Sys2Proof/Laws/Mailbox.lean ====
section
/-!
SUPPORT. Laws/Mailbox.lean: what the operations of Machine/Mailbox.lean keep (Laws/Kept.lean).
-/

namespace Sys2Proof.Machine

@[simp] theorem State.mbxRefuse_kept (s : State) (m : Master) (index : Nat) (addr : Nat) :
    (State.mbxRefuse s m index addr).kept = s.kept := by
  simp only [State.mbxRefuse]
  split <;> simp

@[simp] theorem State.wakeDomain_kept (s : State) (t : Option (Nat ⊕ Nat)) :
    (State.wakeDomain s t).kept = s.kept := by
  simp only [State.wakeDomain]
  split <;> simp

@[simp] theorem State.rewake_kept (s : State) (p : Nat → Bool) :
    (State.rewake s p).kept = s.kept := by
  simp [State.rewake]

@[simp] theorem State.mbxCopy_kept (s : State) (i : Nat) :
    (State.mbxCopy s i).kept = s.kept := by
  simp [State.mbxCopy]

@[simp] theorem State.mbxPost_kept (s : State) (i : Nat) :
    (State.mbxPost s i).kept = s.kept := by
  simp [State.mbxPost]

@[simp] theorem execMbxPost_kept (m : Master) (i : Fin 256) (s : State) {kk : Kept} (hkk : s.kept = kk) :
    (execMbxPost m i s).keeps kk := by
  subst hkk
  simp [execMbxPost]

@[simp] theorem execMbxMessageRead_kept (m : Master) (i : Fin 256) (s : State) {kk : Kept} (hkk : s.kept = kk) :
    (execMbxMessageRead m i s).keeps kk := by
  subst hkk
  simp [execMbxMessageRead]

@[simp] theorem execMbxTimeout_kept (i : Fin 256) (s : State) {kk : Kept} (hkk : s.kept = kk) :
    (execMbxTimeout i s).keeps kk := by
  subst hkk
  simp only [execMbxTimeout]
  split <;> simp

@[simp] theorem State.mbxDiscard_kept (s : State) (i : Nat) :
    (State.mbxDiscard s i).kept = s.kept := by
  simp [State.mbxDiscard]

@[simp] theorem execMbxCfgWrite_kept (m : Master) (i : Fin 256) (data : Word) (s : State) {kk : Kept} (hkk : s.kept = kk) :
    (execMbxCfgWrite m i data s).keeps kk := by
  subst hkk
  simp only [execMbxCfgWrite]
  split <;> simp

@[simp] theorem State.mbxFault_kept (s : State) (i : Nat) :
    (State.mbxFault s i).kept = s.kept := by
  simp [State.mbxFault]

@[simp] theorem State.mbxPartyReset_kept (s : State) (p : Nat → Bool) :
    (State.mbxPartyReset s p).kept = s.kept := by
  simp [State.mbxPartyReset]

@[simp] theorem execDoorbellRing_kept (m : Master) (d : Fin 64) (bits : Word) (s : State) {kk : Kept} (hkk : s.kept = kk) :
    (execDoorbellRing m d bits s).keeps kk := by
  subst hkk
  simp [execDoorbellRing]

@[simp] theorem execDoorbellClear_kept (m : Master) (d : Fin 64) (bits : Word) (s : State) {kk : Kept} (hkk : s.kept = kk) :
    (execDoorbellClear m d bits s).keeps kk := by
  subst hkk
  simp [execDoorbellClear]

@[simp] theorem execDoorbellCfgWrite_kept (m : Master) (d : Fin 64) (data : Word) (s : State) {kk : Kept} (hkk : s.kept = kk) :
    (execDoorbellCfgWrite m d data s).keeps kk := by
  subst hkk
  simp only [execDoorbellCfgWrite]
  split <;> simp

@[simp] theorem State.moveClass_kept (s : State) (c : Nat) (k : Nat) (k' : Nat) :
    (State.moveClass s c k k').kept = s.kept := by
  simp [State.moveClass]

@[simp] theorem execDutymapWrite_kept (m : Master) (data : Word) (s : State) {kk : Kept} (hkk : s.kept = kk) :
    (execDutymapWrite m data s).keeps kk := by
  subst hkk
  simp only [execDutymapWrite]
  split <;> simp

@[simp] theorem execItrHoldEnd_kept (h : Fin 256) (s : State) {kk : Kept} (hkk : s.kept = kk) :
    (execItrHoldEnd h s).keeps kk := by
  subst hkk
  simp only [execItrHoldEnd]
  split <;> simp

@[simp] theorem execMsixUnmask_kept (m : Master) (vec : Fin 512) (s : State) {kk : Kept} (hkk : s.kept = kk) :
    (execMsixUnmask m vec s).keeps kk := by
  subst hkk
  simp only [execMsixUnmask]
  split <;> simp

end Sys2Proof.Machine
end

