-- ==== Sys2Proof/Laws/Gate.lean ====
section
/-!
SUPPORT. Laws/Gate.lean: what the operations of Machine/Gate.lean keep (Laws/Kept.lean).
-/

namespace Sys2Proof.Machine

@[simp] theorem State.gated_kept (s : State) (m : Master) (a : Nat) (write : Bool) (run : State → State) (hrun : ∀ (t0 : State), (run t0).kept = t0.kept) :
    (State.gated s m a write run).kept = s.kept := by
  simp only [State.gated]
  split <;> simp [hrun]

@[simp] theorem State.refuseVf_kept (s : State) (m : Master) (a : Nat) :
    (State.refuseVf s m a).kept = s.kept := by
  simp only [State.refuseVf]
  split <;> simp

@[simp] theorem State.pfBits_kept (s : State) (m : Master) (a : Nat) (mask : Word) (data : Word) (run : State → Word → State) (hrun : ∀ (t0 : State) (u : Word), (run t0 u).kept = t0.kept) :
    (State.pfBits s m a mask data run).kept = s.kept := by
  simp only [State.pfBits]
  split <;> simp [hrun]

@[simp] theorem State.plainWrite_kept (s : State) (a : Nat) (data : Word) :
    (State.plainWrite s a data).kept = s.kept := by
  simp only [State.plainWrite]
  split <;> simp

@[simp] theorem State.hold_kept (s : State) (m : Master) (a : Nat) (w : Word) :
    (State.hold s m a w).kept = s.kept := by
  simp [State.hold]

theorem State.takeHold_kept {s t : State} {m : Master} {a : Nat} {w : Word} (h : s.takeHold m a = some (w, t)) :
    t.kept = s.kept := by
  unfold State.takeHold at h
  cases hx : Store.at? s.holds (holdKey m a) with
  | none => simp [hx] at h
  | some x =>
    simp [hx] at h
    rw [← h.2]
    simp

end Sys2Proof.Machine
end

