-- ==== Sys2Proof/Laws/LedgerOps.lean ====
section
/-!
SUPPORT. Laws/LedgerOps.lean: what the operations of Machine/LedgerOps.lean keep (Laws/Kept.lean).
-/

namespace Sys2Proof.Machine

@[simp] theorem State.setSum_kept (s : State) (o : Nat) (v : Nat) :
    (State.setSum s o v).kept = s.kept := by
  simp [State.setSum]

@[simp] theorem State.sumCount_kept (s : State) (o : Nat) (n : Nat) :
    (State.sumCount s o n).kept = s.kept := by
  simp [State.sumCount]

@[simp] theorem State.ledgerCritFull_kept (s : State) :
    (State.ledgerCritFull s).kept = s.kept := by
  simp [State.ledgerCritFull]

@[simp] theorem State.ledgerNext_kept (s : State) :
    (State.ledgerNext s).kept = s.kept := by
  simp only [State.ledgerNext]
  repeat' split
  all_goals simp

@[simp] theorem State.ledgerPut_kept (s : State) (e : LedEvent) :
    (State.ledgerPut s e).kept = s.kept := by
  simp [State.ledgerPut]

@[simp] theorem State.ledgerEvent_kept (s : State) (critical : Bool) (type : Nat) (cls : Nat) (src : Nat) (merge : Nat) (result : Nat) (tile : Nat) (detail : Nat) :
    (State.ledgerEvent s critical type cls src merge result tile detail).kept = s.kept := by
  simp [State.ledgerEvent]

@[simp] theorem State.ledgerSummary_kept (s : State) (cause : Nat) :
    (State.ledgerSummary s cause).kept = s.kept := by
  simp [State.ledgerSummary]

@[simp] theorem State.ledgerVolt_kept (s : State) (mv : Nat) :
    (State.ledgerVolt s mv).kept = s.kept := by
  simp [State.ledgerVolt]

@[simp] theorem State.ledgerTj_kept (s : State) (tj : Nat) :
    (State.ledgerTj s tj).kept = s.kept := by
  simp [State.ledgerTj]

end Sys2Proof.Machine
end

