-- ==== Sys2Proof/Laws/Clockless.lean ====
section
/-!
SUPPORT. Laws/Clockless.lean: what the operations of Machine/Clockless.lean keep (Laws/Kept.lean).
-/

namespace Sys2Proof.Machine

@[simp] theorem State.lockViolation_kept (s : State) (m : Master) (i : Nat) :
    (State.lockViolation s m i).kept = s.kept := by
  simp only [State.lockViolation]
  split <;> simp

@[simp] theorem State.freeLocks_kept (s : State) (p : Nat → Bool) :
    (State.freeLocks s p).kept = s.kept := by
  simp [State.freeLocks]

@[simp] theorem execLockRead_kept (m : Master) (i : Fin 64) (s : State) {kk : Kept} (hkk : s.kept = kk) :
    (execLockRead m i s).keeps kk := by
  subst hkk
  simp [execLockRead]

@[simp] theorem execLockWrite_kept (m : Master) (i : Fin 64) (_data : Word) (s : State) {kk : Kept} (hkk : s.kept = kk) :
    (execLockWrite m i _data s).keeps kk := by
  subst hkk
  simp [execLockWrite]

@[simp] theorem execLockForce_kept (m : Master) (i : Fin 64) (s : State) {kk : Kept} (hkk : s.kept = kk) :
    (execLockForce m i s).keeps kk := by
  subst hkk
  simp only [execLockForce]
  split <;> simp

@[simp] theorem State.setPace_kept (s : State) (n : Nat) (pipe : Nat) (st : Nat) (p : Pace) :
    (State.setPace s n pipe st p).kept = s.kept := by
  simp [State.setPace]

@[simp] theorem State.noteCompletion_kept (s : State) (n : Nat) (pipe : Nat) (st : Nat) :
    (State.noteCompletion s n pipe st).kept = s.kept := by
  simp [State.noteCompletion]

@[simp] theorem execPaceWindowEnd_kept (n : Fin 32) (pipe : Fin 2) (st : Fin 4) (cap : Nat) (s : State) {kk : Kept} (hkk : s.kept = kk) :
    (execPaceWindowEnd n pipe st cap s).keeps kk := by
  subst hkk
  simp [execPaceWindowEnd]

@[simp] theorem State.avsJudgeLimits_kept (s : State) :
    (State.avsJudgeLimits s).kept = s.kept := by
  simp [State.avsJudgeLimits]

@[simp] theorem State.avsCommand_kept (s : State) (v : Nat) :
    (State.avsCommand s v).kept = s.kept := by
  simp [State.avsCommand]

@[simp] theorem State.avsEvaluate_kept (s : State) (cap : Nat) (load : Nat) :
    (State.avsEvaluate s cap load).kept = s.kept := by
  simp [State.avsEvaluate]

@[simp] theorem execAvsLoopPeriod_kept (s : State) {kk : Kept} (hkk : s.kept = kk) :
    (execAvsLoopPeriod s).keeps kk := by
  subst hkk
  simp only [execAvsLoopPeriod]
  repeat' split
  all_goals simp

@[simp] theorem execAvsTransactionDone_kept (ok : Bool) (s : State) {kk : Kept} (hkk : s.kept = kk) :
    (execAvsTransactionDone ok s).keeps kk := by
  subst hkk
  simp [execAvsTransactionDone]

@[simp] theorem execAvsVreadRefresh_kept (mv : Nat) (s : State) {kk : Kept} (hkk : s.kept = kk) :
    (execAvsVreadRefresh mv s).keeps kk := by
  subst hkk
  simp [execAvsVreadRefresh]

@[simp] theorem execAvsBuserrClear_kept (m : Master) (s : State) {kk : Kept} (hkk : s.kept = kk) :
    (execAvsBuserrClear m s).keeps kk := by
  subst hkk
  simp only [execAvsBuserrClear]
  split <;> simp

end Sys2Proof.Machine
end

