-- ==== Sys2Proof/Laws/EngOps.lean ====
section
/-!
SUPPORT. Laws/EngOps.lean: what the operations of Machine/EngOps.lean keep (Laws/Kept.lean).
-/

namespace Sys2Proof.Machine

@[simp] theorem State.setEngine_kept (s : State) (k : Nat) (e : Engine) :
    (State.setEngine s k e).kept = s.kept := by
  simp [State.setEngine]

@[simp] theorem State.engHalt_kept (s : State) (k : Nat) :
    (State.engHalt s k).kept = s.kept := by
  simp [State.engHalt]

@[simp] theorem State.engStart_kept (s : State) (k : Nat) :
    (State.engStart s k).kept = s.kept := by
  simp [State.engStart]

end Sys2Proof.Machine
end

