-- ==== Sys2Proof/Laws/PortOps.lean ====
section
/-!
SUPPORT. Laws/PortOps.lean: what the operations of Machine/PortOps.lean keep (Laws/Kept.lean).
-/

namespace Sys2Proof.Machine

@[simp] theorem State.setPort_kept (s : State) (p : Nat) (x : Port) :
    (State.setPort s p x).kept = s.kept := by
  simp [State.setPort]

@[simp] theorem State.countWide_kept (s : State) (lo : Nat) (hi : Nat) (n : Nat) :
    (State.countWide s lo hi n).kept = s.kept := by
  simp [State.countWide]

@[simp] theorem State.portCount_kept (s : State) (p : Nat) (k : Nat) :
    (State.portCount s p k).kept = s.kept := by
  simp [State.portCount]

@[simp] theorem State.setCol_kept (s : State) (j : Nat) (x : PostCol) :
    (State.setCol s j x).kept = s.kept := by
  simp [State.setCol]

@[simp] theorem State.teleCount_kept (s : State) (k : Nat) (n : Nat) :
    (State.teleCount s k n).kept = s.kept := by
  simp [State.teleCount]

@[simp] theorem State.queueToStore_kept (s : State) (src : Nat) (f : Frame) :
    (State.queueToStore s src f).kept = s.kept := by
  simp [State.queueToStore]

@[simp] theorem State.sendCollector_kept (s : State) (j : Nat) :
    (State.sendCollector s j).kept = s.kept := by
  simp [State.sendCollector]

@[simp] theorem State.postcard_kept (s : State) (j : Nat) (kind : Nat) (f : Frame) (out : Nat) (queue : Nat) (code : Nat) (eepoch : Nat) (qdelay : Nat) (qdepth : Nat) :
    (State.postcard s j kind f out queue code eepoch qdelay qdepth).kept = s.kept := by
  simp [State.postcard]

@[simp] theorem State.dropProg_kept (s : State) (f : Frame) (out : Nat) (queue : Nat) (code : Nat) (eepoch : Nat) :
    (State.dropProg s f out queue code eepoch).kept = s.kept := by
  simp [State.dropProg]

@[simp] theorem State.dropVat_kept (s : State) (f : Frame) (out : Nat) (queue : Nat) (row : Nat) (eepoch : Nat) :
    (State.dropVat s f out queue row eepoch).kept = s.kept := by
  simp [State.dropVat]

end Sys2Proof.Machine
end

