-- ==== Sys2Proof/Laws/HostOps.lean ====
section
/-!
SUPPORT. Laws/HostOps.lean: what the operations of Machine/HostOps.lean keep (Laws/Kept.lean).
-/

namespace Sys2Proof.Machine

@[simp] theorem State.setQp_kept (s : State) (h : Nat) (x : Qp) :
    (State.setQp s h x).kept = s.kept := by
  simp [State.setQp]

@[simp] theorem State.txComplete_kept (s : State) (h : Nat) (status : Nat) :
    (State.txComplete s h status).kept = s.kept := by
  simp [State.txComplete]

@[simp] theorem State.injected_kept (s : State) (f : Frame) (status : Nat) :
    (State.injected s f status).kept = s.kept := by
  simp only [State.injected]
  split <;> simp

@[simp] theorem State.haltQp_kept (s : State) (h : Nat) (cause : Nat) :
    (State.haltQp s h cause).kept = s.kept := by
  simp [State.haltQp]

end Sys2Proof.Machine
end

