-- ==== Sys2Proof/Laws/VatOps.lean ====
section
/-!
SUPPORT. Laws/VatOps.lean: what the operations of Machine/VatOps.lean keep (Laws/Kept.lean).
-/

namespace Sys2Proof.Machine

@[simp] theorem State.vatDrop_kept (s : State) (r : Reason) (f : Frame) (dest : Nat) (queue : Nat) :
    (State.vatDrop s r f dest queue).kept = s.kept := by
  simp only [State.vatDrop]
  repeat' split
  all_goals simp

@[simp] theorem State.setFrame_kept (s : State) (f : Nat) (x : Frame) :
    (State.setFrame s f x).kept = s.kept := by
  simp [State.setFrame]

@[simp] theorem State.setLink_kept (s : State) (i : Nat) (w : Word) :
    (State.setLink s i w).kept = s.kept := by
  simp [State.setLink]

@[simp] theorem State.linkChain_kept (len : Nat) (l : List Nat) (s : State) : (State.linkChain s len l).kept = s.kept := by
  induction l generalizing s with
  | nil => rfl
  | cons a l ih => cases l <;> simp [State.linkChain, ih]

@[simp] theorem State.doubleFree_kept (s : State) (cell : Nat) :
    (State.doubleFree s cell).kept = s.kept := by
  simp [State.doubleFree]

@[simp] theorem State.releaseCells_kept (s : State) (y1 : List Nat) :
    (State.releaseCells s y1).kept = s.kept := by
  induction y1 generalizing s with
  | nil => simp [State.releaseCells]
  | cons a l ih => simp [State.releaseCells, ih]

@[simp] theorem State.dropCells_kept (s : State) (f : Nat) :
    (State.dropCells s f).kept = s.kept := by
  simp only [State.dropCells]
  split <;> simp

@[simp] theorem State.releaseFrame_kept (s : State) (f : Nat) :
    (State.releaseFrame s f).kept = s.kept := by
  simp [State.releaseFrame]

@[simp] theorem State.unref_kept (s : State) (f : Nat) :
    (State.unref s f).kept = s.kept := by
  simp only [State.unref]
  split <;> simp

@[simp] theorem State.settle_kept (s : State) (f : Nat) :
    (State.settle s f).kept = s.kept := by
  simp only [State.settle]
  split <;> simp

@[simp] theorem State.resolved_kept (s : State) (f : Nat) :
    (State.resolved s f).kept = s.kept := by
  simp only [State.resolved]
  split <;> simp

@[simp] theorem State.closeFrame_kept (s : State) (f : Nat) (err : Bool) :
    (State.closeFrame s f err).kept = s.kept := by
  simp only [State.closeFrame]
  split <;> simp

@[simp] theorem State.dropFrame_kept (s : State) (r : Reason) (f : Nat) :
    (State.dropFrame s r f).kept = s.kept := by
  simp only [State.dropFrame]
  split <;> simp

@[simp] theorem State.growCells_kept (n : Nat) (s : State) (f : Nat) : (State.growCells n s f).kept = s.kept := by
  induction n generalizing s with
  | zero => rfl
  | succ n ih =>
    unfold State.growCells
    repeat' split
    all_goals simp [ih]

@[simp] theorem State.linkFill_kept (s : State) (f : Nat) :
    (State.linkFill s f).kept = s.kept := by
  simp only [State.linkFill]
  split <;> simp

@[simp] theorem State.storeBytes_kept (s : State) (f : Nat) (l : List Byte) :
    (State.storeBytes s f l).kept = s.kept := by
  simp only [State.storeBytes]
  split <;> simp

@[simp] theorem State.allocBlock_kept (s : State) (f : Nat) :
    (State.allocBlock s f).kept = s.kept := by
  simp only [State.allocBlock]
  repeat' split
  all_goals simp

@[simp] theorem State.setQueue_kept (s : State) (q : Nat) (l : List Copy) :
    (State.setQueue s q l).kept = s.kept := by
  simp [State.setQueue]

@[simp] theorem State.chargeShapers_kept (s : State) (d : Nat) (q : Nat) (len : Nat) :
    (State.chargeShapers s d q len).kept = s.kept := by
  simp [State.chargeShapers]

@[simp] theorem State.noteOutcome_kept (s : State) (x : Copy) (ok : Bool) :
    (State.noteOutcome s x ok).kept = s.kept := by
  simp only [State.noteOutcome]
  split <;> simp

@[simp] theorem State.admit_kept (s : State) (x : Copy) :
    (State.admitCopy s x).1.kept = s.kept := by
  simp only [State.admitCopy]
  repeat' split
  all_goals simp

theorem State.popQueue_kept {s t : State} {d q : Nat} {df : Store Nat} {x : Copy} (h : s.popQueue d q df = some (x, t)) : t.kept = s.kept := by
  simp only [State.popQueue] at h
  split at h
  · simp at h
  · simp only [Option.some.injEq, Prod.mk.injEq] at h
    rw [← h.2]
    split <;> rfl

end Sys2Proof.Machine
end

