-- ==== Sys2Proof/Laws/PipeOps.lean ====
section
/-!
SUPPORT. Laws/PipeOps.lean: what the operations of Machine/PipeOps.lean keep (Laws/Kept.lean).
-/

namespace Sys2Proof.Machine

@[simp] theorem State.setCtx_kept (s : State) (c : Nat) (x : Ctx) :
    (State.setCtx s c x).kept = s.kept := by
  simp [State.setCtx]

@[simp] theorem State.delCtx_kept (s : State) (c : Nat) :
    (State.delCtx s c).kept = s.kept := by
  simp [State.delCtx]

@[simp] theorem State.addCtx_kept (s : State) (x : Ctx) :
    (State.addCtx s x).kept = s.kept := by
  simp [State.addCtx]

@[simp] theorem State.noCopies_kept (s : State) (f : Nat) :
    (State.noCopies s f).kept = s.kept := by
  simp [State.noCopies]

@[simp] theorem State.dropCtx_kept (s : State) (c : Nat) :
    (State.dropCtx s c).kept = s.kept := by
  simp only [State.dropCtx]
  split <;> simp

@[simp] theorem State.discardPipes_kept (s : State) (n : Nat) (ctr : Nat) :
    (State.discardPipes s n ctr).kept = s.kept := by
  simp [State.discardPipes]

end Sys2Proof.Machine
end

