-- ==== Sys2Proof/Laws/TxOps.lean ====
section
/-!
SUPPORT. Laws/TxOps.lean: what the operations of Machine/TxOps.lean keep (Laws/Kept.lean).
-/

namespace Sys2Proof.Machine

@[simp] theorem State.dropOut_kept (s : State) (d : Nat) (x : Copy) :
    (State.dropOut s d x).kept = s.kept := by
  simp [State.dropOut]

@[simp] theorem State.endCopy_kept (s : State) (p : Nat) (x : Copy) (lo : Nat) (hi : Nat) (ctr : Nat) :
    (State.endCopy s p x lo hi ctr).kept = s.kept := by
  simp only [State.endCopy]
  split <;> simp

@[simp] theorem State.endSending_kept (s : State) (p : Nat) (ctr : Nat) :
    (State.endSending s p ctr).kept = s.kept := by
  simp [State.endSending]

@[simp] theorem State.abortCopies_kept (s : State) (f : Nat) :
    (State.abortCopies s f).kept = s.kept := by
  simp [State.abortCopies]

@[simp] theorem State.closeErr_kept (s : State) (f : Nat) :
    (State.closeErr s f).kept = s.kept := by
  simp only [State.closeErr]
  split <;> simp

end Sys2Proof.Machine
end

