-- ==== Sys2Proof/Laws/Rx.lean ====
section
/-!
SUPPORT. Laws/Rx.lean: what the operations of Machine/Rx.lean keep (Laws/Kept.lean).
-/

namespace Sys2Proof.Machine

@[simp] theorem State.bumpSeq_kept (s : State) :
    (State.bumpSeq s).kept = s.kept := by
  simp [State.bumpSeq]

@[simp] theorem State.newFrame_kept (s : State) (f : Frame) (l : List Byte) :
    (State.newFrame s f l).1.kept = s.kept := by
  simp only [State.newFrame]
  split <;> simp

@[simp] theorem State.newBlock_kept (s : State) (f : Frame) (l : List Byte) :
    (State.newBlock s f l).1.kept = s.kept := by
  simp only [State.newBlock]
  split <;> simp

@[simp] theorem State.rxErr_kept (s : State) (x : Rx) :
    (State.rxErr s x).kept = s.kept := by
  simp only [State.rxErr]
  split <;> simp

@[simp] theorem State.abortDropped_kept (s : State) (d : Nat) :
    (State.abortDropped s d).kept = s.kept := by
  simp only [State.abortDropped]
  split <;> simp

@[simp] theorem State.rxOversize_kept (s : State) (p : Nat) (x : Rx) :
    (State.rxOversize s p x).kept = s.kept := by
  simp [State.rxOversize]

@[simp] theorem State.rxMore_kept (s : State) (p : Nat) (bytes : List Byte) :
    (State.rxMore s p bytes).kept = s.kept := by
  simp only [State.rxMore]
  repeat' split
  all_goals simp

@[simp] theorem State.rxGood_kept (s : State) (p : Nat) (x : Rx) :
    (State.rxGood s p x).kept = s.kept := by
  simp only [State.rxGood]
  repeat' split
  all_goals first
    | simp; done
    | simp; exact kept_of_fst (by assumption) (by simp)
    | exact kept_of_fst (by assumption) (by simp)

@[simp] theorem State.rxStart_kept (s : State) (p : Nat) (bytes : List Byte) :
    (State.rxStart s p bytes).kept = s.kept := by
  simp only [State.rxStart]
  repeat' split
  all_goals simp

@[simp] theorem State.rxEnd_kept (s : State) (p : Nat) (bytes : List Byte) (bad : Bool) :
    (State.rxEnd s p bytes bad).kept = s.kept := by
  simp only [State.rxEnd]
  repeat' split
  all_goals simp

@[simp] theorem State.rxTrunc_kept (s : State) (p : Nat) :
    (State.rxTrunc s p).kept = s.kept := by
  simp only [State.rxTrunc]
  split <;> simp

theorem State.takeStored_kept {s t : State} {k : Nat} {f : Frame} (h : s.takeStored k = some (f, t)) : t.kept = s.kept := by
  unfold State.takeStored at h
  split at h <;> simp at h
  rw [← h.2]
  simp

@[simp] theorem State.lostRecords_kept (s : State) (f : Frame) :
    (State.lostRecords s f).kept = s.kept := by
  simp only [State.lostRecords]
  repeat' split
  all_goals simp

@[simp] theorem State.storeStart_kept (s : State) (k : Nat) : (s.storeStart k).kept = s.kept := by
  simp only [State.storeStart]
  repeat' split
  all_goals first
    | simp; done
    | simp; exact kept_of_fst (by assumption) (by simp; exact State.takeStored_kept (by assumption))

@[simp] theorem State.storeMore_kept (s : State) (k : Nat) (m : Nat) :
    (State.storeMore s k m).kept = s.kept := by
  simp only [State.storeMore]
  repeat' split
  all_goals simp

@[simp] theorem State.storedWhole_kept (s : State) (d : Nat) (f : Frame) :
    (State.storedWhole s d f).kept = s.kept := by
  simp only [State.storedWhole]
  repeat' split
  all_goals simp

@[simp] theorem State.storeEnd_kept (s : State) (k : Nat) : (s.storeEnd k).kept = s.kept := by
  simp only [State.storeEnd]
  repeat' split
  all_goals first
    | simp; done
    | simp; exact kept_of_fst (by assumption) (by simp; exact State.takeStored_kept (by assumption))

@[simp] theorem execRxFrameStart_kept (src : RxSource) (bytes : List Byte) (s : State) {kk : Kept} (hkk : s.kept = kk) :
    (execRxFrameStart src bytes s).keeps kk := by
  subst hkk
  simp only [execRxFrameStart]
  split <;> simp

@[simp] theorem execRxLaterCell_kept (src : RxSource) (bytes : List Byte) (s : State) {kk : Kept} (hkk : s.kept = kk) :
    (execRxLaterCell src bytes s).keeps kk := by
  subst hkk
  simp only [execRxLaterCell]
  split <;> simp

@[simp] theorem execRxFrameEnd_kept (src : RxSource) (bytes : List Byte) (bad : Bool) (s : State) {kk : Kept} (hkk : s.kept = kk) :
    (execRxFrameEnd src bytes bad s).keeps kk := by
  subst hkk
  simp only [execRxFrameEnd]
  split <;> simp

@[simp] theorem execRxOversize_kept (p : Fin 1024) (s : State) {kk : Kept} (hkk : s.kept = kk) :
    (execRxOversize p s).keeps kk := by
  subst hkk
  simp only [execRxOversize]
  split <;> simp

@[simp] theorem execReasmTimeout_kept (f : Nat) (s : State) {kk : Kept} (hkk : s.kept = kk) :
    (execReasmTimeout f s).keeps kk := by
  subst hkk
  simp only [execReasmTimeout]
  repeat' split
  all_goals simp

end Sys2Proof.Machine
end

