-- ==== Sys2Proof/Laws/Rind.lean ====
section
/-!
SUPPORT. Laws/Rind.lean: what the operations of Machine/Rind.lean keep (Laws/Kept.lean).
-/

namespace Sys2Proof.Machine

@[simp] theorem execRindCommit_kept (m : Master) (n : Fin 32) (idx : Fin 16) (s : State) {kk : Kept} (hkk : s.kept = kk) :
    (execRindCommit m n idx s).keeps kk := by
  subst hkk
  simp only [execRindCommit]
  split <;> simp

@[simp] theorem State.noteCommit_kept (s : State) (n : Nat) (i : Nat) :
    (State.noteCommit s n i).kept = s.kept := by
  simp [State.noteCommit]

@[simp] theorem execRindCommitDone_kept (n : Fin 32) (s : State) {kk : Kept} (hkk : s.kept = kk) :
    (execRindCommitDone n s).keeps kk := by
  subst hkk
  simp only [execRindCommitDone]
  split <;> simp

@[simp] theorem execQuarantineWindowEnd_kept (s : State) {kk : Kept} (hkk : s.kept = kk) :
    (execQuarantineWindowEnd s).keeps kk := by
  subst hkk
  simp [execQuarantineWindowEnd]

@[simp] theorem execQuarantineRelease_kept (m : Master) (n : Fin 32) (mask : BitVec 8) (s : State) {kk : Kept} (hkk : s.kept = kk) :
    (execQuarantineRelease m n mask s).keeps kk := by
  subst hkk
  simp only [execQuarantineRelease]
  split <;> simp

end Sys2Proof.Machine
end

