-- ==== Sys2Proof/Laws/Loader.lean ====
section
/-!
SUPPORT. Laws/Loader.lean: what the operations of Machine/Loader.lean keep (Laws/Kept.lean).
-/

namespace Sys2Proof.Machine

@[simp] theorem State.setLdState_kept (s : State) (n : Nat) (v : Nat) :
    (State.setLdState s n v).kept = s.kept := by
  simp [State.setLdState]

@[simp] theorem State.setLoader_kept (s : State) (n : Nat) (l : Loader) :
    (State.setLoader s n l).kept = s.kept := by
  simp [State.setLoader]

@[simp] theorem State.ldDone_kept (s : State) (n : Nat) (code : Nat) (frame : Nat) :
    (State.ldDone s n code frame).kept = s.kept := by
  simp [State.ldDone]

@[simp] theorem State.ldEnd_kept (s : State) (n : Nat) (code : Nat) (frame : Nat) :
    (State.ldEnd s n code frame).kept = s.kept := by
  simp [State.ldEnd]

@[simp] theorem State.ldTake_kept (s : State) (n : Nat) (m : Master) :
    (State.ldTake s n m).kept = s.kept := by
  simp [State.ldTake]

@[simp] theorem State.ldCommand_kept (s : State) (m : Master) (n : Nat) (valid : List Nat) (run : State → State) (hrun : ∀ (t0 : State), (run t0).kept = t0.kept) :
    (State.ldCommand s m n valid run).kept = s.kept := by
  simp only [State.ldCommand]
  repeat' split
  all_goals simp [hrun]

@[simp] theorem State.ldBegin_kept (s : State) (n : Nat) (m : Master) (verify : Bool) :
    (State.ldBegin s n m verify).kept = s.kept := by
  simp [State.ldBegin]

@[simp] theorem execLoad_kept (m : Master) (n : Fin 32) (s : State) {kk : Kept} (hkk : s.kept = kk) :
    (execLoad m n s).keeps kk := by
  subst hkk
  simp [execLoad]

@[simp] theorem execVerify_kept (m : Master) (n : Fin 32) (s : State) {kk : Kept} (hkk : s.kept = kk) :
    (execVerify m n s).keeps kk := by
  subst hkk
  simp [execVerify]

@[simp] theorem execSwap_kept (m : Master) (n : Fin 32) (s : State) {kk : Kept} (hkk : s.kept = kk) :
    (execSwap m n s).keeps kk := by
  subst hkk
  simp [execSwap]

@[simp] theorem execDiscard_kept (m : Master) (n : Fin 32) (s : State) {kk : Kept} (hkk : s.kept = kk) :
    (execDiscard m n s).keeps kk := by
  subst hkk
  simp [execDiscard]

@[simp] theorem State.markDead_kept (s : State) (n : Nat) (e : Nat) :
    (State.markDead s n e).kept = s.kept := by
  simp [State.markDead]

@[simp] theorem execForceRetire_kept (m : Master) (n : Fin 32) (s : State) {kk : Kept} (hkk : s.kept = kk) :
    (execForceRetire m n s).keeps kk := by
  subst hkk
  simp [execForceRetire]

@[simp] theorem execAbort_kept (m : Master) (n : Fin 32) (s : State) {kk : Kept} (hkk : s.kept = kk) :
    (execAbort m n s).keeps kk := by
  subst hkk
  simp [execAbort]

@[simp] theorem execLoaderCmdReserved_kept (m : Master) (n : Fin 32) (_cmd : Fin 16) (s : State) {kk : Kept} (hkk : s.kept = kk) :
    (execLoaderCmdReserved m n _cmd s).keeps kk := by
  subst hkk
  simp [execLoaderCmdReserved]

@[simp] theorem execLoadPlaceTaken_kept (n : Fin 32) (s : State) {kk : Kept} (hkk : s.kept = kk) :
    (execLoadPlaceTaken n s).keeps kk := by
  subst hkk
  simp [execLoadPlaceTaken]

@[simp] theorem execLoadFetchDone_kept (n : Fin 32) (bytes : Option (List Byte)) (s : State) {kk : Kept} (hkk : s.kept = kk) :
    (execLoadFetchDone n bytes s).keeps kk := by
  subst hkk
  simp only [execLoadFetchDone]
  repeat' split
  all_goals simp

@[simp] theorem execLoadSignaturesDone_kept (n : Fin 32) (s : State) {kk : Kept} (hkk : s.kept = kk) :
    (execLoadSignaturesDone n s).keeps kk := by
  subst hkk
  simp [execLoadSignaturesDone]

@[simp] theorem execLoadShadowDone_kept (n : Fin 32) (s : State) {kk : Kept} (hkk : s.kept = kk) :
    (execLoadShadowDone n s).keeps kk := by
  subst hkk
  simp only [execLoadShadowDone]
  repeat' split
  all_goals simp

@[simp] theorem State.switchBanks_kept (s : State) (n : Nat) :
    (State.switchBanks s n).kept = s.kept := by
  simp [State.switchBanks]

@[simp] theorem State.noteFullSwap_kept (s : State) (n : Nat) :
    (State.noteFullSwap s n).kept = s.kept := by
  simp [State.noteFullSwap]

@[simp] theorem execEpochSwitch_kept (n : Fin 32) (s : State) {kk : Kept} (hkk : s.kept = kk) :
    (execEpochSwitch n s).keeps kk := by
  subst hkk
  simp [execEpochSwitch]

@[simp] theorem execBankRetire_kept (n : Fin 32) (s : State) {kk : Kept} (hkk : s.kept = kk) :
    (execBankRetire n s).keeps kk := by
  subst hkk
  simp [execBankRetire]

@[simp] theorem execRetireTimeout_kept (n : Fin 32) (s : State) {kk : Kept} (hkk : s.kept = kk) :
    (execRetireTimeout n s).keeps kk := by
  subst hkk
  simp [execRetireTimeout]

@[simp] theorem State.drainPorts_kept (s : State) (n : Nat) (from' : Nat) (to' : Nat) :
    (State.drainPorts s n from' to').kept = s.kept := by
  simp [State.drainPorts]

@[simp] theorem execDrainStart_kept (n : Fin 32) (s : State) {kk : Kept} (hkk : s.kept = kk) :
    (execDrainStart n s).keeps kk := by
  subst hkk
  simp [execDrainStart]

@[simp] theorem execDrainPipesDone_kept (n : Fin 32) (s : State) {kk : Kept} (hkk : s.kept = kk) :
    (execDrainPipesDone n s).keeps kk := by
  subst hkk
  simp [execDrainPipesDone]

@[simp] theorem execDrainBoundReached_kept (n : Fin 32) (s : State) {kk : Kept} (hkk : s.kept = kk) :
    (execDrainBoundReached n s).keeps kk := by
  subst hkk
  simp [execDrainBoundReached]

@[simp] theorem execDrainSwitchDone_kept (n : Fin 32) (s : State) {kk : Kept} (hkk : s.kept = kk) :
    (execDrainSwitchDone n s).keeps kk := by
  subst hkk
  simp [execDrainSwitchDone]

@[simp] theorem State.drainEnd_kept (s : State) (n : Nat) (code : Nat) :
    (State.drainEnd s n code).kept = s.kept := by
  simp [State.drainEnd]

@[simp] theorem State.revertBanks_kept (s : State) (n : Nat) (pre : Nat) :
    (State.revertBanks s n pre).kept = s.kept := by
  simp [State.revertBanks]

@[simp] theorem execContinuityCheckDone_kept (n : Fin 32) (failed : Option TilePath) (s : State) {kk : Kept} (hkk : s.kept = kk) :
    (execContinuityCheckDone n failed s).keeps kk := by
  subst hkk
  simp only [execContinuityCheckDone]
  repeat' split
  all_goals simp

@[simp] theorem execRevertCheckDone_kept (n : Fin 32) (s : State) {kk : Kept} (hkk : s.kept = kk) :
    (execRevertCheckDone n s).keeps kk := by
  subst hkk
  simp [execRevertCheckDone]

end Sys2Proof.Machine
end

