-- ==== Sys2Proof/Laws/StageOps.lean ====
section
/-!
SUPPORT. Laws/StageOps.lean: what the operations of Machine/StageOps.lean keep (Laws/Kept.lean).
-/

namespace Sys2Proof.Machine

@[simp] theorem State.ctxViolate_kept (s : State) (x : Ctx) (kind : Nat) (detail : Nat) :
    (State.ctxViolate s x kind detail).kept = s.kept := by
  simp [State.ctxViolate]

@[simp] theorem State.stageAnswer_kept (s : State) (x : Ctx) (y2 : StageHit) :
    (State.stageAnswer s x y2).1.kept = s.kept := by
  simp only [State.stageAnswer]
  split <;> simp

@[simp] theorem State.stageEvent_kept (s : State) (x : Ctx) (lo : Nat) :
    (State.stageEvent s x lo).kept = s.kept := by
  simp [State.stageEvent]

@[simp] theorem State.machineCheck_kept (s : State) (c : Nat) (x : Ctx) (tgt : Nat) (addr : Nat) :
    (State.machineCheck s c x tgt addr).kept = s.kept := by
  simp [State.machineCheck]

@[simp] theorem State.fetchWord_kept (s : State) (c : Nat) (x : Ctx) (addr : Nat) :
    (State.fetchWord s c x addr).kept = s.kept := by
  simp [State.fetchWord]

@[simp] theorem State.dispatch_kept (s : State) (c : Nat) (x : Ctx) (opc : Nat) :
    (State.dispatch s c x opc).kept = s.kept := by
  simp [State.dispatch]

@[simp] theorem execStageEntry_kept (c : Nat) (s : State) {kk : Kept} (hkk : s.kept = kk) :
    (execStageEntry c s).keeps kk := by
  subst hkk
  simp only [execStageEntry]
  repeat' split
  all_goals simp

@[simp] theorem State.sequence_kept (s : State) (c : Nat) (x : Ctx) (w : Nat) :
    (State.sequence s c x w).kept = s.kept := by
  simp only [State.sequence]
  split <;> simp

@[simp] theorem State.frameOp_kept (s : State) (c : Nat) (is : Nat → Bool) :
    (State.frameOp s c is).kept = s.kept := by
  simp only [State.frameOp]
  split <;> simp

@[simp] theorem State.memNow_kept (s : State) (c : Nat) (op : Nat) (run : State → Ctx → State × List Byte × Bool × Bool) (hrun : ∀ (t0 : State) (u : Ctx), (run t0 u).1.kept = t0.kept) :
    (State.memNow s c op run).kept = s.kept := by
  simp only [State.memNow]
  split <;> simp [hrun]

@[simp] theorem execStageTableLookup_kept (c : Nat) (s : State) {kk : Kept} (hkk : s.kept = kk) :
    (execStageTableLookup c s).keeps kk := by
  subst hkk
  simp [execStageTableLookup]

@[simp] theorem execMemopComplete_kept (c : Nat) (i : Nat) (s : State) {kk : Kept} (hkk : s.kept = kk) :
    (execMemopComplete c i s).keeps kk := by
  subst hkk
  simp only [execMemopComplete]
  repeat' split
  all_goals simp

end Sys2Proof.Machine
end

