-- ==== Sys2Proof/Laws/Ingress.lean ====
section
/-!
SUPPORT. Laws/Ingress.lean: what the operations of Machine/Ingress.lean keep (Laws/Kept.lean).
-/

namespace Sys2Proof.Machine

@[simp] theorem State.dropWaiting_kept (s : State) (f : Nat) (ctr : Nat) :
    (State.dropWaiting s f ctr).kept = s.kept := by
  simp [State.dropWaiting]

@[simp] theorem execIngressAdmit_kept (n : Fin 32) (st : Fin 4) (ret : Bool) (pace : Bool) (s : State) {kk : Kept} (hkk : s.kept = kk) :
    (execIngressAdmit n st ret pace s).keeps kk := by
  subst hkk
  simp only [execIngressAdmit]
  split <;> simp

@[simp] theorem execParseDone_kept (c : Nat) (s : State) {kk : Kept} (hkk : s.kept = kk) :
    (execParseDone c s).keeps kk := by
  subst hkk
  simp only [execParseDone]
  repeat' split
  all_goals simp

end Sys2Proof.Machine
end

