-- ==== Sys2Proof/Laws/Resolve.lean ====
section
/-!
SUPPORT. Laws/Resolve.lean: what the operations of Machine/Resolve.lean keep (Laws/Kept.lean).
-/

namespace Sys2Proof.Machine

@[simp] theorem State.copyViolate_kept (s : State) (o : Origin) (kind : Nat) (detail : Nat) :
    (State.copyViolate s o kind detail).kept = s.kept := by
  simp [State.copyViolate]

@[simp] theorem handOn_kept (hand : Hand) (s : State) (x : Copy) (hhand : ∀ (t0 : State) (u : Copy), (hand t0 u).1.kept = t0.kept) :
    (handOn hand s x).1.kept = s.kept := by
  simp [handOn, hhand]

@[simp] theorem State.hostCopy_kept (s : State) (o : Origin) (hand : Hand) (qp : Nat) (reason : Nat) (flags : Nat) (cap : Option Nat) (hhand : ∀ (t0 : State) (u : Copy), (hand t0 u).1.kept = t0.kept) :
    (State.hostCopy s o hand qp reason flags cap).1.kept = s.kept := by
  simp [State.hostCopy, hhand]

@[simp] theorem State.portCopy_kept (s : State) (o : Origin) (hand : Hand) (x : Copy) (hhand : ∀ (t0 : State) (u : Copy), (hand t0 u).1.kept = t0.kept) :
    (State.portCopy s o hand x).1.kept = s.kept := by
  simp [State.portCopy, hhand]

@[simp] theorem State.unicast_kept (s : State) (o : Origin) (hand : Hand) (dest : Nat) (queue : Nat) (cpuQp : Nat) (reason : Nat) (hhand : ∀ (t0 : State) (u : Copy), (hand t0 u).1.kept = t0.kept) :
    (State.unicast s o hand dest queue cpuQp reason).1.kept = s.kept := by
  simp [State.unicast, hhand]

@[simp] theorem State.mirrorOne_kept (s : State) (o : Origin) (hand : Hand) (len : Nat) (i : Nat) (hhand : ∀ (t0 : State) (u : Copy), (hand t0 u).1.kept = t0.kept) :
    (State.mirrorOne s o hand len i).1.kept = s.kept := by
  simp [State.mirrorOne, hhand]

@[simp] theorem State.eachCopy_kept (s : State) (make : State → Nat → Made) (note : State → State) (l : List Nat)
    (hm : ∀ t i, (make t i).1.kept = t.kept) (hn : ∀ t, (note t).kept = t.kept) :
    (s.eachCopy make note l).1.kept = s.kept := by
  have aux : ∀ (a : State × Nat), (l.foldl (fun a i =>
      match make a.1 i with
      | (t, none) => (t, a.2)
      | (t, some ok) => (note t, a.2 + ok.toNat)) a).1.kept = a.1.kept := by
    induction l with
    | nil => intro a; rfl
    | cons i l ih =>
      intro a
      have h := hm a.1 i
      revert h
      rw [List.foldl_cons, ih]
      cases make a.1 i with
      | mk t o => cases o <;> simp [hn]
  exact aux (s, 0)

@[simp] theorem State.mirrors_kept (s : State) (o : Origin) (hand : Hand) (note : State → State) (len : Nat) (set : Nat) (hhand : ∀ (t0 : State) (u : Copy), (hand t0 u).1.kept = t0.kept) (hnote : ∀ (t0 : State), (note t0).kept = t0.kept) :
    (State.mirrors s o hand note len set).1.kept = s.kept := by
  simp [State.mirrors, hhand, hnote]

@[simp] theorem Made.count_kept (r : Made) : r.count.1.kept = r.1.kept := rfl

@[simp] theorem State.target_kept (s : State) (o : Origin) (hand : Hand) (group queue cpuQp reason : Nat) (w : Word)
    (hhand : ∀ (t : State) (x : Copy), (hand t x).1.kept = t.kept) :
    (s.target o hand group queue cpuQp reason w).1.kept = s.kept := by
  simp only [State.target]
  split
  · simp
  · split
    · next t ht =>
      have h : t.kept = s.kept := kept_of_fst ht (by split <;> simp [hhand])
      simp only
      split <;> simp [h]
    · split <;> simp [hhand]

@[simp] theorem State.multicast_kept (s : State) (o : Origin) (hand : Hand) (f : Frame) (group : Nat) (queue : Nat) (cpuQp : Nat) (reason : Nat) (hhand : ∀ (t0 : State) (u : Copy), (hand t0 u).1.kept = t0.kept) :
    (State.multicast s o hand f group queue cpuQp reason).1.kept = s.kept := by
  simp [State.multicast, hhand]

@[simp] theorem State.ingCount_kept (s : State) (x : Ctx) (k : Nat) :
    (State.ingCount s x k).kept = s.kept := by
  simp [State.ingCount]

@[simp] theorem State.forward_kept (s : State) (x : Ctx) (o : Origin) (hand : Hand) (f : Frame) (fwd : Nat) (hhand : ∀ (t0 : State) (u : Copy), (hand t0 u).1.kept = t0.kept) :
    (State.forward s x o hand f fwd).1.kept = s.kept := by
  simp only [State.forward]
  repeat' split
  all_goals simp [hhand]

@[simp] theorem State.decideCopies_kept (s : State) (x : Ctx) (o : Origin) (hand : Hand) (f : Frame) (hhand : ∀ (t0 : State) (u : Copy), (hand t0 u).1.kept = t0.kept) :
    (State.decideCopies s x o hand f).1.kept = s.kept := by
  simp [State.decideCopies, hhand]

@[simp] theorem execResolve_kept (c : Nat) (s : State) {kk : Kept} (hkk : s.kept = kk) :
    (execResolve c s).keeps kk := by
  subst hkk
  simp only [execResolve]
  repeat' split
  all_goals simp

end Sys2Proof.Machine
end

