-- ==== Sys2Proof/Laws/Egress.lean ====
section
/-!
SUPPORT. Laws/Egress.lean: what the operations of Machine/Egress.lean keep (Laws/Kept.lean).
-/

namespace Sys2Proof.Machine

@[simp] theorem State.histDequeue_kept (s : State) (p : Nat) (x : Copy) :
    (State.histDequeue s p x).kept = s.kept := by
  simp [State.histDequeue]

@[simp] theorem State.postDequeue_kept (s : State) (p : Nat) (x : Copy) (f : Frame) :
    (State.postDequeue s p x f).kept = s.kept := by
  simp [State.postDequeue]

@[simp] theorem State.appendOut_kept (s : State) (d : Nat) (x : Copy) :
    (State.appendOut s d x).kept = s.kept := by
  simp [State.appendOut]

@[simp] theorem State.sendOn_kept (s : State) (d : Nat) (x : Copy) (f : Frame) :
    (State.sendOn s d x f).kept = s.kept := by
  simp [State.sendOn]

@[simp] theorem execDequeue_kept (d : Fin 1058) (s : State) {k : Kept} (h : s.kept = k) : (execDequeue d s).keeps k := by
  subst h
  simp only [execDequeue]
  repeat' split
  all_goals simp
  all_goals exact State.popQueue_kept (by assumption)

@[simp] theorem execQueueHeadDiscard_kept (q : Fin 21396) (s : State) {kk : Kept} (hkk : s.kept = kk) :
    (execQueueHeadDiscard q s).keeps kk := by
  subst hkk
  simp only [execQueueHeadDiscard]
  repeat' split
  all_goals simp

@[simp] theorem State.egCount_kept (s : State) (x : Ctx) (k : Nat) :
    (State.egCount s x k).kept = s.kept := by
  simp [State.egCount]

@[simp] theorem egressHand_kept (f : Frame) (l : List Byte) (s : State) (x : Copy) : (egressHand f l s x).1.kept = s.kept := by
  simp [egressHand]

@[simp] theorem State.egressCopies_kept (s : State) (x : Ctx) (f : Frame) (l : List Byte) :
    (s.egressCopies x f l).kept = s.kept := by
  simp only [State.egressCopies]
  split <;> split <;> simp [egressHand_kept]

@[simp] theorem State.recirculate_kept (s : State) (x : Ctx) (f : Frame) (l : List Byte) :
    (State.recirculate s x f l).kept = s.kept := by
  simp [State.recirculate]

@[simp] theorem execDeparse_kept (c : Nat) (s : State) {kk : Kept} (hkk : s.kept = kk) :
    (execDeparse c s).keeps kk := by
  subst hkk
  simp only [execDeparse]
  repeat' split
  all_goals simp

@[simp] theorem State.markSending_kept (s : State) (d : Nat) :
    (State.markSending s d).kept = s.kept := by
  simp only [State.markSending]
  split <;> simp

@[simp] theorem execTransmitStart_kept (d : Fin 1058) (s : State) {kk : Kept} (hkk : s.kept = kk) :
    (execTransmitStart d s).keeps kk := by
  subst hkk
  simp only [execTransmitStart]
  repeat' split
  all_goals simp

@[simp] theorem State.solyenData_kept (s : State) (x : Copy) (f : Frame) :
    (State.solyenData s x f).kept = s.kept := by
  simp [State.solyenData]

@[simp] theorem State.twoStep_kept (s : State) (p : Nat) (l : List Byte) :
    (State.twoStep s p l).kept = s.kept := by
  simp only [State.twoStep]
  repeat' split
  all_goals simp

@[simp] theorem execTransmitDone_kept (d : Fin 1058) (s : State) {kk : Kept} (hkk : s.kept = kk) :
    (execTransmitDone d s).keeps kk := by
  subst hkk
  simp only [execTransmitDone]
  repeat' split
  all_goals simp

@[simp] theorem execTransmitUnderrun_kept (p : Fin 1024) (s : State) {kk : Kept} (hkk : s.kept = kk) :
    (execTransmitUnderrun p s).keeps kk := by
  subst hkk
  simp only [execTransmitUnderrun]
  repeat' split
  all_goals simp

@[simp] theorem State.writeBuffers_kept (s : State) (h : Nat) (first : Bool) (y3 : List Nat) (y4 : List (List Byte)) :
    (State.writeBuffers s h first y3 y4).kept = s.kept := by
  induction y4 generalizing s h first y3 with
  | nil => simp [State.writeBuffers]
  | cons a l ih => simp [State.writeBuffers, ih]

@[simp] theorem execHostRxDelivery_kept (addrs : List Nat) (s : State) {k : Kept} (h : s.kept = k) :
    (execHostRxDelivery addrs s).keeps k := by
  subst h
  simp only [execHostRxDelivery]
  repeat' split
  all_goals simp
  all_goals exact State.popQueue_kept (by assumption)

end Sys2Proof.Machine
end

