-- ==== Sys2Proof/Laws/TblOps.lean ====
section
/-!
SUPPORT. Laws/TblOps.lean: what the operations of Machine/TblOps.lean keep (Laws/Kept.lean).
-/

namespace Sys2Proof.Machine

@[simp] theorem State.nextTblSeq_kept (s : State) :
    (State.nextTblSeq s).2.kept = s.kept := by
  simp [State.nextTblSeq]

@[simp] theorem State.tblCount_kept (s : State) (n : Nat) (c : Nat) (k : Nat) :
    (State.tblCount s n c k).kept = s.kept := by
  simp [State.tblCount]

@[simp] theorem State.tblGcount_kept (s : State) (k : Nat) :
    (State.tblGcount s k).kept = s.kept := by
  simp [State.tblGcount]

@[simp] theorem State.setCopy_kept (s : State) (dup : Bool) (slot : Nat) (e : List Byte) :
    (State.setCopy s dup slot e).kept = s.kept := by
  simp [State.setCopy]

@[simp] theorem State.setCopies_kept (s : State) (slot : Nat) (e : List Byte) :
    (State.setCopies s slot e).kept = s.kept := by
  simp [State.setCopies]

@[simp] theorem State.setTag_kept (s : State) (slot : Nat) (t : Nat) :
    (State.setTag s slot t).kept = s.kept := by
  simp [State.setTag]

@[simp] theorem State.setLines_kept (s : State) (set : Nat) (l : List (List Byte)) :
    (State.setLines s set l).kept = s.kept := by
  simp [State.setLines]

@[simp] theorem State.lineUpdate_kept (s : State) (e : List Byte) :
    (State.lineUpdate s e).kept = s.kept := by
  simp [State.lineUpdate]

@[simp] theorem State.lineDrop_kept (s : State) (p : Nat) (k : List Byte) :
    (State.lineDrop s p k).kept = s.kept := by
  simp [State.lineDrop]

@[simp] theorem State.lineHit_kept (s : State) (e : List Byte) :
    (State.lineHit s e).kept = s.kept := by
  simp [State.lineHit]

@[simp] theorem State.writeBackTs_kept (s : State) (e : List Byte) :
    (State.writeBackTs s e).kept = s.kept := by
  simp only [State.writeBackTs]
  split <;> simp

@[simp] theorem State.lineFill_kept (s : State) (e : List Byte) :
    (State.lineFill s e).kept = s.kept := by
  simp [State.lineFill]

@[simp] theorem State.touch_kept (s : State) (slot : Nat) :
    (State.touch s slot).kept = s.kept := by
  simp only [State.touch]
  split <;> simp

@[simp] theorem State.objAnswer_kept (s : State) (nhop : Nat) :
    (State.objAnswer s nhop).2.kept = s.kept := by
  simp only [State.objAnswer]
  repeat' split
  all_goals simp

@[simp] theorem State.setPress_kept (s : State) (b : Nat) (x : Press) :
    (State.setPress s b x).kept = s.kept := by
  simp [State.setPress]

@[simp] theorem State.resyncAsDonor_kept (s : State) :
    (State.resyncAsDonor s).kept = s.kept := by
  simp [State.resyncAsDonor]

@[simp] theorem State.pairNote_kept (s : State) (r : List Byte) :
    (State.pairNote s r).kept = s.kept := by
  simp [State.pairNote]

@[simp] theorem State.noteSet_kept (s : State) (slot : Nat) (e : List Byte) :
    (State.noteSet s slot e).kept = s.kept := by
  simp [State.noteSet]

@[simp] theorem State.noteDel_kept (s : State) (slot : Nat) (e : List Byte) (aged : Bool) (seq : Nat) :
    (State.noteDel s slot e aged seq).kept = s.kept := by
  simp [State.noteDel]

@[simp] theorem State.epAnswer_kept (s : State) (e : List Byte) :
    (State.epAnswer s e).1.kept = s.kept := by
  simp [State.epAnswer]

@[simp] theorem State.unpark_kept (s : State) (p : Parked) (r : List Byte × Bool × Bool) :
    (State.unpark s p r).kept = s.kept := by
  simp only [State.unpark]
  split <;> simp

@[simp] theorem State.resumeAll_kept (s : State) (i : Nat) (r : List Byte × Bool × Bool) :
    (State.resumeAll s i r).kept = s.kept := by
  simp only [State.resumeAll]
  split <;> simp

@[simp] theorem State.resolveStalls_kept (s : State) (p : Nat) (k : List Byte) (e : Option (List Byte)) :
    (State.resolveStalls s p k e).kept = s.kept := by
  simp only [State.resolveStalls]
  split <;> simp

@[simp] theorem State.epWrite_kept (s : State) (slot : Nat) (e : List Byte) :
    (State.epWrite s slot e).kept = s.kept := by
  simp [State.epWrite]

@[simp] theorem State.epClear_kept (s : State) (slot : Nat) :
    (State.epClear s slot).kept = s.kept := by
  simp [State.epClear]

@[simp] theorem State.epDelete_kept (s : State) (slot : Nat) (aged : Bool) :
    (State.epDelete s slot aged).kept = s.kept := by
  simp [State.epDelete]

@[simp] theorem State.epWriteNew_kept (s : State) (slot : Nat) (e : List Byte) :
    (State.epWriteNew s slot e).kept = s.kept := by
  simp [State.epWriteNew]

@[simp] theorem State.epMoveTo_kept (s : State) (src : Nat) (dst : Nat) :
    (State.epMoveTo s src dst).kept = s.kept := by
  simp [State.epMoveTo]

@[simp] theorem State.epMoves_kept (s : State) (f : Nat) (y2 : List Nat) :
    (State.epMoves s f y2).kept = s.kept := by
  induction y2 generalizing s f with
  | nil => simp [State.epMoves]
  | cons a l ih => simp [State.epMoves, ih]

theorem State.epInsert_kept {s t : State} {p i : Nat} {k : List Byte} (h : s.epInsert p k = some (i, t)) : t.kept = s.kept := by
  simp only [State.epInsert] at h
  repeat' split at h
  all_goals simp at h
  all_goals rw [← h.2]
  all_goals simp

@[simp] theorem State.tblInvalidate_kept (s : State) (set : Nat) :
    (State.tblInvalidate s set).kept = s.kept := by
  simp [State.tblInvalidate]

end Sys2Proof.Machine
end

