-- ==== Sys2Proof/Laws/Lookup.lean ====
section
/-!
SUPPORT. Laws/Lookup.lean: what the operations of Machine/Lookup.lean keep (Laws/Kept.lean).
-/

namespace Sys2Proof.Machine

@[simp] theorem State.overLimit_kept (s : State) (x : Ctx) :
    (State.overLimit s x).1.kept = s.kept := by
  simp [State.overLimit]

@[simp] theorem State.tableAnswer_kept (s : State) (x : Ctx) (detail : Nat) :
    (State.tableAnswer s x detail).1.kept = s.kept := by
  simp [State.tableAnswer]

@[simp] theorem State.tableNow_kept (s : State) (c : Nat) (op : Nat) (k : Nat) (max : Nat) (run : State → Ctx → State × List Byte × Bool × Bool) (hrun : ∀ (t0 : State) (u : Ctx), (run t0 u).1.kept = t0.kept) :
    (State.tableNow s c op k max run).kept = s.kept := by
  simp only [State.tableNow]
  split <;> simp [hrun]

theorem State.takeMissRead_kept {s t : State} {n : Nat} (h : s.takeMissRead n = some t) : t.kept = s.kept := by
  simp only [State.takeMissRead] at h
  split at h <;> simp at h
  rw [← h]
  simp

@[simp] theorem State.missAction_kept (s : State) (c : Nat) (x : Ctx) (part : Nat) (ovr : Bool) (answer : State → List Byte × Bool × Bool → State) (hanswer : ∀ (t0 : State) (u : List Byte × Bool × Bool), (answer t0 u).kept = t0.kept) :
    (State.missAction s c x part ovr answer).kept = s.kept := by
  simp [State.missAction, hanswer]

@[simp] theorem State.parkedAction_kept (s : State) (part : Nat) (ovr : Bool) (p : Parked) :
    (State.parkedAction s part ovr p).kept = s.kept := by
  simp only [State.parkedAction]
  split <;> simp

@[simp] theorem State.stallAction_kept (s : State) (i : Nat) (ovr : Bool) :
    (State.stallAction s i ovr).kept = s.kept := by
  simp only [State.stallAction]
  split <;> simp

@[simp] theorem State.epNow_kept (s : State) (c : Nat) (x : Ctx) (r : State × List Byte × Bool × Bool) :
    (s.epNow c x r).kept = r.1.kept := by
  simp [State.epNow]

@[simp] theorem State.epPark_kept (s : State) (c : Nat) (x : Ctx) (i : Nat) (st : MissStall) :
    (State.epPark s c x i st).kept = s.kept := by
  simp [State.epPark]

@[simp] theorem State.endpointLookup_kept (s : State) (c : Nat) (x : Ctx) : (s.endpointLookup c x).kept = s.kept := by
  unfold State.endpointLookup
  extract_lets p k ovr
  have h : ovr.kept = s.kept := by simp [ovr]
  clear_value ovr
  repeat' split
  all_goals simp [h]
  exact State.takeMissRead_kept (by assumption)

@[simp] theorem execEndpointLookup_kept (c : Nat) (s : State) {kk : Kept} (hkk : s.kept = kk) :
    (execEndpointLookup c s).keeps kk := by
  subst hkk
  simp only [execEndpointLookup]
  split <;> simp

@[simp] theorem State.nextCand_kept (s : State) (i : Nat) (st : MissStall) : (s.nextCand i st).kept = s.kept := by
  simp only [State.nextCand]
  repeat' split
  all_goals simp
  exact State.takeMissRead_kept (by assumption)

@[simp] theorem State.missFound_kept (s : State) (i : Nat) (e : List Byte) :
    (State.missFound s i e).kept = s.kept := by
  simp [State.missFound]

@[simp] theorem execMissReadReturn_kept (i : Nat) (dup : Bool) (err : Fin 3) (ch : Fin 16) (s : State) {kk : Kept} (hkk : s.kept = kk) :
    (execMissReadReturn i dup err ch s).keeps kk := by
  subst hkk
  simp only [execMissReadReturn]
  split <;> simp

@[simp] theorem execMissStallTimeout_kept (i : Nat) (s : State) {kk : Kept} (hkk : s.kept = kk) :
    (execMissStallTimeout i s).keeps kk := by
  subst hkk
  simp only [execMissStallTimeout]
  split <;> simp

@[simp] theorem State.routeLookup_kept (s : State) (x : Ctx) :
    (State.routeLookup s x).1.kept = s.kept := by
  simp only [State.routeLookup]
  repeat' split
  all_goals simp

@[simp] theorem execRouteLookup_kept (c : Nat) (s : State) {kk : Kept} (hkk : s.kept = kk) :
    (execRouteLookup c s).keeps kk := by
  subst hkk
  simp [execRouteLookup]

@[simp] theorem State.aclLookup_kept (s : State) (x : Ctx) :
    (State.aclLookup s x).1.kept = s.kept := by
  simp only [State.aclLookup]
  repeat' split
  all_goals simp

@[simp] theorem execAclLookup_kept (c : Nat) (s : State) {kk : Kept} (hkk : s.kept = kk) :
    (execAclLookup c s).keeps kk := by
  subst hkk
  simp only [execAclLookup]
  split <;> simp

@[simp] theorem State.setLearnQ_kept (s : State) (shard : Nat) (l : List Learn) :
    (State.setLearnQ s shard l).kept = s.kept := by
  simp [State.setLearnQ]

@[simp] theorem State.learnPost_kept (s : State) (x : Ctx) :
    (State.learnPost s x).1.kept = s.kept := by
  simp only [State.learnPost]
  repeat' split
  all_goals simp

@[simp] theorem execLearn_kept (c : Nat) (s : State) {kk : Kept} (hkk : s.kept = kk) :
    (execLearn c s).keeps kk := by
  subst hkk
  simp [execLearn]

end Sys2Proof.Machine
end

