-- ==== Sys2Proof/Laws/FlowOps.lean ====
section
/-!
SUPPORT. Laws/FlowOps.lean: what the operations of Machine/FlowOps.lean keep (Laws/Kept.lean).
-/

namespace Sys2Proof.Machine

@[simp] theorem State.setFlowHbm_kept (s : State) (i : Nat) (b : List Byte) :
    (State.setFlowHbm s i b).kept = s.kept := by
  simp [State.setFlowHbm]

@[simp] theorem State.setFlowLine_kept (s : State) (k : Nat) (l : FlowLine) :
    (State.setFlowLine s k l).kept = s.kept := by
  simp [State.setFlowLine]

@[simp] theorem State.flowChanged_kept (s : State) (i : Nat) :
    (State.flowChanged s i).kept = s.kept := by
  simp [State.flowChanged]

@[simp] theorem State.flowStore_kept (s : State) (i : Nat) (b : List Byte) :
    (State.flowStore s i b).kept = s.kept := by
  simp only [State.flowStore]
  split <;> simp

@[simp] theorem State.flowPut_kept (s : State) (i : Nat) (b : List Byte) :
    (State.flowPut s i b).kept = s.kept := by
  simp [State.flowPut]

@[simp] theorem State.flowWriteBack_kept (s : State) (l : FlowLine) :
    (State.flowWriteBack s l).kept = s.kept := by
  simp [State.flowWriteBack]

@[simp] theorem State.takeFlow_kept (s : State) (n : Nat) :
    (State.takeFlow s n).kept = s.kept := by
  simp [State.takeFlow]

@[simp] theorem State.flowFill_kept (s : State) (n : Nat) (i : Nat) (b : List Byte) :
    (State.flowFill s n i b).kept = s.kept := by
  simp only [State.flowFill]
  split <;> simp

@[simp] theorem State.flowTouch_kept (s : State) (i : Nat) :
    (State.flowTouch s i).kept = s.kept := by
  simp only [State.flowTouch]
  split <;> simp

@[simp] theorem State.flowCount_kept (s : State) (n : Nat) (c : Nat) (k : Nat) :
    (State.flowCount s n c k).kept = s.kept := by
  simp [State.flowCount]

@[simp] theorem State.notify_kept (s : State) (x : Ctx) (i : Nat) (c : FlowCtx) (f : FlowFrame) (d : Decision) :
    (State.notify s x i c f d).kept = s.kept := by
  simp [State.notify]

@[simp] theorem State.setMeter_kept (s : State) (k : Nat) (m : Meter) :
    (State.setMeter s k m).kept = s.kept := by
  simp [State.setMeter]

end Sys2Proof.Machine
end

