-- ==== Sys2Proof/Laws/FlowState.lean ====
section
/-!
SUPPORT. Laws/FlowState.lean: what the operations of Machine/FlowState.lean keep (Laws/Kept.lean).
-/

namespace Sys2Proof.Machine

@[simp] theorem State.flowPerform_kept (s : State) (x : Ctx) (op : Nat) (i : Nat) (imm : Nat) (data : List Byte) :
    (State.flowPerform s x op i imm data).1.kept = s.kept := by
  simp only [State.flowPerform]
  repeat' split
  all_goals simp

@[simp] theorem State.flowNow_kept (s : State) (c op : Nat) (x : Ctx) (r : State × List Byte × Bool × Bool) :
    (s.flowNow c op x r).kept = r.1.kept := by
  simp [State.flowNow]

@[simp] theorem State.flowResume_kept (s : State) (i : Nat) (frames : List Parked) :
    (State.flowResume s i frames).kept = s.kept := by
  simp only [State.flowResume]
  repeat' (first | split | (refine foldl_kept _ (fun _ _ => ?_) _ _))
  all_goals simp

@[simp] theorem State.dropFlowStall_kept (s : State) (j : Nat) :
    (State.dropFlowStall s j).kept = s.kept := by
  simp [State.dropFlowStall]

@[simp] theorem State.resolveFlow_kept (s : State) (i : Nat) :
    (State.resolveFlow s i).kept = s.kept := by
  simp [State.resolveFlow]

/-- With no stall for context i, nothing resumes. -/
theorem State.resolveFlow_none (s : State) (i : Nat) (h : s.flow.stalls.all (·.2.index != i) = true) :
    s.resolveFlow i = s := by
  have key : ∀ (l : List (Nat × FlowStall)) (t : State), l.all (·.2.index != i) = true →
      l.foldl (fun t e => if e.2.index = i then (t.dropFlowStall e.1).flowResume i e.2.frames else t) t = t := by
    intro l
    induction l with
    | nil => intros; rfl
    | cons e r ih =>
      intro t ht
      simp only [List.all_cons, Bool.and_eq_true, bne_iff_ne, ne_eq] at ht
      simp [ht.1, ih t (by simpa using ht.2)]
  exact key _ _ h

@[simp] theorem State.flowPark_kept (s : State) (c : Nat) (op : Nat) (x : Ctx) (j : Nat) (st : FlowStall) :
    (State.flowPark s c op x j st).kept = s.kept := by
  simp [State.flowPark]

@[simp] theorem State.flowAccess_kept (s : State) (c : Nat) (op : Nat) (x : Ctx) :
    (State.flowAccess s c op x).kept = s.kept := by
  simp only [State.flowAccess]
  repeat' split
  all_goals simp

@[simp] theorem State.flowOp_kept (s : State) (c : Nat) (op : Nat) :
    (State.flowOp s c op).kept = s.kept := by
  simp only [State.flowOp]
  split <;> simp

@[simp] theorem execFlowContextRead_kept (c : Nat) (s : State) {kk : Kept} (hkk : s.kept = kk) :
    (execFlowContextRead c s).keeps kk := by
  subst hkk
  simp [execFlowContextRead]

@[simp] theorem execFlowContextWrite_kept (c : Nat) (s : State) {kk : Kept} (hkk : s.kept = kk) :
    (execFlowContextWrite c s).keeps kk := by
  subst hkk
  simp [execFlowContextWrite]

@[simp] theorem execFlowStateUpdate_kept (c : Nat) (s : State) {kk : Kept} (hkk : s.kept = kk) :
    (execFlowStateUpdate c s).keeps kk := by
  subst hkk
  simp [execFlowStateUpdate]

@[simp] theorem State.flowRefuseAll_kept (s : State) (status : Nat) (k : Nat) (frames : List Parked) :
    (State.flowRefuseAll s status k frames).kept = s.kept := by
  simp only [State.flowRefuseAll]
  repeat' (first | split | (refine foldl_kept _ (fun _ _ => ?_) _ _))
  all_goals simp

@[simp] theorem execFlowMissReturn_kept (j : Nat) (ok : Bool) (ch : Fin 16) (s : State) {kk : Kept} (hkk : s.kept = kk) :
    (execFlowMissReturn j ok ch s).keeps kk := by
  subst hkk
  simp only [execFlowMissReturn]
  repeat' split
  all_goals simp

@[simp] theorem execFlowStallTimeout_kept (j : Nat) (s : State) {kk : Kept} (hkk : s.kept = kk) :
    (execFlowStallTimeout j s).keeps kk := by
  subst hkk
  simp only [execFlowStallTimeout]
  split <;> simp

@[simp] theorem State.flowInvalidate_kept (s : State) (set : Nat) :
    (State.flowInvalidate s set).kept = s.kept := by
  simp only [State.flowInvalidate]
  repeat' (first | split | (refine foldl_kept _ (fun _ _ => ?_) _ _))
  all_goals simp

@[simp] theorem State.flowAccReg_kept (s : State) (m : Master) (acc : Word) (run : Nat → State → State) (hrun : ∀ (t : Nat) (t0 : State), (run t t0).kept = t0.kept) :
    (State.flowAccReg s m acc run).kept = s.kept := by
  simp only [State.flowAccReg]
  split <;> simp [hrun]

@[simp] theorem State.flowAccRead_kept (s : State) (i : Nat) :
    (State.flowAccRead s i).kept = s.kept := by
  simp [State.flowAccRead]

@[simp] theorem State.flowAccWrite_kept (s : State) (i : Nat) :
    (State.flowAccWrite s i).kept = s.kept := by
  simp [State.flowAccWrite]

@[simp] theorem execFlowAccWrite_kept (m : Master) (acc : Word) (s : State) {kk : Kept} (hkk : s.kept = kk) :
    (execFlowAccWrite m acc s).keeps kk := by
  subst hkk
  simp [execFlowAccWrite]

@[simp] theorem execFlowAccRead_kept (m : Master) (acc : Word) (s : State) {kk : Kept} (hkk : s.kept = kk) :
    (execFlowAccRead m acc s).keeps kk := by
  subst hkk
  simp [execFlowAccRead]

@[simp] theorem State.flowCtlWrite_kept (s : State) (m : Master) (data : Word) :
    (State.flowCtlWrite s m data).kept = s.kept := by
  simp only [State.flowCtlWrite]
  repeat' split
  all_goals simp

@[simp] theorem execFlowClear_kept (m : Master) (data : Word) (s : State) {kk : Kept} (hkk : s.kept = kk) :
    (execFlowClear m data s).keeps kk := by
  subst hkk
  simp [execFlowClear]

@[simp] theorem execFlowClearDone_kept (s : State) {kk : Kept} (hkk : s.kept = kk) :
    (execFlowClearDone s).keeps kk := by
  subst hkk
  simp [execFlowClearDone]

@[simp] theorem State.flowRateWrite_kept (s : State) (m : Master) (n : Nat) (data : Word) :
    (State.flowRateWrite s m n data).kept = s.kept := by
  simp only [State.flowRateWrite]
  split <;> simp

@[simp] theorem execFlowRateWrite_kept (m : Master) (n : Fin 32) (data : Word) (s : State) {kk : Kept} (hkk : s.kept = kk) :
    (execFlowRateWrite m n data s).keeps kk := by
  subst hkk
  simp [execFlowRateWrite]

@[simp] theorem State.meterOp_kept (s : State) (x : Ctx) :
    (State.meterOp s x).1.kept = s.kept := by
  simp [State.meterOp]

@[simp] theorem execMeter_kept (c : Nat) (s : State) {kk : Kept} (hkk : s.kept = kk) :
    (execMeter c s).keeps kk := by
  subst hkk
  simp only [execMeter]
  split <;> simp

@[simp] theorem State.meterWrite_kept (s : State) (n : Nat) (i : Nat) :
    (State.meterWrite s n i).kept = s.kept := by
  simp [State.meterWrite]

@[simp] theorem State.meterRead_kept (s : State) (n : Nat) (i : Nat) :
    (State.meterRead s n i).kept = s.kept := by
  simp [State.meterRead]

@[simp] theorem State.poolAcc_kept (s : State) (m : Master) (n : Nat) (a : Nat) (off : Nat) (keep : Word) (acc : Word) (i : Nat) (run : State → State) (hrun : ∀ (t0 : State), (run t0).kept = t0.kept) :
    (State.poolAcc s m n a off keep acc i run).kept = s.kept := by
  simp [State.poolAcc, hrun]

@[simp] theorem execMeterConfigWrite_kept (m : Master) (n : Fin 32) (acc : Word) (s : State) {kk : Kept} (hkk : s.kept = kk) :
    (execMeterConfigWrite m n acc s).keeps kk := by
  subst hkk
  simp [execMeterConfigWrite]

@[simp] theorem execMeterConfigRead_kept (m : Master) (n : Fin 32) (acc : Word) (s : State) {kk : Kept} (hkk : s.kept = kk) :
    (execMeterConfigRead m n acc s).keeps kk := by
  subst hkk
  simp [execMeterConfigRead]

@[simp] theorem State.setCounter_kept (s : State) (k : Nat) (v : Nat × Nat) :
    (State.setCounter s k v).kept = s.kept := by
  simp [State.setCounter]

@[simp] theorem State.counterOp_kept (s : State) (x : Ctx) :
    (State.counterOp s x).1.kept = s.kept := by
  simp [State.counterOp]

@[simp] theorem execCounterAdd_kept (c : Nat) (s : State) {kk : Kept} (hkk : s.kept = kk) :
    (execCounterAdd c s).keeps kk := by
  subst hkk
  simp only [execCounterAdd]
  split <;> simp

@[simp] theorem State.counterWrite_kept (s : State) (n : Nat) (i : Nat) :
    (State.counterWrite s n i).kept = s.kept := by
  simp [State.counterWrite]

@[simp] theorem State.counterRead_kept (s : State) (n : Nat) (i : Nat) (clr : Bool) :
    (State.counterRead s n i clr).kept = s.kept := by
  simp [State.counterRead]

@[simp] theorem execCounterWrite_kept (m : Master) (n : Fin 32) (acc : Word) (s : State) {kk : Kept} (hkk : s.kept = kk) :
    (execCounterWrite m n acc s).keeps kk := by
  subst hkk
  simp [execCounterWrite]

@[simp] theorem execCounterRead_kept (m : Master) (n : Fin 32) (acc : Word) (s : State) {kk : Kept} (hkk : s.kept = kk) :
    (execCounterRead m n acc s).keeps kk := by
  subst hkk
  simp [execCounterRead]

end Sys2Proof.Machine
end

