-- ==== Sys2Proof/Laws/LaneOps.lean ====
section
/-!
SUPPORT. Laws/LaneOps.lean: what the operations of Machine/LaneOps.lean keep (Laws/Kept.lean).
-/

namespace Sys2Proof.Machine

@[simp] theorem State.setPortState_kept (s : State) (p : Nat) (dst : Nat) :
    (State.setPortState s p dst).kept = s.kept := by
  simp [State.setPortState]

@[simp] theorem State.portStop_kept (s : State) (p : Nat) :
    (State.portStop s p).kept = s.kept := by
  simp [State.portStop]

@[simp] theorem State.portFall_kept (s : State) (p : Nat) (since : Option Nat) :
    (State.portFall s p since).kept = s.kept := by
  simp [State.portFall]

@[simp] theorem State.linkLost_kept (s : State) (p : Nat) :
    (State.linkLost s p).kept = s.kept := by
  simp [State.linkLost]

@[simp] theorem State.alignLost_kept (s : State) (p : Nat) :
    (State.alignLost s p).kept = s.kept := by
  simp [State.alignLost]

@[simp] theorem State.safePort_kept (s : State) (p : Nat) :
    (State.safePort s p).kept = s.kept := by
  simp [State.safePort]

@[simp] theorem State.unsafePort_kept (s : State) (p : Nat) :
    (State.unsafePort s p).kept = s.kept := by
  simp [State.unsafePort]

@[simp] theorem State.setLane_kept (s : State) (l : Nat) (x : Lane) :
    (State.setLane s l x).kept = s.kept := by
  simp [State.setLane]

@[simp] theorem State.lanePrecode_kept (s : State) (l : Nat) :
    (State.lanePrecode s l).kept = s.kept := by
  simp [State.lanePrecode]

@[simp] theorem State.laneRestart_kept (s : State) (l : Nat) :
    (State.laneRestart s l).kept = s.kept := by
  simp [State.laneRestart]

@[simp] theorem State.lanesRestart_kept (s : State) (l : Nat) (n : Nat) :
    (State.lanesRestart s l n).kept = s.kept := by
  simp [State.lanesRestart]

@[simp] theorem State.laneLock_kept (s : State) (l : Nat) :
    (State.laneLock s l).kept = s.kept := by
  simp [State.laneLock]

@[simp] theorem State.lanePortLost_kept (s : State) (l : Nat) :
    (State.lanePortLost s l).kept = s.kept := by
  simp [State.lanePortLost]

@[simp] theorem State.laneStop_kept (s : State) (l : Nat) :
    (State.laneStop s l).kept = s.kept := by
  simp [State.laneStop]

end Sys2Proof.Machine
end

