-- ==== Sys2Proof/Laws/PairOps.lean ====
section
/-!
SUPPORT. Laws/PairOps.lean: what the operations of Machine/PairOps.lean keep (Laws/Kept.lean).
-/

namespace Sys2Proof.Machine

@[simp] theorem State.pairCount_kept (s : State) (k : Nat) (n : Nat) :
    (State.pairCount s k n).kept = s.kept := by
  simp [State.pairCount]

@[simp] theorem State.sendSolyen_kept (s : State) (type : Nat) (seq : Nat) (count : Nat) (payload : List Byte) :
    (State.sendSolyen s type seq count payload).kept = s.kept := by
  simp only [State.sendSolyen]
  split <;> simp

@[simp] theorem State.solyenRx_kept (s : State) (rail : Nat) (l : List Byte) (type : Nat) (run : State → SolyenRx → State) (hrun : ∀ (t0 : State) (u : SolyenRx), (run t0 u).kept = t0.kept) :
    (State.solyenRx s rail l type run).kept = s.kept := by
  simp [State.solyenRx, hrun]

@[simp] theorem State.setPairState_kept (s : State) (st : Nat) :
    (State.setPairState s st).kept = s.kept := by
  simp [State.setPairState]

@[simp] theorem State.enterAlone_kept (s : State) (term : Nat) :
    (State.enterAlone s term).kept = s.kept := by
  simp [State.enterAlone]

@[simp] theorem State.takeOver_kept (s : State) :
    (State.takeOver s).kept = s.kept := by
  simp [State.takeOver]

@[simp] theorem State.enterSync_kept (s : State) (term : Nat) (donor : Bool) (partner : Bool) (rx : Nat) :
    (State.enterSync s term donor partner rx).kept = s.kept := by
  simp [State.enterSync]

@[simp] theorem State.syncDone_kept (s : State) :
    (State.syncDone s).kept = s.kept := by
  simp [State.syncDone]

@[simp] theorem State.goodBeat_kept (s : State) (b : Beat) :
    (State.goodBeat s b).kept = s.kept := by
  simp [State.goodBeat]

@[simp] theorem State.enterMismatch_kept (s : State) :
    (State.enterMismatch s).kept = s.kept := by
  simp [State.enterMismatch]

@[simp] theorem State.pairSafeStart_kept (s : State) :
    (State.pairSafeStart s).kept = s.kept := by
  simp [State.pairSafeStart]

@[simp] theorem State.pairSafeEnd_kept (s : State) :
    (State.pairSafeEnd s).kept = s.kept := by
  simp [State.pairSafeEnd]

@[simp] theorem State.followSeq_kept (s : State) (eseq : Nat) :
    (State.followSeq s eseq).kept = s.kept := by
  simp [State.followSeq]

@[simp] theorem State.applySet_kept (s : State) (eseq : Nat) (body : List Byte) : (s.applySet eseq body).kept = s.kept := by
  simp only [State.applySet]
  repeat' split
  all_goals simp
  exact State.epInsert_kept (by assumption)

@[simp] theorem State.applyDel_kept (s : State) (aged : Bool) (eseq : Nat) (body : List Byte) :
    (State.applyDel s aged eseq body).kept = s.kept := by
  simp only [State.applyDel]
  split <;> simp

@[simp] theorem State.applyFlow_kept (s : State) (i : Nat) (body : List Byte) :
    (State.applyFlow s i body).kept = s.kept := by
  simp [State.applyFlow]

@[simp] theorem State.applyRecord_kept (s : State) (r : List Byte) :
    (State.applyRecord s r).kept = s.kept := by
  simp only [State.applyRecord]
  split <;> simp

@[simp] theorem State.sendNak_kept (s : State) :
    (State.sendNak s).kept = s.kept := by
  simp [State.sendNak]

@[simp] theorem State.applyAll_kept (s : State) (y1 : Nat) (y2 : Nat) (y3 : List Byte) :
    (State.applyAll s y1 y2 y3).kept = s.kept := by
  induction y1 generalizing s y2 y3 with
  | zero => simp [State.applyAll]
  | succ l ih => simp [State.applyAll, ih]

end Sys2Proof.Machine
end

