-- ==== Sys2Proof/Laws/FaultOps.lean ====
section
/-!
SUPPORT. Laws/FaultOps.lean: what the operations of Machine/FaultOps.lean keep (Laws/Kept.lean).
-/

namespace Sys2Proof.Machine

@[simp] theorem State.sliceSafe_kept (s : State) (n : Nat) :
    (State.sliceSafe s n).kept = s.kept := by
  simp [State.sliceSafe]

@[simp] theorem State.enterDeviceSafe_kept (s : State) :
    (State.enterDeviceSafe s).kept = s.kept := by
  simp [State.enterDeviceSafe]

@[simp] theorem State.takeSafe_kept (s : State) (y1 : Scope) :
    (State.takeSafe s y1).kept = s.kept := by
  simp only [State.takeSafe]
  split <;> simp

@[simp] theorem State.sliceResume_kept (s : State) (n : Nat) :
    (State.sliceResume s n).kept = s.kept := by
  simp [State.sliceResume]

@[simp] theorem State.releaseScope_kept (s : State) (y1 : Scope) :
    (State.releaseScope s y1).kept = s.kept := by
  simp only [State.releaseScope]
  split <;> simp

@[simp] theorem State.setRec_kept (s : State) (r : Nat) (x : FltRec) :
    (State.setRec s r x).kept = s.kept := by
  simp [State.setRec]

@[simp] theorem State.delRec_kept (s : State) (r : Nat) :
    (State.delRec s r).kept = s.kept := by
  simp [State.delRec]

@[simp] theorem State.fltCount_kept (s : State) (k : Nat) :
    (State.fltCount s k).kept = s.kept := by
  simp [State.fltCount]

@[simp] theorem State.mergeRec_kept (s : State) (i : Nat) (x : FltRec) (r : Report) (secondary : Bool) :
    (State.mergeRec s i x r secondary).kept = s.kept := by
  simp [State.mergeRec]

@[simp] theorem State.excludeTile_kept (s : State) (x : FltRec) (out : Bool) :
    (State.excludeTile s x out).kept = s.kept := by
  simp [State.excludeTile]

@[simp] theorem State.takeSpare_kept (s : State) (i : Nat) (x : FltRec) :
    (State.takeSpare s i x).kept = s.kept := by
  simp only [State.takeSpare]
  repeat' split
  all_goals simp

@[simp] theorem State.recServed_kept (s : State) (i : Nat) (x : FltRec) :
    (State.recServed s i x).kept = s.kept := by
  simp [State.recServed]

@[simp] theorem State.recLasting_kept (s : State) (i : Nat) (x : FltRec) :
    (State.recLasting s i x).kept = s.kept := by
  simp [State.recLasting]

@[simp] theorem State.ledgerLasting_kept (s : State) (x : FltRec) :
    (State.ledgerLasting s x).kept = s.kept := by
  simp [State.ledgerLasting]

@[simp] theorem State.markStore_kept (s : State) (src : Nat) (detail : Nat) :
    (State.markStore s src detail).kept = s.kept := by
  simp [State.markStore]

@[simp] theorem State.engFault_kept (s : State) (k : Nat) (word : Bool) (detail : Nat) :
    (State.engFault s k word detail).kept = s.kept := by
  simp [State.engFault]

@[simp] theorem State.journalLost_kept (s : State) (k : Nat) :
    (State.journalLost s k).kept = s.kept := by
  simp [State.journalLost]

@[simp] theorem State.reactCont_kept (s : State) (r : Report) :
    (State.reactCont s r).kept = s.kept := by
  simp only [State.reactCont]
  repeat' split
  all_goals simp

@[simp] theorem State.startHandling_kept (s : State) (i : Nat) (x : FltRec) :
    (State.startHandling s i x).kept = s.kept := by
  simp only [State.startHandling]
  repeat' split
  all_goals simp

@[simp] theorem State.openRec_kept (s : State) (round : Nat) (r : Report) :
    (State.openRec s round r).kept = s.kept := by
  simp [State.openRec]

@[simp] theorem State.loadFirst_kept (s : State) (round : Nat) (r : Report) :
    (State.loadFirst s round r).kept = s.kept := by
  simp [State.loadFirst]

@[simp] theorem State.takeReport_kept (s : State) (round : Nat) (r : Report) :
    (State.takeReport s round r).kept = s.kept := by
  simp only [State.takeReport]
  repeat' split
  all_goals simp

end Sys2Proof.Machine
end

