-- ==== Sys2Proof/Laws/PowerOps.lean ====
section
/-!
SUPPORT. Laws/PowerOps.lean: what the operations of Machine/PowerOps.lean keep (Laws/Kept.lean).
-/

namespace Sys2Proof.Machine

@[simp] theorem State.qpReset_kept (s : State) (h : Nat) : (s.qpReset h).kept = s.kept := by
  unfold State.qpReset
  extract_lets s1 s2 s3 l
  have h1 : s1.kept = s.kept := by simp [s1]
  have h2 : s2.kept = s1.kept := by simp [s2]
  have h3 : s3.kept = s2.kept := by simp [s3]
  clear_value l s3 s2 s1
  refine (foldl_kept _ (fun t x => ?_) _ _).trans ?_
  · split <;> simp
  · simp [h3, h2, h1]

@[simp] theorem State.pcieReset_kept (s : State) :
    (State.pcieReset s).kept = s.kept := by
  simp [State.pcieReset]

theorem kept_with_acl (s : State) (acl : Store (List Byte)) (pace : Store Pace) :
    ({ s with tbl := { s.tbl with acl := acl }, pace := pace } : State).kept = s.kept := rfl

@[simp] theorem State.pipeLost_kept (s : State) (n pipe : Nat) : (s.pipeLost n pipe).kept = s.kept := by
  unfold State.pipeLost
  extract_lets s1 x y s2
  have h1 : s1.kept = s.kept := by simp [s1]
  clear_value s1 y
  have h2 : s2.kept = s1.kept := by simp [s2]
  clear_value s2
  exact (kept_with_acl s2 _ _).trans (h2.trans h1)

@[simp] theorem State.hbmLost_kept (s : State) (st : Nat) :
    (State.hbmLost s st).kept = s.kept := by
  simp [State.hbmLost]

@[simp] theorem State.engineGone_kept (s : State) (k : Nat) :
    (State.engineGone s k).kept = s.kept := by
  simp [State.engineGone]

@[simp] theorem State.engineLost_kept (s : State) (k : Nat) :
    (State.engineLost s k).kept = s.kept := by
  simp [State.engineLost]

@[simp] theorem State.teleLost_kept (s : State) :
    (State.teleLost s).kept = s.kept := by
  simp [State.teleLost]

@[simp] theorem State.loseRegs_kept (s : State) (p : Nat → Bool) :
    (State.loseRegs s p).kept = s.kept := by
  simp [State.loseRegs]

@[simp] theorem State.domainLost_kept (s : State) (d : Nat) :
    (State.domainLost s d).kept = s.kept := by
  simp only [State.domainLost]
  repeat' split
  all_goals simp

@[simp] theorem State.wakeParties_kept (s : State) (p : Nat → Bool) :
    (State.wakeParties s p).kept = s.kept := by
  simp [State.wakeParties]

@[simp] theorem State.loadImage_kept (s : State) (k : Nat) (x : EngImage) :
    (State.loadImage s k x).kept = s.kept := by
  simp [State.loadImage]

@[simp] theorem State.engineBack_kept (s : State) (k : Nat) (run : Bool) :
    (State.engineBack s k run).kept = s.kept := by
  simp only [State.engineBack]
  split <;> simp

@[simp] theorem State.domainUp_kept (s : State) (d : Nat) (woken : Bool) :
    (State.domainUp s d woken).kept = s.kept := by
  simp [State.domainUp]

@[simp] theorem State.powerUp_kept (s : State) :
    (State.powerUp s).kept = s.kept := by
  simp [State.powerUp]

@[simp] theorem State.coreRegs_kept (s : State) :
    (State.coreRegs s).kept = s.kept := by
  simp [State.coreRegs]

@[simp] theorem State.coreReset_kept (s : State) (cause : Nat) :
    (State.coreReset s cause).kept = s.kept := by
  simp [State.coreReset]

@[simp] theorem State.resetCore_kept (s : State) (cause : Nat) :
    (State.resetCore s cause).kept = s.kept := by
  simp [State.resetCore]

@[simp] theorem State.engineReset_kept (s : State) (k : Nat) :
    (State.engineReset s k).kept = s.kept := by
  simp [State.engineReset]

end Sys2Proof.Machine
end

