-- ==== Sys2Proof/Laws/Boot.lean ====
section
/-!
SUPPORT. Laws/Boot.lean: what the operations of Machine/Boot.lean keep (Laws/Kept.lean).
-/

namespace Sys2Proof.Machine

@[simp] theorem State.newNonce_kept (s : State) :
    (State.newNonce s).kept = s.kept := by
  simp [State.newNonce]

@[simp] theorem State.bootEnd_kept (s : State) (code : Nat) :
    (State.bootEnd s code).kept = s.kept := by
  simp [State.bootEnd]

@[simp] theorem State.keyInstall_kept (s : State) (slot : Nat) (keys : List Byte) :
    (State.keyInstall s slot keys).1.kept = s.kept := by
  simp [State.keyInstall]

@[simp] theorem State.bootCmd_kept (s : State) (m : Master) (cmd : Nat) (arg : Nat) :
    (State.bootCmd s m cmd arg).kept = s.kept := by
  simp [State.bootCmd]

@[simp] theorem execBootLoad_kept (m : Master) (s : State) {kk : Kept} (hkk : s.kept = kk) :
    (execBootLoad m s).keeps kk := by
  subst hkk
  simp [execBootLoad]

@[simp] theorem execBootRequest_kept (m : Master) (s : State) {kk : Kept} (hkk : s.kept = kk) :
    (execBootRequest m s).keeps kk := by
  subst hkk
  simp [execBootRequest]

@[simp] theorem execInstall_kept (m : Master) (arg : Fin 16) (s : State) {kk : Kept} (hkk : s.kept = kk) :
    (execInstall m arg s).keeps kk := by
  subst hkk
  simp [execInstall]

@[simp] theorem execFlashWrite_kept (m : Master) (arg : Fin 16) (s : State) {kk : Kept} (hkk : s.kept = kk) :
    (execFlashWrite m arg s).keeps kk := by
  subst hkk
  simp [execFlashWrite]

@[simp] theorem execBootVerify_kept (m : Master) (s : State) {kk : Kept} (hkk : s.kept = kk) :
    (execBootVerify m s).keeps kk := by
  subst hkk
  simp [execBootVerify]

@[simp] theorem execBootCmdReserved_kept (m : Master) (cmd : Fin 16) (s : State) {kk : Kept} (hkk : s.kept = kk) :
    (execBootCmdReserved m cmd s).keeps kk := by
  subst hkk
  simp [execBootCmdReserved]

@[simp] theorem State.installKeyBlock_kept (s : State) :
    (State.installKeyBlock s).kept = s.kept := by
  simp [State.installKeyBlock]

@[simp] theorem State.readFlash_kept (s : State) (slot : Nat) :
    (State.readFlash s slot).kept = s.kept := by
  simp [State.readFlash]

@[simp] theorem execFlashBoot_kept (s : State) {kk : Kept} (hkk : s.kept = kk) :
    (execFlashBoot s).keeps kk := by
  subst hkk
  simp [execFlashBoot]

@[simp] theorem State.slotFailed_kept (s : State) (slot : Nat) (code : Nat) :
    (State.slotFailed s slot code).kept = s.kept := by
  simp [State.slotFailed]

@[simp] theorem State.bootFail_kept (s : State) (o : BootOp) (code : Nat) :
    (State.bootFail s o code).kept = s.kept := by
  simp only [State.bootFail]
  split <;> simp

@[simp] theorem State.bootPhase_kept (s : State) (o : BootOp) (ph : BootPhase) (b : List Byte) :
    (State.bootPhase s o ph b).kept = s.kept := by
  simp [State.bootPhase]

@[simp] theorem execBootFetchDone_kept (bytes : Option (List Byte)) (s : State) {kk : Kept} (hkk : s.kept = kk) :
    (execBootFetchDone bytes s).keeps kk := by
  subst hkk
  simp only [execBootFetchDone]
  repeat' split
  all_goals simp

@[simp] theorem State.writeEngines_kept (s : State) (b : List Byte) (run : Bool) :
    (State.writeEngines s b run).kept = s.kept := by
  simp [State.writeEngines]

@[simp] theorem execBootWriteDone_kept (s : State) {kk : Kept} (hkk : s.kept = kk) :
    (execBootWriteDone s).keeps kk := by
  subst hkk
  simp only [execBootWriteDone]
  repeat' split
  all_goals simp

@[simp] theorem execFlashWriteDone_kept (s : State) {kk : Kept} (hkk : s.kept = kk) :
    (execFlashWriteDone s).keeps kk := by
  subst hkk
  simp only [execFlashWriteDone]
  repeat' split
  all_goals simp

end Sys2Proof.Machine
end

