-- ==== Sys2Proof/Laws/StageRegs.lean ====
section
/-!
SUPPORT. Laws/StageRegs.lean: what the operations of Machine/StageRegs.lean keep (Laws/Kept.lean).
-/

namespace Sys2Proof.Machine

@[simp] theorem State.bankWr_kept (s : State) (n : Nat) :
    (State.bankWr s n).kept = s.kept := by
  simp [State.bankWr]

@[simp] theorem State.writeActive_kept (s : State) (n : Nat) (kind : Nat) (pipe : Nat) (stage : Nat) (off : Nat) (l : List Byte) :
    (State.writeActive s n kind pipe stage off l).kept = s.kept := by
  simp [State.writeActive]

@[simp] theorem State.setRW_kept (s : State) (a : Nat) (mask : Word) (data : Word) :
    (State.setRW s a mask data).kept = s.kept := by
  simp [State.setRW]

@[simp] theorem execCsWordWrite_kept (m : Master) (n : Fin 32) (acc : Word) (s : State) {kk : Kept} (hkk : s.kept = kk) :
    (execCsWordWrite m n acc s).keeps kk := by
  subst hkk
  simp [execCsWordWrite]

@[simp] theorem execCsWordRead_kept (m : Master) (n : Fin 32) (acc : Word) (s : State) {kk : Kept} (hkk : s.kept = kk) :
    (execCsWordRead m n acc s).keeps kk := by
  subst hkk
  simp [execCsWordRead]

@[simp] theorem execLbEntryWrite_kept (m : Master) (n : Fin 32) (acc : Word) (s : State) {kk : Kept} (hkk : s.kept = kk) :
    (execLbEntryWrite m n acc s).keeps kk := by
  subst hkk
  simp [execLbEntryWrite]

@[simp] theorem execLbEntryRead_kept (m : Master) (n : Fin 32) (acc : Word) (s : State) {kk : Kept} (hkk : s.kept = kk) :
    (execLbEntryRead m n acc s).keeps kk := by
  subst hkk
  simp [execLbEntryRead]

@[simp] theorem execMirrorCfg1Write_kept (m : Master) (n : Fin 32) (i : Fin 16) (data : Word) (s : State) {kk : Kept} (hkk : s.kept = kk) :
    (execMirrorCfg1Write m n i data s).keeps kk := by
  subst hkk
  simp [execMirrorCfg1Write]

@[simp] theorem execSliceScrub_kept (m : Master) (n : Fin 32) (s : State) {kk : Kept} (hkk : s.kept = kk) :
    (execSliceScrub m n s).keeps kk := by
  subst hkk
  simp [execSliceScrub]

@[simp] theorem State.sliceScrubDone_kept (s : State) (n : Nat) :
    (State.sliceScrubDone s n).kept = s.kept := by
  simp [State.sliceScrubDone]

end Sys2Proof.Machine
end

