-- ==== Sys2Proof/Laws/EngRegs.lean ====
section
/-!
SUPPORT. Laws/EngRegs.lean: what the operations of Machine/EngRegs.lean keep (Laws/Kept.lean).
-/

namespace Sys2Proof.Machine

@[simp] theorem State.engRun_kept (s : State) (k : Nat) :
    (State.engRun s k).kept = s.kept := by
  simp [State.engRun]

@[simp] theorem State.engAskHalt_kept (s : State) (k : Nat) :
    (State.engAskHalt s k).kept = s.kept := by
  simp [State.engAskHalt]

@[simp] theorem State.mgeCtlWrite_kept (s : State) (m : Master) (k : Nat) (data : Word) :
    (State.mgeCtlWrite s m k data).kept = s.kept := by
  simp [State.mgeCtlWrite]

@[simp] theorem execEngineRun_kept (m : Master) (k : Fin 4) (data : Word) (s : State) {kk : Kept} (hkk : s.kept = kk) :
    (execEngineRun m k data s).keeps kk := by
  subst hkk
  simp [execEngineRun]

@[simp] theorem execEngineHaltRequest_kept (m : Master) (k : Fin 4) (data : Word) (s : State) {kk : Kept} (hkk : s.kept = kk) :
    (execEngineHaltRequest m k data s).keeps kk := by
  subst hkk
  simp [execEngineHaltRequest]

@[simp] theorem execEngineScrub_kept (m : Master) (k : Fin 4) (data : Word) (s : State) {kk : Kept} (hkk : s.kept = kk) :
    (execEngineScrub m k data s).keeps kk := by
  subst hkk
  simp [execEngineScrub]

@[simp] theorem execEngineHalted_kept (k : Fin 4) (s : State) {kk : Kept} (hkk : s.kept = kk) :
    (execEngineHalted k s).keeps kk := by
  subst hkk
  simp [execEngineHalted]

@[simp] theorem State.engScrubDone_kept (s : State) (k : Nat) :
    (State.engScrubDone s k).kept = s.kept := by
  simp [State.engScrubDone]

@[simp] theorem execScrubDone_kept (x : ScrubTarget) (s : State) {kk : Kept} (hkk : s.kept = kk) :
    (execScrubDone x s).keeps kk := by
  subst hkk
  simp only [execScrubDone]
  split <;> simp

@[simp] theorem State.engStoreRead_kept (s : State) (k : Nat) (acc : Word) :
    (State.engStoreRead s k acc).kept = s.kept := by
  simp [State.engStoreRead]

@[simp] theorem execEngineCsRead_kept (m : Master) (k : Fin 4) (acc : Word) (s : State) {kk : Kept} (hkk : s.kept = kk) :
    (execEngineCsRead m k acc s).keeps kk := by
  subst hkk
  simp [execEngineCsRead]

end Sys2Proof.Machine
end

