-- ==== Sys2Proof/Laws/PairLink.lean ====
section
/-!
SUPPORT. Laws/PairLink.lean: what the operations of Machine/PairLink.lean keep (Laws/Kept.lean).
-/

namespace Sys2Proof.Machine

@[simp] theorem execHeartbeatSend_kept (s : State) {kk : Kept} (hkk : s.kept = kk) :
    (execHeartbeatSend s).keeps kk := by
  subst hkk
  simp [execHeartbeatSend]

@[simp] theorem execHeartbeatRx_kept (rail : Fin 2) (frame : List Byte) (s : State) {kk : Kept} (hkk : s.kept = kk) :
    (execHeartbeatRx rail frame s).keeps kk := by
  subst hkk
  simp [execHeartbeatRx]

@[simp] theorem execHeartbeatWindowEnd_kept (s : State) {kk : Kept} (hkk : s.kept = kk) :
    (execHeartbeatWindowEnd s).keeps kk := by
  subst hkk
  simp [execHeartbeatWindowEnd]

@[simp] theorem execRecordsRx_kept (rail : Fin 2) (frame : List Byte) (s : State) {kk : Kept} (hkk : s.kept = kk) :
    (execRecordsRx rail frame s).keeps kk := by
  subst hkk
  simp [execRecordsRx]

@[simp] theorem execAckRx_kept (rail : Fin 2) (frame : List Byte) (s : State) {kk : Kept} (hkk : s.kept = kk) :
    (execAckRx rail frame s).keeps kk := by
  subst hkk
  simp [execAckRx]

@[simp] theorem execNakRx_kept (rail : Fin 2) (frame : List Byte) (s : State) {kk : Kept} (hkk : s.kept = kk) :
    (execNakRx rail frame s).keeps kk := by
  subst hkk
  simp [execNakRx]

@[simp] theorem execAckSend_kept (s : State) {kk : Kept} (hkk : s.kept = kk) :
    (execAckSend s).keeps kk := by
  subst hkk
  simp [execAckSend]

@[simp] theorem State.sendRecords_kept (s : State) (seq : Nat) (rs : List (List Byte)) :
    (State.sendRecords s seq rs).kept = s.kept := by
  simp [State.sendRecords]

@[simp] theorem execRecordSend_kept (s : State) {kk : Kept} (hkk : s.kept = kk) :
    (execRecordSend s).keeps kk := by
  subst hkk
  simp only [execRecordSend]
  repeat' split
  all_goals simp

@[simp] theorem State.makeRecord_kept (s : State) (r : List Byte) :
    (State.makeRecord s r).kept = s.kept := by
  simp [State.makeRecord]

@[simp] theorem State.resyncVisit_kept (s : State) (p : Nat) :
    (State.resyncVisit s p).kept = s.kept := by
  simp only [State.resyncVisit]
  repeat' split
  all_goals simp

@[simp] theorem State.flowVisit_kept (s : State) :
    (State.flowVisit s).kept = s.kept := by
  simp only [State.flowVisit]
  split <;> simp

@[simp] theorem State.meterVisit_kept (s : State) :
    (State.meterVisit s).kept = s.kept := by
  simp [State.meterVisit]

@[simp] theorem State.counterVisit_kept (s : State) :
    (State.counterVisit s).kept = s.kept := by
  simp [State.counterVisit]

@[simp] theorem execSweepVisit_kept (k : Fin 4) (s : State) {kk : Kept} (hkk : s.kept = kk) :
    (execSweepVisit k s).keeps kk := by
  subst hkk
  simp only [execSweepVisit]
  repeat' split
  all_goals simp

@[simp] theorem execDataRx_kept (rail : Fin 2) (frame : List Byte) (s : State) {kk : Kept} (hkk : s.kept = kk) :
    (execDataRx rail frame s).keeps kk := by
  subst hkk
  simp [execDataRx]

@[simp] theorem execRailChange_kept (rail : Fin 2) (aligned : Bool) (lf : Bool) (rf : Bool) (s : State) {kk : Kept} (hkk : s.kept = kk) :
    (execRailChange rail aligned lf rf s).keeps kk := by
  subst hkk
  simp [execRailChange]

@[simp] theorem State.pairCtlWrite_kept (s : State) (data : Word) :
    (State.pairCtlWrite s data).kept = s.kept := by
  simp [State.pairCtlWrite]

@[simp] theorem execPairEnable_kept (m : Master) (data : Word) (s : State) {kk : Kept} (hkk : s.kept = kk) :
    (execPairEnable m data s).keeps kk := by
  subst hkk
  simp [execPairEnable]

@[simp] theorem execPairDisable_kept (m : Master) (data : Word) (s : State) {kk : Kept} (hkk : s.kept = kk) :
    (execPairDisable m data s).keeps kk := by
  subst hkk
  simp [execPairDisable]

@[simp] theorem State.pairTakeover_kept (s : State) :
    (State.pairTakeover s).kept = s.kept := by
  simp [State.pairTakeover]

@[simp] theorem State.pairResync_kept (s : State) :
    (State.pairResync s).kept = s.kept := by
  simp [State.pairResync]

@[simp] theorem execPairTakeover_kept (m : Master) (s : State) {kk : Kept} (hkk : s.kept = kk) :
    (execPairTakeover m s).keeps kk := by
  subst hkk
  simp [execPairTakeover]

@[simp] theorem execResync_kept (m : Master) (s : State) {kk : Kept} (hkk : s.kept = kk) :
    (execResync m s).keeps kk := by
  subst hkk
  simp [execResync]

@[simp] theorem State.pairRateWrite_kept (s : State) (i : Nat) (data : Word) :
    (State.pairRateWrite s i data).kept = s.kept := by
  simp [State.pairRateWrite]

@[simp] theorem execPairRateWrite_kept (m : Master) (i : Fin 2) (data : Word) (s : State) {kk : Kept} (hkk : s.kept = kk) :
    (execPairRateWrite m i data s).keeps kk := by
  subst hkk
  simp [execPairRateWrite]

end Sys2Proof.Machine
end

