-- ==== Sys2Proof/Laws/Ports.lean ====
section
/-!
SUPPORT. Laws/Ports.lean: what the operations of Machine/Ports.lean keep (Laws/Kept.lean).
-/

namespace Sys2Proof.Machine

@[simp] theorem State.portCtlWrite_kept (s : State) (p : Nat) (data : Word) :
    (State.portCtlWrite s p data).kept = s.kept := by
  simp [State.portCtlWrite]

@[simp] theorem State.portWrite_kept (s : State) (m : Master) (p : Nat) (a : Nat) (run : State → State) (hrun : ∀ (t0 : State), (run t0).kept = t0.kept) :
    (State.portWrite s m p a run).kept = s.kept := by
  simp [State.portWrite, hrun]

@[simp] theorem execPortEnable_kept (m : Master) (p : Fin 1024) (data : Word) (s : State) {kk : Kept} (hkk : s.kept = kk) :
    (execPortEnable m p data s).keeps kk := by
  subst hkk
  simp [execPortEnable]

@[simp] theorem execPortDisable_kept (m : Master) (p : Fin 1024) (data : Word) (s : State) {kk : Kept} (hkk : s.kept = kk) :
    (execPortDisable m p data s).keeps kk := by
  subst hkk
  simp [execPortDisable]

@[simp] theorem execForceLf_kept (m : Master) (p : Fin 1024) (data : Word) (s : State) {kk : Kept} (hkk : s.kept = kk) :
    (execForceLf m p data s).keeps kk := by
  subst hkk
  simp [execForceLf]

@[simp] theorem State.portFresh_kept (s : State) (p : Nat) :
    (State.portFresh s p).kept = s.kept := by
  simp [State.portFresh]

@[simp] theorem State.octetWrite_kept (s : State) (k : Nat) (data : Word) :
    (State.octetWrite s k data).kept = s.kept := by
  simp [State.octetWrite]

@[simp] theorem execOctetModeWrite_kept (m : Master) (k : Fin 128) (data : Word) (s : State) {kk : Kept} (hkk : s.kept = kk) :
    (execOctetModeWrite m k data s).keeps kk := by
  subst hkk
  simp [execOctetModeWrite]

@[simp] theorem State.ctWrite_kept (s : State) (p : Nat) (data : Word) :
    (State.ctWrite s p data).kept = s.kept := by
  simp [State.ctWrite]

@[simp] theorem execCtStepWrite_kept (m : Master) (p : Fin 1024) (data : Word) (s : State) {kk : Kept} (hkk : s.kept = kk) :
    (execCtStepWrite m p data s).keeps kk := by
  subst hkk
  simp [execCtStepWrite]

@[simp] theorem execLinkFault_kept (p : Fin 1024) (lf : Bool) (rf : Bool) (s : State) {kk : Kept} (hkk : s.kept = kk) :
    (execLinkFault p lf rf s).keeps kk := by
  subst hkk
  simp [execLinkFault]

@[simp] theorem execPcsAligned_kept (p : Fin 1024) (s : State) {kk : Kept} (hkk : s.kept = kk) :
    (execPcsAligned p s).keeps kk := by
  subst hkk
  simp [execPcsAligned]

@[simp] theorem execLinkupDebounce_kept (p : Fin 1024) (s : State) {kk : Kept} (hkk : s.kept = kk) :
    (execLinkupDebounce p s).keeps kk := by
  subst hkk
  simp only [execLinkupDebounce]
  split <;> simp

end Sys2Proof.Machine
end

