-- ==== Sys2Proof/Laws/Power.lean ====
section
/-!
SUPPORT. Laws/Power.lean: what the operations of Machine/Power.lean keep (Laws/Kept.lean).
-/

namespace Sys2Proof.Machine

@[simp] theorem State.domQueue_kept (s : State) (d : Nat) (up : Bool) :
    (State.domQueue s d up).kept = s.kept := by
  simp [State.domQueue]

@[simp] theorem State.domResult_kept (s : State) (d : Nat) (result : Nat) (req : Bool) :
    (State.domResult s d result req).kept = s.kept := by
  simp [State.domResult]

@[simp] theorem State.domRequest_kept (s : State) (m : Master) (d : Nat) (on : Bool) :
    (State.domRequest s m d on).kept = s.kept := by
  simp [State.domRequest]

@[simp] theorem execDomainOffRequest_kept (m : Master) (d : Fin 148) (s : State) {kk : Kept} (hkk : s.kept = kk) :
    (execDomainOffRequest m d s).keeps kk := by
  subst hkk
  simp [execDomainOffRequest]

@[simp] theorem execDomainOnRequest_kept (m : Master) (d : Fin 148) (s : State) {kk : Kept} (hkk : s.kept = kk) :
    (execDomainOnRequest m d s).keeps kk := by
  subst hkk
  simp [execDomainOnRequest]

@[simp] theorem execDomainRampStart_kept (s : State) {kk : Kept} (hkk : s.kept = kk) :
    (execDomainRampStart s).keeps kk := by
  subst hkk
  simp only [execDomainRampStart]
  repeat' split
  all_goals simp

@[simp] theorem State.rampEnd_kept (s : State) (d : Nat) (st : Nat) :
    (State.rampEnd s d st).kept = s.kept := by
  simp [State.rampEnd]

@[simp] theorem execDomainRampDone_kept (d : Fin 148) (s : State) {kk : Kept} (hkk : s.kept = kk) :
    (execDomainRampDone d s).keeps kk := by
  subst hkk
  simp only [execDomainRampDone]
  split <;> simp

@[simp] theorem execDomainRampTimeout_kept (d : Fin 148) (s : State) {kk : Kept} (hkk : s.kept = kk) :
    (execDomainRampTimeout d s).keeps kk := by
  subst hkk
  simp only [execDomainRampTimeout]
  split <;> simp

@[simp] theorem State.cutWrite_kept (s : State) :
    (State.cutWrite s).kept = s.kept := by
  simp only [State.cutWrite]
  split <;> simp

@[simp] theorem State.restoreCounts_kept (s : State) :
    (State.restoreCounts s).kept = s.kept := by
  unfold State.restoreCounts
  repeat' split
  all_goals simp

@[simp] theorem execResetNAssert_kept (s : State) {kk : Kept} (hkk : s.kept = kk) :
    (execResetNAssert s).keeps kk := by
  subst hkk
  simp [execResetNAssert]

@[simp] theorem execResetNRelease_kept (bootSel : Bool) (s : State) {kk : Kept} (hkk : s.kept = kk) :
    (execResetNRelease bootSel s).keeps kk := by
  subst hkk
  simp [execResetNRelease]

@[simp] theorem State.devCore_kept (s : State) :
    (State.devCore s).kept = s.kept := by
  simp [State.devCore]

@[simp] theorem execCore_kept (m : Master) (s : State) {kk : Kept} (hkk : s.kept = kk) :
    (execCore m s).keeps kk := by
  subst hkk
  simp only [execCore]
  split <;> simp

@[simp] theorem execFatalResetTimer_kept (s : State) {kk : Kept} (hkk : s.kept = kk) :
    (execFatalResetTimer s).keeps kk := by
  subst hkk
  simp only [execFatalResetTimer]
  split <;> simp

@[simp] theorem State.shutDown_kept (s : State) :
    (State.shutDown s).kept = s.kept := by
  simp [State.shutDown]

@[simp] theorem execShutdown_kept (m : Master) (s : State) {kk : Kept} (hkk : s.kept = kk) :
    (execShutdown m s).keeps kk := by
  subst hkk
  simp only [execShutdown]
  split <;> simp

@[simp] theorem execShutdownComplete_kept (s : State) {kk : Kept} (hkk : s.kept = kk) :
    (execShutdownComplete s).keeps kk := by
  subst hkk
  simp [execShutdownComplete]

@[simp] theorem State.devEng_kept (s : State) (bits : Nat) :
    (State.devEng s bits).kept = s.kept := by
  simp [State.devEng]

@[simp] theorem execEng_kept (m : Master) (bits : BitVec 4) (s : State) {kk : Kept} (hkk : s.kept = kk) :
    (execEng m bits s).keeps kk := by
  subst hkk
  simp only [execEng]
  split <;> simp

@[simp] theorem execPerstN_kept (pin : Bool) (s : State) {kk : Kept} (hkk : s.kept = kk) :
    (execPerstN pin s).keeps kk := by
  subst hkk
  simp [execPerstN]

@[simp] theorem execPerstNRelease_kept (s : State) {kk : Kept} (hkk : s.kept = kk) :
    (execPerstNRelease s).keeps kk := by
  subst hkk
  simp [execPerstNRelease]

end Sys2Proof.Machine
end

