-- ==== Sys2Proof/Laws/Attest.lean ====
section
/-!
SUPPORT. Laws/Attest.lean: what the operations of Machine/Attest.lean keep (Laws/Kept.lean).
-/

namespace Sys2Proof.Machine

@[simp] theorem State.lmsUse_kept (s : State) :
    (State.lmsUse s).kept = s.kept := by
  simp [State.lmsUse]

@[simp] theorem State.attPlace_kept (s : State) (report : List Byte) (holder : Nat) :
    (State.attPlace s report holder).kept = s.kept := by
  simp [State.attPlace]

@[simp] theorem State.attFree_kept (s : State) :
    (State.attFree s).kept = s.kept := by
  simp [State.attFree]

@[simp] theorem execAttestRequest_kept (i : Fin 256) (s : State) {kk : Kept} (hkk : s.kept = kk) :
    (execAttestRequest i s).keeps kk := by
  subst hkk
  simp only [execAttestRequest]
  repeat' (first | split | (refine foldl_kept _ (fun _ _ => ?_) _ _))
  all_goals simp

@[simp] theorem execAttestReply_kept (s : State) {kk : Kept} (hkk : s.kept = kk) :
    (execAttestReply s).keeps kk := by
  subst hkk
  simp only [execAttestReply]
  split <;> simp

@[simp] theorem execAttestRelease_kept (m : Master) (s : State) {kk : Kept} (hkk : s.kept = kk) :
    (execAttestRelease m s).keeps kk := by
  subst hkk
  simp [execAttestRelease]

@[simp] theorem execAttestWindowTimeout_kept (s : State) {kk : Kept} (hkk : s.kept = kk) :
    (execAttestWindowTimeout s).keeps kk := by
  subst hkk
  simp only [execAttestWindowTimeout]
  split <;> simp

@[simp] theorem execAttestToken_kept (s : State) {kk : Kept} (hkk : s.kept = kk) :
    (execAttestToken s).keeps kk := by
  subst hkk
  simp [execAttestToken]

end Sys2Proof.Machine
end

