-- ==== Sys2Proof/Laws/Faults.lean ====
section
/-!
SUPPORT. Laws/Faults.lean: what the operations of Machine/Faults.lean keep (Laws/Kept.lean).
-/

namespace Sys2Proof.Machine

@[simp] theorem execFaultReport_kept (src : Nat) (cls : FaultClass) (elem : Element) (detail : Nat) (tile : Nat) (s : State) {kk : Kept} (hkk : s.kept = kk) :
    (execFaultReport src cls elem detail tile s).keeps kk := by
  subst hkk
  simp [execFaultReport]

@[simp] theorem execCollectionRoundClose_kept (s : State) {kk : Kept} (hkk : s.kept = kk) :
    (execCollectionRoundClose s).keeps kk := by
  subst hkk
  simp only [execCollectionRoundClose]
  repeat' split
  all_goals simp

@[simp] theorem execShadowEnd_kept (r : Fin 64) (s : State) {kk : Kept} (hkk : s.kept = kk) :
    (execShadowEnd r s).keeps kk := by
  subst hkk
  simp only [execShadowEnd]
  repeat' split
  all_goals simp

@[simp] theorem execSelftestDone_kept (r : Nat) (pass : Bool) (s : State) {kk : Kept} (hkk : s.kept = kk) :
    (execSelftestDone r pass s).keeps kk := by
  subst hkk
  simp only [execSelftestDone]
  split <;> simp

@[simp] theorem execSpareRepairDone_kept (r : Nat) (s : State) {kk : Kept} (hkk : s.kept = kk) :
    (execSpareRepairDone r s).keeps kk := by
  subst hkk
  simp only [execSpareRepairDone]
  split <;> simp

@[simp] theorem State.firstClear_kept (s : State) :
    (State.firstClear s).kept = s.kept := by
  simp [State.firstClear]

@[simp] theorem execFirstFaultClear_kept (m : Master) (s : State) {kk : Kept} (hkk : s.kept = kk) :
    (execFirstFaultClear m s).keeps kk := by
  subst hkk
  simp [execFirstFaultClear]

@[simp] theorem State.recResult_kept (s : State) (v : Nat) :
    (State.recResult s v).kept = s.kept := by
  simp [State.recResult]

@[simp] theorem State.recClose_kept (s : State) (r : Nat) :
    (State.recClose s r).kept = s.kept := by
  simp only [State.recClose]
  repeat' split
  all_goals simp

@[simp] theorem execClose_kept (m : Master) (r : Fin 64) (s : State) {kk : Kept} (hkk : s.kept = kk) :
    (execClose m r s).keeps kk := by
  subst hkk
  simp [execClose]

@[simp] theorem State.recRelease_kept (s : State) (r : Nat) :
    (State.recRelease s r).kept = s.kept := by
  simp only [State.recRelease]
  split <;> simp

@[simp] theorem execRelease_kept (m : Master) (r : Fin 64) (s : State) {kk : Kept} (hkk : s.kept = kk) :
    (execRelease m r s).keeps kk := by
  subst hkk
  simp [execRelease]

@[simp] theorem State.recRepair_kept (s : State) (r : Nat) :
    (State.recRepair s r).kept = s.kept := by
  simp only [State.recRepair]
  split <;> simp

@[simp] theorem execRepair_kept (m : Master) (r : Fin 64) (s : State) {kk : Kept} (hkk : s.kept = kk) :
    (execRepair m r s).keeps kk := by
  subst hkk
  simp [execRepair]

@[simp] theorem execCollectorSelfcheckDone_kept (s : State) {kk : Kept} (hkk : s.kept = kk) :
    (execCollectorSelfcheckDone s).keeps kk := by
  subst hkk
  simp [execCollectorSelfcheckDone]

end Sys2Proof.Machine
end

