-- ==== Sys2Proof/Laws/HostQp.lean ====
section
/-!
SUPPORT. Laws/HostQp.lean: what the operations of Machine/HostQp.lean keep (Laws/Kept.lean).
-/

namespace Sys2Proof.Machine

@[simp] theorem State.qpCtlWrite_kept (s : State) (m : Master) (h : Nat) (data : Word) :
    (State.qpCtlWrite s m h data).kept = s.kept := by
  simp [State.qpCtlWrite]

@[simp] theorem execQpReset_kept (m : Master) (h : Fin 256) (data : Word) (s : State) {kk : Kept} (hkk : s.kept = kk) :
    (execQpReset m h data s).keeps kk := by
  subst hkk
  simp [execQpReset]

@[simp] theorem State.tailWrite_kept (s : State) (h : Nat) (tx : Bool) (data : Word) :
    (State.tailWrite s h tx data).kept = s.kept := by
  simp [State.tailWrite]

@[simp] theorem execQpTailWrite_kept (m : Master) (h : Fin 256) (tx : Bool) (data : Word) (s : State) {kk : Kept} (hkk : s.kept = kk) :
    (execQpTailWrite m h tx data s).keeps kk := by
  subst hkk
  simp [execQpTailWrite]

@[simp] theorem execHostTxFetch_kept (h : Fin 256) (addr : Nat) (len : Nat) (slice : Nat) (s : State) {kk : Kept} (hkk : s.kept = kk) :
    (execHostTxFetch h addr len slice s).keeps kk := by
  subst hkk
  simp [execHostTxFetch]

@[simp] theorem execDmaReadCompletion_kept (h : Fin 256) (bytes : Option (List Byte)) (s : State) {kk : Kept} (hkk : s.kept = kk) :
    (execDmaReadCompletion h bytes s).keeps kk := by
  subst hkk
  simp only [execDmaReadCompletion]
  repeat' split
  all_goals simp

@[simp] theorem execDmaCompletionTimeout_kept (h : Fin 256) (s : State) {kk : Kept} (hkk : s.kept = kk) :
    (execDmaCompletionTimeout h s).keeps kk := by
  subst hkk
  simp only [execDmaCompletionTimeout]
  split <;> simp

@[simp] theorem State.routingReset_kept (s : State) (fn : Nat) :
    (State.routingReset s fn).kept = s.kept := by
  simp [State.routingReset]

@[simp] theorem State.flr_kept (s : State) (fn : Nat) :
    (State.flr s fn).kept = s.kept := by
  simp [State.flr]

@[simp] theorem execFlrVf_kept (n : Fin 32) (s : State) {kk : Kept} (hkk : s.kept = kk) :
    (execFlrVf n s).keeps kk := by
  subst hkk
  simp [execFlrVf]

@[simp] theorem execFlrPf_kept (s : State) {kk : Kept} (hkk : s.kept = kk) :
    (execFlrPf s).keeps kk := by
  subst hkk
  simp [execFlrPf]

@[simp] theorem execPcieLinkDown_kept (s : State) {kk : Kept} (hkk : s.kept = kk) :
    (execPcieLinkDown s).keeps kk := by
  subst hkk
  simp [execPcieLinkDown]

@[simp] theorem execPcieLinkUp_kept (s : State) {kk : Kept} (hkk : s.kept = kk) :
    (execPcieLinkUp s).keeps kk := by
  subst hkk
  simp [execPcieLinkUp]

end Sys2Proof.Machine
end

