-- ==== Sys2Proof/Laws/Lanes.lean ====
section
/-!
SUPPORT. Laws/Lanes.lean: what the operations of Machine/Lanes.lean keep (Laws/Kept.lean).
-/

namespace Sys2Proof.Machine

@[simp] theorem State.setTaps_kept (s : State) (l : Nat) (t : Nat × Nat × Nat) :
    (State.setTaps s l t).kept = s.kept := by
  simp [State.setTaps]

@[simp] theorem State.txfirWrite_kept (s : State) (l : Nat) (data : Word) :
    (State.txfirWrite s l data).kept = s.kept := by
  simp [State.txfirWrite]

@[simp] theorem execLaneTxfirWrite_kept (m : Master) (l : Fin 1040) (data : Word) (s : State) {kk : Kept} (hkk : s.kept = kk) :
    (execLaneTxfirWrite m l data s).keeps kk := by
  subst hkk
  simp [execLaneTxfirWrite]

@[simp] theorem State.trainAnswer_kept (s : State) (l : Nat) (req : TrainReq) :
    (State.trainAnswer s l req).kept = s.kept := by
  simp only [State.trainAnswer]
  repeat' split
  all_goals simp

@[simp] theorem execTrainingFrameRx_kept (l : Fin 1040) (valid : Bool) (req : TrainReq) (s : State) {kk : Kept} (hkk : s.kept = kk) :
    (execTrainingFrameRx l valid req s).keeps kk := by
  subst hkk
  simp [execTrainingFrameRx]

@[simp] theorem execSignalLock_kept (l : Fin 1040) (s : State) {kk : Kept} (hkk : s.kept = kk) :
    (execSignalLock l s).keeps kk := by
  subst hkk
  simp [execSignalLock]

@[simp] theorem execTrainingDone_kept (l : Fin 1040) (ownPre : Bool) (s : State) {kk : Kept} (hkk : s.kept = kk) :
    (execTrainingDone l ownPre s).keeps kk := by
  subst hkk
  simp [execTrainingDone]

@[simp] theorem execTrainingTimeout_kept (l : Fin 1040) (s : State) {kk : Kept} (hkk : s.kept = kk) :
    (execTrainingTimeout l s).keeps kk := by
  subst hkk
  simp only [execTrainingTimeout]
  split <;> simp

@[simp] theorem execTrainingRestart_kept (l : Fin 1040) (s : State) {kk : Kept} (hkk : s.kept = kk) :
    (execTrainingRestart l s).keeps kk := by
  subst hkk
  simp only [execTrainingRestart]
  split <;> simp

@[simp] theorem execCdrLoss_kept (l : Fin 1040) (s : State) {kk : Kept} (hkk : s.kept = kk) :
    (execCdrLoss l s).keeps kk := by
  subst hkk
  simp [execCdrLoss]

@[simp] theorem State.laneCtlWrite_kept (s : State) (l : Nat) (data : Word) :
    (State.laneCtlWrite s l data).kept = s.kept := by
  simp [State.laneCtlWrite]

@[simp] theorem execLaneCtlWrite_kept (m : Master) (l : Fin 1040) (data : Word) (s : State) {kk : Kept} (hkk : s.kept = kk) :
    (execLaneCtlWrite m l data s).keeps kk := by
  subst hkk
  simp [execLaneCtlWrite]

@[simp] theorem execRefclkLost_kept (g : Fin 33) (s : State) {kk : Kept} (hkk : s.kept = kk) :
    (execRefclkLost g s).keeps kk := by
  subst hkk
  simp [execRefclkLost]

@[simp] theorem execPllLock_kept (g : Fin 33) (s : State) {kk : Kept} (hkk : s.kept = kk) :
    (execPllLock g s).keeps kk := by
  subst hkk
  simp only [execPllLock]
  repeat' split
  all_goals simp

@[simp] theorem State.injectBit_kept (s : State) (l : Nat) :
    (State.injectBit s l).kept = s.kept := by
  simp [State.injectBit]

@[simp] theorem State.lanePatWrite_kept (s : State) (l : Nat) (data : Word) :
    (State.lanePatWrite s l data).kept = s.kept := by
  simp [State.lanePatWrite]

@[simp] theorem execPatternWrite_kept (m : Master) (l : Fin 1040) (data : Word) (s : State) {kk : Kept} (hkk : s.kept = kk) :
    (execPatternWrite m l data s).keeps kk := by
  subst hkk
  simp [execPatternWrite]

@[simp] theorem execInjOne_kept (m : Master) (l : Fin 1040) (data : Word) (s : State) {kk : Kept} (hkk : s.kept = kk) :
    (execInjOne m l data s).keeps kk := by
  subst hkk
  simp [execInjOne]

@[simp] theorem execInjectPeriodic_kept (l : Fin 1040) (s : State) {kk : Kept} (hkk : s.kept = kk) :
    (execInjectPeriodic l s).keeps kk := by
  subst hkk
  simp only [execInjectPeriodic]
  split <;> simp

@[simp] theorem execCheckerLock_kept (l : Fin 1040) (s : State) {kk : Kept} (hkk : s.kept = kk) :
    (execCheckerLock l s).keeps kk := by
  subst hkk
  simp [execCheckerLock]

@[simp] theorem execCheckerLockLoss_kept (l : Fin 1040) (errs : Nat) (s : State) {kk : Kept} (hkk : s.kept = kk) :
    (execCheckerLockLoss l errs s).keeps kk := by
  subst hkk
  simp [execCheckerLockLoss]

@[simp] theorem State.checkBits_kept (s : State) (l : Nat) :
    (State.checkBits s l).kept = s.kept := by
  simp [State.checkBits]

@[simp] theorem State.margWrite_kept (s : State) (l : Nat) (data : Word) :
    (State.margWrite s l data).kept = s.kept := by
  simp [State.margWrite]

@[simp] theorem execMarginScanStart_kept (m : Master) (l : Fin 1040) (data : Word) (s : State) {kk : Kept} (hkk : s.kept = kk) :
    (execMarginScanStart m l data s).keeps kk := by
  subst hkk
  simp [execMarginScanStart]

@[simp] theorem execMarginScanDone_kept (l : Fin 1040) (errors : Word) (s : State) {kk : Kept} (hkk : s.kept = kk) :
    (execMarginScanDone l errors s).keeps kk := by
  subst hkk
  simp [execMarginScanDone]

@[simp] theorem execEyeRefresh_kept (l : Fin 1040) (eye : Word) (s : State) {kk : Kept} (hkk : s.kept = kk) :
    (execEyeRefresh l eye s).keeps kk := by
  subst hkk
  simp [execEyeRefresh]

end Sys2Proof.Machine
end

