-- ==== Sys2Proof/Laws/Ledger.lean ====
section
/-!
SUPPORT. Laws/Ledger.lean: what the operations of Machine/Ledger.lean keep (Laws/Kept.lean).
-/

namespace Sys2Proof.Machine

@[simp] theorem execSummaryHourly_kept (s : State) {kk : Kept} (hkk : s.kept = kk) :
    (execSummaryHourly s).keeps kk := by
  subst hkk
  simp [execSummaryHourly]

@[simp] theorem State.ledgerFlush_kept (s : State) :
    (State.ledgerFlush s).kept = s.kept := by
  simp [State.ledgerFlush]

@[simp] theorem execFlush_kept (m : Master) (s : State) {kk : Kept} (hkk : s.kept = kk) :
    (execFlush m s).keeps kk := by
  subst hkk
  simp [execFlush]

@[simp] theorem State.ledgerStored_kept (s : State) (w : LedWrite) :
    (State.ledgerStored s w).kept = s.kept := by
  simp [State.ledgerStored]

@[simp] theorem State.ledgerFailed_kept (s : State) (w : LedWrite) :
    (State.ledgerFailed s w).kept = s.kept := by
  simp [State.ledgerFailed]

@[simp] theorem State.ledgerDone_kept (s : State) (w : LedWrite) (ok : Bool) :
    (State.ledgerDone s w ok).kept = s.kept := by
  simp [State.ledgerDone]

@[simp] theorem execLedgerSummaryDone_kept (ok : Bool) (s : State) {kk : Kept} (hkk : s.kept = kk) :
    (execLedgerSummaryDone ok s).keeps kk := by
  subst hkk
  simp only [execLedgerSummaryDone]
  split <;> simp

@[simp] theorem execLedgerRecordDone_kept (ok : Bool) (s : State) {kk : Kept} (hkk : s.kept = kk) :
    (execLedgerRecordDone ok s).keeps kk := by
  subst hkk
  simp only [execLedgerRecordDone]
  split <;> simp

@[simp] theorem execLedgerFlushToken_kept (s : State) {kk : Kept} (hkk : s.kept = kk) :
    (execLedgerFlushToken s).keeps kk := by
  subst hkk
  simp [execLedgerFlushToken]

@[simp] theorem execLedgerRecordToken_kept (s : State) {kk : Kept} (hkk : s.kept = kk) :
    (execLedgerRecordToken s).keeps kk := by
  subst hkk
  simp [execLedgerRecordToken]

@[simp] theorem State.ledgerRead_kept (s : State) :
    (State.ledgerRead s).kept = s.kept := by
  simp [State.ledgerRead]

@[simp] theorem execLedgerDataRead_kept (m : Master) (s : State) {kk : Kept} (hkk : s.kept = kk) :
    (execLedgerDataRead m s).keeps kk := by
  subst hkk
  simp only [execLedgerDataRead]
  split <;> simp

end Sys2Proof.Machine
end

