-- ==== Sys2Proof/Laws/Skim.lean ====
section
/-!
SUPPORT. Laws/Skim.lean: what the operations of Machine/Skim.lean keep (Laws/Kept.lean).
-/

namespace Sys2Proof.Machine

@[simp] theorem execSpillStart_kept (q : Fin 20480) (s : State) {kk : Kept} (hkk : s.kept = kk) :
    (execSpillStart q s).keeps kk := by
  subst hkk
  simp only [execSpillStart]
  repeat' split
  all_goals simp

@[simp] theorem execSpillWriteAck_kept (f : Nat) (s : State) {kk : Kept} (hkk : s.kept = kk) :
    (execSpillWriteAck f s).keeps kk := by
  subst hkk
  simp only [execSpillWriteAck]
  split <;> simp

@[simp] theorem execReadbackStart_kept (q : Fin 20480) (s : State) {kk : Kept} (hkk : s.kept = kk) :
    (execReadbackStart q s).keeps kk := by
  subst hkk
  simp only [execReadbackStart]
  repeat' split
  all_goals simp

@[simp] theorem execReadbackDone_kept (f : Nat) (cells : Nat) (ok : Bool) (s : State) {kk : Kept} (hkk : s.kept = kk) :
    (execReadbackDone f cells ok s).keeps kk := by
  subst hkk
  simp only [execReadbackDone]
  repeat' split
  all_goals simp

end Sys2Proof.Machine
end

