-- ==== Sys2Proof/Laws/Tables.lean ====
section
/-!
SUPPORT. Laws/Tables.lean: what the operations of Machine/Tables.lean keep (Laws/Kept.lean).
-/

namespace Sys2Proof.Machine

@[simp] theorem State.tuWrite_kept (s : State) (m : Master) (port : Nat) (data : Word) :
    (State.tuWrite s m port data).kept = s.kept := by
  simp [State.tuWrite]

@[simp] theorem State.tuGo_kept (s : State) (m : Master) (port : Nat) (op : Nat) (cmd : Word) :
    (State.tuGo s m port op cmd).kept = s.kept := by
  simp [State.tuGo]

@[simp] theorem execTuReadIndex_kept (m : Master) (port : Fin 33) (cmd : Word) (s : State) {kk : Kept} (hkk : s.kept = kk) :
    (execTuReadIndex m port cmd s).keeps kk := by
  subst hkk
  simp [execTuReadIndex]

@[simp] theorem execTuWrite_kept (m : Master) (port : Fin 33) (cmd : Word) (s : State) {kk : Kept} (hkk : s.kept = kk) :
    (execTuWrite m port cmd s).keeps kk := by
  subst hkk
  simp [execTuWrite]

@[simp] theorem execTuDelete_kept (m : Master) (port : Fin 33) (cmd : Word) (s : State) {kk : Kept} (hkk : s.kept = kk) :
    (execTuDelete m port cmd s).keeps kk := by
  subst hkk
  simp [execTuDelete]

@[simp] theorem execTuReadKey_kept (m : Master) (port : Fin 33) (cmd : Word) (s : State) {kk : Kept} (hkk : s.kept = kk) :
    (execTuReadKey m port cmd s).keeps kk := by
  subst hkk
  simp [execTuReadKey]

@[simp] theorem State.tuAnswer_kept (s : State) (port : Nat) (l : List Byte) :
    (State.tuAnswer s port l).kept = s.kept := by
  simp [State.tuAnswer]

@[simp] theorem State.tuEndpoint_kept (s : State) (port : Nat) (u : UpCmd) : (s.tuEndpoint port u).2.kept = s.kept := by
  simp only [State.tuEndpoint]
  repeat' split
  all_goals simp
  exact State.epInsert_kept (by assumption)

@[simp] theorem State.pressAll_kept (s : State) (seq : Nat) (f : Press → Press) :
    (State.pressAll s seq f).kept = s.kept := by
  simp [State.pressAll]

@[simp] theorem State.tuRoute_kept (s : State) (port : Nat) (u : UpCmd) :
    (State.tuRoute s port u).2.kept = s.kept := by
  simp only [State.tuRoute]
  repeat' split
  all_goals simp

@[simp] theorem State.tuAcl_kept (s : State) (port : Nat) (u : UpCmd) :
    (State.tuAcl s port u).2.kept = s.kept := by
  simp [State.tuAcl]

@[simp] theorem State.tuMatch_kept (s : State) (port : Nat) (u : UpCmd) :
    (State.tuMatch s port u).2.kept = s.kept := by
  simp [State.tuMatch]

@[simp] theorem State.tuObject_kept (s : State) (port : Nat) (u : UpCmd) :
    (State.tuObject s port u).2.kept = s.kept := by
  simp only [State.tuObject]
  repeat' split
  all_goals simp

@[simp] theorem State.tuRun_kept (s : State) (port : Nat) (u : UpCmd) :
    (State.tuRun s port u).2.kept = s.kept := by
  simp only [State.tuRun]
  split <;> simp

@[simp] theorem execUpdateCmdDone_kept (port : Fin 33) (s : State) {kk : Kept} (hkk : s.kept = kk) :
    (execUpdateCmdDone port s).keeps kk := by
  subst hkk
  simp only [execUpdateCmdDone]
  split <;> simp

@[simp] theorem execObjectFree_kept (i : Fin 262144) (s : State) {kk : Kept} (hkk : s.kept = kk) :
    (execObjectFree i s).keeps kk := by
  subst hkk
  simp only [execObjectFree]
  split <;> simp

@[simp] theorem State.dampMove_kept (s : State) (slot : Nat) (e : List Byte) (l : Learn) :
    (State.dampMove s slot e l).kept = s.kept := by
  simp [State.dampMove]

@[simp] theorem State.learnApply_kept (s : State) (l : Learn) : (s.learnApply l).kept = s.kept := by
  simp only [State.learnApply]
  repeat' split
  all_goals simp
  exact State.epInsert_kept (by assumption)

@[simp] theorem execLearnApply_kept (shard : Fin 16) (s : State) {kk : Kept} (hkk : s.kept = kk) :
    (execLearnApply shard s).keeps kk := by
  subst hkk
  simp only [execLearnApply]
  repeat' split
  all_goals simp

@[simp] theorem execAgeTick_kept (s : State) {kk : Kept} (hkk : s.kept = kk) :
    (execAgeTick s).keeps kk := by
  subst hkk
  simp [execAgeTick]

@[simp] theorem State.compareCopies_kept (s : State) (slot : Nat) :
    (State.compareCopies s slot).kept = s.kept := by
  simp [State.compareCopies]

@[simp] theorem execChurnVisit_kept (s : State) {kk : Kept} (hkk : s.kept = kk) :
    (execChurnVisit s).keeps kk := by
  subst hkk
  simp [execChurnVisit]

@[simp] theorem execChurnCompareDelete_kept (slot : Nat) (s : State) {kk : Kept} (hkk : s.kept = kk) :
    (execChurnCompareDelete slot s).keeps kk := by
  subst hkk
  simp only [execChurnCompareDelete]
  split <;> simp

@[simp] theorem State.compareRoute_kept (s : State) (r : Route) :
    (State.compareRoute s r).kept = s.kept := by
  simp only [State.compareRoute]
  split <;> simp

@[simp] theorem execPressScrub_kept (s : State) {kk : Kept} (hkk : s.kept = kk) :
    (execPressScrub s).keeps kk := by
  subst hkk
  simp [execPressScrub]

@[simp] theorem execPressCompact_kept (b : Fin 8) (s : State) {kk : Kept} (hkk : s.kept = kk) :
    (execPressCompact b s).keeps kk := by
  subst hkk
  simp [execPressCompact]

@[simp] theorem State.missRateWrite_kept (s : State) (n : Nat) (data : Word) :
    (State.missRateWrite s n data).kept = s.kept := by
  simp [State.missRateWrite]

@[simp] theorem execMissRateWrite_kept (m : Master) (n : Fin 32) (data : Word) (s : State) {kk : Kept} (hkk : s.kept = kk) :
    (execMissRateWrite m n data s).keeps kk := by
  subst hkk
  simp [execMissRateWrite]

@[simp] theorem execFlapRecRead_kept (m : Master) (s : State) {kk : Kept} (hkk : s.kept = kk) :
    (execFlapRecRead m s).keeps kk := by
  subst hkk
  simp only [execFlapRecRead]
  split <;> simp

end Sys2Proof.Machine
end

