-- ==== Sys2Proof/Laws/TimeTele.lean ====
section
/-!
SUPPORT. Laws/TimeTele.lean: what the operations of Machine/TimeTele.lean keep (Laws/Kept.lean).
-/

namespace Sys2Proof.Machine

@[simp] theorem State.clockStep_kept (s : State) (data : Word) :
    (State.clockStep s data).kept = s.kept := by
  simp [State.clockStep]

@[simp] theorem execClockStep_kept (m : Master) (data : Word) (s : State) {kk : Kept} (hkk : s.kept = kk) :
    (execClockStep m data s).keeps kk := by
  subst hkk
  simp [execClockStep]

theorem kept_with_clk (s : State) (c : Nat) : ({ s with time := { s.time with clk := c } } : State).kept = s.kept := rfl

@[simp] theorem State.clockLoad_kept (s : State) : s.clockLoad.kept = s.kept := by
  unfold State.clockLoad
  extract_lets sec ns ovr ns' s1
  have h : s1.kept = s.kept := by simp only [s1]; split <;> rfl
  clear_value s1 ns'
  rw [State.setBit_kept]
  exact (kept_with_clk s1 _).trans h

@[simp] theorem State.timeCtlWrite_kept (s : State) (data : Word) :
    (State.timeCtlWrite s data).kept = s.kept := by
  simp [State.timeCtlWrite]

@[simp] theorem execClockLoad_kept (m : Master) (data : Word) (s : State) {kk : Kept} (hkk : s.kept = kk) :
    (execClockLoad m data s).keeps kk := by
  subst hkk
  simp [execClockLoad]

@[simp] theorem State.clockRead_kept (s : State) (m : Master) :
    (State.clockRead s m).2.kept = s.kept := by
  simp [State.clockRead]

@[simp] theorem execClockRead_kept (m : Master) (s : State) {kk : Kept} (hkk : s.kept = kk) :
    (execClockRead m s).keeps kk := by
  subst hkk
  simp [execClockRead]

@[simp] theorem State.ppsinRead_kept (s : State) (m : Master) :
    (State.ppsinRead s m).2.kept = s.kept := by
  simp [State.ppsinRead]

@[simp] theorem execPpsinRead_kept (m : Master) (s : State) {kk : Kept} (hkk : s.kept = kk) :
    (execPpsinRead m s).keeps kk := by
  subst hkk
  simp [execPpsinRead]

@[simp] theorem execPpsOutPulse_kept (s : State) {kk : Kept} (hkk : s.kept = kk) :
    (execPpsOutPulse s).keeps kk := by
  subst hkk
  simp [execPpsOutPulse]

@[simp] theorem execPpsOutEnd_kept (s : State) {kk : Kept} (hkk : s.kept = kk) :
    (execPpsOutEnd s).keeps kk := by
  subst hkk
  simp only [execPpsOutEnd]
  split <;> simp

@[simp] theorem execPpsInEdge_kept (s : State) {kk : Kept} (hkk : s.kept = kk) :
    (execPpsInEdge s).keeps kk := by
  subst hkk
  simp [execPpsInEdge]

@[simp] theorem State.tsqWrite_kept (s : State) (p : Nat) (data : Word) :
    (State.tsqWrite s p data).kept = s.kept := by
  simp [State.tsqWrite]

@[simp] theorem execTsqPop_kept (m : Master) (p : Fin 1024) (data : Word) (s : State) {kk : Kept} (hkk : s.kept = kk) :
    (execTsqPop m p data s).keeps kk := by
  subst hkk
  simp [execTsqPop]

@[simp] theorem State.setBin_kept (s : State) (b : Nat) (v : Nat) :
    (State.setBin s b v).kept = s.kept := by
  simp [State.setBin]

@[simp] theorem State.histSnap_kept (s : State) :
    (State.histSnap s).kept = s.kept := by
  simp [State.histSnap]

@[simp] theorem State.histWrite_kept (s : State) (data : Word) :
    (State.histWrite s data).kept = s.kept := by
  simp [State.histWrite]

@[simp] theorem execHistSnapshot_kept (m : Master) (data : Word) (s : State) {kk : Kept} (hkk : s.kept = kk) :
    (execHistSnapshot m data s).keeps kk := by
  subst hkk
  simp [execHistSnapshot]

@[simp] theorem execHistSnapshotDone_kept (s : State) {kk : Kept} (hkk : s.kept = kk) :
    (execHistSnapshotDone s).keeps kk := by
  subst hkk
  simp [execHistSnapshotDone]

@[simp] theorem execCollectorFlushTimeout_kept (j : Fin 8) (s : State) {kk : Kept} (hkk : s.kept = kk) :
    (execCollectorFlushTimeout j s).keeps kk := by
  subst hkk
  simp [execCollectorFlushTimeout]

end Sys2Proof.Machine
end

