-- ==== Sys2Proof/Laws/VatRegs.lean ====
section
/-!
SUPPORT. Laws/VatRegs.lean: what the operations of Machine/VatRegs.lean keep (Laws/Kept.lean).
-/

namespace Sys2Proof.Machine

@[simp] theorem execQueueSettingsWrite_kept (m : Master) (acc : Word) (s : State) {kk : Kept} (hkk : s.kept = kk) :
    (execQueueSettingsWrite m acc s).keeps kk := by
  subst hkk
  simp only [execQueueSettingsWrite]
  split <;> simp

@[simp] theorem execQueueRead_kept (m : Master) (acc : Word) (s : State) {kk : Kept} (hkk : s.kept = kk) :
    (execQueueRead m acc s).keeps kk := by
  subst hkk
  simp [execQueueRead]

@[simp] theorem execMcEntryWrite_kept (m : Master) (acc : Word) (s : State) {kk : Kept} (hkk : s.kept = kk) :
    (execMcEntryWrite m acc s).keeps kk := by
  subst hkk
  simp [execMcEntryWrite]

@[simp] theorem execMcEntryRead_kept (m : Master) (acc : Word) (s : State) {kk : Kept} (hkk : s.kept = kk) :
    (execMcEntryRead m acc s).keeps kk := by
  subst hkk
  simp [execMcEntryRead]

@[simp] theorem execMcGroupDrained_kept (s : State) {kk : Kept} (hkk : s.kept = kk) :
    (execMcGroupDrained s).keeps kk := by
  subst hkk
  simp [execMcGroupDrained]

@[simp] theorem State.writeVatCtl_kept (s : State) (m : Master) (data : Word) :
    (State.writeVatCtl s m data).kept = s.kept := by
  simp [State.writeVatCtl]

@[simp] theorem execVatModeWrite_kept (m : Master) (data : Word) (s : State) {kk : Kept} (hkk : s.kept = kk) :
    (execVatModeWrite m data s).keeps kk := by
  subst hkk
  simp [execVatModeWrite]

end Sys2Proof.Machine
end

