-- ==== Sys2Proof/Laws/RegRead.lean ====
section
/-!
SUPPORT. Laws/RegRead.lean: what the operations of Machine/RegRead.lean keep (Laws/Kept.lean).
-/

namespace Sys2Proof.Machine

@[simp] theorem outState_kept (o : Out) (s : State) (h : o.keeps s.kept) : (outState o s).kept = s.kept := by
  cases o with
  | next t => exact h
  | fault r => rfl
  | refused r => rfl

@[simp] theorem State.readWord_kept (s : State) (m : Master) (a : Nat) : (s.readWord m a).2.kept = s.kept := by
  simp only [State.readWord]
  repeat' split
  all_goals simp
  exact State.takeHold_kept (by assumption)

@[simp] theorem State.mbxRead_kept (s : State) (m : Master) (may : Bool) (index : Nat) (a : Nat) (run : State → Word × State) (hrun : ∀ (t0 : State), (run t0).2.kept = t0.kept) :
    (State.mbxRead s m may index a run).kept = s.kept := by
  simp [State.mbxRead, hrun]

@[simp] theorem State.messageRead_kept (s : State) (m : Master) (i : Nat) (j : Nat) :
    (State.messageRead s m i j).kept = s.kept := by
  simp [State.messageRead]

@[simp] theorem State.busRead_kept (s : State) (m : Master) (a : Nat) :
    (State.busRead s m a).kept = s.kept := by
  simp only [State.busRead]
  split <;> simp

end Sys2Proof.Machine
end

