-- ==== Sys2Proof/Laws/RegWrite.lean ====
section
/-!
SUPPORT. Laws/RegWrite.lean: what the operations of Machine/RegWrite.lean keep (Laws/Kept.lean).
-/

namespace Sys2Proof.Machine

@[simp] theorem State.codeWrite_kept (s : State) (m : Master) (a : Nat) (data : Word) :
    (State.codeWrite s m a data).kept = s.kept := by
  simp only [State.codeWrite]
  split <;> simp

@[simp] theorem State.accWrite_kept (s : State) (m : Master) (a : Nat) (data : Word) (rd : State → Out) (wr : State → Out) (hrd : ∀ (t0 : State), (rd t0).keeps t0.kept) (hwr : ∀ (t0 : State), (wr t0).keeps t0.kept) :
    (State.accWrite s m a data rd wr).kept = s.kept := by
  simp [State.accWrite, hrd, hwr]

@[simp] theorem State.bootFltWrite_kept (s : State) (m : Master) (a : Nat) (data : Word) :
    (State.bootFltWrite s m a data).kept = s.kept := by
  simp [State.bootFltWrite]

@[simp] theorem State.aonWrite_kept (s : State) (m : Master) (a : Nat) (data : Word) :
    (State.aonWrite s m a data).kept = s.kept := by
  unfold State.aonWrite
  repeat' (first | split | (refine State.gated_kept _ _ _ _ _ (fun _ => ?_)))
  all_goals simp (maxDischargeDepth := 6)

@[simp] theorem State.mbxStatWrite_kept (s : State) (m : Master) (i : Nat) (data : Word) :
    (State.mbxStatWrite s m i data).kept = s.kept := by
  simp [State.mbxStatWrite]

@[simp] theorem State.mbxWrite_kept (s : State) (m : Master) (a : Nat) (data : Word) :
    (State.mbxWrite s m a data).kept = s.kept := by
  unfold State.mbxWrite
  repeat' (first | split | (refine State.gated_kept _ _ _ _ _ (fun _ => ?_)))
  all_goals simp (maxDischargeDepth := 6)

@[simp] theorem State.msixWrite_kept (s : State) (m : Master) (o : Nat) (data : Word) :
    (State.msixWrite s m o data).kept = s.kept := by
  simp [State.msixWrite]

@[simp] theorem State.irtWrite_kept (s : State) (m : Master) (src : Nat) (data : Word) :
    (State.irtWrite s m src data).kept = s.kept := by
  simp only [State.irtWrite]
  split <;> simp

@[simp] theorem State.hostWrite_kept (s : State) (m : Master) (a : Nat) (data : Word) :
    (State.hostWrite s m a data).kept = s.kept := by
  simp [State.hostWrite]

@[simp] theorem State.coreWrite_kept (s : State) (m : Master) (a : Nat) (data : Word) :
    (State.coreWrite s m a data).kept = s.kept := by
  simp [State.coreWrite]

@[simp] theorem execLoaderCmd_kept (m : Master) (n : Fin 32) (cmd : Nat) (s : State) {kk : Kept} (hkk : s.kept = kk) :
    (execLoaderCmd m n cmd s).keeps kk := by
  subst hkk
  simp only [execLoaderCmd]
  split <;> simp

@[simp] theorem State.sliceWrite_kept (s : State) (m : Master) (k : Nat) (o : Nat) (a : Nat) (data : Word) :
    (State.sliceWrite s m k o a data).kept = s.kept := by
  unfold State.sliceWrite
  repeat' (first | split | (refine State.gated_kept _ _ _ _ _ (fun _ => ?_)))
  all_goals simp (maxDischargeDepth := 6)

@[simp] theorem State.portRegWrite_kept (s : State) (m : Master) (p : Nat) (o : Nat) (a : Nat) (data : Word) :
    (State.portRegWrite s m p o a data).kept = s.kept := by
  simp [State.portRegWrite]

@[simp] theorem State.laneRegWrite_kept (s : State) (m : Master) (l : Nat) (o : Nat) (a : Nat) (data : Word) :
    (State.laneRegWrite s m l o a data).kept = s.kept := by
  simp [State.laneRegWrite]

@[simp] theorem State.engRegWrite_kept (s : State) (m : Master) (k : Nat) (o : Nat) (a : Nat) (data : Word) :
    (State.engRegWrite s m k o a data).kept = s.kept := by
  simp [State.engRegWrite]

@[simp] theorem State.busWrite_kept (s : State) (m : Master) (a : Nat) (data : Word) :
    (State.busWrite s m a data).kept = s.kept := by
  simp only [State.busWrite]
  split <;> simp

end Sys2Proof.Machine
end

