-- ==== Sys2Proof/Laws/Access.lean ====
section
/-!
SUPPORT. Laws/Access.lean: what the operations of Machine/Access.lean keep (Laws/Kept.lean).
-/

namespace Sys2Proof.Machine

@[simp] theorem State.unmapped_kept (s : State) (m : Master) (a : Nat) :
    (State.unmapped s m a).kept = s.kept := by
  simp only [State.unmapped]
  split <;> simp

@[simp] theorem execRegisterWrite_kept (m : Master) (addr : Nat) (data : Word) (s : State) {kk : Kept} (hkk : s.kept = kk) :
    (execRegisterWrite m addr data s).keeps kk := by
  subst hkk
  simp [execRegisterWrite]

@[simp] theorem execWideLowRead_kept (m : Master) (addr : Nat) (s : State) {kk : Kept} (hkk : s.kept = kk) :
    (execWideLowRead m addr s).keeps kk := by
  subst hkk
  simp [execWideLowRead]

@[simp] theorem execClearOnRead_kept (m : Master) (addr : Nat) (s : State) {kk : Kept} (hkk : s.kept = kk) :
    (execClearOnRead m addr s).keeps kk := by
  subst hkk
  simp [execClearOnRead]

@[simp] theorem execUnmappedAccess_kept (m : Master) (addr : Nat) (write : Bool) (s : State) {kk : Kept} (hkk : s.kept = kk) :
    (execUnmappedAccess m addr write s).keeps kk := by
  subst hkk
  simp [execUnmappedAccess]

@[simp] theorem execBadShapeRequest_kept (m : Master) (write : Bool) (dwords : Nat) (s : State) {kk : Kept} (hkk : s.kept = kk) :
    (execBadShapeRequest m write dwords s).keeps kk := by
  subst hkk
  simp only [execBadShapeRequest]
  split <;> simp

end Sys2Proof.Machine
end

