-- ==== Sys2Proof/Laws/Engine.lean ====
section
/-!
SUPPORT. Laws/Engine.lean: what the operations of Machine/Engine.lean keep (Laws/Kept.lean).
-/

namespace Sys2Proof.Machine

@[simp] theorem State.freeBytes_kept (s : State) (n : Nat) :
    (State.freeBytes s n).2.kept = s.kept := by
  simp [State.freeBytes]

@[simp] theorem State.engRegister_kept (s : State) (k : Nat) (a : Nat) :
    (State.engRegister s k a).2.kept = s.kept := by
  simp [State.engRegister]

@[simp] theorem State.hbmBytes_kept (s : State) (a : Nat) (n : Nat) :
    (State.hbmBytes s a n).2.kept = s.kept := by
  simp [State.hbmBytes]

@[simp] theorem State.engRead_kept (s : State) (k : Nat) (space : Nat) (a : Nat) (n : Nat) :
    (State.engRead s k space a n).2.kept = s.kept := by
  simp only [State.engRead]
  repeat' split
  all_goals simp

@[simp] theorem State.engSlot_kept (s : State) (i : Nat) (off : Nat) (l : List Byte) :
    (State.engSlot s i off l).kept = s.kept := by
  simp [State.engSlot]

@[simp] theorem State.engFlow_kept (s : State) (i : Nat) (off : Nat) (l : List Byte) :
    (State.engFlow s i off l).kept = s.kept := by
  simp [State.engFlow]

@[simp] theorem State.entryStore_kept (s : State) (a : Nat) (l : List Byte) (one : State → Nat → Nat → List Byte → State) (hone : ∀ (t0 : State) (u : Nat) (v : Nat) (w : List Byte), (one t0 u v w).kept = t0.kept) :
    (State.entryStore s a l one).kept = s.kept := by
  simp [State.entryStore, hone]

@[simp] theorem State.engRoute_kept (s : State) :
    (State.engRoute s).kept = s.kept := by
  simp [State.engRoute]

@[simp] theorem State.engWrite_kept (s : State) (k : Nat) (space : Nat) (a : Nat) (l : List Byte) :
    (State.engWrite s k space a l).kept = s.kept := by
  simp only [State.engWrite]
  repeat' split
  all_goals simp

@[simp] theorem State.engMachineCheck_kept (s : State) (k : Nat) (key : Nat) :
    (State.engMachineCheck s k key).kept = s.kept := by
  simp [State.engMachineCheck]

@[simp] theorem State.engFetch_kept (s : State) (k : Nat) (run : State → State) (hrun : ∀ (t0 : State), (run t0).kept = t0.kept) :
    (State.engFetch s k run).kept = s.kept := by
  simp [State.engFetch, hrun]

@[simp] theorem State.stepError_kept (s : State) (k : Nat) :
    (State.stepError s k).kept = s.kept := by
  simp [State.stepError]

@[simp] theorem State.engLoad_kept (s : State) (k : Nat) (w : Nat) :
    (State.engLoad s k w).kept = s.kept := by
  simp [State.engLoad]

@[simp] theorem State.engStore_kept (s : State) (k : Nat) (w : Nat) :
    (State.engStore s k w).kept = s.kept := by
  simp [State.engStore]

@[simp] theorem State.engMem_kept (s : State) (k : Nat) (op : Nat) (run : State → State) (hrun : ∀ (t0 : State), (run t0).kept = t0.kept) :
    (State.engMem s k op run).kept = s.kept := by
  simp only [State.engMem]
  split <;> simp [hrun]

@[simp] theorem execEngineLoad_kept (k : Fin 4) (s : State) {kk : Kept} (hkk : s.kept = kk) :
    (execEngineLoad k s).keeps kk := by
  subst hkk
  simp [execEngineLoad]

@[simp] theorem execEngineStore_kept (k : Fin 4) (s : State) {kk : Kept} (hkk : s.kept = kk) :
    (execEngineStore k s).keeps kk := by
  subst hkk
  simp [execEngineStore]

@[simp] theorem State.journalOpen_kept (s : State) (k : Nat) (routine : Nat) :
    (State.journalOpen s k routine).kept = s.kept := by
  simp [State.journalOpen]

@[simp] theorem State.journalClose_kept (s : State) (k : Nat) :
    (State.journalClose s k).kept = s.kept := by
  simp [State.journalClose]

@[simp] theorem State.stepCommit_kept (s : State) (k : Nat) :
    (State.stepCommit s k).kept = s.kept := by
  simp [State.stepCommit]

@[simp] theorem State.engGo_kept (s : State) (k : Nat) (a : Nat) :
    (State.engGo s k a).kept = s.kept := by
  simp [State.engGo]

@[simp] theorem State.engDispatchTo_kept (s : State) (k : Nat) (i : Nat) :
    (State.engDispatchTo s k i).kept = s.kept := by
  simp [State.engDispatchTo]

@[simp] theorem State.engSequence_kept (s : State) (k : Nat) (w : Nat) (sel : Nat) :
    (State.engSequence s k w sel).kept = s.kept := by
  simp only [State.engSequence]
  split <;> simp

@[simp] theorem State.journalStep_kept (s : State) (k : Nat) (w : Nat) (cont : State → State) (hcont : ∀ (t0 : State), (cont t0).kept = t0.kept) :
    (State.journalStep s k w cont).kept = s.kept := by
  simp [State.journalStep, hcont]

@[simp] theorem State.engExecute_kept (s : State) (k : Nat) (w : Nat) :
    (State.engExecute s k w).kept = s.kept := by
  simp [State.engExecute]

@[simp] theorem State.engOp_kept (s : State) (k : Nat) (is : Nat → Bool) :
    (State.engOp s k is).kept = s.kept := by
  simp only [State.engOp]
  split <;> simp

@[simp] theorem execJopen_kept (k : Fin 4) (s : State) {kk : Kept} (hkk : s.kept = kk) :
    (execJopen k s).keeps kk := by
  subst hkk
  simp only [execJopen]
  all_goals first
    | simp

@[simp] theorem execJclose_kept (k : Fin 4) (s : State) {kk : Kept} (hkk : s.kept = kk) :
    (execJclose k s).keeps kk := by
  subst hkk
  simp only [execJclose]
  all_goals first
    | simp

@[simp] theorem execLdi_kept (k : Fin 4) (s : State) {kk : Kept} (hkk : s.kept = kk) :
    (execLdi k s).keeps kk := by
  subst hkk
  simp only [execLdi]
  all_goals first
    | simp

@[simp] theorem State.engSeq_kept (s : State) (k : Nat) (seq : Nat) (run : State → Engine → Nat → State) (hrun : ∀ (t0 : State) (u : Engine) (v : Nat), (run t0 u v).kept = t0.kept) :
    (State.engSeq s k seq run).kept = s.kept := by
  simp [State.engSeq, hrun]

@[simp] theorem State.engPush_kept (s : State) (k : Nat) (a : Nat) :
    (State.engPush s k a).kept = s.kept := by
  simp [State.engPush]

@[simp] theorem execCall_kept (k : Fin 4) (s : State) {kk : Kept} (hkk : s.kept = kk) :
    (execCall k s).keeps kk := by
  subst hkk
  simp [execCall]

theorem popped_kept (s : State) (e : Engine) (k : Nat) :
    (match e.rstack with
    | a :: r => (s.setEngine k { e with rstack := r }).engGo k a
    | [] => { s with fresh := s.fresh + 1 }.engGo k (Config.freeNat s.fresh)).kept = s.kept := by
  split <;> simp

@[simp] theorem execRet_kept (k : Fin 4) (s : State) {kk : Kept} (h : s.kept = kk) : (execRet k s).keeps kk := by
  subst h
  simp only [execRet, Out.keeps_next]
  exact State.engSeq_kept _ _ _ _ fun t e _ => popped_kept t e k.val

@[simp] theorem execWait_kept (k : Fin 4) (s : State) {kk : Kept} (hkk : s.kept = kk) :
    (execWait k s).keeps kk := by
  subst hkk
  simp [execWait]

@[simp] theorem execHalt_kept (k : Fin 4) (s : State) {kk : Kept} (hkk : s.kept = kk) :
    (execHalt k s).keeps kk := by
  subst hkk
  simp [execHalt]

@[simp] theorem execEngineInterrupt_kept (k : Fin 4) (s : State) {kk : Kept} (hkk : s.kept = kk) :
    (execEngineInterrupt k s).keeps kk := by
  subst hkk
  simp only [execEngineInterrupt]
  split <;> simp

end Sys2Proof.Machine
end

