-- ==== Sys2Proof/Laws/MicroOps.lean ====
section
/-!
SUPPORT. Laws/MicroOps.lean: what the operations of Machine/MicroOps.lean keep (Laws/Kept.lean).
-/

namespace Sys2Proof.Machine

@[simp] theorem State.microOp_kept (s : State) (x : Exec) (op : Nat) :
    (State.microOp s x op).kept = s.kept := by
  simp only [State.microOp]
  split <;> simp

@[simp] theorem execNop_kept (x : Exec) (s : State) {kk : Kept} (hkk : s.kept = kk) :
    (execNop x s).keeps kk := by
  subst hkk
  simp [execNop]

@[simp] theorem execMov_kept (x : Exec) (s : State) {kk : Kept} (hkk : s.kept = kk) :
    (execMov x s).keeps kk := by
  subst hkk
  simp [execMov]

@[simp] theorem execAdd_kept (x : Exec) (s : State) {kk : Kept} (hkk : s.kept = kk) :
    (execAdd x s).keeps kk := by
  subst hkk
  simp [execAdd]

@[simp] theorem execSub_kept (x : Exec) (s : State) {kk : Kept} (hkk : s.kept = kk) :
    (execSub x s).keeps kk := by
  subst hkk
  simp [execSub]

@[simp] theorem execAnd_kept (x : Exec) (s : State) {kk : Kept} (hkk : s.kept = kk) :
    (execAnd x s).keeps kk := by
  subst hkk
  simp [execAnd]

@[simp] theorem execOr_kept (x : Exec) (s : State) {kk : Kept} (hkk : s.kept = kk) :
    (execOr x s).keeps kk := by
  subst hkk
  simp [execOr]

@[simp] theorem execXor_kept (x : Exec) (s : State) {kk : Kept} (hkk : s.kept = kk) :
    (execXor x s).keeps kk := by
  subst hkk
  simp [execXor]

@[simp] theorem execShl_kept (x : Exec) (s : State) {kk : Kept} (hkk : s.kept = kk) :
    (execShl x s).keeps kk := by
  subst hkk
  simp [execShl]

@[simp] theorem execShr_kept (x : Exec) (s : State) {kk : Kept} (hkk : s.kept = kk) :
    (execShr x s).keeps kk := by
  subst hkk
  simp [execShr]

@[simp] theorem execCmp_kept (x : Exec) (s : State) {kk : Kept} (hkk : s.kept = kk) :
    (execCmp x s).keeps kk := by
  subst hkk
  simp [execCmp]

@[simp] theorem execMin_kept (x : Exec) (s : State) {kk : Kept} (hkk : s.kept = kk) :
    (execMin x s).keeps kk := by
  subst hkk
  simp [execMin]

@[simp] theorem execMax_kept (x : Exec) (s : State) {kk : Kept} (hkk : s.kept = kk) :
    (execMax x s).keeps kk := by
  subst hkk
  simp [execMax]

@[simp] theorem execCsum_kept (x : Exec) (s : State) {kk : Kept} (hkk : s.kept = kk) :
    (execCsum x s).keeps kk := by
  subst hkk
  simp [execCsum]

@[simp] theorem execCrc_kept (x : Exec) (s : State) {kk : Kept} (hkk : s.kept = kk) :
    (execCrc x s).keeps kk := by
  subst hkk
  simp [execCrc]

@[simp] theorem execSetb_kept (x : Exec) (s : State) {kk : Kept} (hkk : s.kept = kk) :
    (execSetb x s).keeps kk := by
  subst hkk
  simp [execSetb]

@[simp] theorem execClrb_kept (x : Exec) (s : State) {kk : Kept} (hkk : s.kept = kk) :
    (execClrb x s).keeps kk := by
  subst hkk
  simp [execClrb]

@[simp] theorem execRsvop_kept (x : Exec) (s : State) {kk : Kept} (hkk : s.kept = kk) :
    (execRsvop x s).keeps kk := by
  subst hkk
  simp only [execRsvop]
  split <;> simp

end Sys2Proof.Machine
end

