-- ==== Sys2Proof/Laws/Package.lean ====
section
/-!
SUPPORT. Laws/Package.lean: what the operations of Machine/Package.lean keep (Laws/Kept.lean).
-/

namespace Sys2Proof.Machine

@[simp] theorem execSupplyExcursion_kept (rail : Fin 7) (dur : Nat) (s : State) {kk : Kept} (hkk : s.kept = kk) :
    (execSupplyExcursion rail dur s).keeps kk := by
  subst hkk
  simp [execSupplyExcursion]

@[simp] theorem execTimebaseRefLost_kept (s : State) {kk : Kept} (hkk : s.kept = kk) :
    (execTimebaseRefLost s).keeps kk := by
  subst hkk
  simp [execTimebaseRefLost]

@[simp] theorem execThermalTrip_kept (tj : BitVec 12) (hbm : BitVec 12) (s : State) {kk : Kept} (hkk : s.kept = kk) :
    (execThermalTrip tj hbm s).keeps kk := by
  subst hkk
  simp [execThermalTrip]

@[simp] theorem execThermalRefresh_kept (tj : BitVec 12) (hbm : BitVec 12) (s : State) {kk : Kept} (hkk : s.kept = kk) :
    (execThermalRefresh tj hbm s).keeps kk := by
  subst hkk
  simp [execThermalRefresh]

@[simp] theorem State.scanIr_kept (s : State) (ir : Nat) (x : Package) :
    (State.scanIr s ir x).kept = s.kept := by
  simp [State.scanIr]

@[simp] theorem execBypass_kept (bits : List Bool) (s : State) {kk : Kept} (hkk : s.kept = kk) :
    (execBypass bits s).keeps kk := by
  subst hkk
  simp [execBypass]

@[simp] theorem execIdcode_kept (s : State) {kk : Kept} (hkk : s.kept = kk) :
    (execIdcode s).keeps kk := by
  subst hkk
  simp [execIdcode]

@[simp] theorem execSample_kept (levels : List Bool) (s : State) {kk : Kept} (hkk : s.kept = kk) :
    (execSample levels s).keeps kk := by
  subst hkk
  simp [execSample]

@[simp] theorem execPreload_kept (bits : List Bool) (s : State) {kk : Kept} (hkk : s.kept = kk) :
    (execPreload bits s).keeps kk := by
  subst hkk
  simp [execPreload]

@[simp] theorem execExtest_kept (s : State) {kk : Kept} (hkk : s.kept = kk) :
    (execExtest s).keeps kk := by
  subst hkk
  simp [execExtest]

end Sys2Proof.Machine
end

