-- ==== Sys2Proof/Laws/Store.lean ====
section
/-!
SUPPORT. Laws/Store.lean: sparse maps and sparse memories: a read after a write gives the value written, a write leaves
every other key alone, and every operation keeps the canonical form.
-/

namespace Sys2Proof

variable {α : Type}

/-! ### Reads after writes -/

theorem Store.at?_set (m : Store α) (k j : Nat) (v : α) :
    Store.at? (Store.set m k v) j = if j = k then some v else Store.at? m j := by
  induction m with
  | nil => simp only [Store.set, Store.at?, eq_comm]
  | cons e r ih =>
    obtain ⟨a, w⟩ := e
    simp only [Store.set]
    split
    · simp only [Store.at?, eq_comm]
    · split
      · rename_i h
        simp only [Store.at?, ← h]
        by_cases hj : j = k
        · simp [hj]
        · simp [hj, Ne.symm hj]
      · simp only [Store.at?, ih]
        by_cases h : a = j
        · have : j ≠ k := by omega
          simp [h, this]
        · simp [h]

theorem Store.at?_del (m : Store α) (k j : Nat) :
    Store.at? (Store.del m k) j = if j = k then none else Store.at? m j := by
  induction m with
  | nil => simp [Store.del, Store.at?]
  | cons e r ih =>
    obtain ⟨a, w⟩ := e
    simp only [Store.del, List.filter_cons, bne_iff_ne, ne_eq] at ih ⊢
    split
    · simp only [Store.at?, ih]
      by_cases h : a = j
      · have : j ≠ k := by omega
        simp [h, this]
      · simp [h]
    · rename_i h
      rw [ih]
      simp only [not_not] at h
      by_cases hj : j = k
      · simp [hj]
      · have : a ≠ j := by omega
        simp [hj, Store.at?, this]

theorem Store.at?_put [DecidableEq α] (d : α) (m : Store α) (k j : Nat) (v : α) :
    Store.at? (Store.put d m k v) j = if j = k then (if v = d then none else some v) else Store.at? m j := by
  simp only [Store.put]
  split <;> simp [Store.at?_set, Store.at?_del]

theorem Store.read_set (d : α) (m : Store α) (k j : Nat) (v : α) :
    Store.read d (Store.set m k v) j = if j = k then v else Store.read d m j := by
  simp only [Store.read, Store.at?_set]
  split <;> rfl

theorem Store.read_del (d : α) (m : Store α) (k j : Nat) :
    Store.read d (Store.del m k) j = if j = k then d else Store.read d m j := by
  simp only [Store.read, Store.at?_del]
  split <;> rfl

theorem Store.read_put [DecidableEq α] (d : α) (m : Store α) (k j : Nat) (v : α) :
    Store.read d (Store.put d m k v) j = if j = k then v else Store.read d m j := by
  simp only [Store.read, Store.at?_put]
  by_cases h : j = k
  · by_cases hv : v = d <;> simp [h, hv]
  · simp [h]

theorem Store.at?_keep (p : Nat → Bool) (m : Store α) (k : Nat) :
    Store.at? (Store.keep p m) k = if p k then Store.at? m k else none := by
  induction m with
  | nil => simp [Store.keep, Store.at?]
  | cons e r ih =>
    obtain ⟨a, w⟩ := e
    simp only [Store.keep, List.filter_cons] at ih ⊢
    split
    · simp only [Store.at?, ih]
      by_cases h : a = k
      · subst h
        simp_all
      · simp [h]
    · rename_i h
      rw [ih]
      by_cases hk : a = k
      · subst hk
        simp_all
      · simp [Store.at?, hk]

@[simp] theorem NatSet.mem_add (m : NatSet) (k j : Nat) : j ∈ NatSet.add m k ↔ j = k ∨ j ∈ m := by
  induction m with
  | nil => simp [NatSet.add]
  | cons a r ih =>
    simp only [NatSet.add]
    split
    · simp
    · split
      · subst_vars
        simp
      · simp only [List.mem_cons, ih]
        tauto

@[simp] theorem NatSet.mem_drop (m : NatSet) (k j : Nat) : j ∈ NatSet.drop m k ↔ j ∈ m ∧ j ≠ k := by
  simp [NatSet.drop]

/-! ### The canonical form -/

theorem Store.rising_mono {lo hi : Nat} (h : lo ≤ hi) {m : Store α} (hm : Store.rising hi m = true) :
    Store.rising lo m = true := by
  cases m with
  | nil => rfl
  | cons e r =>
    simp only [Store.rising, Bool.and_eq_true, decide_eq_true_eq] at hm ⊢
    exact ⟨by omega, hm.2⟩

theorem Store.rising_set {lo k : Nat} (hk : lo ≤ k) (v : α) {m : Store α} (hm : Store.rising lo m = true) :
    Store.rising lo (Store.set m k v) = true := by
  induction m generalizing lo with
  | nil => simp [Store.set, Store.rising, hk]
  | cons e r ih =>
    obtain ⟨a, w⟩ := e
    simp only [Store.rising, Bool.and_eq_true, decide_eq_true_eq] at hm
    simp only [Store.set]
    split
    · simp only [Store.rising, Bool.and_eq_true, decide_eq_true_eq]
      exact ⟨hk, by omega, hm.2⟩
    · split
      · subst_vars
        simp [Store.rising, hm]
      · simp only [Store.rising, Bool.and_eq_true, decide_eq_true_eq]
        exact ⟨hm.1, ih (by omega) hm.2⟩

theorem Store.rising_filter {lo : Nat} (p : Nat × α → Bool) {m : Store α} (hm : Store.rising lo m = true) :
    Store.rising lo (m.filter p) = true := by
  induction m generalizing lo with
  | nil => rfl
  | cons e r ih =>
    simp only [Store.rising, Bool.and_eq_true, decide_eq_true_eq] at hm
    simp only [List.filter_cons]
    split
    · simp only [Store.rising, Bool.and_eq_true, decide_eq_true_eq]
      exact ⟨hm.1, ih hm.2⟩
    · exact ih (Store.rising_mono (by omega) hm.2)

theorem Store.all_set {p : Nat × α → Bool} {k : Nat} {v : α} (hv : p (k, v) = true) {m : Store α}
    (hm : m.all p = true) : (Store.set m k v).all p = true := by
  induction m with
  | nil => simpa [Store.set] using hv
  | cons e r ih =>
    simp only [List.all_cons, Bool.and_eq_true] at hm
    simp only [Store.set]
    split
    · simp [hv, hm.1, hm.2]
    · split
      · simp [hv, hm.2]
      · simp [hm.1, ih hm.2]

end Sys2Proof

namespace Sys2Proof.Machine

/-- The empty memory is in canonical form. -/
theorem Memory.wf_nil : Memory.wf [] = true := rfl

theorem Memory.wf_put {m : List Host.Cell} (h : Memory.wf m = true) (k : Nat) (v : Byte) :
    Memory.wf (Store.put 0 m k v) = true := by
  simp only [Memory.wf, Bool.and_eq_true] at h ⊢
  simp only [Store.put]
  split
  · refine ⟨Store.rising_filter _ h.1, ?_⟩
    simp only [Store.del, List.all_filter]
    exact List.all_eq_true.2 fun e he => by
      have := List.all_eq_true.1 h.2 e he
      exact (by simpa using Or.inr (by simpa using this))
  · exact ⟨Store.rising_set (Nat.zero_le _) _ h.1, Store.all_set (by simpa using ‹_›) h.2⟩

/-- Writing bytes keeps the canonical form. -/
theorem Memory.wf_putBytes {m : List Host.Cell} (h : Memory.wf m = true) (k : Nat) (l : List Byte) :
    Memory.wf (putBytes m k l) = true := by
  induction l generalizing m k with
  | nil => exact h
  | cons x r ih => exact ih (Memory.wf_put h k x) (k + 1)

/-- Dropping a range of bytes keeps the canonical form. -/
theorem Memory.wf_keep {m : List Host.Cell} (h : Memory.wf m = true) (p : Nat → Bool) :
    Memory.wf (Store.keep p m) = true := by
  simp only [Memory.wf, Bool.and_eq_true] at h ⊢
  refine ⟨Store.rising_filter _ h.1, ?_⟩
  simp only [Store.keep, List.all_filter]
  exact List.all_eq_true.2 fun e he => by
    have := List.all_eq_true.1 h.2 e he
    exact (by simpa using Or.inr (by simpa using this))

/-- A byte read after bytes are written: the byte written there, or what was there before. -/
theorem read_putBytes (m : List Host.Cell) (k : Nat) (l : List Byte) (a : Nat) :
    Store.read 0 (putBytes m k l) a =
      if k ≤ a ∧ a < k + l.length then l.getD (a - k) 0 else Store.read 0 m a := by
  induction l generalizing m k with
  | nil =>
    have : ¬ (k ≤ a ∧ a < k + ([] : List Byte).length) := by simp
    simp [putBytes]
  | cons x r ih =>
    rw [putBytes, ih, Store.read_put]
    by_cases h1 : k + 1 ≤ a ∧ a < k + 1 + r.length
    · have h2 : k ≤ a ∧ a < k + (x :: r).length := by simp only [List.length_cons]; omega
      have h3 : a - k = (a - (k + 1)) + 1 := by omega
      rw [if_pos h1, if_pos h2, h3, List.getD_cons_succ]
    · rw [if_neg h1]
      by_cases h4 : a = k
      · subst h4
        simp
      · have h2 : ¬ (k ≤ a ∧ a < k + (x :: r).length) := by simp only [List.length_cons]; omega
        rw [if_neg h4, if_neg h2]

@[simp] theorem getBytes_length (m : List Host.Cell) (k n : Nat) : (getBytes m k n).length = n := by simp [getBytes]

/-- Bytes read back where they were written. -/
theorem getBytes_putBytes (m : List Host.Cell) (k : Nat) (l : List Byte) : getBytes (putBytes m k l) k l.length = l := by
  apply List.ext_getElem
  · simp
  · intro i h1 h2
    have : k ≤ k + i ∧ k + i < k + l.length := by omega
    simp only [getBytes, List.getElem_map, List.getElem_range, read_putBytes, if_pos this]
    simp [h2]

end Sys2Proof.Machine
end

