-- ==== Sys2Proof/Laws/Registers.lean ====
section
/-!
SUPPORT. Laws/Registers.lean: what a register and its fields read after a register operation, and what such an operation
leaves alone.
-/

namespace Sys2Proof

/-- A bit of a field's word. -/
theorem getLsbD_fieldMask (hi lo i : Nat) (h : hi < 32) :
    (fieldMask hi lo).getLsbD i = decide (lo ≤ i ∧ i ≤ hi) := by
  simp only [fieldMask, BitVec.getLsbD_ofNat, Nat.testBit_mul_two_pow, Nat.testBit_two_pow_sub_one]
  by_cases h1 : lo ≤ i
  · by_cases h2 : i ≤ hi
    · have : i < 32 := by omega
      have h3 : i - lo < hi + 1 - lo := by omega
      simp [h1, h2, this, h3]
    · have h3 : ¬ i - lo < hi + 1 - lo := by omega
      simp [h1, h2, h3]
  · simp [h1]

theorem testBit_fieldOf (w : Word) (hi lo i : Nat) :
    (fieldOf w hi lo).testBit i = (decide (i < hi + 1 - lo) && w.getLsbD (i + lo)) := by
  simp only [fieldOf, bitsOf, Nat.testBit_mod_two_pow, Nat.testBit_div_two_pow]
  rw [BitVec.testBit_toNat]

theorem getLsbD_withField (w : Word) (hi lo v i : Nat) (h : hi < 32) :
    (withField w hi lo v).getLsbD i =
      if lo ≤ i ∧ i ≤ hi then v.testBit (i - lo) else w.getLsbD i := by
  simp only [withField, BitVec.getLsbD_or, BitVec.getLsbD_and, BitVec.getLsbD_not, getLsbD_fieldMask _ _ _ h,
    BitVec.getLsbD_ofNat, Nat.testBit_mul_two_pow]
  by_cases h1 : lo ≤ i ∧ i ≤ hi
  · have : i < 32 := by omega
    simp [h1, this]
  · simp only [h1, decide_false, Bool.not_false, Bool.and_true, Bool.and_false, Bool.or_false, if_false]
    by_cases hi : i < 32
    · simp [hi]
    · simp [hi, BitVec.getLsbD_of_ge w i (by omega)]

/-- A field read back is what was written, cut to the field's width. -/
theorem fieldOf_withField (w : Word) (hi lo v : Nat) (h : hi < 32) :
    fieldOf (withField w hi lo v) hi lo = v % 2 ^ (hi + 1 - lo) := by
  apply Nat.eq_of_testBit_eq
  intro i
  rw [testBit_fieldOf, getLsbD_withField _ _ _ _ _ h, Nat.testBit_mod_two_pow]
  by_cases hi' : i < hi + 1 - lo
  · have : lo ≤ i + lo ∧ i + lo ≤ hi := by omega
    simp [hi', this]
  · simp [hi']

/-- A write of one field leaves every field that shares no bit with it. -/
theorem fieldOf_withField_ne (w : Word) (hi lo v hi' lo' : Nat) (h : hi < 32) (hd : hi' < lo ∨ hi < lo') :
    fieldOf (withField w hi lo v) hi' lo' = fieldOf w hi' lo' := by
  apply Nat.eq_of_testBit_eq
  intro i
  rw [testBit_fieldOf, testBit_fieldOf, getLsbD_withField _ _ _ _ _ h]
  by_cases hi' : i < hi' + 1 - lo'
  · have : ¬ (lo ≤ i + lo' ∧ i + lo' ≤ hi) := by omega
    simp [this]
  · simp [hi']

theorem bitsOf_one (w : Word) (i : Nat) : fieldOf w i i = (w.getLsbD i).toNat := by
  apply Nat.eq_of_testBit_eq
  intro j
  rw [testBit_fieldOf]
  cases j with
  | zero => cases h : w.getLsbD i <;> simp [h]
  | succ j =>
    cases w.getLsbD i <;> simp [Nat.testBit_succ]

end Sys2Proof

namespace Sys2Proof.Machine

theorem State.reg_setReg (s : State) (a b : Nat) (w : Word) :
    (s.setReg a w).reg b = if b = a then w else s.reg b := by
  simp only [State.setReg, State.reg]
  split
  · rw [Store.at?_del]
    by_cases h : b = a
    · simp [h, ‹w = regReset a›]
    · simp [h]
  · rw [Store.at?_set]
    by_cases h : b = a <;> simp [h]

@[simp] theorem State.reg_setReg_self (s : State) (a : Nat) (w : Word) : (s.setReg a w).reg a = w := by
  simp [State.reg_setReg]

theorem State.reg_setReg_ne (s : State) {a b : Nat} (h : b ≠ a) (w : Word) : (s.setReg a w).reg b = s.reg b := by
  simp [State.reg_setReg, h]

theorem State.reg_setFld_ne (s : State) {a b : Nat} (h : b ≠ a) (hi lo v : Nat) :
    (s.setFld a hi lo v).reg b = s.reg b := State.reg_setReg_ne s h _

theorem State.reg_setBit_ne (s : State) {a b : Nat} (h : b ≠ a) (i : Nat) (v : Bool) :
    (s.setBit a i v).reg b = s.reg b := State.reg_setReg_ne s h _

theorem State.fld_setReg_ne (s : State) {a b : Nat} (h : b ≠ a) (w : Word) (hi lo : Nat) :
    (s.setReg a w).fld b hi lo = s.fld b hi lo := by
  simp [State.fld, State.reg_setReg_ne s h]

theorem State.fld_setFld (s : State) (a hi lo v : Nat) (h : hi < 32) :
    (s.setFld a hi lo v).fld a hi lo = v % 2 ^ (hi + 1 - lo) := by
  simp [State.fld, State.setFld, fieldOf_withField _ _ _ _ h]

theorem State.fld_setFld_ne (s : State) {a b : Nat} (hab : b ≠ a) (hi lo v hi' lo' : Nat) :
    (s.setFld a hi lo v).fld b hi' lo' = s.fld b hi' lo' := by
  simp [State.fld, State.reg_setFld_ne s hab]

theorem State.fld_setFld_disjoint (s : State) (a hi lo v hi' lo' : Nat) (h : hi < 32) (hd : hi' < lo ∨ hi < lo') :
    (s.setFld a hi lo v).fld a hi' lo' = s.fld a hi' lo' := by
  simp [State.fld, State.setFld, fieldOf_withField_ne _ _ _ _ _ _ h hd]

theorem State.bit_setBit (s : State) (a i : Nat) (b : Bool) (h : i < 32) : (s.setBit a i b).bit a i = b := by
  simp only [State.bit, State.setBit, State.fld_setFld _ _ _ _ _ h]
  cases b <;> simp

theorem State.bit_setBit_ne (s : State) (a i j : Nat) (b : Bool) (h : i < 32) (hij : j ≠ i) :
    (s.setBit a i b).bit a j = s.bit a j := by
  have : (s.setBit a i b).fld a j j = s.fld a j j := State.fld_setFld_disjoint _ _ _ _ _ _ _ h (by omega)
  simp only [State.bit, this]

theorem State.bit_setFld_disjoint (s : State) (a hi lo v i : Nat) (h : hi < 32) (hd : i < lo ∨ hi < i) :
    (s.setFld a hi lo v).bit a i = s.bit a i := by
  simp only [State.bit, State.fld_setFld_disjoint _ _ _ _ _ _ _ h hd]

theorem State.reg_resetRegs (s : State) (p : Nat → Bool) (a : Nat) :
    (s.resetRegs p).reg a = if p a then regReset a else s.reg a := by
  simp only [State.resetRegs, State.reg, Store.at?_keep]
  cases p a <;> simp

/-! ### Registers that interrupt delivery and counters leave alone -/

@[simp] theorem State.reg_emit (s : State) (o : Output) (a : Nat) : (s.emit o).reg a = s.reg a := rfl
@[simp] theorem State.reg_answer (s : State) (l : List Word) (a : Nat) : (s.answer l).reg a = s.reg a := rfl
@[simp] theorem State.reg_setSlice (s : State) (n : Nat) (x : Slice) (a : Nat) : (s.setSlice n x).reg a = s.reg a := rfl
@[simp] theorem State.reg_noteMessage (s : State) (h a : Nat) : (s.noteMessage h).reg a = s.reg a := rfl
@[simp] theorem State.reg_raiseEngine (s : State) (k src a : Nat) : (s.raiseEngine k src).reg a = s.reg a := rfl
@[simp] theorem State.reg_reportFault (s : State) (src : Nat) (c : FaultClass) (e : Element) (d t a : Nat) :
    (s.reportFault src c e d t).reg a = s.reg a := rfl

@[simp] theorem State.reg_sendMsix (s : State) (fn vec a : Nat) : (s.sendMsix fn vec).reg a = s.reg a := by
  simp only [State.sendMsix]
  repeat' split
  all_goals rfl

theorem State.reg_raiseHostStat (s : State) (i a : Nat) (h : a ≠ Reg.HOST_STAT) :
    (s.raiseHostStat i).reg a = s.reg a := by
  simp only [State.raiseHostStat]
  repeat' split
  all_goals simp [State.reg_setBit_ne _ h]

theorem State.reg_sendVector (s : State) (fn vec a : Nat) (h : a ≠ Reg.HOST_STAT) :
    (s.sendVector fn vec).reg a = s.reg a := by
  simp only [State.sendVector]
  repeat' split
  all_goals first | exact State.reg_sendMsix _ _ _ _ | exact State.reg_raiseHostStat _ _ _ h

theorem State.reg_sendQpMessage (s : State) (src fn vec a : Nat) (h : a ≠ Reg.HOST_STAT) :
    (s.sendQpMessage src fn vec).reg a = s.reg a := by
  simp only [State.sendQpMessage]
  repeat' split
  all_goals first | rfl | simp [State.reg_sendVector _ _ _ _ h]

/-- Interrupt delivery writes no register but HOST_STAT (R382). -/
theorem State.reg_deliver (s : State) (src : Nat) (new : Word) (a : Nat) (h : a ≠ Reg.HOST_STAT) :
    (s.deliver src new).reg a = s.reg a := by
  simp only [State.deliver]
  repeat' split
  all_goals simp [State.reg_sendVector _ _ _ _ h, State.reg_sendQpMessage _ _ _ _ _ h]

theorem State.reg_foldl {β : Type} (f : State → β → State) (a : Nat) (hf : ∀ t x, (f t x).reg a = t.reg a)
    (l : List β) (s : State) : (l.foldl f s).reg a = s.reg a := by
  induction l generalizing s with
  | nil => rfl
  | cons x r ih => rw [List.foldl_cons, ih, hf]

/-- Status bits set in one register leave every other register but HOST_STAT (R382). -/
theorem State.reg_raise_ne (s : State) (a b : Nat) (m : Word) (hb : b ≠ a) (h : b ≠ Reg.HOST_STAT) :
    (s.raise a m).reg b = s.reg b := by
  simp only [State.raise]
  rw [State.reg_foldl]
  · exact State.reg_setReg_ne s hb _
  · intro t x
    split
    · rfl
    · exact State.reg_deliver _ _ _ _ h

/-- Status bits set in a register other than HOST_STAT: the register gains exactly these bits. -/
theorem State.reg_raise_self (s : State) (a : Nat) (m : Word) (h : a ≠ Reg.HOST_STAT) :
    (s.raise a m).reg a = s.reg a ||| m := by
  simp only [State.raise]
  rw [State.reg_foldl]
  · simp
  · intro t x
    split
    · rfl
    · exact State.reg_deliver _ _ _ _ h

theorem State.reg_raiseBit_ne (s : State) (a i b : Nat) (hb : b ≠ a) (h : b ≠ Reg.HOST_STAT) :
    (s.raiseBit a i).reg b = s.reg b := State.reg_raise_ne s a b _ hb h

theorem State.reg_raiseBit_self (s : State) (a i : Nat) (h : a ≠ Reg.HOST_STAT) :
    (s.raiseBit a i).reg a = s.reg a ||| BitVec.ofNat 32 (2 ^ i) := State.reg_raise_self s a _ h

/-- A counter writes its own register and its block's status register (R13). -/
theorem State.reg_countFld_ne (s : State) (a hi lo n b : Nat) (hb : b ≠ a) (h : b ≠ Reg.HOST_STAT)
    (hs : ∀ r i, satBitOf a = some (r, i) → b ≠ r) : (s.countFld a hi lo n).reg b = s.reg b := by
  simp only [State.countFld]
  split
  · split
    · rename_i r i e
      rw [State.reg_raiseBit_ne _ _ _ _ (hs r i e) h, State.reg_setFld_ne _ hb]
    · rw [State.reg_setFld_ne _ hb]
  · rw [State.reg_setFld_ne _ hb]

/-! ### Fields and bits through the register -/

theorem State.bit_of_reg {s t : State} {a : Nat} (h : s.reg a = t.reg a) (i : Nat) : s.bit a i = t.bit a i := by
  simp [State.bit, State.fld, h]

theorem State.fld_of_reg {s t : State} {a : Nat} (h : s.reg a = t.reg a) (hi lo : Nat) :
    s.fld a hi lo = t.fld a hi lo := by
  simp [State.fld, h]

/-- A status bit is the bit of its register. -/
theorem State.bit_eq (s : State) (a i : Nat) : s.bit a i = (s.reg a).getLsbD i := by
  simp only [State.bit, State.fld, bitsOf_one]
  cases (s.reg a).getLsbD i <;> rfl

theorem State.bit_setReg (s : State) (a b i : Nat) (w : Word) :
    (s.setReg a w).bit b i = if b = a then w.getLsbD i else s.bit b i := by
  rw [State.bit_eq, State.bit_eq, State.reg_setReg]
  split <;> rfl

/-- A bit after a raise of status bits in a register other than HOST_STAT. -/
theorem State.bit_raise (s : State) (a i : Nat) (m : Word) (h : a ≠ Reg.HOST_STAT) :
    (s.raise a m).bit a i = (s.bit a i || m.getLsbD i) := by
  simp [State.bit_eq, State.reg_raise_self s a m h]

theorem State.bit_raiseBit (s : State) (a i : Nat) (h : a ≠ Reg.HOST_STAT) (hi : i < 32) :
    (s.raiseBit a i).bit a i = true := by
  rw [State.raiseBit, State.bit_raise _ _ _ _ h, BitVec.getLsbD_ofNat, Nat.testBit_two_pow]
  simp [hi]

theorem State.bit_raiseBit_ne (s : State) (a i j : Nat) (h : a ≠ Reg.HOST_STAT) (hij : j ≠ i) :
    (s.raiseBit a i).bit a j = s.bit a j := by
  rw [State.raiseBit, State.bit_raise _ _ _ _ h, BitVec.getLsbD_ofNat, Nat.testBit_two_pow]
  simp [Ne.symm hij]

/-- A bit raised in HOST_STAT is set, and every other bit of it but IVERR stays (R382). -/
theorem State.bit_raiseHostStat (s : State) (i : Nat) (h : i < 32) : (s.raiseHostStat i).bit Reg.HOST_STAT i = true := by
  have e := State.bit_setBit s Reg.HOST_STAT i true h
  simp only [State.raiseHostStat]
  split
  · exact e
  · split
    · exact (State.bit_of_reg (State.reg_sendMsix _ _ _ _) i).trans e
    · exact e

end Sys2Proof.Machine
end

