-- ==== Sys2Proof/Laws/State.lean ====
section
/-!
SUPPORT. Laws/State.lean: what each basic update of the state leaves alone, field by field, and what reads back after it.
-/

namespace Sys2Proof.Machine

/-! ### `State.setReg` -/

@[simp] theorem State.pending_setReg (s : State) (a : Nat) (w : Word) : (s.setReg a w).pending = s.pending := rfl
@[simp] theorem State.fresh_setReg (s : State) (a : Nat) (w : Word) : (s.setReg a w).fresh = s.fresh := rfl
@[simp] theorem State.reply_setReg (s : State) (a : Nat) (w : Word) : (s.setReg a w).reply = s.reply := rfl
@[simp] theorem State.out_setReg (s : State) (a : Nat) (w : Word) : (s.setReg a w).out = s.out := rfl
@[simp] theorem State.holds_setReg (s : State) (a : Nat) (w : Word) : (s.setReg a w).holds = s.holds := rfl
@[simp] theorem State.locks_setReg (s : State) (a : Nat) (w : Word) : (s.setReg a w).locks = s.locks := rfl
@[simp] theorem State.time_setReg (s : State) (a : Nat) (w : Word) : (s.setReg a w).time = s.time := rfl
@[simp] theorem State.tele_setReg (s : State) (a : Nat) (w : Word) : (s.setReg a w).tele = s.tele := rfl
@[simp] theorem State.ledger_setReg (s : State) (a : Nat) (w : Word) : (s.setReg a w).ledger = s.ledger := rfl
@[simp] theorem State.flt_setReg (s : State) (a : Nat) (w : Word) : (s.setReg a w).flt = s.flt := rfl
@[simp] theorem State.avs_setReg (s : State) (a : Nat) (w : Word) : (s.setReg a w).avs = s.avs := rfl
@[simp] theorem State.pace_setReg (s : State) (a : Nat) (w : Word) : (s.setReg a w).pace = s.pace := rfl
@[simp] theorem State.intr_setReg (s : State) (a : Nat) (w : Word) : (s.setReg a w).intr = s.intr := rfl
@[simp] theorem State.mbx_setReg (s : State) (a : Nat) (w : Word) : (s.setReg a w).mbx = s.mbx := rfl
@[simp] theorem State.host_setReg (s : State) (a : Nat) (w : Word) : (s.setReg a w).host = s.host := rfl
@[simp] theorem State.pwr_setReg (s : State) (a : Nat) (w : Word) : (s.setReg a w).pwr = s.pwr := rfl
@[simp] theorem State.boot_setReg (s : State) (a : Nat) (w : Word) : (s.setReg a w).boot = s.boot := rfl
@[simp] theorem State.slices_setReg (s : State) (a : Nat) (w : Word) : (s.setReg a w).slices = s.slices := rfl
@[simp] theorem State.vat_setReg (s : State) (a : Nat) (w : Word) : (s.setReg a w).vat = s.vat := rfl
@[simp] theorem State.ports_setReg (s : State) (a : Nat) (w : Word) : (s.setReg a w).ports = s.ports := rfl
@[simp] theorem State.lanes_setReg (s : State) (a : Nat) (w : Word) : (s.setReg a w).lanes = s.lanes := rfl
@[simp] theorem State.ctxs_setReg (s : State) (a : Nat) (w : Word) : (s.setReg a w).ctxs = s.ctxs := rfl
@[simp] theorem State.nextCtx_setReg (s : State) (a : Nat) (w : Word) : (s.setReg a w).nextCtx = s.nextCtx := rfl
@[simp] theorem State.engines_setReg (s : State) (a : Nat) (w : Word) : (s.setReg a w).engines = s.engines := rfl
@[simp] theorem State.hbm_setReg (s : State) (a : Nat) (w : Word) : (s.setReg a w).hbm = s.hbm := rfl
@[simp] theorem State.tbl_setReg (s : State) (a : Nat) (w : Word) : (s.setReg a w).tbl = s.tbl := rfl
@[simp] theorem State.flow_setReg (s : State) (a : Nat) (w : Word) : (s.setReg a w).flow = s.flow := rfl
@[simp] theorem State.pair_setReg (s : State) (a : Nat) (w : Word) : (s.setReg a w).pair = s.pair := rfl
@[simp] theorem State.pkg_setReg (s : State) (a : Nat) (w : Word) : (s.setReg a w).pkg = s.pkg := rfl
@[simp] theorem State.vwinStart_setReg (s : State) (a : Nat) (w : Word) : (s.setReg a w).vwinStart = s.vwinStart := rfl
@[simp] theorem State.tickets_setReg (s : State) (a : Nat) (w : Word) : (s.setReg a w).tickets = s.tickets := rfl

/-! ### `State.setFld` -/

@[simp] theorem State.pending_setFld (s : State) (a hi lo v : Nat) : (s.setFld a hi lo v).pending = s.pending := rfl
@[simp] theorem State.fresh_setFld (s : State) (a hi lo v : Nat) : (s.setFld a hi lo v).fresh = s.fresh := rfl
@[simp] theorem State.reply_setFld (s : State) (a hi lo v : Nat) : (s.setFld a hi lo v).reply = s.reply := rfl
@[simp] theorem State.out_setFld (s : State) (a hi lo v : Nat) : (s.setFld a hi lo v).out = s.out := rfl
@[simp] theorem State.holds_setFld (s : State) (a hi lo v : Nat) : (s.setFld a hi lo v).holds = s.holds := rfl
@[simp] theorem State.locks_setFld (s : State) (a hi lo v : Nat) : (s.setFld a hi lo v).locks = s.locks := rfl
@[simp] theorem State.time_setFld (s : State) (a hi lo v : Nat) : (s.setFld a hi lo v).time = s.time := rfl
@[simp] theorem State.tele_setFld (s : State) (a hi lo v : Nat) : (s.setFld a hi lo v).tele = s.tele := rfl
@[simp] theorem State.ledger_setFld (s : State) (a hi lo v : Nat) : (s.setFld a hi lo v).ledger = s.ledger := rfl
@[simp] theorem State.flt_setFld (s : State) (a hi lo v : Nat) : (s.setFld a hi lo v).flt = s.flt := rfl
@[simp] theorem State.avs_setFld (s : State) (a hi lo v : Nat) : (s.setFld a hi lo v).avs = s.avs := rfl
@[simp] theorem State.pace_setFld (s : State) (a hi lo v : Nat) : (s.setFld a hi lo v).pace = s.pace := rfl
@[simp] theorem State.intr_setFld (s : State) (a hi lo v : Nat) : (s.setFld a hi lo v).intr = s.intr := rfl
@[simp] theorem State.mbx_setFld (s : State) (a hi lo v : Nat) : (s.setFld a hi lo v).mbx = s.mbx := rfl
@[simp] theorem State.host_setFld (s : State) (a hi lo v : Nat) : (s.setFld a hi lo v).host = s.host := rfl
@[simp] theorem State.pwr_setFld (s : State) (a hi lo v : Nat) : (s.setFld a hi lo v).pwr = s.pwr := rfl
@[simp] theorem State.boot_setFld (s : State) (a hi lo v : Nat) : (s.setFld a hi lo v).boot = s.boot := rfl
@[simp] theorem State.slices_setFld (s : State) (a hi lo v : Nat) : (s.setFld a hi lo v).slices = s.slices := rfl
@[simp] theorem State.vat_setFld (s : State) (a hi lo v : Nat) : (s.setFld a hi lo v).vat = s.vat := rfl
@[simp] theorem State.ports_setFld (s : State) (a hi lo v : Nat) : (s.setFld a hi lo v).ports = s.ports := rfl
@[simp] theorem State.lanes_setFld (s : State) (a hi lo v : Nat) : (s.setFld a hi lo v).lanes = s.lanes := rfl
@[simp] theorem State.ctxs_setFld (s : State) (a hi lo v : Nat) : (s.setFld a hi lo v).ctxs = s.ctxs := rfl
@[simp] theorem State.nextCtx_setFld (s : State) (a hi lo v : Nat) : (s.setFld a hi lo v).nextCtx = s.nextCtx := rfl
@[simp] theorem State.engines_setFld (s : State) (a hi lo v : Nat) : (s.setFld a hi lo v).engines = s.engines := rfl
@[simp] theorem State.hbm_setFld (s : State) (a hi lo v : Nat) : (s.setFld a hi lo v).hbm = s.hbm := rfl
@[simp] theorem State.tbl_setFld (s : State) (a hi lo v : Nat) : (s.setFld a hi lo v).tbl = s.tbl := rfl
@[simp] theorem State.flow_setFld (s : State) (a hi lo v : Nat) : (s.setFld a hi lo v).flow = s.flow := rfl
@[simp] theorem State.pair_setFld (s : State) (a hi lo v : Nat) : (s.setFld a hi lo v).pair = s.pair := rfl
@[simp] theorem State.pkg_setFld (s : State) (a hi lo v : Nat) : (s.setFld a hi lo v).pkg = s.pkg := rfl
@[simp] theorem State.vwinStart_setFld (s : State) (a hi lo v : Nat) : (s.setFld a hi lo v).vwinStart = s.vwinStart := rfl
@[simp] theorem State.tickets_setFld (s : State) (a hi lo v : Nat) : (s.setFld a hi lo v).tickets = s.tickets := rfl

/-! ### `State.setBit` -/

@[simp] theorem State.pending_setBit (s : State) (a i : Nat) (b : Bool) : (s.setBit a i b).pending = s.pending := rfl
@[simp] theorem State.fresh_setBit (s : State) (a i : Nat) (b : Bool) : (s.setBit a i b).fresh = s.fresh := rfl
@[simp] theorem State.reply_setBit (s : State) (a i : Nat) (b : Bool) : (s.setBit a i b).reply = s.reply := rfl
@[simp] theorem State.out_setBit (s : State) (a i : Nat) (b : Bool) : (s.setBit a i b).out = s.out := rfl
@[simp] theorem State.holds_setBit (s : State) (a i : Nat) (b : Bool) : (s.setBit a i b).holds = s.holds := rfl
@[simp] theorem State.locks_setBit (s : State) (a i : Nat) (b : Bool) : (s.setBit a i b).locks = s.locks := rfl
@[simp] theorem State.time_setBit (s : State) (a i : Nat) (b : Bool) : (s.setBit a i b).time = s.time := rfl
@[simp] theorem State.tele_setBit (s : State) (a i : Nat) (b : Bool) : (s.setBit a i b).tele = s.tele := rfl
@[simp] theorem State.ledger_setBit (s : State) (a i : Nat) (b : Bool) : (s.setBit a i b).ledger = s.ledger := rfl
@[simp] theorem State.flt_setBit (s : State) (a i : Nat) (b : Bool) : (s.setBit a i b).flt = s.flt := rfl
@[simp] theorem State.avs_setBit (s : State) (a i : Nat) (b : Bool) : (s.setBit a i b).avs = s.avs := rfl
@[simp] theorem State.pace_setBit (s : State) (a i : Nat) (b : Bool) : (s.setBit a i b).pace = s.pace := rfl
@[simp] theorem State.intr_setBit (s : State) (a i : Nat) (b : Bool) : (s.setBit a i b).intr = s.intr := rfl
@[simp] theorem State.mbx_setBit (s : State) (a i : Nat) (b : Bool) : (s.setBit a i b).mbx = s.mbx := rfl
@[simp] theorem State.host_setBit (s : State) (a i : Nat) (b : Bool) : (s.setBit a i b).host = s.host := rfl
@[simp] theorem State.pwr_setBit (s : State) (a i : Nat) (b : Bool) : (s.setBit a i b).pwr = s.pwr := rfl
@[simp] theorem State.boot_setBit (s : State) (a i : Nat) (b : Bool) : (s.setBit a i b).boot = s.boot := rfl
@[simp] theorem State.slices_setBit (s : State) (a i : Nat) (b : Bool) : (s.setBit a i b).slices = s.slices := rfl
@[simp] theorem State.vat_setBit (s : State) (a i : Nat) (b : Bool) : (s.setBit a i b).vat = s.vat := rfl
@[simp] theorem State.ports_setBit (s : State) (a i : Nat) (b : Bool) : (s.setBit a i b).ports = s.ports := rfl
@[simp] theorem State.lanes_setBit (s : State) (a i : Nat) (b : Bool) : (s.setBit a i b).lanes = s.lanes := rfl
@[simp] theorem State.ctxs_setBit (s : State) (a i : Nat) (b : Bool) : (s.setBit a i b).ctxs = s.ctxs := rfl
@[simp] theorem State.nextCtx_setBit (s : State) (a i : Nat) (b : Bool) : (s.setBit a i b).nextCtx = s.nextCtx := rfl
@[simp] theorem State.engines_setBit (s : State) (a i : Nat) (b : Bool) : (s.setBit a i b).engines = s.engines := rfl
@[simp] theorem State.hbm_setBit (s : State) (a i : Nat) (b : Bool) : (s.setBit a i b).hbm = s.hbm := rfl
@[simp] theorem State.tbl_setBit (s : State) (a i : Nat) (b : Bool) : (s.setBit a i b).tbl = s.tbl := rfl
@[simp] theorem State.flow_setBit (s : State) (a i : Nat) (b : Bool) : (s.setBit a i b).flow = s.flow := rfl
@[simp] theorem State.pair_setBit (s : State) (a i : Nat) (b : Bool) : (s.setBit a i b).pair = s.pair := rfl
@[simp] theorem State.pkg_setBit (s : State) (a i : Nat) (b : Bool) : (s.setBit a i b).pkg = s.pkg := rfl
@[simp] theorem State.vwinStart_setBit (s : State) (a i : Nat) (b : Bool) : (s.setBit a i b).vwinStart = s.vwinStart := rfl
@[simp] theorem State.tickets_setBit (s : State) (a i : Nat) (b : Bool) : (s.setBit a i b).tickets = s.tickets := rfl

/-! ### `State.answer` -/

@[simp] theorem State.pending_answer (s : State) (l : List Word) : (s.answer l).pending = s.pending := rfl
@[simp] theorem State.fresh_answer (s : State) (l : List Word) : (s.answer l).fresh = s.fresh := rfl
@[simp] theorem State.out_answer (s : State) (l : List Word) : (s.answer l).out = s.out := rfl
@[simp] theorem State.regs_answer (s : State) (l : List Word) : (s.answer l).regs = s.regs := rfl
@[simp] theorem State.holds_answer (s : State) (l : List Word) : (s.answer l).holds = s.holds := rfl
@[simp] theorem State.locks_answer (s : State) (l : List Word) : (s.answer l).locks = s.locks := rfl
@[simp] theorem State.time_answer (s : State) (l : List Word) : (s.answer l).time = s.time := rfl
@[simp] theorem State.tele_answer (s : State) (l : List Word) : (s.answer l).tele = s.tele := rfl
@[simp] theorem State.ledger_answer (s : State) (l : List Word) : (s.answer l).ledger = s.ledger := rfl
@[simp] theorem State.flt_answer (s : State) (l : List Word) : (s.answer l).flt = s.flt := rfl
@[simp] theorem State.avs_answer (s : State) (l : List Word) : (s.answer l).avs = s.avs := rfl
@[simp] theorem State.pace_answer (s : State) (l : List Word) : (s.answer l).pace = s.pace := rfl
@[simp] theorem State.intr_answer (s : State) (l : List Word) : (s.answer l).intr = s.intr := rfl
@[simp] theorem State.mbx_answer (s : State) (l : List Word) : (s.answer l).mbx = s.mbx := rfl
@[simp] theorem State.host_answer (s : State) (l : List Word) : (s.answer l).host = s.host := rfl
@[simp] theorem State.pwr_answer (s : State) (l : List Word) : (s.answer l).pwr = s.pwr := rfl
@[simp] theorem State.boot_answer (s : State) (l : List Word) : (s.answer l).boot = s.boot := rfl
@[simp] theorem State.slices_answer (s : State) (l : List Word) : (s.answer l).slices = s.slices := rfl
@[simp] theorem State.vat_answer (s : State) (l : List Word) : (s.answer l).vat = s.vat := rfl
@[simp] theorem State.ports_answer (s : State) (l : List Word) : (s.answer l).ports = s.ports := rfl
@[simp] theorem State.lanes_answer (s : State) (l : List Word) : (s.answer l).lanes = s.lanes := rfl
@[simp] theorem State.ctxs_answer (s : State) (l : List Word) : (s.answer l).ctxs = s.ctxs := rfl
@[simp] theorem State.nextCtx_answer (s : State) (l : List Word) : (s.answer l).nextCtx = s.nextCtx := rfl
@[simp] theorem State.engines_answer (s : State) (l : List Word) : (s.answer l).engines = s.engines := rfl
@[simp] theorem State.hbm_answer (s : State) (l : List Word) : (s.answer l).hbm = s.hbm := rfl
@[simp] theorem State.tbl_answer (s : State) (l : List Word) : (s.answer l).tbl = s.tbl := rfl
@[simp] theorem State.flow_answer (s : State) (l : List Word) : (s.answer l).flow = s.flow := rfl
@[simp] theorem State.pair_answer (s : State) (l : List Word) : (s.answer l).pair = s.pair := rfl
@[simp] theorem State.pkg_answer (s : State) (l : List Word) : (s.answer l).pkg = s.pkg := rfl
@[simp] theorem State.vwinStart_answer (s : State) (l : List Word) : (s.answer l).vwinStart = s.vwinStart := rfl
@[simp] theorem State.tickets_answer (s : State) (l : List Word) : (s.answer l).tickets = s.tickets := rfl

/-! ### `State.emit` -/

@[simp] theorem State.pending_emit (s : State) (o : Output) : (s.emit o).pending = s.pending := rfl
@[simp] theorem State.fresh_emit (s : State) (o : Output) : (s.emit o).fresh = s.fresh := rfl
@[simp] theorem State.reply_emit (s : State) (o : Output) : (s.emit o).reply = s.reply := rfl
@[simp] theorem State.regs_emit (s : State) (o : Output) : (s.emit o).regs = s.regs := rfl
@[simp] theorem State.holds_emit (s : State) (o : Output) : (s.emit o).holds = s.holds := rfl
@[simp] theorem State.locks_emit (s : State) (o : Output) : (s.emit o).locks = s.locks := rfl
@[simp] theorem State.time_emit (s : State) (o : Output) : (s.emit o).time = s.time := rfl
@[simp] theorem State.tele_emit (s : State) (o : Output) : (s.emit o).tele = s.tele := rfl
@[simp] theorem State.ledger_emit (s : State) (o : Output) : (s.emit o).ledger = s.ledger := rfl
@[simp] theorem State.flt_emit (s : State) (o : Output) : (s.emit o).flt = s.flt := rfl
@[simp] theorem State.avs_emit (s : State) (o : Output) : (s.emit o).avs = s.avs := rfl
@[simp] theorem State.pace_emit (s : State) (o : Output) : (s.emit o).pace = s.pace := rfl
@[simp] theorem State.intr_emit (s : State) (o : Output) : (s.emit o).intr = s.intr := rfl
@[simp] theorem State.mbx_emit (s : State) (o : Output) : (s.emit o).mbx = s.mbx := rfl
@[simp] theorem State.host_emit (s : State) (o : Output) : (s.emit o).host = s.host := rfl
@[simp] theorem State.pwr_emit (s : State) (o : Output) : (s.emit o).pwr = s.pwr := rfl
@[simp] theorem State.boot_emit (s : State) (o : Output) : (s.emit o).boot = s.boot := rfl
@[simp] theorem State.slices_emit (s : State) (o : Output) : (s.emit o).slices = s.slices := rfl
@[simp] theorem State.vat_emit (s : State) (o : Output) : (s.emit o).vat = s.vat := rfl
@[simp] theorem State.ports_emit (s : State) (o : Output) : (s.emit o).ports = s.ports := rfl
@[simp] theorem State.lanes_emit (s : State) (o : Output) : (s.emit o).lanes = s.lanes := rfl
@[simp] theorem State.ctxs_emit (s : State) (o : Output) : (s.emit o).ctxs = s.ctxs := rfl
@[simp] theorem State.nextCtx_emit (s : State) (o : Output) : (s.emit o).nextCtx = s.nextCtx := rfl
@[simp] theorem State.engines_emit (s : State) (o : Output) : (s.emit o).engines = s.engines := rfl
@[simp] theorem State.hbm_emit (s : State) (o : Output) : (s.emit o).hbm = s.hbm := rfl
@[simp] theorem State.tbl_emit (s : State) (o : Output) : (s.emit o).tbl = s.tbl := rfl
@[simp] theorem State.flow_emit (s : State) (o : Output) : (s.emit o).flow = s.flow := rfl
@[simp] theorem State.pair_emit (s : State) (o : Output) : (s.emit o).pair = s.pair := rfl
@[simp] theorem State.pkg_emit (s : State) (o : Output) : (s.emit o).pkg = s.pkg := rfl
@[simp] theorem State.vwinStart_emit (s : State) (o : Output) : (s.emit o).vwinStart = s.vwinStart := rfl
@[simp] theorem State.tickets_emit (s : State) (o : Output) : (s.emit o).tickets = s.tickets := rfl

/-! ### `State.setSlice` -/

@[simp] theorem State.pending_setSlice (s : State) (n : Nat) (x : Slice) : (s.setSlice n x).pending = s.pending := rfl
@[simp] theorem State.fresh_setSlice (s : State) (n : Nat) (x : Slice) : (s.setSlice n x).fresh = s.fresh := rfl
@[simp] theorem State.reply_setSlice (s : State) (n : Nat) (x : Slice) : (s.setSlice n x).reply = s.reply := rfl
@[simp] theorem State.out_setSlice (s : State) (n : Nat) (x : Slice) : (s.setSlice n x).out = s.out := rfl
@[simp] theorem State.regs_setSlice (s : State) (n : Nat) (x : Slice) : (s.setSlice n x).regs = s.regs := rfl
@[simp] theorem State.holds_setSlice (s : State) (n : Nat) (x : Slice) : (s.setSlice n x).holds = s.holds := rfl
@[simp] theorem State.locks_setSlice (s : State) (n : Nat) (x : Slice) : (s.setSlice n x).locks = s.locks := rfl
@[simp] theorem State.time_setSlice (s : State) (n : Nat) (x : Slice) : (s.setSlice n x).time = s.time := rfl
@[simp] theorem State.tele_setSlice (s : State) (n : Nat) (x : Slice) : (s.setSlice n x).tele = s.tele := rfl
@[simp] theorem State.ledger_setSlice (s : State) (n : Nat) (x : Slice) : (s.setSlice n x).ledger = s.ledger := rfl
@[simp] theorem State.flt_setSlice (s : State) (n : Nat) (x : Slice) : (s.setSlice n x).flt = s.flt := rfl
@[simp] theorem State.avs_setSlice (s : State) (n : Nat) (x : Slice) : (s.setSlice n x).avs = s.avs := rfl
@[simp] theorem State.pace_setSlice (s : State) (n : Nat) (x : Slice) : (s.setSlice n x).pace = s.pace := rfl
@[simp] theorem State.intr_setSlice (s : State) (n : Nat) (x : Slice) : (s.setSlice n x).intr = s.intr := rfl
@[simp] theorem State.mbx_setSlice (s : State) (n : Nat) (x : Slice) : (s.setSlice n x).mbx = s.mbx := rfl
@[simp] theorem State.host_setSlice (s : State) (n : Nat) (x : Slice) : (s.setSlice n x).host = s.host := rfl
@[simp] theorem State.pwr_setSlice (s : State) (n : Nat) (x : Slice) : (s.setSlice n x).pwr = s.pwr := rfl
@[simp] theorem State.boot_setSlice (s : State) (n : Nat) (x : Slice) : (s.setSlice n x).boot = s.boot := rfl
@[simp] theorem State.vat_setSlice (s : State) (n : Nat) (x : Slice) : (s.setSlice n x).vat = s.vat := rfl
@[simp] theorem State.ports_setSlice (s : State) (n : Nat) (x : Slice) : (s.setSlice n x).ports = s.ports := rfl
@[simp] theorem State.lanes_setSlice (s : State) (n : Nat) (x : Slice) : (s.setSlice n x).lanes = s.lanes := rfl
@[simp] theorem State.ctxs_setSlice (s : State) (n : Nat) (x : Slice) : (s.setSlice n x).ctxs = s.ctxs := rfl
@[simp] theorem State.nextCtx_setSlice (s : State) (n : Nat) (x : Slice) : (s.setSlice n x).nextCtx = s.nextCtx := rfl
@[simp] theorem State.engines_setSlice (s : State) (n : Nat) (x : Slice) : (s.setSlice n x).engines = s.engines := rfl
@[simp] theorem State.hbm_setSlice (s : State) (n : Nat) (x : Slice) : (s.setSlice n x).hbm = s.hbm := rfl
@[simp] theorem State.tbl_setSlice (s : State) (n : Nat) (x : Slice) : (s.setSlice n x).tbl = s.tbl := rfl
@[simp] theorem State.flow_setSlice (s : State) (n : Nat) (x : Slice) : (s.setSlice n x).flow = s.flow := rfl
@[simp] theorem State.pair_setSlice (s : State) (n : Nat) (x : Slice) : (s.setSlice n x).pair = s.pair := rfl
@[simp] theorem State.pkg_setSlice (s : State) (n : Nat) (x : Slice) : (s.setSlice n x).pkg = s.pkg := rfl
@[simp] theorem State.vwinStart_setSlice (s : State) (n : Nat) (x : Slice) : (s.setSlice n x).vwinStart = s.vwinStart := rfl
@[simp] theorem State.tickets_setSlice (s : State) (n : Nat) (x : Slice) : (s.setSlice n x).tickets = s.tickets := rfl

/-! ### `State.setEngine` -/

@[simp] theorem State.pending_setEngine (s : State) (k : Nat) (x : Engine) : (s.setEngine k x).pending = s.pending := rfl
@[simp] theorem State.fresh_setEngine (s : State) (k : Nat) (x : Engine) : (s.setEngine k x).fresh = s.fresh := rfl
@[simp] theorem State.reply_setEngine (s : State) (k : Nat) (x : Engine) : (s.setEngine k x).reply = s.reply := rfl
@[simp] theorem State.out_setEngine (s : State) (k : Nat) (x : Engine) : (s.setEngine k x).out = s.out := rfl
@[simp] theorem State.regs_setEngine (s : State) (k : Nat) (x : Engine) : (s.setEngine k x).regs = s.regs := rfl
@[simp] theorem State.holds_setEngine (s : State) (k : Nat) (x : Engine) : (s.setEngine k x).holds = s.holds := rfl
@[simp] theorem State.locks_setEngine (s : State) (k : Nat) (x : Engine) : (s.setEngine k x).locks = s.locks := rfl
@[simp] theorem State.time_setEngine (s : State) (k : Nat) (x : Engine) : (s.setEngine k x).time = s.time := rfl
@[simp] theorem State.tele_setEngine (s : State) (k : Nat) (x : Engine) : (s.setEngine k x).tele = s.tele := rfl
@[simp] theorem State.ledger_setEngine (s : State) (k : Nat) (x : Engine) : (s.setEngine k x).ledger = s.ledger := rfl
@[simp] theorem State.flt_setEngine (s : State) (k : Nat) (x : Engine) : (s.setEngine k x).flt = s.flt := rfl
@[simp] theorem State.avs_setEngine (s : State) (k : Nat) (x : Engine) : (s.setEngine k x).avs = s.avs := rfl
@[simp] theorem State.pace_setEngine (s : State) (k : Nat) (x : Engine) : (s.setEngine k x).pace = s.pace := rfl
@[simp] theorem State.intr_setEngine (s : State) (k : Nat) (x : Engine) : (s.setEngine k x).intr = s.intr := rfl
@[simp] theorem State.mbx_setEngine (s : State) (k : Nat) (x : Engine) : (s.setEngine k x).mbx = s.mbx := rfl
@[simp] theorem State.host_setEngine (s : State) (k : Nat) (x : Engine) : (s.setEngine k x).host = s.host := rfl
@[simp] theorem State.pwr_setEngine (s : State) (k : Nat) (x : Engine) : (s.setEngine k x).pwr = s.pwr := rfl
@[simp] theorem State.boot_setEngine (s : State) (k : Nat) (x : Engine) : (s.setEngine k x).boot = s.boot := rfl
@[simp] theorem State.slices_setEngine (s : State) (k : Nat) (x : Engine) : (s.setEngine k x).slices = s.slices := rfl
@[simp] theorem State.vat_setEngine (s : State) (k : Nat) (x : Engine) : (s.setEngine k x).vat = s.vat := rfl
@[simp] theorem State.ports_setEngine (s : State) (k : Nat) (x : Engine) : (s.setEngine k x).ports = s.ports := rfl
@[simp] theorem State.lanes_setEngine (s : State) (k : Nat) (x : Engine) : (s.setEngine k x).lanes = s.lanes := rfl
@[simp] theorem State.ctxs_setEngine (s : State) (k : Nat) (x : Engine) : (s.setEngine k x).ctxs = s.ctxs := rfl
@[simp] theorem State.nextCtx_setEngine (s : State) (k : Nat) (x : Engine) : (s.setEngine k x).nextCtx = s.nextCtx := rfl
@[simp] theorem State.hbm_setEngine (s : State) (k : Nat) (x : Engine) : (s.setEngine k x).hbm = s.hbm := rfl
@[simp] theorem State.tbl_setEngine (s : State) (k : Nat) (x : Engine) : (s.setEngine k x).tbl = s.tbl := rfl
@[simp] theorem State.flow_setEngine (s : State) (k : Nat) (x : Engine) : (s.setEngine k x).flow = s.flow := rfl
@[simp] theorem State.pair_setEngine (s : State) (k : Nat) (x : Engine) : (s.setEngine k x).pair = s.pair := rfl
@[simp] theorem State.pkg_setEngine (s : State) (k : Nat) (x : Engine) : (s.setEngine k x).pkg = s.pkg := rfl
@[simp] theorem State.vwinStart_setEngine (s : State) (k : Nat) (x : Engine) : (s.setEngine k x).vwinStart = s.vwinStart := rfl
@[simp] theorem State.tickets_setEngine (s : State) (k : Nat) (x : Engine) : (s.setEngine k x).tickets = s.tickets := rfl
@[simp] theorem State.reg_setEngine (s : State) (k : Nat) (x : Engine) (r : Nat) : (s.setEngine k x).reg r = s.reg r := rfl

/-! ### `State.setCtx` -/

@[simp] theorem State.pending_setCtx (s : State) (c : Nat) (x : Ctx) : (s.setCtx c x).pending = s.pending := rfl
@[simp] theorem State.fresh_setCtx (s : State) (c : Nat) (x : Ctx) : (s.setCtx c x).fresh = s.fresh := rfl
@[simp] theorem State.reply_setCtx (s : State) (c : Nat) (x : Ctx) : (s.setCtx c x).reply = s.reply := rfl
@[simp] theorem State.out_setCtx (s : State) (c : Nat) (x : Ctx) : (s.setCtx c x).out = s.out := rfl
@[simp] theorem State.regs_setCtx (s : State) (c : Nat) (x : Ctx) : (s.setCtx c x).regs = s.regs := rfl
@[simp] theorem State.holds_setCtx (s : State) (c : Nat) (x : Ctx) : (s.setCtx c x).holds = s.holds := rfl
@[simp] theorem State.locks_setCtx (s : State) (c : Nat) (x : Ctx) : (s.setCtx c x).locks = s.locks := rfl
@[simp] theorem State.time_setCtx (s : State) (c : Nat) (x : Ctx) : (s.setCtx c x).time = s.time := rfl
@[simp] theorem State.tele_setCtx (s : State) (c : Nat) (x : Ctx) : (s.setCtx c x).tele = s.tele := rfl
@[simp] theorem State.ledger_setCtx (s : State) (c : Nat) (x : Ctx) : (s.setCtx c x).ledger = s.ledger := rfl
@[simp] theorem State.flt_setCtx (s : State) (c : Nat) (x : Ctx) : (s.setCtx c x).flt = s.flt := rfl
@[simp] theorem State.avs_setCtx (s : State) (c : Nat) (x : Ctx) : (s.setCtx c x).avs = s.avs := rfl
@[simp] theorem State.pace_setCtx (s : State) (c : Nat) (x : Ctx) : (s.setCtx c x).pace = s.pace := rfl
@[simp] theorem State.intr_setCtx (s : State) (c : Nat) (x : Ctx) : (s.setCtx c x).intr = s.intr := rfl
@[simp] theorem State.mbx_setCtx (s : State) (c : Nat) (x : Ctx) : (s.setCtx c x).mbx = s.mbx := rfl
@[simp] theorem State.host_setCtx (s : State) (c : Nat) (x : Ctx) : (s.setCtx c x).host = s.host := rfl
@[simp] theorem State.pwr_setCtx (s : State) (c : Nat) (x : Ctx) : (s.setCtx c x).pwr = s.pwr := rfl
@[simp] theorem State.boot_setCtx (s : State) (c : Nat) (x : Ctx) : (s.setCtx c x).boot = s.boot := rfl
@[simp] theorem State.slices_setCtx (s : State) (c : Nat) (x : Ctx) : (s.setCtx c x).slices = s.slices := rfl
@[simp] theorem State.vat_setCtx (s : State) (c : Nat) (x : Ctx) : (s.setCtx c x).vat = s.vat := rfl
@[simp] theorem State.ports_setCtx (s : State) (c : Nat) (x : Ctx) : (s.setCtx c x).ports = s.ports := rfl
@[simp] theorem State.lanes_setCtx (s : State) (c : Nat) (x : Ctx) : (s.setCtx c x).lanes = s.lanes := rfl
@[simp] theorem State.nextCtx_setCtx (s : State) (c : Nat) (x : Ctx) : (s.setCtx c x).nextCtx = s.nextCtx := rfl
@[simp] theorem State.engines_setCtx (s : State) (c : Nat) (x : Ctx) : (s.setCtx c x).engines = s.engines := rfl
@[simp] theorem State.hbm_setCtx (s : State) (c : Nat) (x : Ctx) : (s.setCtx c x).hbm = s.hbm := rfl
@[simp] theorem State.tbl_setCtx (s : State) (c : Nat) (x : Ctx) : (s.setCtx c x).tbl = s.tbl := rfl
@[simp] theorem State.flow_setCtx (s : State) (c : Nat) (x : Ctx) : (s.setCtx c x).flow = s.flow := rfl
@[simp] theorem State.pair_setCtx (s : State) (c : Nat) (x : Ctx) : (s.setCtx c x).pair = s.pair := rfl
@[simp] theorem State.pkg_setCtx (s : State) (c : Nat) (x : Ctx) : (s.setCtx c x).pkg = s.pkg := rfl
@[simp] theorem State.vwinStart_setCtx (s : State) (c : Nat) (x : Ctx) : (s.setCtx c x).vwinStart = s.vwinStart := rfl
@[simp] theorem State.tickets_setCtx (s : State) (c : Nat) (x : Ctx) : (s.setCtx c x).tickets = s.tickets := rfl
@[simp] theorem State.reg_setCtx (s : State) (c : Nat) (x : Ctx) (r : Nat) : (s.setCtx c x).reg r = s.reg r := rfl

/-! ### `State.setFrame` -/

@[simp] theorem State.pending_setFrame (s : State) (f : Nat) (x : Frame) : (s.setFrame f x).pending = s.pending := rfl
@[simp] theorem State.fresh_setFrame (s : State) (f : Nat) (x : Frame) : (s.setFrame f x).fresh = s.fresh := rfl
@[simp] theorem State.reply_setFrame (s : State) (f : Nat) (x : Frame) : (s.setFrame f x).reply = s.reply := rfl
@[simp] theorem State.out_setFrame (s : State) (f : Nat) (x : Frame) : (s.setFrame f x).out = s.out := rfl
@[simp] theorem State.regs_setFrame (s : State) (f : Nat) (x : Frame) : (s.setFrame f x).regs = s.regs := rfl
@[simp] theorem State.holds_setFrame (s : State) (f : Nat) (x : Frame) : (s.setFrame f x).holds = s.holds := rfl
@[simp] theorem State.locks_setFrame (s : State) (f : Nat) (x : Frame) : (s.setFrame f x).locks = s.locks := rfl
@[simp] theorem State.time_setFrame (s : State) (f : Nat) (x : Frame) : (s.setFrame f x).time = s.time := rfl
@[simp] theorem State.tele_setFrame (s : State) (f : Nat) (x : Frame) : (s.setFrame f x).tele = s.tele := rfl
@[simp] theorem State.ledger_setFrame (s : State) (f : Nat) (x : Frame) : (s.setFrame f x).ledger = s.ledger := rfl
@[simp] theorem State.flt_setFrame (s : State) (f : Nat) (x : Frame) : (s.setFrame f x).flt = s.flt := rfl
@[simp] theorem State.avs_setFrame (s : State) (f : Nat) (x : Frame) : (s.setFrame f x).avs = s.avs := rfl
@[simp] theorem State.pace_setFrame (s : State) (f : Nat) (x : Frame) : (s.setFrame f x).pace = s.pace := rfl
@[simp] theorem State.intr_setFrame (s : State) (f : Nat) (x : Frame) : (s.setFrame f x).intr = s.intr := rfl
@[simp] theorem State.mbx_setFrame (s : State) (f : Nat) (x : Frame) : (s.setFrame f x).mbx = s.mbx := rfl
@[simp] theorem State.host_setFrame (s : State) (f : Nat) (x : Frame) : (s.setFrame f x).host = s.host := rfl
@[simp] theorem State.pwr_setFrame (s : State) (f : Nat) (x : Frame) : (s.setFrame f x).pwr = s.pwr := rfl
@[simp] theorem State.boot_setFrame (s : State) (f : Nat) (x : Frame) : (s.setFrame f x).boot = s.boot := rfl
@[simp] theorem State.slices_setFrame (s : State) (f : Nat) (x : Frame) : (s.setFrame f x).slices = s.slices := rfl
@[simp] theorem State.ports_setFrame (s : State) (f : Nat) (x : Frame) : (s.setFrame f x).ports = s.ports := rfl
@[simp] theorem State.lanes_setFrame (s : State) (f : Nat) (x : Frame) : (s.setFrame f x).lanes = s.lanes := rfl
@[simp] theorem State.ctxs_setFrame (s : State) (f : Nat) (x : Frame) : (s.setFrame f x).ctxs = s.ctxs := rfl
@[simp] theorem State.nextCtx_setFrame (s : State) (f : Nat) (x : Frame) : (s.setFrame f x).nextCtx = s.nextCtx := rfl
@[simp] theorem State.engines_setFrame (s : State) (f : Nat) (x : Frame) : (s.setFrame f x).engines = s.engines := rfl
@[simp] theorem State.hbm_setFrame (s : State) (f : Nat) (x : Frame) : (s.setFrame f x).hbm = s.hbm := rfl
@[simp] theorem State.tbl_setFrame (s : State) (f : Nat) (x : Frame) : (s.setFrame f x).tbl = s.tbl := rfl
@[simp] theorem State.flow_setFrame (s : State) (f : Nat) (x : Frame) : (s.setFrame f x).flow = s.flow := rfl
@[simp] theorem State.pair_setFrame (s : State) (f : Nat) (x : Frame) : (s.setFrame f x).pair = s.pair := rfl
@[simp] theorem State.pkg_setFrame (s : State) (f : Nat) (x : Frame) : (s.setFrame f x).pkg = s.pkg := rfl
@[simp] theorem State.vwinStart_setFrame (s : State) (f : Nat) (x : Frame) : (s.setFrame f x).vwinStart = s.vwinStart := rfl
@[simp] theorem State.tickets_setFrame (s : State) (f : Nat) (x : Frame) : (s.setFrame f x).tickets = s.tickets := rfl
@[simp] theorem State.reg_setFrame (s : State) (f : Nat) (x : Frame) (r : Nat) : (s.setFrame f x).reg r = s.reg r := rfl

/-! ### `State.setQueue` -/

@[simp] theorem State.pending_setQueue (s : State) (q : Nat) (l : List Copy) : (s.setQueue q l).pending = s.pending := rfl
@[simp] theorem State.fresh_setQueue (s : State) (q : Nat) (l : List Copy) : (s.setQueue q l).fresh = s.fresh := rfl
@[simp] theorem State.reply_setQueue (s : State) (q : Nat) (l : List Copy) : (s.setQueue q l).reply = s.reply := rfl
@[simp] theorem State.out_setQueue (s : State) (q : Nat) (l : List Copy) : (s.setQueue q l).out = s.out := rfl
@[simp] theorem State.regs_setQueue (s : State) (q : Nat) (l : List Copy) : (s.setQueue q l).regs = s.regs := rfl
@[simp] theorem State.holds_setQueue (s : State) (q : Nat) (l : List Copy) : (s.setQueue q l).holds = s.holds := rfl
@[simp] theorem State.locks_setQueue (s : State) (q : Nat) (l : List Copy) : (s.setQueue q l).locks = s.locks := rfl
@[simp] theorem State.time_setQueue (s : State) (q : Nat) (l : List Copy) : (s.setQueue q l).time = s.time := rfl
@[simp] theorem State.tele_setQueue (s : State) (q : Nat) (l : List Copy) : (s.setQueue q l).tele = s.tele := rfl
@[simp] theorem State.ledger_setQueue (s : State) (q : Nat) (l : List Copy) : (s.setQueue q l).ledger = s.ledger := rfl
@[simp] theorem State.flt_setQueue (s : State) (q : Nat) (l : List Copy) : (s.setQueue q l).flt = s.flt := rfl
@[simp] theorem State.avs_setQueue (s : State) (q : Nat) (l : List Copy) : (s.setQueue q l).avs = s.avs := rfl
@[simp] theorem State.pace_setQueue (s : State) (q : Nat) (l : List Copy) : (s.setQueue q l).pace = s.pace := rfl
@[simp] theorem State.intr_setQueue (s : State) (q : Nat) (l : List Copy) : (s.setQueue q l).intr = s.intr := rfl
@[simp] theorem State.mbx_setQueue (s : State) (q : Nat) (l : List Copy) : (s.setQueue q l).mbx = s.mbx := rfl
@[simp] theorem State.host_setQueue (s : State) (q : Nat) (l : List Copy) : (s.setQueue q l).host = s.host := rfl
@[simp] theorem State.pwr_setQueue (s : State) (q : Nat) (l : List Copy) : (s.setQueue q l).pwr = s.pwr := rfl
@[simp] theorem State.boot_setQueue (s : State) (q : Nat) (l : List Copy) : (s.setQueue q l).boot = s.boot := rfl
@[simp] theorem State.slices_setQueue (s : State) (q : Nat) (l : List Copy) : (s.setQueue q l).slices = s.slices := rfl
@[simp] theorem State.ports_setQueue (s : State) (q : Nat) (l : List Copy) : (s.setQueue q l).ports = s.ports := rfl
@[simp] theorem State.lanes_setQueue (s : State) (q : Nat) (l : List Copy) : (s.setQueue q l).lanes = s.lanes := rfl
@[simp] theorem State.ctxs_setQueue (s : State) (q : Nat) (l : List Copy) : (s.setQueue q l).ctxs = s.ctxs := rfl
@[simp] theorem State.nextCtx_setQueue (s : State) (q : Nat) (l : List Copy) : (s.setQueue q l).nextCtx = s.nextCtx := rfl
@[simp] theorem State.engines_setQueue (s : State) (q : Nat) (l : List Copy) : (s.setQueue q l).engines = s.engines := rfl
@[simp] theorem State.hbm_setQueue (s : State) (q : Nat) (l : List Copy) : (s.setQueue q l).hbm = s.hbm := rfl
@[simp] theorem State.tbl_setQueue (s : State) (q : Nat) (l : List Copy) : (s.setQueue q l).tbl = s.tbl := rfl
@[simp] theorem State.flow_setQueue (s : State) (q : Nat) (l : List Copy) : (s.setQueue q l).flow = s.flow := rfl
@[simp] theorem State.pair_setQueue (s : State) (q : Nat) (l : List Copy) : (s.setQueue q l).pair = s.pair := rfl
@[simp] theorem State.pkg_setQueue (s : State) (q : Nat) (l : List Copy) : (s.setQueue q l).pkg = s.pkg := rfl
@[simp] theorem State.vwinStart_setQueue (s : State) (q : Nat) (l : List Copy) : (s.setQueue q l).vwinStart = s.vwinStart := rfl
@[simp] theorem State.tickets_setQueue (s : State) (q : Nat) (l : List Copy) : (s.setQueue q l).tickets = s.tickets := rfl
@[simp] theorem State.reg_setQueue (s : State) (q : Nat) (l : List Copy) (r : Nat) : (s.setQueue q l).reg r = s.reg r := rfl

/-! ### `State.setRec` -/

@[simp] theorem State.pending_setRec (s : State) (r : Nat) (x : FltRec) : (s.setRec r x).pending = s.pending := rfl
@[simp] theorem State.fresh_setRec (s : State) (r : Nat) (x : FltRec) : (s.setRec r x).fresh = s.fresh := rfl
@[simp] theorem State.reply_setRec (s : State) (r : Nat) (x : FltRec) : (s.setRec r x).reply = s.reply := rfl
@[simp] theorem State.out_setRec (s : State) (r : Nat) (x : FltRec) : (s.setRec r x).out = s.out := rfl
@[simp] theorem State.regs_setRec (s : State) (r : Nat) (x : FltRec) : (s.setRec r x).regs = s.regs := rfl
@[simp] theorem State.holds_setRec (s : State) (r : Nat) (x : FltRec) : (s.setRec r x).holds = s.holds := rfl
@[simp] theorem State.locks_setRec (s : State) (r : Nat) (x : FltRec) : (s.setRec r x).locks = s.locks := rfl
@[simp] theorem State.time_setRec (s : State) (r : Nat) (x : FltRec) : (s.setRec r x).time = s.time := rfl
@[simp] theorem State.tele_setRec (s : State) (r : Nat) (x : FltRec) : (s.setRec r x).tele = s.tele := rfl
@[simp] theorem State.ledger_setRec (s : State) (r : Nat) (x : FltRec) : (s.setRec r x).ledger = s.ledger := rfl
@[simp] theorem State.avs_setRec (s : State) (r : Nat) (x : FltRec) : (s.setRec r x).avs = s.avs := rfl
@[simp] theorem State.pace_setRec (s : State) (r : Nat) (x : FltRec) : (s.setRec r x).pace = s.pace := rfl
@[simp] theorem State.intr_setRec (s : State) (r : Nat) (x : FltRec) : (s.setRec r x).intr = s.intr := rfl
@[simp] theorem State.mbx_setRec (s : State) (r : Nat) (x : FltRec) : (s.setRec r x).mbx = s.mbx := rfl
@[simp] theorem State.host_setRec (s : State) (r : Nat) (x : FltRec) : (s.setRec r x).host = s.host := rfl
@[simp] theorem State.pwr_setRec (s : State) (r : Nat) (x : FltRec) : (s.setRec r x).pwr = s.pwr := rfl
@[simp] theorem State.boot_setRec (s : State) (r : Nat) (x : FltRec) : (s.setRec r x).boot = s.boot := rfl
@[simp] theorem State.slices_setRec (s : State) (r : Nat) (x : FltRec) : (s.setRec r x).slices = s.slices := rfl
@[simp] theorem State.vat_setRec (s : State) (r : Nat) (x : FltRec) : (s.setRec r x).vat = s.vat := rfl
@[simp] theorem State.ports_setRec (s : State) (r : Nat) (x : FltRec) : (s.setRec r x).ports = s.ports := rfl
@[simp] theorem State.lanes_setRec (s : State) (r : Nat) (x : FltRec) : (s.setRec r x).lanes = s.lanes := rfl
@[simp] theorem State.ctxs_setRec (s : State) (r : Nat) (x : FltRec) : (s.setRec r x).ctxs = s.ctxs := rfl
@[simp] theorem State.nextCtx_setRec (s : State) (r : Nat) (x : FltRec) : (s.setRec r x).nextCtx = s.nextCtx := rfl
@[simp] theorem State.engines_setRec (s : State) (r : Nat) (x : FltRec) : (s.setRec r x).engines = s.engines := rfl
@[simp] theorem State.hbm_setRec (s : State) (r : Nat) (x : FltRec) : (s.setRec r x).hbm = s.hbm := rfl
@[simp] theorem State.tbl_setRec (s : State) (r : Nat) (x : FltRec) : (s.setRec r x).tbl = s.tbl := rfl
@[simp] theorem State.flow_setRec (s : State) (r : Nat) (x : FltRec) : (s.setRec r x).flow = s.flow := rfl
@[simp] theorem State.pair_setRec (s : State) (r : Nat) (x : FltRec) : (s.setRec r x).pair = s.pair := rfl
@[simp] theorem State.pkg_setRec (s : State) (r : Nat) (x : FltRec) : (s.setRec r x).pkg = s.pkg := rfl
@[simp] theorem State.vwinStart_setRec (s : State) (r : Nat) (x : FltRec) : (s.setRec r x).vwinStart = s.vwinStart := rfl
@[simp] theorem State.tickets_setRec (s : State) (r : Nat) (x : FltRec) : (s.setRec r x).tickets = s.tickets := rfl
@[simp] theorem State.reg_setRec (s : State) (r : Nat) (x : FltRec) (a : Nat) : (s.setRec r x).reg a = s.reg a := rfl

/-! ### `State.setPort` -/

@[simp] theorem State.pending_setPort (s : State) (p : Nat) (x : Port) : (s.setPort p x).pending = s.pending := rfl
@[simp] theorem State.fresh_setPort (s : State) (p : Nat) (x : Port) : (s.setPort p x).fresh = s.fresh := rfl
@[simp] theorem State.reply_setPort (s : State) (p : Nat) (x : Port) : (s.setPort p x).reply = s.reply := rfl
@[simp] theorem State.out_setPort (s : State) (p : Nat) (x : Port) : (s.setPort p x).out = s.out := rfl
@[simp] theorem State.regs_setPort (s : State) (p : Nat) (x : Port) : (s.setPort p x).regs = s.regs := rfl
@[simp] theorem State.holds_setPort (s : State) (p : Nat) (x : Port) : (s.setPort p x).holds = s.holds := rfl
@[simp] theorem State.locks_setPort (s : State) (p : Nat) (x : Port) : (s.setPort p x).locks = s.locks := rfl
@[simp] theorem State.time_setPort (s : State) (p : Nat) (x : Port) : (s.setPort p x).time = s.time := rfl
@[simp] theorem State.tele_setPort (s : State) (p : Nat) (x : Port) : (s.setPort p x).tele = s.tele := rfl
@[simp] theorem State.ledger_setPort (s : State) (p : Nat) (x : Port) : (s.setPort p x).ledger = s.ledger := rfl
@[simp] theorem State.flt_setPort (s : State) (p : Nat) (x : Port) : (s.setPort p x).flt = s.flt := rfl
@[simp] theorem State.avs_setPort (s : State) (p : Nat) (x : Port) : (s.setPort p x).avs = s.avs := rfl
@[simp] theorem State.pace_setPort (s : State) (p : Nat) (x : Port) : (s.setPort p x).pace = s.pace := rfl
@[simp] theorem State.intr_setPort (s : State) (p : Nat) (x : Port) : (s.setPort p x).intr = s.intr := rfl
@[simp] theorem State.mbx_setPort (s : State) (p : Nat) (x : Port) : (s.setPort p x).mbx = s.mbx := rfl
@[simp] theorem State.host_setPort (s : State) (p : Nat) (x : Port) : (s.setPort p x).host = s.host := rfl
@[simp] theorem State.pwr_setPort (s : State) (p : Nat) (x : Port) : (s.setPort p x).pwr = s.pwr := rfl
@[simp] theorem State.boot_setPort (s : State) (p : Nat) (x : Port) : (s.setPort p x).boot = s.boot := rfl
@[simp] theorem State.slices_setPort (s : State) (p : Nat) (x : Port) : (s.setPort p x).slices = s.slices := rfl
@[simp] theorem State.vat_setPort (s : State) (p : Nat) (x : Port) : (s.setPort p x).vat = s.vat := rfl
@[simp] theorem State.lanes_setPort (s : State) (p : Nat) (x : Port) : (s.setPort p x).lanes = s.lanes := rfl
@[simp] theorem State.ctxs_setPort (s : State) (p : Nat) (x : Port) : (s.setPort p x).ctxs = s.ctxs := rfl
@[simp] theorem State.nextCtx_setPort (s : State) (p : Nat) (x : Port) : (s.setPort p x).nextCtx = s.nextCtx := rfl
@[simp] theorem State.engines_setPort (s : State) (p : Nat) (x : Port) : (s.setPort p x).engines = s.engines := rfl
@[simp] theorem State.hbm_setPort (s : State) (p : Nat) (x : Port) : (s.setPort p x).hbm = s.hbm := rfl
@[simp] theorem State.tbl_setPort (s : State) (p : Nat) (x : Port) : (s.setPort p x).tbl = s.tbl := rfl
@[simp] theorem State.flow_setPort (s : State) (p : Nat) (x : Port) : (s.setPort p x).flow = s.flow := rfl
@[simp] theorem State.pair_setPort (s : State) (p : Nat) (x : Port) : (s.setPort p x).pair = s.pair := rfl
@[simp] theorem State.pkg_setPort (s : State) (p : Nat) (x : Port) : (s.setPort p x).pkg = s.pkg := rfl
@[simp] theorem State.vwinStart_setPort (s : State) (p : Nat) (x : Port) : (s.setPort p x).vwinStart = s.vwinStart := rfl
@[simp] theorem State.tickets_setPort (s : State) (p : Nat) (x : Port) : (s.setPort p x).tickets = s.tickets := rfl
@[simp] theorem State.reg_setPort (s : State) (p : Nat) (x : Port) (r : Nat) : (s.setPort p x).reg r = s.reg r := rfl

/-! ### `State.setLane` -/

@[simp] theorem State.pending_setLane (s : State) (l : Nat) (x : Lane) : (s.setLane l x).pending = s.pending := rfl
@[simp] theorem State.fresh_setLane (s : State) (l : Nat) (x : Lane) : (s.setLane l x).fresh = s.fresh := rfl
@[simp] theorem State.reply_setLane (s : State) (l : Nat) (x : Lane) : (s.setLane l x).reply = s.reply := rfl
@[simp] theorem State.out_setLane (s : State) (l : Nat) (x : Lane) : (s.setLane l x).out = s.out := rfl
@[simp] theorem State.regs_setLane (s : State) (l : Nat) (x : Lane) : (s.setLane l x).regs = s.regs := rfl
@[simp] theorem State.holds_setLane (s : State) (l : Nat) (x : Lane) : (s.setLane l x).holds = s.holds := rfl
@[simp] theorem State.locks_setLane (s : State) (l : Nat) (x : Lane) : (s.setLane l x).locks = s.locks := rfl
@[simp] theorem State.time_setLane (s : State) (l : Nat) (x : Lane) : (s.setLane l x).time = s.time := rfl
@[simp] theorem State.tele_setLane (s : State) (l : Nat) (x : Lane) : (s.setLane l x).tele = s.tele := rfl
@[simp] theorem State.ledger_setLane (s : State) (l : Nat) (x : Lane) : (s.setLane l x).ledger = s.ledger := rfl
@[simp] theorem State.flt_setLane (s : State) (l : Nat) (x : Lane) : (s.setLane l x).flt = s.flt := rfl
@[simp] theorem State.avs_setLane (s : State) (l : Nat) (x : Lane) : (s.setLane l x).avs = s.avs := rfl
@[simp] theorem State.pace_setLane (s : State) (l : Nat) (x : Lane) : (s.setLane l x).pace = s.pace := rfl
@[simp] theorem State.intr_setLane (s : State) (l : Nat) (x : Lane) : (s.setLane l x).intr = s.intr := rfl
@[simp] theorem State.mbx_setLane (s : State) (l : Nat) (x : Lane) : (s.setLane l x).mbx = s.mbx := rfl
@[simp] theorem State.host_setLane (s : State) (l : Nat) (x : Lane) : (s.setLane l x).host = s.host := rfl
@[simp] theorem State.pwr_setLane (s : State) (l : Nat) (x : Lane) : (s.setLane l x).pwr = s.pwr := rfl
@[simp] theorem State.boot_setLane (s : State) (l : Nat) (x : Lane) : (s.setLane l x).boot = s.boot := rfl
@[simp] theorem State.slices_setLane (s : State) (l : Nat) (x : Lane) : (s.setLane l x).slices = s.slices := rfl
@[simp] theorem State.vat_setLane (s : State) (l : Nat) (x : Lane) : (s.setLane l x).vat = s.vat := rfl
@[simp] theorem State.ports_setLane (s : State) (l : Nat) (x : Lane) : (s.setLane l x).ports = s.ports := rfl
@[simp] theorem State.ctxs_setLane (s : State) (l : Nat) (x : Lane) : (s.setLane l x).ctxs = s.ctxs := rfl
@[simp] theorem State.nextCtx_setLane (s : State) (l : Nat) (x : Lane) : (s.setLane l x).nextCtx = s.nextCtx := rfl
@[simp] theorem State.engines_setLane (s : State) (l : Nat) (x : Lane) : (s.setLane l x).engines = s.engines := rfl
@[simp] theorem State.hbm_setLane (s : State) (l : Nat) (x : Lane) : (s.setLane l x).hbm = s.hbm := rfl
@[simp] theorem State.tbl_setLane (s : State) (l : Nat) (x : Lane) : (s.setLane l x).tbl = s.tbl := rfl
@[simp] theorem State.flow_setLane (s : State) (l : Nat) (x : Lane) : (s.setLane l x).flow = s.flow := rfl
@[simp] theorem State.pair_setLane (s : State) (l : Nat) (x : Lane) : (s.setLane l x).pair = s.pair := rfl
@[simp] theorem State.pkg_setLane (s : State) (l : Nat) (x : Lane) : (s.setLane l x).pkg = s.pkg := rfl
@[simp] theorem State.vwinStart_setLane (s : State) (l : Nat) (x : Lane) : (s.setLane l x).vwinStart = s.vwinStart := rfl
@[simp] theorem State.tickets_setLane (s : State) (l : Nat) (x : Lane) : (s.setLane l x).tickets = s.tickets := rfl
@[simp] theorem State.reg_setLane (s : State) (l : Nat) (x : Lane) (r : Nat) : (s.setLane l x).reg r = s.reg r := rfl

/-! ### `State.setQp` -/

@[simp] theorem State.pending_setQp (s : State) (h : Nat) (x : Qp) : (s.setQp h x).pending = s.pending := rfl
@[simp] theorem State.fresh_setQp (s : State) (h : Nat) (x : Qp) : (s.setQp h x).fresh = s.fresh := rfl
@[simp] theorem State.reply_setQp (s : State) (h : Nat) (x : Qp) : (s.setQp h x).reply = s.reply := rfl
@[simp] theorem State.out_setQp (s : State) (h : Nat) (x : Qp) : (s.setQp h x).out = s.out := rfl
@[simp] theorem State.regs_setQp (s : State) (h : Nat) (x : Qp) : (s.setQp h x).regs = s.regs := rfl
@[simp] theorem State.holds_setQp (s : State) (h : Nat) (x : Qp) : (s.setQp h x).holds = s.holds := rfl
@[simp] theorem State.locks_setQp (s : State) (h : Nat) (x : Qp) : (s.setQp h x).locks = s.locks := rfl
@[simp] theorem State.time_setQp (s : State) (h : Nat) (x : Qp) : (s.setQp h x).time = s.time := rfl
@[simp] theorem State.tele_setQp (s : State) (h : Nat) (x : Qp) : (s.setQp h x).tele = s.tele := rfl
@[simp] theorem State.ledger_setQp (s : State) (h : Nat) (x : Qp) : (s.setQp h x).ledger = s.ledger := rfl
@[simp] theorem State.flt_setQp (s : State) (h : Nat) (x : Qp) : (s.setQp h x).flt = s.flt := rfl
@[simp] theorem State.avs_setQp (s : State) (h : Nat) (x : Qp) : (s.setQp h x).avs = s.avs := rfl
@[simp] theorem State.pace_setQp (s : State) (h : Nat) (x : Qp) : (s.setQp h x).pace = s.pace := rfl
@[simp] theorem State.intr_setQp (s : State) (h : Nat) (x : Qp) : (s.setQp h x).intr = s.intr := rfl
@[simp] theorem State.mbx_setQp (s : State) (h : Nat) (x : Qp) : (s.setQp h x).mbx = s.mbx := rfl
@[simp] theorem State.pwr_setQp (s : State) (h : Nat) (x : Qp) : (s.setQp h x).pwr = s.pwr := rfl
@[simp] theorem State.boot_setQp (s : State) (h : Nat) (x : Qp) : (s.setQp h x).boot = s.boot := rfl
@[simp] theorem State.slices_setQp (s : State) (h : Nat) (x : Qp) : (s.setQp h x).slices = s.slices := rfl
@[simp] theorem State.vat_setQp (s : State) (h : Nat) (x : Qp) : (s.setQp h x).vat = s.vat := rfl
@[simp] theorem State.ports_setQp (s : State) (h : Nat) (x : Qp) : (s.setQp h x).ports = s.ports := rfl
@[simp] theorem State.lanes_setQp (s : State) (h : Nat) (x : Qp) : (s.setQp h x).lanes = s.lanes := rfl
@[simp] theorem State.ctxs_setQp (s : State) (h : Nat) (x : Qp) : (s.setQp h x).ctxs = s.ctxs := rfl
@[simp] theorem State.nextCtx_setQp (s : State) (h : Nat) (x : Qp) : (s.setQp h x).nextCtx = s.nextCtx := rfl
@[simp] theorem State.engines_setQp (s : State) (h : Nat) (x : Qp) : (s.setQp h x).engines = s.engines := rfl
@[simp] theorem State.hbm_setQp (s : State) (h : Nat) (x : Qp) : (s.setQp h x).hbm = s.hbm := rfl
@[simp] theorem State.tbl_setQp (s : State) (h : Nat) (x : Qp) : (s.setQp h x).tbl = s.tbl := rfl
@[simp] theorem State.flow_setQp (s : State) (h : Nat) (x : Qp) : (s.setQp h x).flow = s.flow := rfl
@[simp] theorem State.pair_setQp (s : State) (h : Nat) (x : Qp) : (s.setQp h x).pair = s.pair := rfl
@[simp] theorem State.pkg_setQp (s : State) (h : Nat) (x : Qp) : (s.setQp h x).pkg = s.pkg := rfl
@[simp] theorem State.vwinStart_setQp (s : State) (h : Nat) (x : Qp) : (s.setQp h x).vwinStart = s.vwinStart := rfl
@[simp] theorem State.tickets_setQp (s : State) (h : Nat) (x : Qp) : (s.setQp h x).tickets = s.tickets := rfl
@[simp] theorem State.reg_setQp (s : State) (h : Nat) (x : Qp) (r : Nat) : (s.setQp h x).reg r = s.reg r := rfl

/-! ### `State.reportFault` -/

@[simp] theorem State.pending_reportFault (s : State) (src : Nat) (c : FaultClass) (e : Element) (d t : Nat) : (s.reportFault src c e d t).pending = s.pending := rfl
@[simp] theorem State.fresh_reportFault (s : State) (src : Nat) (c : FaultClass) (e : Element) (d t : Nat) : (s.reportFault src c e d t).fresh = s.fresh := rfl
@[simp] theorem State.reply_reportFault (s : State) (src : Nat) (c : FaultClass) (e : Element) (d t : Nat) : (s.reportFault src c e d t).reply = s.reply := rfl
@[simp] theorem State.out_reportFault (s : State) (src : Nat) (c : FaultClass) (e : Element) (d t : Nat) : (s.reportFault src c e d t).out = s.out := rfl
@[simp] theorem State.regs_reportFault (s : State) (src : Nat) (c : FaultClass) (e : Element) (d t : Nat) : (s.reportFault src c e d t).regs = s.regs := rfl
@[simp] theorem State.holds_reportFault (s : State) (src : Nat) (c : FaultClass) (e : Element) (d t : Nat) : (s.reportFault src c e d t).holds = s.holds := rfl
@[simp] theorem State.locks_reportFault (s : State) (src : Nat) (c : FaultClass) (e : Element) (d t : Nat) : (s.reportFault src c e d t).locks = s.locks := rfl
@[simp] theorem State.time_reportFault (s : State) (src : Nat) (c : FaultClass) (e : Element) (d t : Nat) : (s.reportFault src c e d t).time = s.time := rfl
@[simp] theorem State.tele_reportFault (s : State) (src : Nat) (c : FaultClass) (e : Element) (d t : Nat) : (s.reportFault src c e d t).tele = s.tele := rfl
@[simp] theorem State.ledger_reportFault (s : State) (src : Nat) (c : FaultClass) (e : Element) (d t : Nat) : (s.reportFault src c e d t).ledger = s.ledger := rfl
@[simp] theorem State.avs_reportFault (s : State) (src : Nat) (c : FaultClass) (e : Element) (d t : Nat) : (s.reportFault src c e d t).avs = s.avs := rfl
@[simp] theorem State.pace_reportFault (s : State) (src : Nat) (c : FaultClass) (e : Element) (d t : Nat) : (s.reportFault src c e d t).pace = s.pace := rfl
@[simp] theorem State.intr_reportFault (s : State) (src : Nat) (c : FaultClass) (e : Element) (d t : Nat) : (s.reportFault src c e d t).intr = s.intr := rfl
@[simp] theorem State.mbx_reportFault (s : State) (src : Nat) (c : FaultClass) (e : Element) (d t : Nat) : (s.reportFault src c e d t).mbx = s.mbx := rfl
@[simp] theorem State.host_reportFault (s : State) (src : Nat) (c : FaultClass) (e : Element) (d t : Nat) : (s.reportFault src c e d t).host = s.host := rfl
@[simp] theorem State.pwr_reportFault (s : State) (src : Nat) (c : FaultClass) (e : Element) (d t : Nat) : (s.reportFault src c e d t).pwr = s.pwr := rfl
@[simp] theorem State.boot_reportFault (s : State) (src : Nat) (c : FaultClass) (e : Element) (d t : Nat) : (s.reportFault src c e d t).boot = s.boot := rfl
@[simp] theorem State.slices_reportFault (s : State) (src : Nat) (c : FaultClass) (e : Element) (d t : Nat) : (s.reportFault src c e d t).slices = s.slices := rfl
@[simp] theorem State.vat_reportFault (s : State) (src : Nat) (c : FaultClass) (e : Element) (d t : Nat) : (s.reportFault src c e d t).vat = s.vat := rfl
@[simp] theorem State.ports_reportFault (s : State) (src : Nat) (c : FaultClass) (e : Element) (d t : Nat) : (s.reportFault src c e d t).ports = s.ports := rfl
@[simp] theorem State.lanes_reportFault (s : State) (src : Nat) (c : FaultClass) (e : Element) (d t : Nat) : (s.reportFault src c e d t).lanes = s.lanes := rfl
@[simp] theorem State.ctxs_reportFault (s : State) (src : Nat) (c : FaultClass) (e : Element) (d t : Nat) : (s.reportFault src c e d t).ctxs = s.ctxs := rfl
@[simp] theorem State.nextCtx_reportFault (s : State) (src : Nat) (c : FaultClass) (e : Element) (d t : Nat) : (s.reportFault src c e d t).nextCtx = s.nextCtx := rfl
@[simp] theorem State.engines_reportFault (s : State) (src : Nat) (c : FaultClass) (e : Element) (d t : Nat) : (s.reportFault src c e d t).engines = s.engines := rfl
@[simp] theorem State.hbm_reportFault (s : State) (src : Nat) (c : FaultClass) (e : Element) (d t : Nat) : (s.reportFault src c e d t).hbm = s.hbm := rfl
@[simp] theorem State.tbl_reportFault (s : State) (src : Nat) (c : FaultClass) (e : Element) (d t : Nat) : (s.reportFault src c e d t).tbl = s.tbl := rfl
@[simp] theorem State.flow_reportFault (s : State) (src : Nat) (c : FaultClass) (e : Element) (d t : Nat) : (s.reportFault src c e d t).flow = s.flow := rfl
@[simp] theorem State.pair_reportFault (s : State) (src : Nat) (c : FaultClass) (e : Element) (d t : Nat) : (s.reportFault src c e d t).pair = s.pair := rfl
@[simp] theorem State.pkg_reportFault (s : State) (src : Nat) (c : FaultClass) (e : Element) (d t : Nat) : (s.reportFault src c e d t).pkg = s.pkg := rfl
@[simp] theorem State.vwinStart_reportFault (s : State) (src : Nat) (c : FaultClass) (e : Element) (d t : Nat) : (s.reportFault src c e d t).vwinStart = s.vwinStart := rfl
@[simp] theorem State.tickets_reportFault (s : State) (src : Nat) (c : FaultClass) (e : Element) (d t : Nat) : (s.reportFault src c e d t).tickets = s.tickets := rfl

/-! ### Reads after writes -/

theorem State.slice_setSlice (s : State) (i j : Nat) (x : Slice) :
    (s.setSlice i x).slice j = if j = i then x else s.slice j := Store.read_put _ _ _ _ _

theorem State.engine_setEngine (s : State) (i j : Nat) (x : Engine) :
    (s.setEngine i x).engine j = if j = i then x else s.engine j := Store.read_put _ _ _ _ _

theorem State.port_setPort (s : State) (i j : Nat) (x : Port) :
    (s.setPort i x).port j = if j = i then x else s.port j := Store.read_put _ _ _ _ _

theorem State.lane_setLane (s : State) (i j : Nat) (x : Lane) :
    (s.setLane i x).lane j = if j = i then x else s.lane j := Store.read_put _ _ _ _ _

theorem State.qp_setQp (s : State) (i j : Nat) (x : Qp) :
    (s.setQp i x).qp j = if j = i then x else s.qp j := Store.read_put _ _ _ _ _

theorem State.ctx?_setCtx (s : State) (i j : Nat) (x : Ctx) :
    (s.setCtx i x).ctx? j = if j = i then some x else s.ctx? j := Store.at?_set _ _ _ _

theorem State.frame?_setFrame (s : State) (i j : Nat) (x : Frame) :
    (s.setFrame i x).frame? j = if j = i then some x else s.frame? j := Store.at?_set _ _ _ _

theorem State.rec?_setRec (s : State) (i j : Nat) (x : FltRec) :
    (s.setRec i x).rec? j = if j = i then some x else s.rec? j := Store.at?_set _ _ _ _

end Sys2Proof.Machine
end

