-- ==== Sys2Proof/Laws/Tick.lean ====
section
/-!
SUPPORT. Laws/Tick.lean: what the operations of Machine/Tick.lean keep (Laws/Kept.lean).
-/

namespace Sys2Proof.Machine

@[simp] theorem State.secondPowered_kept (s : State) :
    (State.secondPowered s).kept = s.kept := by
  simp [State.secondPowered]

end Sys2Proof.Machine
end

