-- ==== Sys2Proof/WellFormed.lean ====
section
/-!
DEFINITION. WellFormed.lean: which commands can be sent at all. Most operands are bounded by their types; these are the
bounds the types do not carry. The meanings are total on every command, well-formed or not.
-/

namespace Sys2Proof

/-- A register address: a 32-bit word of BAR0's 256 MiB (R9, R370). -/
def addrOk (a : Nat) : Bool := a % 4 == 0 && decide (a < 2 ^ 28)

/-- A host memory address is 64 bits wide (R374). -/
def hostAddrOk (a : Nat) : Bool := decide (a < 2 ^ 64)

/-- A training request names one of the three taps (R260). -/
def TrainReq.ok : TrainReq → Bool
  | .step tap _ => decide (tap < 3)
  | _ => true

/-- The bytes that come at once: at least one, and no more than a cell holds (R193). -/
def cellBytesOk (l : List Byte) : Bool := decide (1 ≤ l.length ∧ l.length ≤ 256)

/-- Whether a command can be sent: the addresses, lengths and indexes it carries exist.
DESIGN CHOICE, log entry 91. -/
def Instr.wellFormed : Instr → Bool
  | .registerWrite _ a _ | .wideLowRead _ a | .unmappedAccess _ a _ | .clearOnRead _ a => addrOk a
  | .badShapeRequest _ _ dwords => decide (1 ≤ dwords)
  | .faultReport src _ _ _ _ => decide (src < 2 ^ 16)
  | .selftestDone r _ | .spareRepairDone r => decide (r < 128)
  | .avsVreadRefresh mv => decide (mv < 2 ^ 16)
  | .loadFetchDone _ (some b) => decide (b.length < 2 ^ 25)
  | .rxFrameStart _ b | .rxLaterCell _ b => cellBytesOk b
  | .rxFrameEnd _ b _ => decide (b.length ≤ 256)
  | .trainingFrameRx _ _ req => req.ok
  | .hostTxFetch _ addr len slice => hostAddrOk addr && decide (len < 2 ^ 16 ∧ slice < 2 ^ 8)
  | .dmaReadCompletion _ (some b) => decide (b.length ≤ 16380)
  | .hostRxDelivery addrs => addrs.all hostAddrOk
  | .bootFetchDone (some b) => decide (b.length < 2 ^ 20)
  | .supplyExcursion _ dur => decide (0 < dur)
  | .sample l | .preload l => l.length == 17
  | _ => true

end Sys2Proof
end

