-- ==== Sys2Proof/Tests/Slice0.lean ====
section
/-!
SUPPORT. Slice0.lean: tests of the model: small states, a witness for every clause of the statements that has hypotheses,
an ill-formed command for each check of WellFormed, and worked examples of the spec. A witness shows a concrete state and
operands that meet a clause's hypotheses together; the values it exhibits are its own.
-/

namespace Sys2Proof.Machine

/-- The state with the active bank of a slice whose bank A is active changed. -/
def State.setActive8 (s : State) (n : Nat) (f : Bank → Bank) : State :=
  s.setSlice n { s.slice n with bankA := f (s.slice n).bankA }

end Sys2Proof.Machine

namespace Sys2Proof.Tests

open Sys2Proof.Machine

set_option maxRecDepth 100000

/-! ### Small states -/

def w0 : State := State.reset
def dOn (s : State) (d : Nat) : State := s.setFld (Reg.PWR_DOM d) 29 27 2
def avs0 (mode : Nat) : State :=
  let s := { w0 with avs := { w0.avs with released := true }, time := { w0.time with mono := 1000000 } }
  (s.setFld Reg.PWR_AVS_CTL 31 30 mode).setFld Reg.PWR_AVS_LIMIT 9 0 713
def avsCap (cap : Nat) : State :=
  let s := dOn (avs0 2) 0
  let s := s.setReg (Reg.SLC_RIND_DESC 0 1 0) 1
  let s := s.setSlice 0 { s.slice 0 with bankA := { (s.slice 0).bankA with full := true } }
  [0,1,2,3].foldl (fun s t => s.setReg (Reg.SLC_PACE_RATE 0 0 t) (BitVec.ofNat 32 ((cap + t) * 65536 + 4 + t))) s
def rec0 : FltRec := { src := srcId 11 5, cls := .corr, elem := .memoryRow, state := .handling }
def flt1 : State := { w0 with flt := { w0.flt with round := some 9, reports := [⟨srcId 7 9, .corr, .memoryRow, 7, 2, 99⟩], selfChecked := true } }
def flt2 : State := let s := flt1.setRec 0 { rec0 with src := srcId 7 9, cls := .corr, elem := .memoryRow, state := .selftest, detail := 7 }
  { s with time := { s.time with mono := 6 } }
def descWords (kind ports : Nat) : List Word := [BitVec.ofNat 32 1, BitVec.ofNat 32 kind, BitVec.ofNat 32 ports]
def ldw (st : Nat) (place : Bool) : State :=
  let s := w0.setLdState 4 st
  s.setLoader 4 { place := place }
def drw (ph : DrainPhase) : State :=
  let s := { w0 with time := { w0.time with mono := 80000 } }.setLdState 6 (if ph = DrainPhase.none then 5 else 6)
  s.setLoader 6 { drain := true, phase := ph, preEpoch := 3 }
def cont0 : List Byte :=
  let h := List.replicate 128 (0 : Byte)
  let h := overlay h 0 (toLE 4 0x53424C48 ++ toLE 2 1 ++ toLE 2 128 ++ toLE 4 524 ++ toLE 2 0x1F09 ++ toLE 1 1 ++ toLE 1 1 ++ toLE 1 4 ++ toLE 1 0 ++ toLE 2 0 ++ toLE 4 0 ++ toLE 4 128 ++ toLE 4 384 ++ toLE 4 32 ++ toLE 4 1 ++ toLE 4 416 ++ toLE 4 104)
  let fr := toLE 4 (4 * 2 ^ 27 + 31 * 2 ^ 18 + 1 * 2 ^ 8) ++ toLE 4 0 ++ toLE 4 16 ++ toLE 4 0 ++ List.replicate 16 1
  withCrc (h ++ List.replicate 256 0 ++ fr ++ List.replicate 104 0)
def cont1 : List Byte := overlay cont0 384 (toLE 4 (4 * 2 ^ 27 + 3 * 2 ^ 8) ++ toLE 4 0)
def rindTwo : State :=
  let s := w0.setSlice 3 { w0.slice 3 with commit := some (2, descWords 0 4) }
  let s := (s.setReg (Reg.SLC_RIND_DESC 3 1 0) 1).setReg (Reg.SLC_RIND_DESC 3 1 2) 3
  let s := (s.setReg (Reg.SLC_RIND_DESC 3 0 0) 1).setReg (Reg.SLC_RIND_DESC 3 0 2) 0xFFFFFFFF
  { s with time := { s.time with mono := 1000000 } }
def port37 (st : Nat) : State :=
  let s := dOn (w0.setFld (Reg.PORT_STAT 37) 23 20 st) 6
  let s := s.setFld Reg.VAT_CTL 31 26 63 |>.setBit Reg.VAT_CTL 30 false
  s.setFld (Reg.PORT_CTL 37) 14 0 9600
def fr5 : Frame := { bytes := List.replicate 64 1, cells := [9], charged := 1, slice := 1, comp := 0, isOpen := false, waiting := true, inPort := 33, orig := 33 }
def ctx5 : Ctx := { slice := 1, pipe := 0, stream := 0, frame := 5 }
def adm5 (f : Frame) : State :=
  let s := dOn w0 4
  let s := s.setReg (Reg.SLC_RIND_DESC 1 1 0) 1
  let s := s.setSlice 1 { s.slice 1 with bankA := { (s.slice 1).bankA with full := true } }
  s.setFrame 5 f
def stg5 (entry : Nat) : State :=
  let s := (adm5 fr5).setCtx 2 { ctx5 with parsed := true }
  let s := ((s.setReg (Reg.SLC_RIND_DESC 1 1 16) 0x04000000).setReg (Reg.SLC_RIND_DESC 1 1 18) 0x01000000)
  let s := s.setBit (Reg.SLC_CS_PROT 1) 0 false
  s.setActive8 1 fun b => ((b.write kXconn 0 31 0 [1]).write kStageCfg 0 0 2048 [BitVec.ofNat 8 entry, 0, 9]).write kDispatch 0 0 36 (toLE 4 (2 ^ 31 + 5))
def mwOpB (op setf b : Nat) : Nat := op * 2 ^ 106 + 1 * 2 ^ 104 + 100 * 2 ^ 96 + 98 * 2 ^ 88 + 1 * 2 ^ 78 + setf * 2 ^ 72 + b * 2 ^ 32 + 4 * 2 ^ 122 + (if 10 ≤ op ∧ op ≤ 12 then 1 else if op = 13 then 2 else 0) * 2 ^ 125
def mwOp (op setf : Nat) : Nat := mwOpB op setf 7
def ctxMw : Ctx := { ctx5 with parsed := true, running := true, md := [(98, 1), (99, 2), (101, 9), (102, 5)] }
def mwS (w : Nat) : State := ((stg5 1).setActive8 1 fun b => b.write kMicro 0 0 0 (toLE 16 w)).setCtx 2 ctxMw
def mwT (m imm : Nat) : State :=
  let s := mwS (m * 2 ^ 68 + imm * 2 ^ 32 + 6 * 2 ^ 64)
  let s := [6,7,8,9].foldl (fun s w => s.setReg (Reg.SLC_RIND_DESC 1 1 w) 0x10000000) s
  let s := [11,13,15].foldl (fun s w => s.setReg (Reg.SLC_RIND_DESC 1 1 w) 0x10000) s
  (s.setBit Reg.TBL_CTL 31 true).setBit Reg.FLOW_CTL 31 true
def stall0 : MissStall := { slice := 1, pipe := 0, stream := 0, part := 3, key := List.replicate 16 0, frames := [], reading := 11, cands := [], since := 0 }
def ep3 : List Byte := List.replicate 16 0 ++ toLE 2 3 ++ [1, 8] ++ toLE 4 5 ++ toLE 2 0 ++ toLE 2 0 ++ toLE 4 0xFFFFF ++ List.replicate 32 0
def mwEp : State := let s := mwT 2 3; s.setTag ((s.epSlots 3 (List.replicate 16 0)).head!) (hashTag (s.epHash1 3 (List.replicate 16 0)))
def mwStall : State :=
  let s := mwT 2 3
  let s := { s with time := { s.time with mono := 10000 }, tbl := { s.tbl with stalls := [(5, { stall0 with frames := [⟨2,0,0,0,0,[]⟩] })], ep := [(11, ep3)] } }
  s.setCtx 2 { ctxMw with outst := [⟨0, 2, 1, none⟩], nextSeq := 1 }
def rt24 : Route := { af := 1, plen := 24, vrf := 7, addr := 5, nhop := 0xFFFFF, opc := 9, seq := 1 }
def mwRt : State := let s := dOn (mwT 3 7) 132
  s.setPress 0 { routes := [{ rt24 with plen := 8, opc := 3 }, rt24] }
def acl6 : List Byte := List.replicate 80 0 ++ [1, 33, 0, 0] ++ toLE 4 0 ++ toLE 4 99
def mwAcl : State := let s := mwT 4 (2 + 16 * 8192)
  { s with tbl := { s.tbl with acl := [(aclIndex 1 0 1, acl6), (aclIndex 1 0 6, acl6), (aclIndex 1 0 7, acl6)] } }
def flw0 : FlowLine := { index := 0, bytes := (List.range 64).map (fun i => if i = 0 then 0 else BitVec.ofNat 8 (i + 1)) }
def fst0 : FlowStall := { slice := 1, pipe := 0, stream := 0, index := 0, frames := [], since := 0 }
def mwFl (m imm : Nat) : State := let s := mwT m imm
  { s with flow := { s.flow with cache := [(5, flw0)], hbm := [(9, List.replicate 64 4)] } }
def mwFst : State :=
  let s := mwT 5 2
  let s := { s with time := { s.time with mono := 10000 }, flow := { s.flow with stalls := [(5, { fst0 with frames := [⟨2,0,0,5,2,[]⟩] })], hbm := [(0, List.replicate 64 3)] } }
  s.setCtx 2 { ctxMw with outst := [⟨0, 5, 1, none⟩], nextSeq := 1 }
def flowOn : State := [140,141,142,143].foldl dOn (w0.setFld (Reg.FLOW_RATE 0) 15 0 60)
def cpy : Copy := { frame := 5, kind := .unicast, dest := 37, queue := 3, slice := 1, comp := 0 }
def rsF : Frame := { fr5 with waiting := false, parsed := true, std := List.replicate 12 3, bytes := List.replicate 100 1, refcnt := 2 }
def rsX (act : Nat) : Ctx := { ctx5 with parsed := true, stage := 24, md := putBytes [] 64 (toBE 4 act ++ toBE 2 37 ++ [3]) }
def rsS (act : Nat) : State :=
  let s := (adm5 fr5).setFld (Reg.PORT_STAT 37) 23 20 2
  let s := dOn (dOn s 5) 6
  let s := s.setReg (Reg.SLC_RIND_DESC 1 1 31) 0x20
  let s := s.setReg (Reg.SLC_RIND_DESC 1 1 3) 8
  let s := s.setReg (Reg.SLC_RIND_DESC 1 1 22) 800
  let s := s.setFld Reg.VAT_CTL 31 26 63 |>.setBit Reg.VAT_CTL 30 false
  (s.setFrame 5 rsF).setCtx 2 (rsX act)
def qS (y : Copy) : State :=
  let s := (rsS 0).delCtx 2
  (s.setQueue (qidOf 37 3) [y]).setReg (Reg.PORT_TEL1 37) 0
def qRc : State :=
  let s := (qS cpy).setQueue (qidOf 37 3) []
  let s := s.setQueue (qidOf 1025 3) [{ cpy with kind := .recirc, dest := 1025 }]
  (s.setFrame 5 { rsF with epoch := 7 }).markDead 1 7
def egX (act : Nat) : Ctx := { (rsX act) with pipe := 1, copy := some cpy }
def tx37 (y : Copy) : State := { qS cpy with vat := { (qS cpy).vat with out := [(37, [y])] } }
def txSol : State := { qS cpy with vat := { (qS cpy).vat with out := [(1057, [{ cpy with sending := true }])] } }
def skF : Frame := { rsF with refcnt := 1, charged := 1, hold := false, resolved := true }
def skS : State :=
  let s := ((qS cpy).setReg Reg.VAT_SKIM_CTL 0x80000000).setReg (Reg.SLC_RIND_DESC 1 1 23) 500
  let s := (dOn s 140).setBit (Reg.PWR_DOM 140) 31 true
  let s := s.setReg (Reg.SLC_RIND_DESC 1 1 0) 5
  let s := { s with vat := { s.vat with qcfg := [(4*743, 0x100), (4*743+1, 0), (4*743+2, 0)] } }
  let s := (s.setLink 9 0x80000000).setFrame 6 { skF with cells := [10] }
  (s.setFrame 5 skF).setQueue 743 [{ cpy with frame := 6 }, cpy]
def skB : State :=
  let s := skS.setFrame 5 { skF with spill := some ⟨0,0,false⟩, cells := [] }
  { s.setQueue 743 [cpy] with vat := { (s.setQueue 743 [cpy]).vat with qcfg := [(4*743, 0x100), (4*743+1, 0), (4*743+2, 3)] } }
def tuS : State := [4,5,6,7].foldl dOn ((mwT 4 0).setReg (tuIdx 1) 99)
def tuC (p : Nat) (u : UpCmd) : State := { tuS.setBit (tuCmd p) 30 true with tbl := { tuS.tbl with cmds := [(p, u)] } }
def lrn0 : Learn := ⟨1, 0, 9, 3, List.replicate 16 0⟩
def lrnB : State := (((mwT 9 3).setBit (Reg.TBL_PART_CFG 3) 16 true).setFld Reg.TBL_CTL 31 28 10).setFld (Reg.TBL_PART_CFG 3) 31 17 4 |>.setFld Reg.TBL_AGE 15 0 77 |>.setBit Reg.TBL_CTL 29 true
def lrnSlot : Nat := (lrnB.epSlots 3 (List.replicate 16 0)).head!
def lrnShard : Nat := hashShard (lrnB.epHash1 3 (List.replicate 16 0))
def lrnS (e : List Byte) : State := (lrnB.setCopies lrnSlot e).setTag lrnSlot (hashTag (lrnB.epHash1 3 (List.replicate 16 0))) |>.setLearnQ lrnShard [lrn0] |>.setLearnQ 0 [lrn0]
def epSt : List Byte := epPut ep3 18 1 3
def epAg : List Byte := ep3
def csS : State := (([4,5,6,7].foldl dOn (adm5 fr5)).setReg (Reg.SLC_CS_DATA 1 2) 0xDEADBEEF |>.setReg (Reg.SLC_LB_DATA 1) 0x8123).setReg (Reg.SLC_CS_PROT 1) 0
def mgO (op : Nat) : Nat := op * 2 ^ 164 + 2 * 2 ^ 154 + 3 * 2 ^ 149 + 5 * 2 ^ 159 + 2 ^ 132 + 0x123456789 * 2 ^ 64
def mgM (m sp : Nat) : Nat := mgO 0 + m * 2 ^ 136 + sp * 2 ^ 128 + 1 * 2 ^ 134 + 4
def mgSq (q : Nat) : Nat := mgO 0 + q * 2 ^ 186 + 0x55 * 2 ^ 172
def egS (w : Nat) : State :=
  let s := (dOn w0 146).setBit (Reg.MGE_STAT 1) 31 false
  s.setEngine 1 { g := [(2, 0x102), (3, 7)], store := putBytes [] (24 * 7) (toLE 24 w), upc := 7, ram := [(0x107, 9)] }
def egQ (q : Nat) (r : List Nat) : State :=
  let s := egS (mgSq q)
  s.setEngine 1 { s.engine 1 with opDone := true, memDone := true, rstack := r }
def lw0 : LedWrite := { summary := true, addr := 8192, bytes := [1,2,3,4,5] }
def prB : State := (((dOn { w0 with time := { w0.time with mono := 10 ^ 9 } } 144).setReg Reg.PAIR_CTL 0x80100005).setFld Reg.PAIR_STAT 17 16 1)
def prS (st term : Nat) : State := (prB.setFld Reg.PAIR_STAT 22 20 st).setReg Reg.PAIR_TERM (BitVec.ofNat 32 term)
def prF (ty sq n : Nat) (p : List Byte) : List Byte := (prB.setFld Reg.PAIR_CTL 15 0 5).solyenFrame ty sq 0 n (if ty = 1 then overlay p 1 [prB.pairAA.toNat, 1 - prB.fld Reg.PAIR_CTL 29 29] else p)
def prRec : List Byte := [5, 2, 0, 3] ++ toLE 4 77 ++ toLE 8 0 ++ toLE 8 1000 ++ toLE 8 2000
def prC : State := let s := prS 4 0
  let s := ((s.setBit Reg.PAIR_CTL 25 true).setBit Reg.PAIR_STAT 19 true)
  { s with pair := { s.pair with ctrAt := 77, ctrDirty := [77] } }
def qpx : TxFetch := { addr := 64, len := 100, slice := 1, started := 0 }
def hqS : State :=
  let s := { dOn (qS cpy) 145 with host := { up := true } }
  let s := { s with pwr := { s.pwr with perstN := true, resetN := true } }
  ((s.setReg (Reg.HOST_QP_CTL 3) 0x80000000).setReg (Reg.HOST_QP_TXIDX 3) 2).setReg (Reg.HOST_QP_RXIDX 3) 8
def hqR : State := hqS.setQueue 21143 [{ cpy with kind := .host, dest := 1056, punt := List.replicate 32 1 }]
def mbS : State :=
  let s := { dOn w0 145 with host := { up := true } }
  let s := (s.setReg (Reg.MBX_CFG 3) 0x00010082).setReg (Reg.MBX_STAGE 3 5) 77
  let s := (s.setReg (Reg.MBX_DBCFG 4) 0x00010082).setReg (Reg.MBX_DB 4) 0x101
  s.setReg (Reg.MBX_MSG 3 0) 99
def bo (b : BootBy) (p : BootPhase) (l : List Byte) : BootOp := { by_ := b, issuer := .pf, phase := p, bytes := l }
def boS (st : Nat) (o : Option BootOp) : State :=
  let s := (dOn (dOn w0 146) 147).setFld Reg.BOOT_STAT 31 28 st
  { s with boot := { s.boot with op := o } }
def fwC : List Byte :=
  let h := List.replicate 64 (0 : Byte)
  let h := overlay h 0 (toLE 4 0x57464C48 ++ toLE 2 1 ++ toLE 2 64 ++ toLE 4 252 ++ toLE 2 0x1F09 ++ toLE 1 1 ++ toLE 1 2 ++ toLE 1 3 ++ toLE 3 0 ++ toLE 4 0 ++ toLE 4 80 ++ toLE 4 144 ++ toLE 4 104)
  withCrc (h ++ List.replicate 80 0 ++ List.replicate 104 0)
def atS : State :=
  let s := (boS 4 none).setReg (Reg.MBX_CFG 3) 0x0001C001
  let s := (s.setReg (Reg.MBX_CFG 5) 0xC0010001).setBit (Reg.MBX_STAT 3) 30 true
  let s := (s.setReg (Reg.MBX_MSG 3 0) 0x00050001).setFld Reg.MGE_DUTYMAP 3 2 1
  s.setBit (Reg.MGE_STAT 1) 31 false

/-! ### Witnesses -/

def st1 : State := { w0 with pending := [.lockRead .pf 3] }

theorem witness_StepTakesTheFrontCommand_1 : ∃ (c : Instr) (rest : List Instr) (s : State), s.pending = c :: rest :=
  ⟨.lockRead .pf 3, [], st1, by decide⟩

theorem witness_EmptyQueueCountsTime_1 : ∃ (s : State), s.pending = [] :=
  ⟨w0, by decide⟩

theorem witness_TwoReadersOfOneLock_1 : ∃ (m : Master) (m' : Master) (i : Fin 64) (s : State), m ≠ m' ∧
    lockAvailable m i = true ∧ lockAvailable m' i = true ∧ s.lockOwner i = 0 :=
  ⟨.pf, .vf 8, 40, w0, by decide⟩

def st2 : State := { w0 with locks := [(63, 1)] }

theorem witness_TwoReadersOfOneLock_2 : ∃ (m : Master) (m' : Master) (i : Fin 64) (s : State), m ≠ m' ∧
    lockAvailable m i = true ∧ lockAvailable m' i = true ∧ s.lockOwner i = m.id :=
  ⟨.pf, .me 1, 63, st2, by decide⟩

theorem witness_LockCommands_1 : ∃ (m : Master) (i : Fin 64) (n : Fin 32) (s : State), (lockAvailable m i = true
    ∧ s.lockOwner i = 0) ∧ (i.val ≠ 32 + n.val) ∧ (lockAvailable m i = true ∧ s.lockOwner i ≠ m.id) :=
  ⟨.vf 31, 63, 3, w0, by decide⟩

def st3 : State := { w0 with locks := [(0, 1)] }

theorem witness_LockCommands_2 : ∃ (m : Master) (i : Fin 64) (s : State), (lockAvailable m i = true ∧
    s.lockOwner i ≠ 0) ∧ (lockAvailable m i = true ∧ s.lockOwner i = m.id) :=
  ⟨.pf, 0, st3, by decide⟩

theorem witness_RegisterReadsAndWrites_1 : ∃ (a : Nat) (d : RegDesc) (s : State), a % 4 = 0 ∧ mapped a = true ∧
    regAt a = some d ∧ s.domOn (domainOf a) = true ∧
    (a = Reg.SLC_EPOCH_CFG 0 ∨ a = Reg.TELE_CTL ∨ a = Reg.TBL_PART_CFG 0) :=
  ⟨Reg.TBL_PART_CFG 0, (regAt (Reg.TBL_PART_CFG 0)).get (by decide), w0, by decide, by decide, rfl, by decide, by decide⟩

def st4 : State := (dOn w0 0).setReg (Reg.SLC_STG_EVT 0 0 0) 0xFFFFFFFF

theorem witness_RegisterReadsAndWrites_2 : ∃ (a : Nat) (d : RegDesc) (s : State), a % 4 = 0 ∧ mapped a = true ∧
    regAt a = some d ∧ s.domOn (domainOf a) = true ∧ (a = Reg.SLC_STG_EVT 0 0 0 ∨ a = Reg.SLC_TBL_CNT 0 0 0) ∧
    Store.at? s.holds (holdKey .pf a) = none :=
  ⟨Reg.SLC_STG_EVT 0 0 0, (regAt (Reg.SLC_STG_EVT 0 0 0)).get (by decide), st4, by decide, by decide, rfl, by decide, by decide, by decide⟩

theorem witness_LockAvailability_1 : ∃ (n : Fin 32) (i : Fin 64) (s : State), lockAvailable (.vf n) i = false ∧
    s.fld (Reg.SLC_RIND_VREC n) 31 28 = 0 :=
  ⟨3, 40, w0, by decide⟩

theorem witness_AccessErrors_1 : ∃ (a : Nat) (w : Bool) (s : State), (mapped a = false ∧
    s.bit Reg.HOST_STAT 31 = false) ∧ (mapped a = false ∧ w = false) :=
  ⟨0x70000, false, w0, by decide⟩

def st5 : State := w0.setReg Reg.HOST_STAT 0x80000000

theorem witness_AccessErrors_2 : ∃ (a : Nat) (s : State), mapped a = false ∧ s.bit Reg.HOST_STAT 31 = true :=
  ⟨0x70000, st5, by decide⟩

theorem witness_WideValuesReadConsistently_1 : ∃ (m : Master) (m' : Master), m.trusted = true ∧
    m'.trusted = true ∧ m ≠ m' :=
  ⟨.pf, .me 3, by decide⟩

def st6 : State := avs0 3

theorem witness_VoltageLoop_1 : ∃ (s : State), s.avsActive = true ∧ s.avs.awaiting = false ∧
    s.avs.lastEval + us (oneIfZero (s.fld Reg.PWR_AVS_CTL 11 8)) ≤ s.time.mono ∧ s.fld Reg.PWR_AVS_CTL 31 30 = 3
    ∧ s.avsClamp (s.fld Reg.PWR_AVS_LIMIT 9 0 / 5 * 5) ≠ s.fld Reg.PWR_AVS_STAT 25 16 :=
  ⟨st6, by decide⟩

def st7 : State := avsCap 1010

theorem witness_VoltageLoop_2 : ∃ (s : State) (cap : Nat) (load : Nat) (need : Nat), s.avsActive = true ∧
    s.avs.awaiting = false ∧ s.avs.lastEval + us (oneIfZero (s.fld Reg.PWR_AVS_CTL 11 8)) ≤ s.time.mono ∧
    s.fld Reg.PWR_AVS_CTL 31 30 ≠ 3 ∧
    (∀ y ∈ s.serviceStreams, cap ≤ s.fld (Reg.SLC_PACE_RATE y.1 y.2.1 y.2.2) 31 16 ∧
    s.fld (Reg.SLC_PACE_RATE y.1 y.2.1 y.2.2) 15 0 ≤ load) ∧
    (∃ y ∈ s.serviceStreams, cap = s.fld (Reg.SLC_PACE_RATE y.1 y.2.1 y.2.2) 31 16) ∧
    (∃ y ∈ s.serviceStreams, load = s.fld (Reg.SLC_PACE_RATE y.1 y.2.1 y.2.2) 15 0) ∧
    (need = (if s.fld Reg.PWR_AVS_CTL 31 30 = 1 then 100 * s.fld Reg.PWR_AVS_CTL 27 16 else max 100000 (110 * load)))
    ∧ need ≤ 100 * cap ∧ 10000 * cap ≤ 103 * need :=
  ⟨st7, 1010, 7, 100000, by decide⟩

def st8 : State := avsCap 1031

theorem witness_VoltageLoop_3 : ∃ (s : State) (cap : Nat) (load : Nat) (need : Nat), s.avsActive = true ∧
    s.avs.awaiting = false ∧ s.avs.lastEval + us (oneIfZero (s.fld Reg.PWR_AVS_CTL 11 8)) ≤ s.time.mono ∧
    s.fld Reg.PWR_AVS_CTL 31 30 ≠ 3 ∧
    (∀ y ∈ s.serviceStreams, cap ≤ s.fld (Reg.SLC_PACE_RATE y.1 y.2.1 y.2.2) 31 16 ∧
    s.fld (Reg.SLC_PACE_RATE y.1 y.2.1 y.2.2) 15 0 ≤ load) ∧
    (∃ y ∈ s.serviceStreams, cap = s.fld (Reg.SLC_PACE_RATE y.1 y.2.1 y.2.2) 31 16) ∧
    (∃ y ∈ s.serviceStreams, load = s.fld (Reg.SLC_PACE_RATE y.1 y.2.1 y.2.2) 15 0) ∧
    (need = (if s.fld Reg.PWR_AVS_CTL 31 30 = 1 then 100 * s.fld Reg.PWR_AVS_CTL 27 16 else max 100000 (110 * load)))
    ∧ 103 * need < 10000 * cap ∧ s.avs.hold + 1 < oneIfZero (s.fld Reg.PWR_AVS_CTL 7 0) :=
  ⟨st8, 1031, 7, 100000, by decide⟩

def st9 : State := { avsCap 1031 with avs := { (avsCap 1031).avs with hold := 100 } }

theorem witness_VoltageLoop_4 : ∃ (s : State) (cap : Nat) (load : Nat) (need : Nat), s.avsActive = true ∧
    s.avs.awaiting = false ∧ s.avs.lastEval + us (oneIfZero (s.fld Reg.PWR_AVS_CTL 11 8)) ≤ s.time.mono ∧
    s.fld Reg.PWR_AVS_CTL 31 30 ≠ 3 ∧
    (∀ y ∈ s.serviceStreams, cap ≤ s.fld (Reg.SLC_PACE_RATE y.1 y.2.1 y.2.2) 31 16 ∧
    s.fld (Reg.SLC_PACE_RATE y.1 y.2.1 y.2.2) 15 0 ≤ load) ∧
    (∃ y ∈ s.serviceStreams, cap = s.fld (Reg.SLC_PACE_RATE y.1 y.2.1 y.2.2) 31 16) ∧
    (∃ y ∈ s.serviceStreams, load = s.fld (Reg.SLC_PACE_RATE y.1 y.2.1 y.2.2) 15 0) ∧
    (need = (if s.fld Reg.PWR_AVS_CTL 31 30 = 1 then 100 * s.fld Reg.PWR_AVS_CTL 27 16 else max 100000 (110 * load)))
    ∧ 103 * need < 10000 * cap ∧ oneIfZero (s.fld Reg.PWR_AVS_CTL 7 0) ≤ s.avs.hold + 1 :=
  ⟨st9, 1031, 7, 100000, by decide⟩

def st10 : State := { avsCap 900 with avs := { (avsCap 900).avs with v := 780 } }

theorem witness_VoltageLoop_5 : ∃ (s : State) (cap : Nat) (load : Nat) (need : Nat), s.avsActive = true ∧
    s.avs.awaiting = false ∧ s.avs.lastEval + us (oneIfZero (s.fld Reg.PWR_AVS_CTL 11 8)) ≤ s.time.mono ∧
    s.fld Reg.PWR_AVS_CTL 31 30 ≠ 3 ∧
    (∀ y ∈ s.serviceStreams, cap ≤ s.fld (Reg.SLC_PACE_RATE y.1 y.2.1 y.2.2) 31 16 ∧
    s.fld (Reg.SLC_PACE_RATE y.1 y.2.1 y.2.2) 15 0 ≤ load) ∧
    (∃ y ∈ s.serviceStreams, cap = s.fld (Reg.SLC_PACE_RATE y.1 y.2.1 y.2.2) 31 16) ∧
    (∃ y ∈ s.serviceStreams, load = s.fld (Reg.SLC_PACE_RATE y.1 y.2.1 y.2.2) 15 0) ∧
    (need = (if s.fld Reg.PWR_AVS_CTL 31 30 = 1 then 100 * s.fld Reg.PWR_AVS_CTL 27 16 else max 100000 (110 * load)))
    ∧ 100 * cap < need ∧ s.avs.v = s.fld Reg.PWR_AVS_LIMIT 31 22 :=
  ⟨st10, 900, 7, 100000, by decide⟩

def st11 : State := { avsCap 900 with avs := { (avsCap 900).avs with fails := 2 } }

theorem witness_AvsBusAndPace_1 : ∃ (n : Fin 32) (pipe : Fin 2) (st : Fin 4) (m : Master) (s : State), (s.avs.released = true
    ∧ s.bit Reg.PWR_AVS_STAT 31 = false ∧ s.avs.fails = 2) ∧ (m.trusted = true) ∧ (s.avsActive = true ∧
    s.avs.readDue ≤ s.time.mono) ∧
    ((s.paceOf n pipe st).start + us (s.fld (Reg.SLC_PACE_CFG n) 3 0 + 1) ≤ s.time.mono ∧
    s.domOn (4 * n + pipe) = false) :=
  ⟨0, 1, 3, .pf, st11, by decide⟩

def st12 : State := (avsCap 900).setFld (Reg.SLC_PACE_CFG 0) 31 16 1000

theorem witness_AvsBusAndPace_2 : ∃ (n : Fin 32) (pipe : Fin 2) (st : Fin 4) (x : Nat) (s : State), (s.paceOf n pipe st).start + us (s.fld (Reg.SLC_PACE_CFG n) 3 0 + 1) ≤ s.time.mono
    ∧ s.domOn (4 * n + pipe) = true ∧ min x 65535 < s.fld (Reg.SLC_PACE_CFG n) 31 16 :=
  ⟨0, 0, 2, 9, st12, by decide⟩

theorem witness_FaultReportsAndRounds_1 : ∃ (src : Nat) (cls : FaultClass) (e : Element) (r : Report) (s : State), (reportable src cls = true
    ∧ elemOf (srcCls src) e = true ∧ s.domOn (srcDomain src) = true ∧ e ≠ .storeWord) ∧
    (s.flt.round.isSome = true ∧ (∀ q ∈ s.flt.reports, q.cls = .corr) ∧ s.flt.history = [] ∧
    s.bit Reg.FLT_FIRST 31 = false ∧ r ∈ s.flt.reports ∧ (∀ q ∈ s.flt.reports, q = r ∨ r.src < q.src)) ∧
    (s.flt.round.isSome = true ∧ s.flt.reports = [r] ∧ r.cls = .corr ∧ s.flt.history = [] ∧ s.flt.recs = []) ∧
    (s.flt.recs = []) :=
  ⟨srcId 7 9, .corr, .memoryRow, ⟨srcId 7 9, .corr, .memoryRow, 7, 2, 99⟩, flt1, by decide⟩

def st13 : State := { w0.setRec 63 { rec0 with shadow := some (5, 6) } with time := { w0.time with mono := 6 } }

theorem witness_FaultReportsAndRounds_2 : ∃ (a : Nat) (b : Nat) (i : Fin 64) (x : FltRec) (s : State), (s.rec? i = some x
    ∧ x.shadow = some (a, b) ∧ b ≤ s.time.mono) ∧ (s.flt.selfChecked = false) :=
  ⟨5, 6, 63, { rec0 with shadow := some (5, 6) }, st13, by decide⟩

theorem witness_FaultReportsAndRounds_3 : ∃ (r : Report) (x : FltRec) (s : State), s.flt.round.isSome = true ∧
    s.flt.reports = [r] ∧ r.cls = .corr ∧ s.flt.recs = [(0, x)] ∧ x.state = .selftest ∧ x.cls = .corr ∧
    x.shadow = none ∧ x.src = r.src ∧ x.detail = r.detail :=
  ⟨⟨srcId 7 9, .corr, .memoryRow, 7, 2, 99⟩, { rec0 with src := srcId 7 9, cls := .corr, elem := .memoryRow, state := .selftest, detail := 7 }, flt2, by decide⟩

def st14 : State := w0.setRec 3 { rec0 with state := .selftest }

theorem witness_CourseOfARecord_1 : ∃ (r : Fin 64) (x : FltRec) (m : Master) (s : State), s.rec? r = some x ∧
    m.trusted = true ∧ x.needLoad = false ∧ x.needCommit = [] ∧ x.scope = .none ∧ x.isTile = false ∧
    x.state = .selftest ∧ s.bit Reg.FLT_CTL 29 = true ∧ s.spareLeft x = true :=
  ⟨3, { rec0 with state := .selftest }, .me 1, st14, by decide⟩

def st15 : State := ((w0.setRec 3 { rec0 with state := .selftest }).setFld Reg.FLT_CTL 29 29 0)

theorem witness_CourseOfARecord_2 : ∃ (r : Fin 64) (x : FltRec) (m : Master) (s : State), s.rec? r = some x ∧
    m.trusted = true ∧ x.needLoad = false ∧ x.needCommit = [] ∧ x.scope = .none ∧ x.isTile = false ∧
    x.state = .selftest ∧ s.bit Reg.FLT_CTL 29 = false :=
  ⟨3, { rec0 with state := .selftest }, .me 1, st15, by decide⟩

def st16 : State := ((w0.setRec 3 { rec0 with state := .selftest }).setFld Reg.FLT_CTL 29 29 1).setReg (Reg.FLT_SPROW 0) 0

theorem witness_CourseOfARecord_3 : ∃ (r : Fin 64) (x : FltRec) (m : Master) (s : State), s.rec? r = some x ∧
    m.trusted = true ∧ x.needLoad = false ∧ x.needCommit = [] ∧ x.scope = .none ∧ x.isTile = false ∧
    x.state = .selftest ∧ s.bit Reg.FLT_CTL 29 = true ∧ s.spareLeft x = false :=
  ⟨3, { rec0 with state := .selftest }, .me 1, st16, by decide⟩

def st17 : State := (w0.setRec 5 { rec0 with state := .repair }).setRec 3 rec0

theorem witness_CourseOfARecord_4 : ∃ (r : Fin 64) (x : FltRec) (m : Master) (s : State), s.rec? r = some x ∧
    m.trusted = true ∧ x.needLoad = false ∧ x.needCommit = [] ∧ x.scope = .none ∧ x.isTile = false ∧
    x.state = .repair :=
  ⟨5, { rec0 with state := .repair }, .pf, st17, by decide⟩

def st18 : State := (w0.setRec 5 { rec0 with state := .done }).setRec 3 rec0

theorem witness_CourseOfARecord_5 : ∃ (r : Fin 64) (x : FltRec) (m : Master) (s : State), s.rec? r = some x ∧
    m.trusted = true ∧ x.needLoad = false ∧ x.needCommit = [] ∧ x.scope = .none ∧ x.isTile = false ∧
    x.state = .done :=
  ⟨5, { rec0 with state := .done }, .pf, st18, by decide⟩

def st19 : State := (w0.setRec 5 { rec0 with state := .held, lasting := true }).setRec 63 rec0

theorem witness_CourseOfARecord_6 : ∃ (r : Fin 64) (x : FltRec) (m : Master) (s : State), s.rec? r = some x ∧
    m.trusted = true ∧ x.needLoad = false ∧ x.needCommit = [] ∧ x.scope = .none ∧ x.isTile = false ∧
    x.state = .held ∧ x.lasting = true ∧ x.spareUsed = false ∧ s.spareLeft x = true :=
  ⟨5, { rec0 with state := .held, lasting := true }, .pf, st19, by decide⟩

theorem witness_DomainRequests_1 : ∃ (d : Fin 148) (m : Master) (s : State), domWriter m d = true ∧
    s.domState d = 0 ∧ s.domAsked d = false ∧ s.pwr.ramping = [] :=
  ⟨5, .pf, w0, by decide⟩

def st20 : State := dOn w0 147

theorem witness_DomainRequests_2 : ∃ (d : Fin 148) (m : Master) (s : State), domWriter m d = true ∧
    s.domState d = 2 ∧ s.domAsked d = true ∧ s.pwr.ramping = [] ∧ s.offOk d = true :=
  ⟨147, .pf, st20, by decide⟩

def st21 : State := (dOn w0 130).setBit Reg.VAT_CTL 28 true

theorem witness_DomainRequests_3 : ∃ (d : Fin 148) (m : Master) (s : State), domWriter m d = true ∧
    s.domState d = 2 ∧ s.domAsked d = true ∧ s.pwr.ramping = [] ∧ s.offOk d = false :=
  ⟨130, .pf, st21, by decide⟩

theorem witness_DomainRequests_4 : ∃ (d : Fin 148) (m : Master), m.trusted = true ∧ domWriter m d = false :=
  ⟨147, .me 2, by decide⟩

def st22 : State := { w0 with pwr := { w0.pwr with waiting := [(5, true)] } }

theorem witness_DomainRequests_5 : ∃ (d : Fin 148) (up : Bool) (rest : List (Nat × Bool)) (s : State), s.pwr.ramping.length < 4
    ∧ s.nextRamp = some ((d.val, up), rest) ∧ up = true ∧ s.domState d = 0 :=
  ⟨5, true, [], st22, by decide⟩

def st23 : State := { dOn w0 129 with pwr := { w0.pwr with waiting := [(129, false), (1, true)] } }

theorem witness_DomainRequests_6 : ∃ (d : Fin 148) (up : Bool) (rest : List (Nat × Bool)) (s : State), s.pwr.ramping.length < 4
    ∧ s.nextRamp = some ((d.val, up), rest) ∧ up = false ∧ s.domState d = 2 ∧ 128 ≤ d.val ∧ d.val < 132 :=
  ⟨129, false, [(1, true)], st23, by decide⟩

def st24 : State := { w0 with pwr := { w0.pwr with ramping := [⟨4, true, 0⟩, ⟨5, true, 0⟩] } }

theorem witness_DomainRequests_7 : ∃ (d : Fin 148) (e : Ramp) (s : State), (s.pwr.ramping.find? (fun y => y.dom == d.val) = some e)
    ∧ s.time.mono < e.start + 100000 ∧ e.up = true ∧ d.val < 132 :=
  ⟨5, ⟨5, true, 0⟩, st24, by decide⟩

def st25 : State := { w0 with pwr := { w0.pwr with ramping := [⟨129, false, 0⟩] } }

theorem witness_DomainRequests_8 : ∃ (d : Fin 148) (e : Ramp) (s : State), (s.pwr.ramping.find? (fun y => y.dom == d.val) = some e)
    ∧ s.time.mono < e.start + 100000 ∧ e.up = false :=
  ⟨129, ⟨129, false, 0⟩, st25, by decide⟩

def st26 : State := { w0 with time := { w0.time with mono := 100000 }, pwr := { w0.pwr with ramping := [⟨129, false, 0⟩] } }

theorem witness_DomainRequests_9 : ∃ (d : Fin 148) (e : Ramp) (s : State), (s.pwr.ramping.find? (fun y => y.dom == d.val) = some e)
    ∧ e.start + 100000 ≤ s.time.mono ∧ 128 ≤ d.val ∧ d.val < 132 :=
  ⟨129, ⟨129, false, 0⟩, st26, by decide⟩

def st27 : State := { w0 with pwr := { w0.pwr with resetN := true }, locks := [(3, 1), (4, 128)], time := { w0.time with mono := 77 }, host := { w0.host with up := true } }

theorem witness_Resets_1 : ∃ (s : State), (s.pwr.shutdown ≠ .running ∧ s.pwr.resetN = true) ∧
    (s.pwr.resetN = true) ∧ (s.pwr.aonValid = true) :=
  ⟨st27, by decide⟩

def st28 : State := { w0 with pwr := { w0.pwr with resetN := true, shutdown := .running }, locks := [(3, 1)], flt := { w0.flt with fatalDue := some 5 }, time := { w0.time with mono := 77 } }

theorem witness_Resets_2 : ∃ (at_ : Nat) (s : State), s.flt.fatalDue = some at_ ∧ at_ ≤ s.time.mono :=
  ⟨5, st28, by decide⟩

theorem witness_Resets_3 : ∃ (s : State), s.pwr.resetN = false :=
  ⟨w0, by decide⟩

def st29 : State := { (dOn w0 147).setBit (Reg.MGE_STAT 2) 31 false with locks := [(9, 0x82), (10, 1)], ledger := { w0.ledger with busy := some ⟨false, 0, [], 0, false⟩ } }

theorem witness_EngineResetAndShutdown_1 : ∃ (k : Fin 4) (s : State), (s.domOn (146 + k.val / 2) = true ∧
    s.bit (Reg.MGE_CTL k) 31 = false) ∧ (s.pwr.shutdown = .none ∧
    (∀ p : Fin 1024, (s.assigned p && s.portOn p) = false) ∧ s.engRuns k = true) ∧ (s.pwr.shutdown = .none ∧
    (∀ p : Fin 1024, (s.assigned p && s.portOn p) = false) ∧ s.ledger.busy.isSome = true) :=
  ⟨2, st29, by decide +kernel⟩

def st30 : State := { w0 with pwr := { w0.pwr with shutdown := .running } }

theorem witness_EngineResetAndShutdown_2 : ∃ (s : State), s.pwr.shutdown = .running ∧ s.ledger.busy = none ∧
    s.ledger.queue = [] ∧ s.ledger.wantSummary = none ∧ (∀ j : Fin 4, s.engRuns j = false) :=
  ⟨st30, by decide⟩

theorem witness_RindCommits_1 : ∃ (m : Master) (n : Fin 32) (i : Nat) (ws : List Word) (c : Fin 8) (c' : Fin 8) (s : State), (m.trusted = true
    ∧ s.bit (Reg.SLC_RIND_CMD n) 30 = false) ∧ ((s.slice n).commit = some (i, ws) ∧ c ≠ c') ∧
    (s.vwinStart + 1000000 ≤ s.time.mono) :=
  ⟨.me 0, 3, 2, descWords 0 4, 0, 1, rindTwo, by decide⟩

theorem witness_ViolationsQuarantine_1 : ∃ (n : Fin 32) (c : Fin 8) (kind : Nat) (pipe : Nat) (stage : Nat) (s : State), (1 ≤ kind
    ∧ kind < 16 ∧ pipe < 2 ∧ stage < 32 ∧ s.fld (Reg.SLC_RIND_VREC n) 31 28 = 0) ∧ (1 ≤ kind ∧ kind < 16 ∧
    pipe < 2 ∧ stage < 32 ∧
    (s.fld (Reg.SLC_RIND_CTL n) 15 8 = 0 ∨ Store.read 0 (s.slice n).vwin c < s.fld (Reg.SLC_RIND_CTL n) 15 8))
    ∧ (1 ≤ kind ∧ kind < 16 ∧ pipe < 2 ∧ stage < 32 ∧ (∃ (a : Fin 16), a ≠ Reg.SLC_RIND_VCNT n c ∧
    a ≠ Reg.SLC_RIND_VREC n ∧ a ≠ Reg.SLC_RIND_STAT n ∧ a ≠ Reg.HOST_STAT)) :=
  ⟨5, 7, 3, 1, 31, w0, by decide⟩

def st31 : State := (w0.setFld (Reg.SLC_RIND_CTL 5) 15 8 1).setSlice 5 { w0.slice 5 with vwin := [(7, 1)] }

theorem witness_ViolationsQuarantine_2 : ∃ (n : Fin 32) (c : Fin 8) (kind : Nat) (pipe : Nat) (stage : Nat) (s : State), 1 ≤ kind
    ∧ kind < 16 ∧ pipe < 2 ∧ stage < 32 ∧ s.fld (Reg.SLC_RIND_CTL n) 15 8 ≠ 0 ∧
    s.fld (Reg.SLC_RIND_CTL n) 15 8 ≤ Store.read 0 (s.slice n).vwin c :=
  ⟨5, 7, 3, 1, 31, st31, by decide⟩

def st32 : State := ((w0.setFld (Reg.SLC_RIND_CTL 5) 15 8 0).setReg (Reg.SLC_RIND_VREC 5) 0xF0000000).setReg (Reg.SLC_RIND_VCNT 5 0) 0xFFFFFFFF

theorem witness_ViolationsQuarantine_3 : ∃ (n : Fin 32) (kind : Nat) (pipe : Nat) (stage : Nat) (s : State), 1 ≤ kind
    ∧ kind < 16 ∧ pipe < 2 ∧ stage < 32 ∧ s.fld (Reg.SLC_RIND_VREC n) 31 28 ≠ 0 :=
  ⟨5, 3, 1, 31, st32, by decide⟩

def st33 : State := dOn (dOn w0 28) 29

theorem witness_LoaderCommands_1 : ∃ (m : Master) (n : Fin 32) (s : State), (m.trusted = true ∧ s.ldState n = 0
    ∧ s.domOn (4 * n) = true ∧ s.domOn (4 * n + 1) = true) ∧ (m.trusted = true ∧
    ldRunning (s.ldState n) = false) :=
  ⟨.me 2, 7, st33, by decide⟩

def st34 : State := w0.setLdState 7 3

theorem witness_LoaderCommands_2 : ∃ (m : Master) (n : Fin 32) (s : State), (m.trusted = true ∧
    (s.ldState n = 1 ∨ s.ldState n = 2 ∨ s.ldState n = 3)) ∧ (m.trusted = true ∧
    ldRunning (s.ldState n) = true) :=
  ⟨.pf, 7, st34, by decide⟩

def st35 : State := w0.setLdState 7 4

theorem witness_LoaderCommands_3 : ∃ (m : Master) (n : Fin 32) (s : State), m.trusted = true ∧
    s.ldState n = 4 :=
  ⟨.pf, 7, st35, by decide⟩

def st36 : State := (w0.setLdState 7 7).setFld (Reg.SLC_EPOCH 7) 27 24 5

theorem witness_LoaderCommands_4 : ∃ (m : Master) (n : Fin 32) (s : State), m.trusted = true ∧
    s.ldState n = 7 :=
  ⟨.pf, 7, st36, by decide⟩

def st37 : State := ldw 1 false

theorem witness_LoadSteps_1 : ∃ (n : Fin 32) (s : State), s.waitsPlace n = true ∧ s.placesHeld < 4 ∧
    (∀ k : Fin 32, s.waitsPlace k = true → (s.loader n).ticket ≤ (s.loader k).ticket) :=
  ⟨4, st37, by decide⟩

def st38 : State := ldw 1 true

theorem witness_LoadSteps_2 : ∃ (n : Fin 32) (b : Option (List Byte)) (s : State), s.ldState n = 1 ∧
    (s.loader n).place = true ∧ b = none :=
  ⟨4, none, st38, by decide⟩

def st39 : State := (ldw 1 true).setFld (Reg.SLC_BS_LEN 4) 24 0 4

theorem witness_LoadSteps_3 : ∃ (n : Fin 32) (b : Option (List Byte)) (bs : List Byte) (s : State), s.ldState n = 1
    ∧ (s.loader n).place = true ∧ b = some bs ∧ bs.length = s.fld (Reg.SLC_BS_LEN n) 24 0 ∧
    containerCrcOk bs = false :=
  ⟨4, some [1,2,3,4], [1,2,3,4], st39, by decide⟩

def st40 : State := ((ldw 1 true).setFld (Reg.SLC_BS_LEN 4) 24 0 524).setFld (Reg.SLC_RIND_CTL 4) 17 17 1

theorem witness_LoadSteps_4 : ∃ (n : Fin 32) (b : Option (List Byte)) (bs : List Byte) (s : State), s.ldState n = 1
    ∧ (s.loader n).place = true ∧ b = some bs ∧ bs.length = s.fld (Reg.SLC_BS_LEN n) 24 0 ∧
    containerCrcOk bs = true ∧ headerCheck bs bs.length = 0 ∧ s.scopeOk n (s.loader n).issuer bs = true ∧
    s.slotValid (leAt bs (sigOff bs) 1) = true ∧
    s.bit (Reg.SLC_RIND_CTL n) (17 + leAt bs (sigOff bs) 1) = true :=
  ⟨4, some cont0, cont0, st40, by decide +kernel⟩

def st41 : State := ldw 2 true

theorem witness_LoadSteps_5 : ∃ (n : Fin 32) (s : State), s.ldState n = 2 :=
  ⟨4, st41, by decide⟩

def st42 : State := (dOn (dOn ((ldw 3 false).setLoader 4 { bytes := cont0, scopeDesc := List.replicate 256 0 }) 16) 17)

theorem witness_LoadSteps_6 : ∃ (n : Fin 32) (s : State), s.ldState n = 3 ∧
    (s.buildShadow n (s.loader n).issuer (s.loader n).bytes (s.loader n).scopeDesc).toOption = none :=
  ⟨4, st42, by decide⟩

def st43 : State := ({ w0 with time := { w0.time with mono := 10 ^ 9 } }.setLdState 6 7).setFld (Reg.SLC_EPOCH_CFG 6) 0 0 1

theorem witness_EpochSwaps_1 : ∃ (n : Fin 32) (s : State), (s.ldState n = 7 ∧ s.retireReady n = true) ∧
    (s.ldState n = 7 ∧ (s.loader n).since + us (max 1 (s.fld (Reg.SLC_EPOCH_CFG n) 31 16)) ≤ s.time.mono ∧
    s.bit (Reg.SLC_EPOCH_CFG n) 0 = true) :=
  ⟨6, st43, by decide⟩

def st44 : State := ((w0.setLdState 6 5).setFld (Reg.SLC_EPOCH 6) 31 28 15).setSlice 6 { w0.slice 6 with bankB := { full := true, pail := true } }

theorem witness_EpochSwaps_2 : ∃ (n : Fin 32) (s : State), s.ldState n = 5 ∧ (s.loader n).drain = false ∧
    s.swapMayGo n = true :=
  ⟨6, st44, by decide⟩

def st45 : State := drw .pipes

theorem witness_DrainSwaps_1 : ∃ (n : Fin 32) (s : State), ((s.loader n).phase = .pipes ∧ s.ctxsOf n = []) ∧
    ((s.loader n).phase = .pipes ∧ (s.loader n).since + 80000 ≤ s.time.mono) :=
  ⟨6, st45, by decide⟩

def st46 : State := drw .none

theorem witness_DrainSwaps_2 : ∃ (n : Fin 32) (s : State), s.ldState n = 5 ∧ (s.loader n).drain = true ∧
    s.swapMayGo n = true :=
  ⟨6, st46, by decide⟩

def st47 : State := (drw .switching)

theorem witness_DrainSwaps_3 : ∃ (n : Fin 32) (s : State), (s.loader n).phase = .switching :=
  ⟨6, st47, by decide⟩

def st48 : State := (drw .check)

theorem witness_DrainSwaps_4 : ∃ (n : Fin 32) (s : State), (s.loader n).phase = .check :=
  ⟨6, st48, by decide⟩

def st49 : State := (drw .revert)

theorem witness_DrainSwaps_5 : ∃ (n : Fin 32) (s : State), (s.loader n).phase = .revert :=
  ⟨6, st49, by decide⟩

def st50 : State := { (port37 2).setPort 37 { rx := some { raw := [9,9] } } with time := { w0.time with mono := 10 ^ 9 } }

theorem witness_FramesArriveAtPorts_1 : ∃ (p : Fin 1024) (l : List Byte) (bad : Bool) (k : Nat) (x : Rx) (s : State), ((s.port p).rx = some x
    ∧ x.discard = false ∧ x.tagLen = false ∧ x.desc = none ∧ x.raw.length + l.length ≤ x.maxlen ∧
    (s.portStored p (x.raw ++ l)).length ≤ 16384) ∧ ((s.port p).rx = some x ∧ x.discard = false ∧
    x.tagLen = false ∧ x.desc = none ∧ x.raw.length ≤ x.maxlen ∧ (s.portStored p x.raw).length ≤ 16384 ∧
    rxReason (s.fld (Reg.PORT_TAG p) 15 0) x bad = some k) :=
  ⟨37, [1,2,3], true, 3, { raw := [9,9] }, st50, by decide⟩

def st51 : State := { (port37 2).setFrame 5 { resolved := true, refcnt := 2, lastByte := 3 } with time := { w0.time with mono := 10 ^ 9 } }

theorem witness_FramesArriveAtPorts_2 : ∃ (p : Fin 1024) (l : List Byte) (d : Nat) (a : Nat) (f : Nat) (s : State), ((s.port p).rx = none
    ∧ s.assigned p = true ∧ s.domOn (4 * (p / 32) + 2) = true ∧ s.portState p = 2 ∧ s.pail = false ∧
    l.length ≤ 60 ∧
    s.cellCheck (s.ownerOf (p / 32) (p % 32)).isSome (p / 32) ((s.ownerOf (p / 32) (p % 32)).getD 0) true = none
    ∧ s.freeDesc = some d ∧ s.freeCell = some a) ∧ ((∃ y ∈ s.frame? f, f < 2097152 ∧ y.isOpen = true ∧
    y.lastByte + us (max 1 (s.fld Reg.VAT_CTL 15 0)) ≤ s.time.mono)) :=
  ⟨37, [], 0, 0, 5, st51, by decide⟩

def st52 : State := port37 3

theorem witness_FramesArriveAtPorts_3 : ∃ (p : Fin 1024) (s : State), (s.port p).rx = none ∧ s.assigned p = true
    ∧ s.domOn (4 * (p / 32) + 2) = true ∧ s.portState p = 3 :=
  ⟨37, st52, by decide⟩

def st53 : State := port37 4

theorem witness_FramesArriveAtPorts_4 : ∃ (p : Fin 1024) (s : State), (s.port p).rx = none ∧ s.assigned p = true
    ∧ s.domOn (4 * (p / 32) + 2) = true ∧ s.portState p = 4 :=
  ⟨37, st53, by decide⟩

def st54 : State := (port37 2).setPort 37 { rx := some { raw := List.replicate 64 5, maxlen := 64 } }

theorem witness_FramesArriveAtPorts_5 : ∃ (p : Fin 1024) (x : Rx) (s : State), (s.port p).rx = some x ∧
    x.discard = false ∧ x.tagLen = false ∧ x.desc = none ∧ x.maxlen ≤ x.raw.length :=
  ⟨37, { raw := List.replicate 64 5, maxlen := 64 }, st54, by decide⟩

def st55 : State := { ((port37 2).setPort 37 { rx := some { raw := [9] } }).setBit Reg.VAT_CTL 30 true with time := { w0.time with mono := 10 ^ 9 } }

theorem witness_FramesArriveAtPorts_6 : ∃ (p : Fin 1024) (f : Nat) (x : Rx) (s : State), f = 2097152 + p.val ∧
    (s.port p).rx = some x ∧ s.pail = true ∧ x.last + us (max 1 (s.fld Reg.VAT_CTL 15 0)) ≤ s.time.mono :=
  ⟨37, 2097152+37, { raw := [9] }, st55, by decide⟩

def st56 : State := (adm5 fr5).setCtx 0 ctx5

theorem witness_AdmissionAndParse_1 : ∃ (n : Fin 32) (st : Fin 4) (k : Nat) (c : Nat) (node : Nat) (po : Nat) (fl : Nat) (f : Frame) (x : Ctx) (pr : Parse) (s : State), (firstSeq (s.waitingAt n st false) = some (k, f)
    ∧ s.admits n = true ∧ f.isOpen = false ∧ f.owned = true ∧ s.compValid n f.comp = true ∧
    s.bit (Reg.SLC_RIND_STAT n) (24 + f.comp) = false ∧ f.isRecirc = false) ∧ (s.ctx? c = some x ∧
    s.frame? x.frame = some f ∧ x.parsed = false ∧ x.pipe = 0 ∧ f.isOpen = false ∧
    s.parse x f f.bytes.length = (pr, .done node po fl) ∧ pr.hdrs = [] ∧ fl % 2 = 0) :=
  ⟨1, 0, 5, 0, 0, 0, 0, fr5, ctx5, {}, st56, by decide⟩

def st57 : State := adm5 { fr5 with owned := false }

theorem witness_AdmissionAndParse_2 : ∃ (n : Fin 32) (st : Fin 4) (k : Nat) (f : Frame) (s : State), firstSeq (s.waitingAt n st false) = some (k, f)
    ∧ s.admits n = true ∧ f.isOpen = false ∧
    (f.owned = false ∨ s.compValid n f.comp = false ∨ s.bit (Reg.SLC_RIND_STAT n) (24 + f.comp) = true) :=
  ⟨1, 0, 5, { fr5 with owned := false }, st57, by decide⟩

def st58 : State := (adm5 { fr5 with inPort := 1025, epoch := 7 }).markDead 1 7

theorem witness_AdmissionAndParse_3 : ∃ (n : Fin 32) (st : Fin 4) (k : Nat) (f : Frame) (s : State), firstSeq (s.waitingAt n st false) = some (k, f)
    ∧ s.admits n = true ∧ f.isOpen = false ∧ f.owned = true ∧ s.compValid n f.comp = true ∧
    s.bit (Reg.SLC_RIND_STAT n) (24 + f.comp) = false ∧ f.isRecirc = true ∧ s.isDead n f.epoch = true :=
  ⟨1, 0, 5, { fr5 with inPort := 1025, epoch := 7 }, st58, by decide⟩

def st59 : State := (adm5 fr5).setCtx 0 { ctx5 with rnode := some 9 }

theorem witness_AdmissionAndParse_4 : ∃ (c : Nat) (node : Nat) (f : Frame) (x : Ctx) (pr : Parse) (s : State), s.ctx? c = some x
    ∧ s.frame? x.frame = some f ∧ x.parsed = false ∧ x.pipe = 0 ∧ f.isOpen = false ∧
    s.parse x f f.bytes.length = (pr, .branch node) :=
  ⟨0, 9, fr5, { ctx5 with rnode := some 9 }, {}, st59, by decide⟩

def st60 : State := (adm5 fr5).setCtx 2 { ctx5 with parsed := true }

theorem witness_StagesAndStageTables_1 : ∃ (c : Nat) (x : Ctx) (s : State), s.ctx? c = some x ∧ x.slice < 32 ∧
    x.comp < 8 ∧ x.parsed = true ∧ x.running = false ∧ x.stage < 24 ∧ x.outst = [] ∧
    (s.ctxBank x).actionTile x.pipe x.stage = 0 :=
  ⟨2, { ctx5 with parsed := true }, st60, by decide⟩

def st61 : State := stg5 1

theorem witness_StagesAndStageTables_2 : ∃ (c : Nat) (e : Nat) (x : Ctx) (s : State), s.ctx? c = some x ∧
    x.slice < 32 ∧ x.comp < 8 ∧ x.parsed = true ∧ x.running = false ∧ x.stage < 24 ∧ x.outst = [] ∧
    (s.ctxBank x).actionTile x.pipe x.stage ≠ 0 ∧ (s.ctxBank x).le kStageCfg x.pipe x.stage 0 4 % 2 = 0 ∧
    (s.ctxBank x).sub x 0 1 = 1 ∧ e = (s.ctxBank x).le kDispatch x.pipe x.stage (4 * (s.ctxBank x).sub x 2 1) 4
    ∧ s.inWindow x.slice x.comp 72 2 ((s.ctxBank x).sub x 2 1) = true ∧ s.parityMode x.slice = false ∧
    2 ^ 31 ≤ e ∧ s.inWindow x.slice x.comp 64 2 (e % 1024) = true :=
  ⟨2, 2^31+5, { ctx5 with parsed := true }, st61, by decide⟩

def st62 : State := (stg5 1).setReg (Reg.SLC_RIND_DESC 1 1 18) 0

theorem witness_StagesAndStageTables_3 : ∃ (c : Nat) (e : Nat) (x : Ctx) (s : State), s.ctx? c = some x ∧
    x.slice < 32 ∧ x.comp < 8 ∧ x.parsed = true ∧ x.running = false ∧ x.stage < 24 ∧ x.outst = [] ∧
    (s.ctxBank x).actionTile x.pipe x.stage ≠ 0 ∧ (s.ctxBank x).le kStageCfg x.pipe x.stage 0 4 % 2 = 0 ∧
    (s.ctxBank x).sub x 0 1 = 1 ∧ e = (s.ctxBank x).le kDispatch x.pipe x.stage (4 * (s.ctxBank x).sub x 2 1) 4
    ∧ s.inWindow x.slice x.comp 72 2 ((s.ctxBank x).sub x 2 1) = false :=
  ⟨2, 2^31+5, { ctx5 with parsed := true }, st62, by decide⟩

def st63 : State := (stg5 1).setCtx 2 { ctx5 with parsed := true, running := true, outst := [⟨4, 1, 3, some ([1,2], true, false)⟩], nextSeq := 5 }

theorem witness_StagesAndStageTables_4 : ∃ (c : Nat) (o : Outst) (r : List Byte) (h : Bool) (er : Bool) (x : Ctx) (s : State), s.ctx? c = some x
    ∧ x.slice < 32 ∧ x.comp < 8 ∧ o ∈ x.outst ∧ (∀ q ∈ x.outst, q.seq = o.seq → q = o) ∧
    o.resp = some (r, h, er) ∧ o.seq + 1 = x.nextSeq :=
  ⟨2, ⟨4, 1, 3, some ([1,2], true, false)⟩, [1,2], true, false, { ctx5 with parsed := true, running := true, outst := [⟨4, 1, 3, some ([1,2], true, false)⟩], nextSeq := 5 }, st63, by decide⟩

def st64 : State := ((stg5 1).setActive8 1 (fun b => b.write kMicro 0 0 0 (toLE 16 (3 * 2 ^ 125 + 2 ^ 68)))).setCtx 2 { ctx5 with parsed := true, running := true }

theorem witness_StagesAndStageTables_5 : ∃ (c : Nat) (x : Ctx) (s : State), s.ctx? c = some x ∧ x.slice < 32 ∧
    x.comp < 8 ∧ s.mayIssue x 1 = true ∧ s.stageTable x (s.ctxBank x) (s.memSlot x % 2) (s.memKey x) = .miss :=
  ⟨2, { ctx5 with parsed := true, running := true }, st64, by decide⟩

def st65 : State := mwS (mwOp 2 0)

theorem witness_MicrowordsOfFrames_1 : ∃ (c : Nat) (w : Nat) (A : Nat) (B : Nat) (d : Nat) (bits : Nat) (o : Nat) (v : Nat) (ins : Instr) (x : Ctx) (s : State), s.ctx? c = some x
    ∧ x.running = true ∧ w = s.microword x ∧ x.mayExecute w = true ∧ bitsOf w 124 122 = 4 ∧
    (classOf x.pipe w).1 < 3 ∧ (classOf x.pipe w).2 = false ∧ memopReserved x.pipe w = false ∧
    bits = 8 * 2 ^ bitsOf w 105 104 ∧ d = bitsOf w 103 96 ∧
    (A = (if bitsOf w 15 15 = 1 then beNat (x.respBytes (bitsOf w 95 88) (bits / 8)) else x.mdBE (bitsOf w 95 88) (bits / 8)))
    ∧
    (B = (match bitsOf w 79 78 with | 0 => x.mdBE (bitsOf w 87 80) (bits / 8) | 1 => bitsOf w 63 32 % 2 ^ bits | 2 => beNat (x.respBytes (bitsOf w 87 80) (bits / 8)) | _ => x.flagByte))
    ∧
    (o, ins, v) ∈ [(1, .mov (.frame c), B), (2, .add (.frame c), (A + B) % 2 ^ bits), (3, .sub (.frame c), (A + 2 ^ bits - B) % 2 ^ bits), (4, .and (.frame c), A &&& B), (5, .or (.frame c), A ||| B), (6, .xor (.frame c), A ^^^ B), (7, .shl (.frame c), A * 2 ^ (B % 64) % 2 ^ bits), (8, .shr (.frame c), A / 2 ^ (B % 64)), (10, .min (.frame c), min A B), (11, .max (.frame c), max A B), (12, .csum (.frame c), onesSum (aluResult.wordsOf bits A ++ aluResult.wordsOf bits B) % 2 ^ bits), (13, .crc (.frame c), (crc32c (BitVec.ofNat 32 B) (toBE (bits / 8) A)).toNat % 2 ^ bits), (14, .setb (.frame c), (A ||| 2 ^ (B % 64)) % 2 ^ bits), (15, .clrb (.frame c), A - (A &&& 2 ^ (B % 64)))]
    ∧ bitsOf w 111 106 = o ∧ 64 ≤ d ∧ d + bits / 8 ≤ 256 ∧ bitsOf w 72 72 = 0 :=
  ⟨2, mwOp 2 0, 0x0102, 7, 100, 16, 2, 0x0109, .add (.frame 2), ctxMw, st65, by decide⟩

def st66 : State := mwS (mwOp 3 1)

theorem witness_MicrowordsOfFrames_2 : ∃ (c : Nat) (w : Nat) (A : Nat) (B : Nat) (d : Nat) (bits : Nat) (o : Nat) (v : Nat) (ins : Instr) (x : Ctx) (s : State), s.ctx? c = some x
    ∧ x.running = true ∧ w = s.microword x ∧ x.mayExecute w = true ∧ bitsOf w 124 122 = 4 ∧
    (classOf x.pipe w).1 < 3 ∧ (classOf x.pipe w).2 = false ∧ memopReserved x.pipe w = false ∧
    bits = 8 * 2 ^ bitsOf w 105 104 ∧ d = bitsOf w 103 96 ∧
    (A = (if bitsOf w 15 15 = 1 then beNat (x.respBytes (bitsOf w 95 88) (bits / 8)) else x.mdBE (bitsOf w 95 88) (bits / 8)))
    ∧
    (B = (match bitsOf w 79 78 with | 0 => x.mdBE (bitsOf w 87 80) (bits / 8) | 1 => bitsOf w 63 32 % 2 ^ bits | 2 => beNat (x.respBytes (bitsOf w 87 80) (bits / 8)) | _ => x.flagByte))
    ∧
    (o, ins, v) ∈ [(1, .mov (.frame c), B), (2, .add (.frame c), (A + B) % 2 ^ bits), (3, .sub (.frame c), (A + 2 ^ bits - B) % 2 ^ bits), (4, .and (.frame c), A &&& B), (5, .or (.frame c), A ||| B), (6, .xor (.frame c), A ^^^ B), (7, .shl (.frame c), A * 2 ^ (B % 64) % 2 ^ bits), (8, .shr (.frame c), A / 2 ^ (B % 64)), (10, .min (.frame c), min A B), (11, .max (.frame c), max A B), (12, .csum (.frame c), onesSum (aluResult.wordsOf bits A ++ aluResult.wordsOf bits B) % 2 ^ bits), (13, .crc (.frame c), (crc32c (BitVec.ofNat 32 B) (toBE (bits / 8) A)).toNat % 2 ^ bits), (14, .setb (.frame c), (A ||| 2 ^ (B % 64)) % 2 ^ bits), (15, .clrb (.frame c), A - (A &&& 2 ^ (B % 64)))]
    ∧ bitsOf w 111 106 = o ∧ 64 ≤ d ∧ d + bits / 8 ≤ 256 ∧ bitsOf w 72 72 = 1 :=
  ⟨2, mwOp 3 1, 0x0102, 7, 100, 16, 3, 0x00fb, .sub (.frame 2), ctxMw, st66, by decide⟩

def st67 : State := mwS (mwOp 0 1)

theorem witness_MicrowordsOfFrames_3 : ∃ (c : Nat) (w : Nat) (A : Nat) (B : Nat) (d : Nat) (bits : Nat) (x : Ctx) (s : State), s.ctx? c = some x
    ∧ x.running = true ∧ w = s.microword x ∧ x.mayExecute w = true ∧ bitsOf w 124 122 = 4 ∧
    (classOf x.pipe w).1 < 3 ∧ (classOf x.pipe w).2 = false ∧ memopReserved x.pipe w = false ∧
    bits = 8 * 2 ^ bitsOf w 105 104 ∧ d = bitsOf w 103 96 ∧
    (A = (if bitsOf w 15 15 = 1 then beNat (x.respBytes (bitsOf w 95 88) (bits / 8)) else x.mdBE (bitsOf w 95 88) (bits / 8)))
    ∧
    (B = (match bitsOf w 79 78 with | 0 => x.mdBE (bitsOf w 87 80) (bits / 8) | 1 => bitsOf w 63 32 % 2 ^ bits | 2 => beNat (x.respBytes (bitsOf w 87 80) (bits / 8)) | _ => x.flagByte))
    ∧ bitsOf w 111 106 = 0 :=
  ⟨2, mwOp 0 1, 0x0102, 7, 100, 16, ctxMw, st67, by decide⟩

def st68 : State := mwS (mwOp 9 0)

theorem witness_MicrowordsOfFrames_4 : ∃ (c : Nat) (w : Nat) (A : Nat) (B : Nat) (d : Nat) (bits : Nat) (x : Ctx) (s : State), s.ctx? c = some x
    ∧ x.running = true ∧ w = s.microword x ∧ x.mayExecute w = true ∧ bitsOf w 124 122 = 4 ∧
    (classOf x.pipe w).1 < 3 ∧ (classOf x.pipe w).2 = false ∧ memopReserved x.pipe w = false ∧
    bits = 8 * 2 ^ bitsOf w 105 104 ∧ d = bitsOf w 103 96 ∧
    (A = (if bitsOf w 15 15 = 1 then beNat (x.respBytes (bitsOf w 95 88) (bits / 8)) else x.mdBE (bitsOf w 95 88) (bits / 8)))
    ∧
    (B = (match bitsOf w 79 78 with | 0 => x.mdBE (bitsOf w 87 80) (bits / 8) | 1 => bitsOf w 63 32 % 2 ^ bits | 2 => beNat (x.respBytes (bitsOf w 87 80) (bits / 8)) | _ => x.flagByte))
    ∧ bitsOf w 111 106 = 9 :=
  ⟨2, mwOp 9 0, 0x0102, 7, 100, 16, ctxMw, st68, by decide⟩

def st69 : State := mwS (mwOp 16 0)

theorem witness_MicrowordsOfFrames_5 : ∃ (c : Nat) (w : Nat) (A : Nat) (B : Nat) (d : Nat) (bits : Nat) (x : Ctx) (s : State), s.ctx? c = some x
    ∧ x.running = true ∧ w = s.microword x ∧ x.mayExecute w = true ∧ bitsOf w 124 122 = 4 ∧
    (classOf x.pipe w).1 < 3 ∧ (classOf x.pipe w).2 = false ∧ memopReserved x.pipe w = false ∧
    bits = 8 * 2 ^ bitsOf w 105 104 ∧ d = bitsOf w 103 96 ∧
    (A = (if bitsOf w 15 15 = 1 then beNat (x.respBytes (bitsOf w 95 88) (bits / 8)) else x.mdBE (bitsOf w 95 88) (bits / 8)))
    ∧
    (B = (match bitsOf w 79 78 with | 0 => x.mdBE (bitsOf w 87 80) (bits / 8) | 1 => bitsOf w 63 32 % 2 ^ bits | 2 => beNat (x.respBytes (bitsOf w 87 80) (bits / 8)) | _ => x.flagByte))
    ∧ 16 ≤ bitsOf w 111 106 :=
  ⟨2, mwOp 16 0, 0x0102, 7, 100, 16, ctxMw, st69, by decide⟩

theorem witness_EndpointLookups_1 : ∃ (c : Nat) (i : Nat) (q : Parked) (st : MissStall) (x : Ctx) (s : State), (s.ctx? c = some x
    ∧ x.slice < 32 ∧ x.comp < 8 ∧ Store.at? s.tbl.stalls i = some st ∧ st.frames = [q] ∧ q.ctx = c ∧
    epIs (s.epAt st.reading) st.part st.key = true) ∧ (s.ctx? c = some x ∧ x.slice < 32 ∧ x.comp < 8 ∧
    Store.at? s.tbl.stalls i = some st ∧ st.frames = [q] ∧ q.ctx = c ∧
    st.since + stallTmo (s.fld (Reg.TBL_PART_CFG st.part) 13 8) ≤ s.time.mono ∧
    s.bit (Reg.TBL_PART_CFG st.part) 14 = false) :=
  ⟨2, 5, ⟨2,0,0,0,0,[]⟩, { stall0 with frames := [⟨2,0,0,0,0,[]⟩] }, { ctxMw with outst := [⟨0, 2, 1, none⟩], nextSeq := 1 }, mwStall, by decide⟩

def st70 : State := mwT 2 3

theorem witness_EndpointLookups_2 : ∃ (c : Nat) (p : Nat) (k : List Byte) (x : Ctx) (s : State), s.ctx? c = some x
    ∧ x.slice < 32 ∧ x.comp < 8 ∧ s.mayIssue x 2 = true ∧ x.uses 0 < 2 ∧ p = s.memImm x % 4096 ∧ k = s.memKey x
    ∧ s.inWindow x.slice x.comp 24 2 p = true ∧ s.tblOn = true ∧
    (((s.streamStalls x).find? fun e => e.2.part == p && e.2.key == k) = none) ∧ s.epLine p k = none ∧
    s.epCands p k = [] :=
  ⟨2, 3, List.replicate 16 0, ctxMw, st70, by decide⟩

def st71 : State := let s := mwT 2 3; s.setLines (s.epSet 3 (List.replicate 16 0)) [ep3]

theorem witness_EndpointLookups_3 : ∃ (c : Nat) (p : Nat) (k : List Byte) (l : List Byte) (x : Ctx) (s : State), s.ctx? c = some x
    ∧ x.slice < 32 ∧ x.comp < 8 ∧ s.mayIssue x 2 = true ∧ x.uses 0 < 2 ∧ p = s.memImm x % 4096 ∧ k = s.memKey x
    ∧ s.inWindow x.slice x.comp 24 2 p = true ∧ s.tblOn = true ∧
    (((s.streamStalls x).find? fun e => e.2.part == p && e.2.key == k) = none) ∧ s.epLine p k = some l ∧
    epQuar l = false :=
  ⟨2, 3, List.replicate 16 0, ep3, ctxMw, st71, by decide⟩

theorem witness_EndpointLookups_4 : ∃ (c : Nat) (i : Nat) (p : Nat) (r : List Nat) (k : List Byte) (x : Ctx) (s : State), s.ctx? c = some x
    ∧ x.slice < 32 ∧ x.comp < 8 ∧ s.mayIssue x 2 = true ∧ x.uses 0 < 2 ∧ p = s.memImm x % 4096 ∧ k = s.memKey x
    ∧ s.inWindow x.slice x.comp 24 2 p = true ∧ s.tblOn = true ∧
    (((s.streamStalls x).find? fun e => e.2.part == p && e.2.key == k) = none) ∧ s.epLine p k = none ∧
    s.epCands p k = i :: r ∧ s.streamParked x < 256 ∧ (s.streamStalls x).length < 128 ∧
    (s.takeMissRead x.slice).isSome = true :=
  ⟨2, ((mwT 2 3).epSlots 3 (List.replicate 16 0)).head!, 3, ((mwT 2 3).epSlots 3 (List.replicate 16 0)).drop 99, List.replicate 16 0, ctxMw, mwEp, by decide⟩

def st72 : State := mwStall.setBit (Reg.TBL_PART_CFG 3) 14 true

theorem witness_EndpointLookups_5 : ∃ (c : Nat) (i : Nat) (q : Parked) (st : MissStall) (x : Ctx) (s : State), s.ctx? c = some x
    ∧ x.slice < 32 ∧ x.comp < 8 ∧ Store.at? s.tbl.stalls i = some st ∧ st.frames = [q] ∧ q.ctx = c ∧
    st.since + stallTmo (s.fld (Reg.TBL_PART_CFG st.part) 13 8) ≤ s.time.mono ∧
    s.bit (Reg.TBL_PART_CFG st.part) 14 = true :=
  ⟨2, 5, ⟨2,0,0,0,0,[]⟩, { stall0 with frames := [⟨2,0,0,0,0,[]⟩] }, { ctxMw with outst := [⟨0, 2, 1, none⟩], nextSeq := 1 }, st72, by decide⟩

theorem witness_RouteAclAndLearn_1 : ∃ (c : Nat) (b : Nat) (r : Route) (x : Ctx) (s : State), s.ctx? c = some x
    ∧ x.slice < 32 ∧ x.comp < 8 ∧ s.mayIssue x 3 = true ∧ x.uses 1 < 2 ∧
    s.inWindow x.slice x.comp 28 2 (s.memImm x % 65536) = true ∧ s.pressFor x.slice = some b ∧
    (s.memImm x).testBit 16 = false ∧ r ∈ (s.press b).routes ∧ r.af = 1 ∧ r.quar = false ∧
    r.vrf = s.memImm x % 65536 ∧ r.addr / 2 ^ (32 - r.plen) = beNat ((s.memKey x).take 4) / 2 ^ (32 - r.plen) ∧
    (∀ q ∈ (s.press b).routes, q.af = 1 → q.vrf = r.vrf → q.quar = false →
    q.addr / 2 ^ (32 - q.plen) = beNat ((s.memKey x).take 4) / 2 ^ (32 - q.plen) → q = r ∨ q.plen < r.plen) :=
  ⟨2, 0, rt24, ctxMw, mwRt, by decide⟩

theorem witness_RouteAclAndLearn_2 : ∃ (c : Nat) (e : Nat × List Byte) (x : Ctx) (s : State), s.ctx? c = some x
    ∧ x.slice < 32 ∧ x.comp < 8 ∧ s.mayIssue x 4 = true ∧
    (s.ctxBank x).keyBusy x ((bitsOf (s.microword x) 17 16 + 1) % 4) = false ∧ x.uses 2 < 4 ∧
    bitsOf (s.memImm x) 26 13 ≠ 0 ∧ s.inWindow x.slice x.comp (aclWindow x.pipe) 2 (s.memImm x % 8192) = true ∧
    s.inWindow x.slice x.comp (aclWindow x.pipe) 2 (s.memImm x % 8192 + bitsOf (s.memImm x) 26 13 - 1) = true ∧
    Store.rising 0 s.tbl.acl = true ∧ e ∈ s.tbl.acl ∧ leAt e.2 80 1 = 1 ∧
    aclIndex x.slice x.pipe (s.memImm x % 8192) ≤ e.1 ∧
    e.1 < aclIndex x.slice x.pipe (s.memImm x % 8192) + bitsOf (s.memImm x) 26 13 ∧
    aclMatches e.2 (s.memKey x ++ (s.ctxBank x).key x ((bitsOf (s.microword x) 17 16 + 1) % 4) ++ x.mdBytes 0 8) = true
    ∧ (∀ q ∈ s.tbl.acl, aclIndex x.slice x.pipe (s.memImm x % 8192) ≤ q.1 → q.1 < e.1 →
    aclMatches q.2 (s.memKey x ++ (s.ctxBank x).key x ((bitsOf (s.microword x) 17 16 + 1) % 4) ++ x.mdBytes 0 8) = false) :=
  ⟨2, (aclIndex 1 0 6, acl6), ctxMw, mwAcl, by decide⟩

def st73 : State := (mwT 9 3).setBit (Reg.TBL_PART_CFG 3) 16 true

theorem witness_RouteAclAndLearn_3 : ∃ (c : Nat) (x : Ctx) (s : State), s.ctx? c = some x ∧ x.slice < 32 ∧
    x.comp < 8 ∧ s.mayIssue x 9 = true ∧ x.uses 3 = 0 ∧
    s.inWindow x.slice x.comp 24 2 (s.memImm x % 4096) = true ∧ s.learnOn (s.memImm x % 4096) = true ∧
    s.epLine (s.memImm x % 4096) (s.memKey x) = none ∧
    (s.learnQ (hashShard (s.epHash1 (s.memImm x % 4096) (s.memKey x)))).length < 1024 :=
  ⟨2, ctxMw, st73, by decide⟩

def st74 : State := mwRt.setReg (Reg.SLC_RIND_DESC 1 1 7) 0

theorem witness_RouteAclAndLearn_4 : ∃ (c : Nat) (x : Ctx) (s : State), s.ctx? c = some x ∧ x.slice < 32 ∧
    x.comp < 8 ∧ s.mayIssue x 3 = true ∧ x.uses 1 < 2 ∧
    s.inWindow x.slice x.comp 28 2 (s.memImm x % 65536) = false :=
  ⟨2, ctxMw, st74, by decide⟩

def st75 : State := mwRt.setCtx 2 (ctxMw.use 1 |>.use 1)

theorem witness_RouteAclAndLearn_5 : ∃ (c : Nat) (x : Ctx) (s : State), s.ctx? c = some x ∧ x.slice < 32 ∧
    x.comp < 8 ∧ s.mayIssue x 3 = true ∧ 2 ≤ x.uses 1 :=
  ⟨2, ctxMw.use 1 |>.use 1, st75, by decide⟩

theorem witness_FlowContextAccesses_1 : ∃ (c : Nat) (k : Nat) (st : FlowStall) (q : Parked) (x : Ctx) (s : State), (s.ctx? c = some x
    ∧ x.slice < 32 ∧ x.comp < 8 ∧ Store.at? s.flow.stalls k = some st ∧ st.frames = [q] ∧ q.ctx = c ∧ q.op = 5
    ∧ s.flowLine st.index = none ∧ s.flow.cache = []) ∧ (s.ctx? c = some x ∧ x.slice < 32 ∧ x.comp < 8 ∧
    Store.at? s.flow.stalls k = some st ∧ st.frames = [q] ∧ q.ctx = c ∧ q.op = 5 ∧
    st.since + stallTmo (s.fld (Reg.SLC_FLOW_CFG st.slice) 5 0) ≤ s.time.mono) :=
  ⟨2, 5, { fst0 with frames := [⟨2,0,0,5,2,[]⟩] }, ⟨2,0,0,5,2,[]⟩, { ctxMw with outst := [⟨0, 5, 1, none⟩], nextSeq := 1 }, mwFst, by decide⟩

def st76 : State := mwFl 5 2

theorem witness_FlowContextAccesses_2 : ∃ (c : Nat) (i : Nat) (k : Nat) (fl : FlowLine) (x : Ctx) (s : State), s.ctx? c = some x
    ∧ x.slice < 32 ∧ x.comp < 8 ∧ i = (s.flowArgs x).1 ∧ x.uses 4 < 2 ∧ s.inWindow x.slice x.comp 40 4 i = true
    ∧ s.bit Reg.FLOW_CTL 31 = true ∧ s.flow.stalls.all (·.2.index != i) = true ∧ s.flowLine i = some (k, fl) ∧
    s.mayIssue x 5 = true :=
  ⟨2, 0, 5, flw0, ctxMw, st76, by decide⟩

def st77 : State := mwFl 6 (1+3*65536)

theorem witness_FlowContextAccesses_3 : ∃ (c : Nat) (i : Nat) (k : Nat) (fl : FlowLine) (x : Ctx) (s : State), s.ctx? c = some x
    ∧ x.slice < 32 ∧ x.comp < 8 ∧ i = (s.flowArgs x).1 ∧ x.uses 4 < 2 ∧ s.inWindow x.slice x.comp 40 4 i = true
    ∧ s.bit Reg.FLOW_CTL 31 = true ∧ s.flow.stalls.all (·.2.index != i) = true ∧ s.flowLine i = some (k, fl) ∧
    s.mayIssue x 6 = true ∧ s.flowBusy x 6 = false ∧ fl.bytes.length = 64 ∧ s.memImm x % 4 ≠ 0 :=
  ⟨2, 0, 5, flw0, ctxMw, st77, by decide⟩

def st78 : State := mwFl 10 0

theorem witness_FlowContextAccesses_4 : ∃ (c : Nat) (i : Nat) (k : Nat) (fl : FlowLine) (x : Ctx) (s : State), s.ctx? c = some x
    ∧ x.slice < 32 ∧ x.comp < 8 ∧ i = (s.flowArgs x).1 ∧ x.uses 4 < 2 ∧ s.inWindow x.slice x.comp 40 4 i = true
    ∧ s.bit Reg.FLOW_CTL 31 = true ∧ s.flow.stalls.all (·.2.index != i) = true ∧ s.flowLine i = some (k, fl) ∧
    s.mayIssue x 10 = true ∧ leAt fl.bytes 0 1 % 2 = 0 ∧ s.memImm x % 2 = 0 :=
  ⟨2, 0, 5, flw0, ctxMw, st78, by decide⟩

def st79 : State := { mwFl 5 2 with flow := { (mwFl 5 2).flow with cache := [] } }

theorem witness_FlowContextAccesses_5 : ∃ (c : Nat) (i : Nat) (x : Ctx) (s : State), s.ctx? c = some x ∧
    x.slice < 32 ∧ x.comp < 8 ∧ i = (s.flowArgs x).1 ∧ x.uses 4 < 2 ∧ s.inWindow x.slice x.comp 40 4 i = true ∧
    s.bit Reg.FLOW_CTL 31 = true ∧ s.flow.stalls.all (·.2.index != i) = true ∧ s.flowLine i = none ∧
    s.streamFlows x = [] ∧ (s.flowBucket x.slice).short < 4096000 ∧ s.mayIssue x 5 = true :=
  ⟨2, 0, ctxMw, st79, by decide⟩

def st80 : State := mwT 8 0

theorem witness_MetersAndCounters_1 : ∃ (c : Nat) (i : Nat) (n : Fin 32) (m : Master) (acc : Word) (x : Ctx) (s : State), (s.ctx? c = some x
    ∧ x.slice < 32 ∧ x.comp < 8 ∧ s.mayIssue x 8 = true ∧ x.uses 6 < 4 ∧ i = beNat ((s.memKey x).take 4) % 65536
    ∧ s.inWindow x.slice x.comp 56 4 i = true ∧ s.memImm x % 2 = 0) ∧ (s.ctx? c = some x ∧ x.slice < 32 ∧
    x.comp < 8 ∧ m.trusted = true ∧ s.domOn (domainOf (Reg.SLC_MTR_ACC n)) = true) ∧ (s.ctx? c = some x ∧
    x.slice < 32 ∧ x.comp < 8 ∧ m.trusted = true ∧ s.domOn (domainOf (Reg.SLC_CTR_ACC n)) = true ∧
    fieldOf acc 29 29 = 1) :=
  ⟨2, 0, 3, .pf, 0x20000007, ctxMw, st80, by decide⟩

def st81 : State := (dOn (dOn (mwT 7 0) 12) 13).setCounter (counterKey 3 1) (2^40+1, 2^63)

theorem witness_MetersAndCounters_2 : ∃ (c : Nat) (i : Nat) (n : Fin 32) (m : Master) (acc : Word) (x : Ctx) (s : State), (s.ctx? c = some x
    ∧ x.slice < 32 ∧ x.comp < 8 ∧ s.mayIssue x 7 = true ∧ x.uses 5 < 4 ∧
    i = beNat ((s.memKey x).take 4) % 131072 ∧ s.inWindow x.slice x.comp 48 4 i = true) ∧ (s.ctx? c = some x ∧
    x.slice < 32 ∧ x.comp < 8 ∧ m.trusted = true ∧ s.domOn (domainOf (Reg.SLC_CTR_ACC n)) = true ∧
    fieldOf acc 29 29 = 0) :=
  ⟨2, 0, 3, .me 3, 0x00000001, ctxMw, st81, by decide⟩

theorem witness_FlowRegisters_1 : ∃ (m : Master) (n : Fin 32) (d : Word) (s : State), (m.trusted = true ∧
    s.domOn (domainOf Reg.FLOW_ACC) = true ∧ s.flow.stalls = []) ∧ (m.trusted = true ∧
    s.domOn (domainOf Reg.FLOW_CTL) = true ∧ s.bit Reg.FLOW_CTL 31 = false) ∧ (m.trusted = true ∧
    s.domOn (domainOf (Reg.FLOW_RATE n)) = true ∧
    (8000 < ((List.range 32).map fun k => if k = n.val then fieldOf d 15 0 else s.fld (Reg.FLOW_RATE k) 15 0).sum)) :=
  ⟨.pf, 3, 0x1F00, flowOn, by decide⟩

theorem witness_FlowRegisters_2 : ∃ (m : Master) (n : Fin 32) (d : Word) (s : State), m.trusted = true ∧
    s.domOn (domainOf (Reg.FLOW_RATE n)) = true ∧
    (((List.range 32).map fun k => if k = n.val then fieldOf d 15 0 else s.fld (Reg.FLOW_RATE k) 15 0).sum ≤ 8000) :=
  ⟨.pf, 3, 0x0064, flowOn, by decide⟩

def st82 : State := rsS 1

def st83 : State := (((rsS 1).delCtx 2).noteCompletion 1 0 0).setFrame 5 { rsF with carry := (rsX 1).mdBytes 96 32, hash := 0, dropCode := 0, rnode := none }

theorem witness_DecisionsBecomeCopies_1 : ∃ (c : Nat) (q : Nat) (x : Ctx) (f : Frame) (g : Frame) (y : Copy) (s : State) (u : State), s.ctx? c = some x
    ∧ s.frame? x.frame = some f ∧ x.slice < 32 ∧ x.comp < 8 ∧ x.pipe = 0 ∧ x.parsed = true ∧ x.stage = 24 ∧
    x.running = false ∧ x.outst = [] ∧ s.inOrder x = true ∧ f.dropped = false ∧
    g = { f with carry := x.mdBytes 96 32, hash := 0, dropCode := x.mdByte 84, rnode := none } ∧
    u = ((s.delCtx c).noteCompletion x.slice 0 x.stream).setFrame x.frame g ∧
    y = { frame := x.frame, kind := .unicast, dest := x.mdBE 68 2, queue := x.decQueue, slice := x.slice, comp := x.comp }
    ∧ q = qidOf y.dest y.queue ∧ x.mdBE 64 4 = 1 ∧ y.dest < 1024 ∧ s.destAllowed x.slice x.comp y.dest = true ∧
    s.classAllowed x.slice x.comp y.queue = true ∧ u.admitCheck y = none :=
  ⟨2, qidOf 37 3, rsX 1, rsF, { rsF with carry := (rsX 1).mdBytes 96 32, hash := 0, dropCode := 0, rnode := none }, cpy, st82, st83, by decide⟩

def st84 : State := (rsS 1).setReg (Reg.SLC_RIND_DESC 1 1 31) 0

def st85 : State := ((((rsS 1).setReg (Reg.SLC_RIND_DESC 1 1 31) 0).delCtx 2).noteCompletion 1 0 0).setFrame 5 { rsF with carry := (rsX 1).mdBytes 96 32, hash := 0, dropCode := 0, rnode := none }

theorem witness_DecisionsBecomeCopies_2 : ∃ (c : Nat) (q : Nat) (x : Ctx) (f : Frame) (g : Frame) (y : Copy) (s : State) (u : State), s.ctx? c = some x
    ∧ s.frame? x.frame = some f ∧ x.slice < 32 ∧ x.comp < 8 ∧ x.pipe = 0 ∧ x.parsed = true ∧ x.stage = 24 ∧
    x.running = false ∧ x.outst = [] ∧ s.inOrder x = true ∧ f.dropped = false ∧
    g = { f with carry := x.mdBytes 96 32, hash := 0, dropCode := x.mdByte 84, rnode := none } ∧
    u = ((s.delCtx c).noteCompletion x.slice 0 x.stream).setFrame x.frame g ∧
    y = { frame := x.frame, kind := .unicast, dest := x.mdBE 68 2, queue := x.decQueue, slice := x.slice, comp := x.comp }
    ∧ q = qidOf y.dest y.queue ∧ x.mdBE 64 4 = 1 ∧ y.dest < 1024 ∧
    s.destAllowed x.slice x.comp y.dest = false :=
  ⟨2, qidOf 37 3, rsX 1, rsF, { rsF with carry := (rsX 1).mdBytes 96 32, hash := 0, dropCode := 0, rnode := none }, cpy, st84, st85, by decide⟩

def st86 : State := rsS 16

def st87 : State := (((rsS 16).delCtx 2).noteCompletion 1 0 0).setFrame 5 { rsF with carry := (rsX 1).mdBytes 96 32, hash := 0, dropCode := 0, rnode := none }

theorem witness_DecisionsBecomeCopies_3 : ∃ (c : Nat) (q : Nat) (x : Ctx) (f : Frame) (g : Frame) (y : Copy) (s : State) (u : State), s.ctx? c = some x
    ∧ s.frame? x.frame = some f ∧ x.slice < 32 ∧ x.comp < 8 ∧ x.pipe = 0 ∧ x.parsed = true ∧ x.stage = 24 ∧
    x.running = false ∧ x.outst = [] ∧ s.inOrder x = true ∧ f.dropped = false ∧
    g = { f with carry := x.mdBytes 96 32, hash := 0, dropCode := x.mdByte 84, rnode := none } ∧
    u = ((s.delCtx c).noteCompletion x.slice 0 x.stream).setFrame x.frame g ∧
    y = { frame := x.frame, kind := .unicast, dest := x.mdBE 68 2, queue := x.decQueue, slice := x.slice, comp := x.comp }
    ∧ q = qidOf y.dest y.queue ∧ (x.mdBE 64 4 = 16 ∨ x.mdBE 64 4 = 0) ∧ s.bit Reg.TELE_CTL 31 = false :=
  ⟨2, qidOf 37 3, rsX 16, rsF, { rsF with carry := (rsX 1).mdBytes 96 32, hash := 0, dropCode := 0, rnode := none }, cpy, st86, st87, by decide⟩

def st88 : State := qS cpy

theorem witness_QueuesAndEgress_1 : ∃ (d : Fin 1058) (q : Fin 21396) (df : Store Nat) (y : Copy) (r : List Copy) (f : Frame) (s : State), s.frame? y.frame = some f
    ∧ s.servable d = true ∧ s.pShaperOk d = true ∧ s.pick d (s.returnTakes d) = some (q.val, df) ∧
    s.queue q = y :: r ∧ d.val < 1024 ∧ s.bit (Reg.PORT_TEL1 d) 31 = false ∧ y.dest < 1056 ∧
    y.kind = .unicast :=
  ⟨37, 743, ((qS cpy).pick 37 ((qS cpy).returnTakes 37)).get!.2, cpy, [], rsF, st88, by decide⟩

def st89 : State := qS { cpy with kind := .made }

theorem witness_QueuesAndEgress_2 : ∃ (d : Fin 1058) (q : Fin 21396) (df : Store Nat) (y : Copy) (r : List Copy) (f : Frame) (s : State), s.frame? y.frame = some f
    ∧ s.servable d = true ∧ s.pShaperOk d = true ∧ s.pick d (s.returnTakes d) = some (q.val, df) ∧
    s.queue q = y :: r ∧ d.val < 1024 ∧ s.bit (Reg.PORT_TEL1 d) 31 = false ∧ y.kind = .made :=
  ⟨37, 743, ((qS { cpy with kind := .made }).pick 37 ((qS { cpy with kind := .made }).returnTakes 37)).get!.2, { cpy with kind := .made }, [], rsF, st89, by decide⟩

theorem witness_QueuesAndEgress_3 : ∃ (d : Fin 1058) (q : Fin 21396) (df : Store Nat) (y : Copy) (r : List Copy) (f : Frame) (s : State), s.frame? y.frame = some f
    ∧ s.servable d = true ∧ s.pShaperOk d = true ∧ s.pick d (s.returnTakes d) = some (q.val, df) ∧
    s.queue q = y :: r ∧ 1024 ≤ d.val ∧ d.val < 1056 ∧ s.isDead (d.val - 1024) f.epoch = true :=
  ⟨1025, 20523, (qRc.pick 1025 (qRc.returnTakes 1025)).get!.2, { cpy with kind := .recirc, dest := 1025 }, [], { rsF with epoch := 7 }, qRc, by decide⟩

def st90 : State := (qS cpy).setFrame 5 { rsF with err := true }

theorem witness_QueuesAndEgress_4 : ∃ (q : Fin 21396) (y : Copy) (r : List Copy) (f : Frame) (why : Reason) (s : State), s.frame? y.frame = some f
    ∧ s.queue q = y :: r ∧ s.headDiscard y = some why ∧ f.slice < 32 ∧ f.comp < 8 ∧
    portCounted why y.dest = true :=
  ⟨743, cpy, [], { rsF with err := true }, .errFrame, st90, by decide⟩

def st91 : State := (qS cpy).setCtx 2 (egX 0)

theorem witness_QueuesAndEgress_5 : ∃ (c : Nat) (x : Ctx) (y : Copy) (f : Frame) (s : State), s.frame? y.frame = some f
    ∧ s.ctx? c = some x ∧ x.frame = y.frame ∧ x.copy = some y ∧ x.slice < 32 ∧ x.comp < 8 ∧ x.pipe = 1 ∧
    x.stage = 24 ∧ x.running = false ∧ x.outst = [] ∧ s.egressInOrder x y.dest = true ∧ y.dest < 1024 ∧
    x.mdBE 64 4 = 0 ∧
    60 ≤ ((deparse (s.ctxBank x) x (x.mdByte 68 % 128) 16 0).flatMap (Piece.bytes f.data)).length :=
  ⟨2, egX 0, cpy, rsF, st91, by decide⟩

def st92 : State := (qS cpy).setCtx 2 (egX 1)

theorem witness_QueuesAndEgress_6 : ∃ (c : Nat) (x : Ctx) (y : Copy) (f : Frame) (s : State), s.frame? y.frame = some f
    ∧ s.ctx? c = some x ∧ x.frame = y.frame ∧ x.copy = some y ∧ x.slice < 32 ∧ x.comp < 8 ∧ x.pipe = 1 ∧
    x.stage = 24 ∧ x.running = false ∧ x.outst = [] ∧ s.egressInOrder x y.dest = true ∧ y.dest < 1024 ∧
    x.mdBE 64 4 = 1 ∧ s.bit Reg.TELE_CTL 31 = false :=
  ⟨2, egX 1, cpy, rsF, st92, by decide⟩

def st93 : State := tx37 cpy

def st94 : State := (tx37 cpy).setPort 37 { (tx37 cpy).port 37 with txClk := clkAdd w0.time.clk (signed 8 (w0.fld (Reg.PORT_TEL0 37) 7 0)), txMono := w0.time.mono }

theorem witness_Transmission_1 : ∃ (d : Fin 1058) (y : Copy) (r : List Copy) (f : Frame) (s : State) (u : State), Store.read [] s.vat.out d = y :: r
    ∧ s.frame? y.frame = some f ∧ f.slice < 32 ∧ f.comp < 8 ∧ d.val < 1024 ∧ s.sending d = none ∧
    s.portState d = 2 ∧ s.domOn (4 * (d.val / 32) + 2) = true ∧ f.dropped = false ∧ f.isOpen = false ∧
    f.err = false ∧
    u = s.setPort d { s.port d with txClk := clkAdd s.time.clk (signed 8 (s.fld (Reg.PORT_TEL0 d) 7 0)), txMono := s.time.mono }
    ∧ (u.wire d y f).1.length ≤ s.maxlen d :=
  ⟨37, cpy, [], rsF, st93, st94, by decide⟩

def st95 : State := (tx37 cpy).setFld (Reg.PORT_CTL 37) 14 0 64

def st96 : State := ((tx37 cpy).setFld (Reg.PORT_CTL 37) 14 0 64).setPort 37 { (tx37 cpy).port 37 with txClk := clkAdd w0.time.clk (signed 8 (w0.fld (Reg.PORT_TEL0 37) 7 0)), txMono := w0.time.mono }

theorem witness_Transmission_2 : ∃ (d : Fin 1058) (y : Copy) (r : List Copy) (f : Frame) (s : State) (u : State), Store.read [] s.vat.out d = y :: r
    ∧ s.frame? y.frame = some f ∧ f.slice < 32 ∧ f.comp < 8 ∧ d.val < 1024 ∧ s.sending d = none ∧
    s.portState d = 2 ∧ s.domOn (4 * (d.val / 32) + 2) = true ∧ f.dropped = false ∧ f.isOpen = false ∧
    f.err = false ∧
    u = s.setPort d { s.port d with txClk := clkAdd s.time.clk (signed 8 (s.fld (Reg.PORT_TEL0 d) 7 0)), txMono := s.time.mono }
    ∧ s.maxlen d < (u.wire d y f).1.length :=
  ⟨37, cpy, [], rsF, st95, st96, by decide⟩

def st97 : State := (tx37 cpy).setFld (Reg.PORT_STAT 37) 23 20 1

theorem witness_Transmission_3 : ∃ (d : Fin 1058) (y : Copy) (r : List Copy) (f : Frame) (s : State), Store.read [] s.vat.out d = y :: r
    ∧ s.frame? y.frame = some f ∧ f.slice < 32 ∧ f.comp < 8 ∧ d.val < 1024 ∧ s.sending d = none ∧
    s.isDown d = true ∧ s.bit (Reg.VAT_PCFG d) 30 = false :=
  ⟨37, cpy, [], rsF, st97, by decide⟩

def st98 : State := tx37 { cpy with sending := true }

theorem witness_Transmission_4 : ∃ (d : Fin 1058) (y : Copy) (r : List Copy) (f : Frame) (s : State), Store.read [] s.vat.out d = y :: r
    ∧ s.frame? y.frame = some f ∧ f.slice < 32 ∧ f.comp < 8 ∧ y.sending = true ∧ f.isOpen = false ∧
    f.spill = none ∧ d.val < 1024 ∧ (s.wire d y f).1.length ≤ s.maxlen d :=
  ⟨37, { cpy with sending := true }, [], rsF, st98, by decide⟩

theorem witness_Transmission_5 : ∃ (d : Fin 1058) (y : Copy) (r : List Copy) (f : Frame) (s : State), Store.read [] s.vat.out d = y :: r
    ∧ s.frame? y.frame = some f ∧ f.slice < 32 ∧ f.comp < 8 ∧ y.sending = true ∧ f.isOpen = false ∧
    f.spill = none ∧ 1024 ≤ d.val :=
  ⟨1057, { cpy with sending := true }, [], rsF, txSol, by decide⟩

def st99 : State := (tx37 { cpy with sending := true }).setFrame 5 { rsF with isOpen := true }

theorem witness_Transmission_6 : ∃ (d : Fin 1058) (y : Copy) (r : List Copy) (f : Frame) (s : State), Store.read [] s.vat.out d = y :: r
    ∧ s.frame? y.frame = some f ∧ f.slice < 32 ∧ f.comp < 8 ∧ y.sending = true ∧
    (∃ (p : Fin 1024), p.val = d.val ∧ f.isOpen = true) :=
  ⟨37, { cpy with sending := true }, [], { rsF with isOpen := true }, st99, by decide⟩

def st100 : State := (skB.setReg (Reg.VAT_POOL 4) 0).setFrame 5 { skF with spill := some ⟨0,0,false⟩, cells := [], pool := 5 }

theorem witness_SkimMovesFrames_1 : ∃ (q : Fin 20480) (b : Nat) (x : Copy) (f : Frame) (p : Spill) (s : State), (s.frame? x.frame = some f
    ∧ f.spill = some p ∧ s.dueIn q = some (x.frame, b) ∧ s.dueFirst b = true ∧ s.stackOk p.stack = true) ∧
    (s.frame? x.frame = some f ∧ f.spill = some p ∧ s.dueIn q = some (x.frame, b) ∧ s.dueFirst b = true ∧
    s.stackOk p.stack = true ∧ s.backCells f = none) :=
  ⟨743, 0, cpy, { skF with spill := some ⟨0,0,false⟩, cells := [], pool := 5 }, ⟨0,0,false⟩, st100, by decide⟩

theorem witness_SkimMovesFrames_2 : ∃ (q : Fin 20480) (k : Nat) (a : Nat) (x : Copy) (f : Frame) (s : State), s.frame? x.frame = some f
    ∧ s.bit Reg.VAT_SKIM_CTL 31 = true ∧ s.qfld q 0 8 8 = 1 ∧ 16 * s.qfld q 1 15 0 < s.res q ∧
    (s.queue q).reverse.find? (s.candidate q) = some x ∧
    s.skimUse f.slice f.comp + s.spillingOf f.slice f.comp + f.charged ≤ s.desc f.slice (1 + f.comp) 92 4 ∧
    ((s.vat.frames.countP fun e => e.2.spill.isSome) + s.vat.spills.length < 524288) ∧
    s.nextSlot f.charged = some (k, a) :=
  ⟨743, 0, 0, cpy, skF, skS, by decide⟩

def st101 : State := skS.setReg (Reg.SLC_RIND_DESC 1 1 23) 0

theorem witness_SkimMovesFrames_3 : ∃ (q : Fin 20480) (x : Copy) (f : Frame) (s : State), s.frame? x.frame = some f
    ∧ s.bit Reg.VAT_SKIM_CTL 31 = true ∧ s.qfld q 0 8 8 = 1 ∧ 16 * s.qfld q 1 15 0 < s.res q ∧
    (s.queue q).reverse.find? (s.candidate q) = some x ∧
    s.desc f.slice (1 + f.comp) 92 4 < s.skimUse f.slice f.comp + s.spillingOf f.slice f.comp + f.charged :=
  ⟨743, cpy, skF, st101, by decide⟩

def st102 : State := { skS with vat := { skS.vat with spills := [⟨743,5,0,0⟩] } }

theorem witness_SkimMovesFrames_4 : ∃ (x : Copy) (f : Frame) (o : SpillOp) (s : State), s.frame? x.frame = some f
    ∧ s.vat.spills.find? (·.frame == x.frame) = some o ∧ f.refcnt = 1 ∧ (s.slice f.slice).safe = false ∧
    s.flt.deviceSafe = false ∧ s.stackOk o.stack = true ∧ (s.queue o.qid).all (·.frame != x.frame) = false ∧
    s.ahead o.qid ≤ s.cellsBefore x.frame (s.queue o.qid) :=
  ⟨cpy, skF, ⟨743,5,0,0⟩, st102, by decide⟩

def st103 : State := skB.setFrame 5 { skF with spill := some ⟨0,0,false⟩, cells := [7], back := some 0 }

theorem witness_SkimMovesFrames_5 : ∃ (c : Nat) (x : Copy) (f : Frame) (p : Spill) (s : State), s.frame? x.frame = some f
    ∧ f.spill = some p ∧ f.back.isSome = true ∧ f.charged ≤ c :=
  ⟨1, cpy, { skF with spill := some ⟨0,0,false⟩, cells := [7], back := some 0 }, ⟨0,0,false⟩, st103, by decide⟩

def st104 : State := dOn { w0 with time := { w0.time with mono := 5, clk := 5 * 10^21 + 7 * 10^12 } } 6

theorem witness_SettingAndReadingClock_1 : ∃ (m : Master) (p : Fin 1024) (s : State), (m.trusted = true ∧
    s.fld Reg.TIME_SET0 29 0 < 10 ^ 9) ∧ (m.trusted = true ∧ s.domOn (domainOf (Reg.PORT_TSQ0 p)) = true) :=
  ⟨.me 3, 32, st104, by decide⟩

def st105 : State := dOn ({ (w0.setReg Reg.TIME_CTL 0x18000000).setPort 7 { hist := [(5, 2^33+1)] } with time := { w0.time with wrapped := true, clk := 3 * 10^21 + 9 * 10^12, mono := 50 } }) 147

theorem witness_PulsesSnapshotsAndCollectors_1 : ∃ (m : Master) (b : Nat) (p : Nat) (d : Word) (s : State), (m.trusted = true
    ∧ s.time.wrapped = true ∧ s.time.ppsEnd = none) ∧ (m.trusted = true ∧ s.time.ppsIn = none ∧
    s.bit Reg.TIME_CTL 28 = true) ∧ (m.trusted = true ∧ s.domOn (domainOf Reg.TELE_HIST_CMD) = true ∧
    p = fieldOf d 9 0 ∧ b < 64) :=
  ⟨.pf, 5, 7, 0x20000007, st105, by decide⟩

def st106 : State := dOn ({ (w0.setReg Reg.TIME_CTL 0x10000000).setPort 7 { hist := [(5, 2^33+1)] } with time := { w0.time with ppsEnd := some 9, clk := 3 * 10^21 + 9 * 10^12, mono := 50 } }) 147

theorem witness_PulsesSnapshotsAndCollectors_2 : ∃ (m : Master) (e : Nat) (s : State), m.trusted = true ∧
    s.time.ppsEnd = some e ∧ e ≤ s.time.mono :=
  ⟨.me 1, 9, st106, by decide⟩

def st107 : State := (dOn { w0 with time := { w0.time with mono := 10 ^ 9 } } 144).setCol 3 { recs := [[1,2]], since := 5, seq := 7 }

theorem witness_PulsesSnapshotsAndCollectors_3 : ∃ (m : Master) (j : Fin 8) (s : State), m.trusted = true ∧
    (s.col j).recs ≠ [] ∧ (s.col j).since + us (oneIfZero (s.winLE (colBase j) 6 2)) ≤ s.time.mono :=
  ⟨.me 1, 3, st107, by decide⟩

theorem witness_UpdatePortCommands_1 : ∃ (m : Master) (p : Fin 33) (cmd : Word) (o : Nat) (ins : Instr) (s : State), m.trusted = true
    ∧
    (o, ins) ∈ [(0, .tuReadIndex m p cmd), (1, .tuWrite m p cmd), (2, .tuDelete m p cmd), (3, .tuReadKey m p cmd)]
    ∧ s.bit (tuCmd p) 30 = false :=
  ⟨.pf, 1, 0x81, 2, .tuDelete .pf 1 0x81, tuS, by decide⟩

def st108 : State := tuS.setBit (tuCmd 1) 30 true

theorem witness_UpdatePortCommands_2 : ∃ (m : Master) (p : Fin 33) (cmd : Word) (o : Nat) (ins : Instr) (s : State), m.trusted = true
    ∧
    (o, ins) ∈ [(0, .tuReadIndex m p cmd), (1, .tuWrite m p cmd), (2, .tuDelete m p cmd), (3, .tuReadKey m p cmd)]
    ∧ s.bit (tuCmd p) 30 = true :=
  ⟨.pf, 1, 0x81, 2, .tuDelete .pf 1 0x81, st108, by decide⟩

def st109 : State := tuC 1 ⟨0x9000, 6, List.replicate 84 7 ++ toLE 4 0xFFFFF ++ List.replicate 8 9⟩

theorem witness_UpdatePortCommands_3 : ∃ (m : Master) (p : Fin 33) (u : UpCmd) (s : State), m.trusted = true ∧
    Store.at? s.tbl.cmds p = some u ∧ s.tuHeld u = false ∧ p.val < 32 ∧ u.tgt = 2 ∧ u.op = 1 ∧ u.idx < 8192 ∧
    s.tuIn p u (aclWindow u.pipe) 2 u.idx = true ∧ s.tuObjOk p u (aclNhop (bytesAt u.data 0 92)) = true :=
  ⟨.pf, 1, ⟨0x9000, 6, List.replicate 84 7 ++ toLE 4 0xFFFFF ++ List.replicate 8 9⟩, st109, by decide⟩

def st110 : State := (tuC 1 ⟨0x9000, 6, List.replicate 84 7 ++ toLE 4 0xFFFFF ++ List.replicate 8 9⟩).setReg (Reg.SLC_RIND_DESC 1 1 8) 0

theorem witness_UpdatePortCommands_4 : ∃ (m : Master) (p : Fin 33) (u : UpCmd) (s : State), m.trusted = true ∧
    Store.at? s.tbl.cmds p = some u ∧ s.tuHeld u = false ∧ p.val < 32 ∧ u.tgt = 2 ∧ u.op = 1 ∧ u.idx < 8192 ∧
    s.tuIn p u (aclWindow u.pipe) 2 u.idx = false :=
  ⟨.pf, 1, ⟨0x9000, 6, List.replicate 84 7 ++ toLE 4 0xFFFFF ++ List.replicate 8 9⟩, st110, by decide⟩

def st111 : State := tuC 32 ⟨0x11000, 2000, List.replicate 96 1⟩

theorem witness_UpdatePortCommands_5 : ∃ (m : Master) (p : Fin 33) (u : UpCmd) (s : State), m.trusted = true ∧
    Store.at? s.tbl.cmds p = some u ∧ s.tuHeld u = false ∧ p.val = 32 ∧ u.tgt = 4 ∧ u.op = 1 ∧ 1057 < u.idx ∧
    u.idx < 262144 ∧ s.objState u.idx ≠ 2 :=
  ⟨.pf, 32, ⟨0x11000, 2000, List.replicate 96 1⟩, st111, by decide⟩

def st112 : State := tuC 32 ⟨0x1D000, 2000, List.replicate 96 1⟩

theorem witness_UpdatePortCommands_6 : ∃ (m : Master) (p : Fin 33) (u : UpCmd) (s : State), m.trusted = true ∧
    Store.at? s.tbl.cmds p = some u ∧ s.tuHeld u = false ∧ (4 < u.tgt ∨ (u.tgt = 2 ∧ u.op = 3) ∨ (u.tgt = 4 ∧
    p.val < 32)) :=
  ⟨.pf, 32, ⟨0x1D000, 2000, List.replicate 96 1⟩, st112, by decide⟩

def st113 : State := { lrnS epSt with time := { w0.time with mono := 10 ^ 12 } }

theorem witness_LearningAgingAndChurn_1 : ∃ (k : Nat) (l : Learn) (r : List Learn) (s : State), ((∃ (shard : Fin 16), s.bit Reg.TBL_HOLD shard = false
    ∧ s.learnQ shard = l :: r ∧ s.learnOn l.part = true ∧ s.epFind l.part l.key = some k ∧
    epStatic (s.epAt k) = true ∧ l.slice < 32 ∧ l.comp < 8)) ∧
    (s.tbl.ageLast + ms (max 10 (s.fld Reg.TBL_AGE 31 16)) ≤ s.time.mono) :=
  ⟨lrnSlot, lrn0, [], st113, by decide⟩

def st114 : State := (lrnS ep3).setReg (Reg.TBL_CTL) 0

theorem witness_LearningAgingAndChurn_2 : ∃ (l : Learn) (r : List Learn) (s : State), (∃ (shard : Fin 16), s.bit Reg.TBL_HOLD shard = false
    ∧ s.learnQ shard = l :: r ∧ s.learnOn l.part = false) :=
  ⟨lrn0, [], st114, by decide⟩

def st115 : State := { lrnS epAg with tbl := { (lrnS epAg).tbl with visit := lrnSlot % 2097152 * 16 + lrnSlot / 2097152 }, time := { w0.time with mono := 10 ^ 12 } }

theorem witness_LearningAgingAndChurn_3 : ∃ (k : Nat) (s : State), s.tblOn = true ∧ s.tblDup = false ∧
    s.bit Reg.TBL_CTL 29 = true ∧ s.churnDeletes = true ∧ s.tbl.visitLast + 1000 ≤ s.time.mono ∧
    k = visitSlot s.tbl.visit ∧ s.agedOut (s.epAt k) (s.authTs (s.epAt k)) = true ∧ s.epAt k ≠ [] :=
  ⟨lrnSlot, st115, by decide⟩

def st116 : State := { lrnS epAg with tbl := { (lrnS epAg).tbl with churned := [(lrnSlot, epAg.take 18, 0)] } }

theorem witness_LearningAgingAndChurn_4 : ∃ (k : Nat) (ts : Nat) (pk : List Byte) (s : State), s.tbl.churned = [(k, pk, ts)]
    ∧ s.bit Reg.TBL_HOLD (k / 2097152) = false ∧ k < 2 ^ 25 ∧ (s.epAt k).take 18 = pk ∧ s.authTs (s.epAt k) = ts
    ∧ s.readOutstanding k = false :=
  ⟨lrnSlot, 0, epAg.take 18, st116, by decide⟩

def st117 : State := { lrnS epAg with tbl := { (lrnS epAg).tbl with churned := [(lrnSlot, epAg.take 18, 1)] } }

theorem witness_LearningAgingAndChurn_5 : ∃ (k : Nat) (ts : Nat) (pk : List Byte) (s : State), s.tbl.churned = [(k, pk, ts)]
    ∧ s.bit Reg.TBL_HOLD (k / 2097152) = false ∧ k < 2 ^ 25 ∧ s.authTs (s.epAt k) ≠ ts :=
  ⟨lrnSlot, 1, epAg.take 18, st117, by decide⟩

def st118 : State := { lrnS ep3 with ctxs := [], tbl := { (lrnS ep3).tbl with objects := [(2000, { bytes := [1], retired := some 8 })] } }

theorem witness_LearningAgingAndChurn_6 : ∃ (i : Fin 262144) (x : Nat) (s : State), (∃ o ∈ Store.at? s.tbl.objects i, o.retired = some x
    ∧ (∀ y ∈ s.ctxs, x ≤ y.1)) :=
  ⟨2000, 8, st118, by decide⟩

def st119 : State := (dOn (dOn w0 132) 133).setPress 0 { routes := [rt24], holes := [(5,2)] } |>.setPress 1 { routes := [rt24] }

theorem witness_PressBanksAndRates_1 : ∃ (m : Master) (n : Fin 32) (d : Word) (b : Fin 8) (s : State), (m.trusted = true
    ∧ (∀ x ∈ s.pressOn, ∀ y ∈ (s.press x).routes, ∀ z ∈ s.routeCopies y, z = y)) ∧ (m.trusted = true ∧
    s.domOn (132 + b) = true) ∧ (m.trusted = true ∧ s.domOn (domainOf (Reg.TBL_MISS_RATE n)) = true ∧
    (((List.range 32).map fun k => if k = n.val then fieldOf d 15 0 else s.fld (Reg.TBL_MISS_RATE k) 15 0).sum ≤ 12000)) :=
  ⟨.pf, 3, 7, 0, st119, by decide⟩

def st120 : State := (dOn (dOn w0 132) 133).setPress 0 { routes := [rt24], holes := [(5,2)] } |>.setPress 1 { routes := [{ rt24 with seq := 9, opc := 3 }] }

theorem witness_PressBanksAndRates_2 : ∃ (m : Master) (n : Fin 32) (d : Word) (q : Route) (r : Route) (s : State), (m.trusted = true
    ∧ s.pressOn = [0, 1] ∧ (s.press 0).routes = [q] ∧ (s.press 1).routes = [r] ∧
    r.is q.af q.plen q.vrf q.addr = true ∧ seqHigher r.seq q.seq = true) ∧ (m.trusted = true ∧
    s.domOn (domainOf (Reg.TBL_MISS_RATE n)) = true ∧
    (12000 < ((List.range 32).map fun k => if k = n.val then fieldOf d 15 0 else s.fld (Reg.TBL_MISS_RATE k) 15 0).sum)) :=
  ⟨.me 1, 3, 0xFFFF, rt24, { rt24 with seq := 9, opc := 3 }, st120, by decide⟩

def st121 : State := csS.setReg (Reg.SLC_CS_PROT 1) 0x40000008

theorem witness_StoreWordsAndMirrors_1 : ∃ (m : Master) (n : Fin 32) (i : Fin 16) (acc : Word) (p : Nat) (st : Nat) (a : Nat) (s : State), (m.trusted = true
    ∧ p = fieldOf acc 29 29 ∧ st = fieldOf acc 28 24 ∧ a = fieldOf acc 9 0 ∧
    s.domOn (domainOf (Reg.SLC_CS_ACC n)) = true ∧ fieldOf acc 23 23 = 0 ∧ st < 24 ∧ s.loadPeriod n = false ∧
    s.bit (Reg.SLC_CS_PROT n) 2 = false) ∧ (m.trusted = true ∧ p = fieldOf acc 29 29 ∧ st = fieldOf acc 28 24 ∧
    a = fieldOf acc 9 0 ∧ s.domOn (domainOf (Reg.SLC_LB_ACC n)) = true ∧ s.loadPeriod n = false) ∧
    (m.trusted = true ∧ p = fieldOf acc 29 29 ∧ st = fieldOf acc 28 24 ∧ a = fieldOf acc 9 0 ∧
    s.domOn (domainOf (Reg.SLC_MIR_CFG1 n i)) = true) ∧ (m.trusted = true ∧ p = fieldOf acc 29 29 ∧
    st = fieldOf acc 28 24 ∧ a = fieldOf acc 9 0 ∧ s.domOn (domainOf (Reg.SLC_CS_PROT n)) = true) ∧
    (m.trusted = true ∧ p = fieldOf acc 29 29 ∧ st = fieldOf acc 28 24 ∧ a = fieldOf acc 9 0 ∧
    s.bit (Reg.SLC_CS_PROT n) 30 = true ∧ s.bit (Reg.SLC_CS_PROT n) 3 = true) :=
  ⟨.me 0, 1, 3, 0x02041000, 0, 2, 0, st121, by decide⟩

def st122 : State := csS.setLdState 1 2

theorem witness_StoreWordsAndMirrors_2 : ∃ (m : Master) (n : Fin 32) (acc : Word) (p : Nat) (st : Nat) (a : Nat) (s : State), m.trusted = true
    ∧ p = fieldOf acc 29 29 ∧ st = fieldOf acc 28 24 ∧ a = fieldOf acc 9 0 ∧
    s.domOn (domainOf (Reg.SLC_CS_ACC n)) = true ∧ fieldOf acc 23 23 = 0 ∧ st < 24 ∧ s.loadPeriod n = true :=
  ⟨.pf, 1, 0x02000041, 0, 2, 0x41, st122, by decide⟩

def st123 : State := (w0.setReg (Reg.SLC_CS_PROT 1) 0x40000000).setSlice 1 { bankA := { digestI := 0 :: Config.sha384 (({} : Bank).stores 0), digestE := [3] } }

theorem witness_StoreWordsAndMirrors_3 : ∃ (m : Master) (n : Fin 32) (acc : Word) (p : Nat) (st : Nat) (a : Nat) (s : State), m.trusted = true
    ∧ p = fieldOf acc 29 29 ∧ st = fieldOf acc 28 24 ∧ a = fieldOf acc 9 0 ∧ s.bit (Reg.SLC_CS_PROT n) 30 = true
    ∧ s.bit (Reg.SLC_CS_PROT n) 3 = false ∧ (s.slice n).active.digestI ≠ [] ∧
    (s.slice n).active.record.digestI ≠ (s.slice n).active.digestI :=
  ⟨.me 0, 1, 0x02041000, 0, 2, 0, st123, by decide, by decide, by decide, by decide, by decide, by decide, by decide,
    (List.cons_ne_self _ _).symm⟩

def st124 : State := (egS (mgO 2)).setEngine 1 { (egS (mgO 2)).engine 1 with haltReq := true }

theorem witness_EngineRunControl_1 : ∃ (m : Master) (k : Fin 4) (d : Word) (e : Engine) (s : State), (m.trusted = true
    ∧ s.domOn (domainOf (Reg.MGE_CTL k)) = true ∧ s.engine k = e ∧ s.engHalted k = false ∧ fieldOf d 29 29 = 0)
    ∧ (m.trusted = true ∧ s.domOn (domainOf (Reg.MGE_CTL k)) = true ∧ s.engine k = e ∧ s.engHalted k = false ∧
    e.haltReq = true ∧ e.atBoundary = true) ∧ (m.trusted = true ∧ s.domOn (domainOf (Reg.MGE_CTL k)) = true ∧
    s.engine k = e ∧ fieldOf d 29 29 = 0) :=
  ⟨.pf, 1, 0x7, { (egS (mgO 2)).engine 1 with haltReq := true }, st124, by decide⟩

def st125 : State := { egS (mgO 2) with intr := { w0.intr with engine := [(1, [77, 80])] } }

theorem witness_EngineRunControl_2 : ∃ (m : Master) (k : Fin 4) (d : Word) (src : Nat) (rest : List Nat) (e : Engine) (s : State), (m.trusted = true
    ∧ s.domOn (domainOf (Reg.MGE_CTL k)) = true ∧ s.engine k = e ∧ s.engHalted k = false ∧ e.haltReq = false ∧
    e.atBoundary = true ∧ Store.read [] s.intr.engine k = src :: rest ∧ e.rstack.length < 8) ∧ (m.trusted = true
    ∧ s.domOn (domainOf (Reg.MGE_CTL k)) = true ∧ s.engine k = e ∧ fieldOf d 29 29 = 1) :=
  ⟨.me 2, 1, 0x20000007, 77, [80], (egS (mgO 2)).engine 1, st125, by decide⟩

def st126 : State := (egS (mgO 2)).setBit (Reg.MGE_STAT 1) 31 true

theorem witness_EngineRunControl_3 : ∃ (m : Master) (k : Fin 4) (d : Word) (e : Engine) (s : State), m.trusted = true
    ∧ s.domOn (domainOf (Reg.MGE_CTL k)) = true ∧ s.engine k = e ∧ s.engHalted k = true ∧ e.blocked = false ∧
    fieldOf d 29 29 = 0 ∧ (∀ i : Fin 256, s.bit (Reg.MBX_STAT i) 30 = false) ∧
    (∀ i : Fin 64, s.reg (Reg.MBX_DB i) = 0) ∧ e.jopen = false :=
  ⟨.pf, 1, 0x80000123, (egS (mgO 2)).engine 1, st126, by decide +kernel⟩

def st127 : State := ((egS (mgO 2)).setBit (Reg.MGE_STAT 1) 31 true).setEngine 1 { (egS (mgO 2)).engine 1 with jopen := true, records := [(0, ⟨5, 6, 2, 0, []⟩)], nextRec := 1, store := [(0x100000 + 4 * 0xFE, 9)] }

theorem witness_EngineRunControl_4 : ∃ (m : Master) (k : Fin 4) (d : Word) (e : Engine) (s : State), m.trusted = true
    ∧ s.domOn (domainOf (Reg.MGE_CTL k)) = true ∧ s.engine k = e ∧ s.engHalted k = true ∧ e.blocked = false ∧
    fieldOf d 29 29 = 0 ∧ (∀ i : Fin 256, s.bit (Reg.MBX_STAT i) 30 = false) ∧
    (∀ i : Fin 64, s.reg (Reg.MBX_DB i) = 0) ∧ e.jopen = true :=
  ⟨.pf, 1, 0x80000123, { (egS (mgO 2)).engine 1 with jopen := true, records := [(0, ⟨5, 6, 2, 0, []⟩)], nextRec := 1, store := [(0x100000 + 4 * 0xFE, 9)] }, st127, by decide +kernel⟩

def st128 : State := (egS (mgO 2)).setBit (Reg.MGE_STAT 1) 27 true

theorem witness_EngineRunControl_5 : ∃ (m : Master) (k : Fin 4) (e : Engine) (s : State), m.trusted = true ∧
    s.domOn (domainOf (Reg.MGE_CTL k)) = true ∧ s.engine k = e ∧ s.bit (Reg.MGE_STAT k) 27 = true ∧
    e.digest = [] :=
  ⟨.pf, 1, (egS (mgO 2)).engine 1, st128, by decide⟩

def st129 : State := ((egS (mgO 2)).setBit (Reg.MGE_STAT 1) 27 true).setEngine 1 { (egS (mgO 2)).engine 1 with digest := 0 :: Config.sha384 ((egS (mgO 2)).engine 1).image }

theorem witness_EngineRunControl_6 : ∃ (m : Master) (k : Fin 4) (e : Engine) (s : State), m.trusted = true ∧
    s.domOn (domainOf (Reg.MGE_CTL k)) = true ∧ s.engine k = e ∧ s.bit (Reg.MGE_STAT k) 27 = true ∧
    e.digest ≠ [] ∧ Config.sha384 e.image ≠ e.digest :=
  ⟨.pf, 1, { (egS (mgO 2)).engine 1 with digest := 0 :: Config.sha384 ((egS (mgO 2)).engine 1).image }, st129, by decide, by decide, rfl, by decide, by decide, (List.cons_ne_self _ _).symm⟩

def st130 : State := egS (mgO 2)

theorem witness_MicrowordsOfEngines_1 : ∃ (k : Fin 4) (w : Nat) (A : Nat) (B : Nat) (d : Nat) (o : Nat) (v : Nat) (ins : Instr) (e : Engine) (s : State), s.engine k = e
    ∧ s.engRuns k = true ∧ e.waiting = false ∧ e.haltReq = false ∧ e.memDone = false ∧ e.opDone = false ∧
    e.loaded = none ∧ w = e.word e.upc ∧ s.engBad k e.upc = false ∧ engMemop w = 0 ∧ bitsOf w 188 186 = 0 ∧
    bitsOf w 63 56 = 0 ∧ d = bitsOf w 163 159 ∧ A = (e.reg (bitsOf w 158 154)).toNat ∧
    (B = (if bitsOf w 148 148 = 1 then bitsOf w 127 64 else (e.reg (bitsOf w 153 149)).toNat)) ∧ e.jopen = false
    ∧
    (o, ins, v) ∈ [(1, .mov (.engine k), B), (2, .add (.engine k), A + B), (3, .sub (.engine k), A + 2 ^ 64 - B), (4, .and (.engine k), A &&& B), (5, .or (.engine k), A ||| B), (6, .xor (.engine k), A ^^^ B), (7, .shl (.engine k), A * 2 ^ (B % 64)), (8, .shr (.engine k), A / 2 ^ (B % 64)), (10, .min (.engine k), min A B), (11, .max (.engine k), max A B), (12, .csum (.engine k), onesSum (aluResult.wordsOf 64 A ++ aluResult.wordsOf 64 B)), (13, .crc (.engine k), (crc32c (BitVec.ofNat 32 B) (toBE 8 A)).toNat), (14, .setb (.engine k), A ||| 2 ^ (B % 64)), (15, .clrb (.engine k), A - (A &&& 2 ^ (B % 64)))]
    ∧ bitsOf w 171 164 = o ∧ bitsOf w 142 142 = 0 :=
  ⟨1, mgO 2, 0x102, 7, 5, 2, 0x109, .add (.engine 1), (egS (mgO 2)).engine 1, st130, by decide⟩

def st131 : State := egS (mgO 0)

theorem witness_MicrowordsOfEngines_2 : ∃ (k : Fin 4) (w : Nat) (A : Nat) (B : Nat) (d : Nat) (e : Engine) (s : State), s.engine k = e
    ∧ s.engRuns k = true ∧ e.waiting = false ∧ e.haltReq = false ∧ e.memDone = false ∧ e.opDone = false ∧
    e.loaded = none ∧ w = e.word e.upc ∧ s.engBad k e.upc = false ∧ engMemop w = 0 ∧ bitsOf w 188 186 = 0 ∧
    bitsOf w 63 56 = 0 ∧ d = bitsOf w 163 159 ∧ A = (e.reg (bitsOf w 158 154)).toNat ∧
    (B = (if bitsOf w 148 148 = 1 then bitsOf w 127 64 else (e.reg (bitsOf w 153 149)).toNat)) ∧ e.jopen = false
    ∧ bitsOf w 171 164 = 0 :=
  ⟨1, mgO 0, 0x102, 7, 5, (egS (mgO 0)).engine 1, st131, by decide⟩

def st132 : State := egS (mgO 77)

theorem witness_MicrowordsOfEngines_3 : ∃ (k : Fin 4) (w : Nat) (A : Nat) (B : Nat) (d : Nat) (e : Engine) (s : State), s.engine k = e
    ∧ s.engRuns k = true ∧ e.waiting = false ∧ e.haltReq = false ∧ e.memDone = false ∧ e.opDone = false ∧
    e.loaded = none ∧ w = e.word e.upc ∧ s.engBad k e.upc = false ∧ engMemop w = 0 ∧ bitsOf w 188 186 = 0 ∧
    bitsOf w 63 56 = 0 ∧ d = bitsOf w 163 159 ∧ A = (e.reg (bitsOf w 158 154)).toNat ∧
    (B = (if bitsOf w 148 148 = 1 then bitsOf w 127 64 else (e.reg (bitsOf w 153 149)).toNat)) ∧ e.jopen = false
    ∧ 19 ≤ bitsOf w 171 164 :=
  ⟨1, mgO 77, 0x102, 7, 5, (egS (mgO 77)).engine 1, st132, by decide⟩

def st133 : State := egS (mgO 9)

theorem witness_MicrowordsOfEngines_4 : ∃ (k : Fin 4) (w : Nat) (A : Nat) (B : Nat) (d : Nat) (e : Engine) (s : State), s.engine k = e
    ∧ s.engRuns k = true ∧ e.waiting = false ∧ e.haltReq = false ∧ e.memDone = false ∧ e.opDone = false ∧
    e.loaded = none ∧ w = e.word e.upc ∧ s.engBad k e.upc = false ∧ engMemop w = 0 ∧ bitsOf w 188 186 = 0 ∧
    bitsOf w 63 56 = 0 ∧ d = bitsOf w 163 159 ∧ A = (e.reg (bitsOf w 158 154)).toNat ∧
    (B = (if bitsOf w 148 148 = 1 then bitsOf w 127 64 else (e.reg (bitsOf w 153 149)).toNat)) ∧ e.jopen = false
    ∧ bitsOf w 171 164 = 9 :=
  ⟨1, mgO 9, 0x102, 7, 5, (egS (mgO 9)).engine 1, st133, by decide⟩

def st134 : State := egS (mgO 18)

theorem witness_MicrowordsOfEngines_5 : ∃ (k : Fin 4) (w : Nat) (A : Nat) (B : Nat) (d : Nat) (e : Engine) (s : State), s.engine k = e
    ∧ s.engRuns k = true ∧ e.waiting = false ∧ e.haltReq = false ∧ e.memDone = false ∧ e.opDone = false ∧
    e.loaded = none ∧ w = e.word e.upc ∧ s.engBad k e.upc = false ∧ engMemop w = 0 ∧ bitsOf w 188 186 = 0 ∧
    bitsOf w 63 56 = 0 ∧ d = bitsOf w 163 159 ∧ A = (e.reg (bitsOf w 158 154)).toNat ∧
    (B = (if bitsOf w 148 148 = 1 then bitsOf w 127 64 else (e.reg (bitsOf w 153 149)).toNat)) ∧ e.jopen = false
    ∧ bitsOf w 171 164 = 18 :=
  ⟨1, mgO 18, 0x102, 7, 5, (egS (mgO 18)).engine 1, st134, by decide⟩

def st135 : State := egS (mgO 16)

theorem witness_MicrowordsOfEngines_6 : ∃ (k : Fin 4) (w : Nat) (A : Nat) (B : Nat) (d : Nat) (e : Engine) (s : State), s.engine k = e
    ∧ s.engRuns k = true ∧ e.waiting = false ∧ e.haltReq = false ∧ e.memDone = false ∧ e.opDone = false ∧
    e.loaded = none ∧ w = e.word e.upc ∧ s.engBad k e.upc = false ∧ engMemop w = 0 ∧ bitsOf w 188 186 = 0 ∧
    bitsOf w 63 56 = 0 ∧ d = bitsOf w 163 159 ∧ A = (e.reg (bitsOf w 158 154)).toNat ∧
    (B = (if bitsOf w 148 148 = 1 then bitsOf w 127 64 else (e.reg (bitsOf w 153 149)).toNat)) ∧ e.jopen = false
    ∧ bitsOf w 171 164 = 16 :=
  ⟨1, mgO 16, 0x102, 7, 5, (egS (mgO 16)).engine 1, st135, by decide⟩

def st136 : State := (egS (mgO 17)).setEngine 1 { (egS (mgO 17)).engine 1 with jopen := true }

theorem witness_MicrowordsOfEngines_7 : ∃ (k : Fin 4) (w : Nat) (A : Nat) (B : Nat) (d : Nat) (e : Engine) (s : State), s.engine k = e
    ∧ s.engRuns k = true ∧ e.waiting = false ∧ e.haltReq = false ∧ e.memDone = false ∧ e.opDone = false ∧
    e.loaded = none ∧ w = e.word e.upc ∧ s.engBad k e.upc = false ∧ engMemop w = 0 ∧ bitsOf w 188 186 = 0 ∧
    bitsOf w 63 56 = 0 ∧ d = bitsOf w 163 159 ∧ A = (e.reg (bitsOf w 158 154)).toNat ∧
    (B = (if bitsOf w 148 148 = 1 then bitsOf w 127 64 else (e.reg (bitsOf w 153 149)).toNat)) ∧ e.jopen = true
    ∧ bitsOf w 171 164 = 17 ∧ bitsOf w 133 133 = 0 ∧ e.steps < 256 :=
  ⟨1, mgO 17, 0x102, 7, 5, { (egS (mgO 17)).engine 1 with jopen := true }, st136, by decide⟩

def st137 : State := egS (mgM 1 1)

theorem witness_EngineMemoryAndSequencing_1 : ∃ (k : Fin 4) (w : Nat) (a : Nat) (n : Nat) (e : Engine) (s : State), s.engine k = e
    ∧ s.engRuns k = true ∧ w = e.word e.upc ∧ e.waiting = false ∧ e.haltReq = false ∧ e.memDone = false ∧
    e.opDone = false ∧ s.engBad k e.upc = false ∧
    a = ((e.reg (bitsOf w 158 154)).toNat + bitsOf w 31 0) % 2 ^ 64 ∧ n = engSize w ∧ n < 64 ∧ engMemop w = 1 ∧
    bitsOf w 131 128 = 1 ∧ e.held = [] ∧ a + n ≤ 2 ^ 18 :=
  ⟨1, mgM 1 1, 0x106, 8, (egS (mgM 1 1)).engine 1, st137, by decide⟩

def st138 : State := egS (mgM 2 1)

theorem witness_EngineMemoryAndSequencing_2 : ∃ (k : Fin 4) (w : Nat) (a : Nat) (n : Nat) (e : Engine) (s : State), s.engine k = e
    ∧ s.engRuns k = true ∧ w = e.word e.upc ∧ e.waiting = false ∧ e.haltReq = false ∧ e.memDone = false ∧
    e.opDone = false ∧ s.engBad k e.upc = false ∧
    a = ((e.reg (bitsOf w 158 154)).toNat + bitsOf w 31 0) % 2 ^ 64 ∧ n = engSize w ∧ n < 64 ∧ engMemop w = 2 ∧
    bitsOf w 131 128 = 1 ∧ a + n ≤ 2 ^ 18 ∧ Memory.wf e.ram = true :=
  ⟨1, mgM 2 1, 0x106, 8, (egS (mgM 2 1)).engine 1, st138, by decide⟩

def st139 : State := (egS (mgM 2 2)).setEngine 1 { (egS (mgM 2 2)).engine 1 with jopen := true }

theorem witness_EngineMemoryAndSequencing_3 : ∃ (k : Fin 4) (w : Nat) (a : Nat) (n : Nat) (e : Engine) (s : State), s.engine k = e
    ∧ s.engRuns k = true ∧ w = e.word e.upc ∧ e.waiting = false ∧ e.haltReq = false ∧ e.memDone = false ∧
    e.opDone = false ∧ s.engBad k e.upc = false ∧
    a = ((e.reg (bitsOf w 158 154)).toNat + bitsOf w 31 0) % 2 ^ 64 ∧ n = engSize w ∧ n < 64 ∧ engMemop w = 2 ∧
    e.jopen = true ∧ 2 ≤ bitsOf w 131 128 ∧ e.held.length < 16 :=
  ⟨1, mgM 2 2, 0x106, 8, { (egS (mgM 2 2)).engine 1 with jopen := true }, st139, by decide⟩

def st140 : State := (egS (mgM 2 6)).setEngine 1 { (egS (mgM 2 6)).engine 1 with jopen := true, held := List.replicate 16 ⟨2, 0, [1]⟩ }

theorem witness_EngineMemoryAndSequencing_4 : ∃ (k : Fin 4) (w : Nat) (a : Nat) (n : Nat) (e : Engine) (s : State), s.engine k = e
    ∧ s.engRuns k = true ∧ w = e.word e.upc ∧ e.waiting = false ∧ e.haltReq = false ∧ e.memDone = false ∧
    e.opDone = false ∧ s.engBad k e.upc = false ∧
    a = ((e.reg (bitsOf w 158 154)).toNat + bitsOf w 31 0) % 2 ^ 64 ∧ n = engSize w ∧ n < 64 ∧ engMemop w = 2 ∧
    e.jopen = true ∧ 2 ≤ bitsOf w 131 128 ∧ 16 ≤ e.held.length :=
  ⟨1, mgM 2 6, 0x106, 8, { (egS (mgM 2 6)).engine 1 with jopen := true, held := List.replicate 16 ⟨2, 0, [1]⟩ }, st140, by decide⟩

def st141 : State := egQ 4 []

theorem witness_EngineMemoryAndSequencing_5 : ∃ (k : Fin 4) (w : Nat) (e : Engine) (s : State), s.engine k = e
    ∧ s.engRuns k = true ∧ w = e.word e.upc ∧ e.opDone = true ∧ bitsOf w 188 186 = 4 ∧ e.rstack.length < 8 :=
  ⟨1, mgSq 4, (egQ 4 []).engine 1, st141, by decide⟩

def st142 : State := egQ 5 [77,8]

theorem witness_EngineMemoryAndSequencing_6 : ∃ (k : Fin 4) (w : Nat) (a : Nat) (r : List Nat) (e : Engine) (s : State), s.engine k = e
    ∧ s.engRuns k = true ∧ w = e.word e.upc ∧ e.opDone = true ∧ bitsOf w 188 186 = 5 ∧ e.rstack = a :: r :=
  ⟨1, mgSq 5, 77, [8], (egQ 5 [77,8]).engine 1, st142, by decide⟩

def st143 : State := egQ 6 []

theorem witness_EngineMemoryAndSequencing_7 : ∃ (k : Fin 4) (w : Nat) (e : Engine) (s : State), s.engine k = e
    ∧ s.engRuns k = true ∧ w = e.word e.upc ∧ e.opDone = true ∧ bitsOf w 188 186 = 6 :=
  ⟨1, mgSq 6, (egQ 6 []).engine 1, st143, by decide⟩

def st144 : State := egQ 7 []

theorem witness_EngineMemoryAndSequencing_8 : ∃ (k : Fin 4) (w : Nat) (e : Engine) (s : State), s.engine k = e
    ∧ s.engRuns k = true ∧ w = e.word e.upc ∧ e.opDone = true ∧ bitsOf w 188 186 = 7 :=
  ⟨1, mgSq 7, (egQ 7 []).engine 1, st144, by decide⟩

def st145 : State := (w0.setReg (Reg.VAT_QDATA0 + 8) 77).setReg Reg.VAT_CTL 0x80000000

theorem witness_VatRegisters_1 : ∃ (m : Master) (acc : Word) (d : Word) (q : Nat) (s : State), (m.trusted = true
    ∧ q = fieldOf acc 14 0 ∧ q < 21396) ∧ (m.trusted = true ∧ q = fieldOf acc 14 0 ∧ fieldOf acc 27 27 = 1 ∧
    fieldOf acc 18 0 ≤ 524286) ∧ (m.trusted = true ∧ q = fieldOf acc 14 0 ∧ s.bit Reg.VAT_CTL 31 = true ∧
    fieldOf d 30 30 ≠ s.fld Reg.VAT_CTL 30 30) :=
  ⟨.pf, 0x0800000F, 0x40000000, 15, st145, by decide⟩

def st146 : State := (w0.setReg Reg.VAT_MC_DATA 0xBFFFFFFF).setReg Reg.VAT_CTL 0

theorem witness_VatRegisters_2 : ∃ (m : Master) (acc : Word) (d : Word) (q : Nat) (s : State), (m.trusted = true
    ∧ q = fieldOf acc 14 0 ∧ fieldOf acc 27 27 = 0 ∧ fieldOf acc 18 0 ≤ 65535 ∧
    524287 < fieldOf (s.reg Reg.VAT_MC_DATA) 18 0 + fieldOf (s.reg Reg.VAT_MC_DATA) 29 19) ∧ (m.trusted = true
    ∧ q = fieldOf acc 14 0 ∧ s.bit Reg.VAT_CTL 31 = false ∧ fieldOf d 31 31 = 0) :=
  ⟨.pf, 0x0000000F, 0x40000000, 15, st146, by decide⟩

def st147 : State := (w0.setReg (Reg.VAT_QDATA0 + 8) 77).setReg Reg.VAT_MC_DATA 0xBFF80010

theorem witness_VatRegisters_3 : ∃ (m : Master) (acc : Word) (q : Nat) (s : State), m.trusted = true ∧
    q = fieldOf acc 14 0 ∧ fieldOf acc 27 27 = 0 ∧ fieldOf acc 18 0 ≤ 65535 ∧
    fieldOf (s.reg Reg.VAT_MC_DATA) 18 0 + fieldOf (s.reg Reg.VAT_MC_DATA) 29 19 ≤ 524287 :=
  ⟨.pf, 0x8000000F, 15, st147, by decide⟩

def st148 : State := (port37 0).setBit (Reg.PORT_CTL 37) 31 false

theorem witness_PortsComeAndGo_1 : ∃ (m : Master) (p : Fin 1024) (k : Fin 128) (d : Word) (s : State), (m.trusted = true
    ∧ s.assigned p = true ∧ s.domOn (4 * (p / 32) + 2) = true ∧ s.portOn p = false ∧ s.portState p = 0 ∧
    (s.port p).safe = false ∧ fieldOf d 30 30 = 0) ∧ (m.trusted = true ∧ s.assigned p = true ∧
    s.domOn (4 * (p / 32) + 2) = true ∧ fieldOf d 31 31 = 1) ∧ (m.trusted = true ∧ s.assigned p = true ∧
    s.domOn (4 * (p / 32) + 2) = true ∧ s.domOn (domainOf (Reg.PORT_OCT (8 * k))) = true ∧
    fieldOf d 2 0 ≠ s.fld (Reg.PORT_OCT (8 * k)) 2 0 ∧ (∀ i : Fin 8, s.portOn (8 * k + i) = false)) :=
  ⟨.pf, 37, 4, 0x80000005, st148, by decide⟩

def st149 : State := (port37 2).setBit (Reg.PORT_CTL 37) 31 true

theorem witness_PortsComeAndGo_2 : ∃ (m : Master) (p : Fin 1024) (d : Word) (lf : Bool) (rf : Bool) (s : State), (m.trusted = true
    ∧ s.assigned p = true ∧ s.domOn (4 * (p / 32) + 2) = true ∧ s.portOn p = true ∧ s.portState p = 2 ∧
    (s.port p).rx = none ∧ Store.read [] s.vat.out p = [] ∧ fieldOf d 31 31 = 1 ∧
    s.bit (Reg.PORT_CTL p) 30 = false) ∧ (m.trusted = true ∧ s.assigned p = true ∧
    s.domOn (4 * (p / 32) + 2) = true ∧ s.portOn p = true ∧ s.portState p = 2 ∧ (s.port p).rx = none ∧
    Store.read [] s.vat.out p = [] ∧ (s.port p).safe = false ∧ s.bit (Reg.PORT_CTL p) 30 = false ∧ lf || rf) :=
  ⟨.pf, 37, 0x80000000, true, false, st149, by decide⟩

def st150 : State := { ((port37 1).setBit (Reg.PORT_CTL 37) 31 true).setPort 37 { since := some 5 } with time := { w0.time with mono := 10 ^ 9 } }

theorem witness_PortsComeAndGo_3 : ∃ (m : Master) (p : Fin 1024) (k : Fin 128) (d : Word) (a : Nat) (s : State), (m.trusted = true
    ∧ s.assigned p = true ∧ s.domOn (4 * (p / 32) + 2) = true ∧ (s.port p).since = some a ∧ s.portState p = 1 ∧
    a + us (10 * oneIfZero (s.fld (Reg.PORT_CTL p) 23 16)) ≤ s.time.mono) ∧ (m.trusted = true ∧
    s.assigned p = true ∧ s.domOn (4 * (p / 32) + 2) = true ∧ s.domOn (domainOf (Reg.PORT_OCT (8 * k))) = true
    ∧ fieldOf d 2 0 ≠ s.fld (Reg.PORT_OCT (8 * k)) 2 0 ∧ (∃ (i : Fin 8), s.assigned (8 * k + i) = true ∧
    s.portOn (8 * k + i) = true)) :=
  ⟨.pf, 37, 4, 0x80000003, 5, st150, by decide⟩

def st151 : State := ((port37 1).setBit (Reg.PORT_CTL 37) 31 true).setFld (Reg.LANE_STAT 37) 27 24 3

theorem witness_PortsComeAndGo_4 : ∃ (m : Master) (p : Fin 1024) (s : State), m.trusted = true ∧
    s.assigned p = true ∧ s.domOn (4 * (p / 32) + 2) = true ∧ s.portOn p = true ∧ s.portState p = 1 ∧
    s.lanesAllow p = true :=
  ⟨.pf, 37, st151, by decide⟩

def st152 : State := { ((dOn w0 7).setFld (Reg.LANE_STAT 37) 27 24 3).setBit (Reg.LANE_STAT 37) 22 true with time := { w0.time with mono := 10 ^ 15 } }

theorem witness_LanesTrainAndTest_1 : ∃ (m : Master) (l : Fin 1040) (g : Fin 33) (d : Word) (s : State), (m.trusted = true
    ∧ s.laneAlive l = true ∧ s.laneState l ≠ 2 ∧ tapsOk (firTaps d) = false) ∧ (m.trusted = true ∧
    s.laneAlive l = true ∧ s.laneState l = 3) ∧ (m.trusted = true ∧ s.laneAlive l = true ∧ fieldOf d 31 30 = 1
    ∧ s.lanePattern l = false) ∧ (m.trusted = true ∧ s.laneAlive l = true ∧ s.bit (Reg.LANE_MARG l) 30 = false
    ∧ s.laneState l = 3 ∧ s.laneLocked l = true) ∧ (m.trusted = true ∧ s.laneAlive l = true ∧
    s.laneLocked l = true ∧ s.laneState l = 3) ∧ (m.trusted = true ∧ s.laneAlive l = true ∧
    s.domOn (domainOf (Reg.LANE_CTL (groupLanes g).1)) = true ∧ s.flt.recs = []) :=
  ⟨.pf, 37, 1, 0x40000001, st152, by decide⟩

def st153 : State := { ((dOn w0 7).setReg (Reg.LANE_CTL 37) 0x50000000 |>.setReg (Reg.LANE_PAT 37) 0xE00C0000).setFld (Reg.LANE_STAT 37) 27 24 4 with time := { w0.time with mono := 10 ^ 9 } }

theorem witness_LanesTrainAndTest_2 : ∃ (m : Master) (l : Fin 1040) (d : Word) (e : Nat) (s : State), (m.trusted = true
    ∧ s.laneAlive l = true ∧ s.laneState l = 4 ∧ s.lanePattern l = true ∧ fieldOf d 31 31 = 1) ∧
    (m.trusted = true ∧ s.laneAlive l = true ∧ s.laneSends l = true ∧
    injExp (s.fld (Reg.LANE_PAT l) 23 18) = some e ∧ (s.lane l).injAt + 4 * 2 ^ e ≤ s.time.mono * s.laneRate l)
    ∧ (m.trusted = true ∧ s.laneAlive l = true ∧ s.laneChecks l = true ∧ s.bit (Reg.LANE_PAT l) 29 = true) ∧
    (m.trusted = true ∧ s.laneAlive l = true ∧ s.laneLocked l = false) :=
  ⟨.pf, 37, 0x80000001, 10, st153, by decide⟩

def st154 : State := dOn w0 7

theorem witness_LanesTrainAndTest_3 : ∃ (m : Master) (l : Fin 1040) (d : Word) (s : State), m.trusted = true ∧
    s.laneAlive l = true ∧ s.laneState l ≠ 2 ∧ tapsOk (firTaps d) = true :=
  ⟨.pf, 37, 0x00082008, st154, by decide⟩

def st155 : State := { (dOn w0 7).setFld (Reg.LANE_STAT 37) 27 24 2 |>.setLane 37 { trainAt := some 0 } with time := { w0.time with mono := 10 ^ 15 } }

theorem witness_LanesTrainAndTest_4 : ∃ (m : Master) (l : Fin 1040) (a : Nat) (s : State), m.trusted = true ∧
    s.laneAlive l = true ∧ s.laneState l = 2 ∧ (s.lane l).trainAt = some a ∧
    a + ms (oneIfZero (s.fld (Reg.LANE_CTL l) 15 0)) ≤ s.time.mono :=
  ⟨.pf, 37, 0, st155, by decide⟩

def st156 : State := ((dOn w0 7).setFld (Reg.LANE_STAT 37) 27 24 1).setBit (Reg.LANE_CTL 37) 24 true

theorem witness_LanesTrainAndTest_5 : ∃ (m : Master) (l : Fin 1040) (s : State), m.trusted = true ∧
    s.laneAlive l = true ∧ s.laneState l = 1 ∧ s.bit (Reg.LANE_CTL l) 24 = true :=
  ⟨.pf, 37, st156, by decide⟩

def st157 : State := { (dOn w0 7).setLane 37 { quietUntil := some 7 } with time := { w0.time with mono := 10 ^ 15 } }

theorem witness_LanesTrainAndTest_6 : ∃ (m : Master) (l : Fin 1040) (a : Nat) (s : State), m.trusted = true ∧
    s.laneAlive l = true ∧ (s.lane l).quietUntil = some a ∧ a ≤ s.time.mono ∧ s.laneLocked l = false :=
  ⟨.pf, 37, 7, st157, by decide⟩

def st158 : State := (dOn w0 7).setBit (Reg.LANE_MARG 37) 30 true

theorem witness_LanesTrainAndTest_7 : ∃ (m : Master) (l : Fin 1040) (s : State), m.trusted = true ∧
    s.laneAlive l = true ∧ s.bit (Reg.LANE_MARG l) 30 = true :=
  ⟨.pf, 37, st158, by decide⟩

def st159 : State := { w0 with time := { w0.time with mono := 10 ^ 15 } }

theorem witness_LedgerWrites_1 : ∃ (m : Master) (s : State), (m.trusted = true ∧ s.ledger.busy = none ∧
    s.ledger.wantSummary = none ∧ s.ledger.lastSummary + 3600 * 10 ^ 9 ≤ s.time.mono) ∧ (m.trusted = true ∧
    s.ledger.busy = none ∧ s.ledger.wantSummary = none ∧ 0 < s.ledger.flushTokens) ∧ (m.trusted = true ∧
    s.ledger.flushLast + 7200 * 10 ^ 9 ≤ s.time.mono) ∧ (m.trusted = true ∧
    s.ledger.recLast + 60 * 10 ^ 9 ≤ s.time.mono) :=
  ⟨.pf, st159, by decide⟩

def st160 : State := { w0 with ledger := { w0.ledger with busy := some lw0 } }

theorem witness_LedgerWrites_2 : ∃ (m : Master) (w : LedWrite) (s : State), (m.trusted = true ∧
    s.ledger.busy = some w ∧ s.ledger.wantSummary = none ∧ s.ledger.queue = [] ∧ w.summary = true ∧
    Memory.wf s.ledger.mem = true) ∧ (m.trusted = true ∧ s.ledger.busy = some w ∧ s.ledger.wantSummary = none ∧
    s.ledger.queue = [] ∧ w.retried = false) :=
  ⟨.pf, lw0, st160, by decide⟩

def st161 : State := { w0 with ledger := { w0.ledger with busy := some { lw0 with retried := true, summary := false } } }

theorem witness_LedgerWrites_3 : ∃ (m : Master) (w : LedWrite) (s : State), (m.trusted = true ∧
    s.ledger.busy = some w ∧ s.ledger.wantSummary = none ∧ s.ledger.queue = [] ∧ w.summary = false ∧
    Memory.wf s.ledger.mem = true) ∧ (m.trusted = true ∧ s.ledger.busy = some w ∧ s.ledger.wantSummary = none ∧
    s.ledger.queue = [] ∧ w.retried = true) :=
  ⟨.pf, { lw0 with retried := true, summary := false }, st161, by decide⟩

def st162 : State := { w0 with ledger := { w0.ledger with flushTokens := 0 } }

theorem witness_LedgerWrites_4 : ∃ (m : Master) (s : State), m.trusted = true ∧ s.ledger.busy = none ∧
    s.ledger.wantSummary = none ∧ s.ledger.flushTokens = 0 :=
  ⟨.pf, st162, by decide⟩

def st163 : State := { prS 4 0 with pair := { (prS 4 0).pair with events := [prRec], aligned := [0] } }

theorem witness_PairOfDevices_1 : ∃ (m : Master) (rl : Fin 2) (d : Word) (l : List Byte) (p : List Byte) (r1 : List Byte) (sq : Nat) (s : State), (m.trusted = true
    ∧ s.domOn 144 = true ∧ s.pairOn = true ∧ s.railUp 0 = true ∧ s.pair.safe = false ∧ s.flt.deviceSafe = false
    ∧ s.railUp 1 = false ∧ s.pair.hbLast + us 5 ≤ s.time.mono) ∧ (m.trusted = true ∧ s.domOn 144 = true ∧
    s.pairOn = true ∧ s.railUp 0 = true ∧ s.pair.safe = false ∧ s.flt.deviceSafe = false ∧
    s.pair.winStart + us 5 ≤ s.time.mono ∧ s.pair.hbSeen = false ∧
    s.pair.missed + 1 < max 2 (s.fld Reg.PAIR_CTL 24 20)) ∧ (m.trusted = true ∧ s.domOn 144 = true ∧
    s.pairOn = true ∧ s.railUp 0 = true ∧ s.pair.safe = false ∧ s.flt.deviceSafe = false ∧ s.railUp rl = true ∧
    64 ≤ l.length ∧ l.length ≤ 16400 ∧ tailOf l = fcsOf (dataOf l) ∧ beAt l 0 1 = 1 ∧
    20 + beAt l 12 2 ≤ l.length ∧ p = bytesAt l 16 (beAt l 12 2) ∧ beAt l 8 4 = sq ∧ beAt l 1 1 = 2 ∧
    s.pairState = 4 ∧ beAt l 4 4 = s.term ∧ beAt l 15 1 = 1 ∧ sq = (s.rxSeq + 1) % 2 ^ 32 ∧ beAt l 12 2 = 32 ∧
    leAt p 0 1 = 5 ∧ leAt p 1 1 = 2) ∧ (m.trusted = true ∧ s.domOn 144 = true ∧ s.pairOn = true ∧
    s.railUp 0 = true ∧ s.pair.safe = false ∧ s.flt.deviceSafe = false ∧ s.pairState = 4 ∧ s.pair.again = none
    ∧ s.pair.unacked = [] ∧ s.pair.events = [r1] ∧ s.pair.made = [] ∧ r1.length ≤ 16380) ∧ (m.trusted = true ∧
    s.domOn 144 = true) ∧ (m.trusted = true ∧ s.domOn 144 = true ∧ s.pairState ≠ 5) ∧ (m.trusted = true ∧
    s.domOn 144 = true ∧ s.pairState = 4) ∧ (m.trusted = true ∧ s.domOn 144 = true ∧ 1024 < fieldOf d 31 16) :=
  ⟨.pf, 0, 0x12345678, prF 2 1 1 prRec, prRec, prRec, 1, st163, by decide⟩

def st164 : State := prS 5 0

theorem witness_PairOfDevices_2 : ∃ (m : Master) (rl : Fin 2) (d : Word) (l : List Byte) (p : List Byte) (sq : Nat) (s : State), (m.trusted = true
    ∧ s.domOn 144 = true ∧ s.pairOn = true ∧ s.railUp 0 = true ∧ s.pair.safe = false ∧ s.flt.deviceSafe = false
    ∧ s.railUp rl = true ∧ 64 ≤ l.length ∧ l.length ≤ 16400 ∧ tailOf l = fcsOf (dataOf l) ∧ beAt l 0 1 = 1 ∧
    20 + beAt l 12 2 ≤ l.length ∧ p = bytesAt l 16 (beAt l 12 2) ∧ beAt l 8 4 = sq ∧ beAt l 1 1 = 5 ∧
    s.pairState ≠ 6 ∧ s.bit Reg.PAIR_DCFG 31 = false) ∧ (m.trusted = true ∧ s.domOn 144 = true ∧
    s.pairState = 5) ∧ (m.trusted = true ∧ s.domOn 144 = true ∧ s.pairState ≠ 4) ∧ (m.trusted = true ∧
    s.domOn 144 = true ∧
    256 + fieldOf d 31 16 + fieldOf d 15 0 + s.fld Reg.PAIR_MCFG1 31 16 + oneIfZero (s.fld Reg.PAIR_MCFG1 15 0) ≤ 2000
    ∧ fieldOf d 31 16 ≤ 1024 ∧ oneIfZero (s.fld Reg.PAIR_MCFG1 15 0) ≤ 512) :=
  ⟨.pf, 0, 0, prF 5 5 0 [1,2,3], [1,2,3], 5, st164, by decide⟩

def st165 : State := { prS 4 0 with pair := { (prS 4 0).pair with unacked := [(5, prRec), (6, prRec)], missed := 200 } }.setReg Reg.PAIR_RXSEQ 6

theorem witness_PairOfDevices_3 : ∃ (m : Master) (rl : Fin 2) (l : List Byte) (p : List Byte) (sq : Nat) (s : State), (m.trusted = true
    ∧ s.domOn 144 = true ∧ s.pairOn = true ∧ s.railUp 0 = true ∧ s.pair.safe = false ∧ s.flt.deviceSafe = false
    ∧ s.pair.winStart + us 5 ≤ s.time.mono ∧ s.pair.hbSeen = false ∧
    max 2 (s.fld Reg.PAIR_CTL 24 20) ≤ s.pair.missed + 1 ∧ s.pairState = 4 ∧ s.bit Reg.PAIR_CTL 28 = false) ∧
    (m.trusted = true ∧ s.domOn 144 = true ∧ s.pairOn = true ∧ s.railUp 0 = true ∧ s.pair.safe = false ∧
    s.flt.deviceSafe = false ∧ s.railUp rl = true ∧ 64 ≤ l.length ∧ l.length ≤ 16400 ∧
    tailOf l = fcsOf (dataOf l) ∧ beAt l 0 1 = 1 ∧ 20 + beAt l 12 2 ≤ l.length ∧ p = bytesAt l 16 (beAt l 12 2)
    ∧ beAt l 8 4 = sq ∧ beAt l 1 1 = 4 ∧ s.pairState = 4 ∧ ((s.pair.unacked.any fun e => e.1 == sq) = true)) ∧
    (m.trusted = true ∧ s.domOn 144 = true ∧ s.pairOn = true ∧ s.railUp 0 = true ∧ s.pair.safe = false ∧
    s.flt.deviceSafe = false ∧ s.pairState = 4 ∧ s.rxSeq ≠ s.pair.acked) :=
  ⟨.pf, 0, prF 4 5 0 [], [], 5, st165, by decide⟩

def st166 : State := prS 1 7

theorem witness_PairOfDevices_4 : ∃ (m : Master) (rl : Fin 2) (l : List Byte) (p : List Byte) (sq : Nat) (s : State), m.trusted = true
    ∧ s.domOn 144 = true ∧ s.pairOn = true ∧ s.railUp 0 = true ∧ s.pair.safe = false ∧ s.flt.deviceSafe = false
    ∧ s.railUp rl = true ∧ 64 ≤ l.length ∧ l.length ≤ 16400 ∧ tailOf l = fcsOf (dataOf l) ∧ beAt l 0 1 = 1 ∧
    20 + beAt l 12 2 ≤ l.length ∧ p = bytesAt l 16 (beAt l 12 2) ∧ beAt l 8 4 = sq ∧ beAt l 1 1 = 1 ∧
    beAt l 2 2 = s.fld Reg.PAIR_CTL 15 0 ∧ beAt p 1 1 = s.pairAA.toNat ∧
    beAt p 2 1 + s.fld Reg.PAIR_CTL 29 29 = 1 ∧ beAt p 0 1 = 1 ∧ s.pairState = 1 ∧ s.pair.neverDonor = false ∧
    beAt l 4 4 < s.term :=
  ⟨.pf, 0, prF 1 0 0 ([1] ++ List.replicate 31 0), bytesAt (prF 1 0 0 ([1] ++ List.replicate 31 0)) 16 32, 0, st166, by decide⟩

def st167 : State := (prS 1 7).setFld Reg.PAIR_CTL 15 0 9

theorem witness_PairOfDevices_5 : ∃ (m : Master) (rl : Fin 2) (l : List Byte) (p : List Byte) (sq : Nat) (s : State), m.trusted = true
    ∧ s.domOn 144 = true ∧ s.pairOn = true ∧ s.railUp 0 = true ∧ s.pair.safe = false ∧ s.flt.deviceSafe = false
    ∧ s.railUp rl = true ∧ 64 ≤ l.length ∧ l.length ≤ 16400 ∧ tailOf l = fcsOf (dataOf l) ∧ beAt l 0 1 = 1 ∧
    20 + beAt l 12 2 ≤ l.length ∧ p = bytesAt l 16 (beAt l 12 2) ∧ beAt l 8 4 = sq ∧ beAt l 1 1 = 1 ∧
    beAt l 2 2 ≠ s.fld Reg.PAIR_CTL 15 0 ∧ s.pairState ≠ 6 :=
  ⟨.pf, 0, prF 1 0 0 ([1] ++ List.replicate 31 0), bytesAt (prF 1 0 0 ([1] ++ List.replicate 31 0)) 16 32, 0, st167, by decide⟩

def st168 : State := { prS 4 0 with pair := { (prS 4 0).pair with unacked := [(5, prRec), (6, prRec)] } }.setReg Reg.PAIR_TXSEQ 6

theorem witness_PairOfDevices_6 : ∃ (m : Master) (rl : Fin 2) (l : List Byte) (p : List Byte) (sq : Nat) (s : State), m.trusted = true
    ∧ s.domOn 144 = true ∧ s.pairOn = true ∧ s.railUp 0 = true ∧ s.pair.safe = false ∧ s.flt.deviceSafe = false
    ∧ s.railUp rl = true ∧ 64 ≤ l.length ∧ l.length ≤ 16400 ∧ tailOf l = fcsOf (dataOf l) ∧ beAt l 0 1 = 1 ∧
    20 + beAt l 12 2 ≤ l.length ∧ p = bytesAt l 16 (beAt l 12 2) ∧ beAt l 8 4 = sq ∧ beAt l 1 1 = 3 ∧
    s.pairState = 4 ∧ seqAfter sq s.txSeq = false :=
  ⟨.pf, 0, prF 3 5 0 [], [], 5, st168, by decide⟩

def st169 : State := (prS 4 0).setReg Reg.PAIR_DCFG 0x80000003

theorem witness_PairOfDevices_7 : ∃ (m : Master) (rl : Fin 2) (l : List Byte) (p : List Byte) (sq : Nat) (s : State), m.trusted = true
    ∧ s.domOn 144 = true ∧ s.pairOn = true ∧ s.railUp 0 = true ∧ s.pair.safe = false ∧ s.flt.deviceSafe = false
    ∧ s.railUp rl = true ∧ 64 ≤ l.length ∧ l.length ≤ 16400 ∧ tailOf l = fcsOf (dataOf l) ∧ beAt l 0 1 = 1 ∧
    20 + beAt l 12 2 ≤ l.length ∧ p = bytesAt l 16 (beAt l 12 2) ∧ beAt l 8 4 = sq ∧ beAt l 1 1 = 5 ∧
    s.pairState ≠ 6 ∧ s.bit Reg.PAIR_DCFG 31 = true :=
  ⟨.pf, 0, prF 5 5 0 [1,2,3], [1,2,3], 5, st169, by decide⟩

def st170 : State := dOn w0 144

theorem witness_PairOfDevices_8 : ∃ (m : Master) (s : State), m.trusted = true ∧ s.domOn 144 = true ∧
    s.pairOn = false :=
  ⟨.pf, st170, by decide⟩

theorem witness_PairOfDevices_9 : ∃ (m : Master) (sq : Nat) (s : State), m.trusted = true ∧ s.domOn 144 = true
    ∧ s.pairOn = true ∧ s.railUp 0 = true ∧ s.pair.safe = false ∧ s.flt.deviceSafe = false ∧ s.pairState = 4 ∧
    s.bit Reg.PAIR_CTL 25 = true ∧ s.pairAA = false ∧ s.pairActive = true ∧ s.pair.ctrAt = sq ∧ sq < 4194303 ∧
    s.pair.ctrDirty = [sq] :=
  ⟨.pf, 77, prC, by decide⟩

def st171 : State := { hqS with time := { w0.time with mono := 10^9 }, intr := { w0.intr with itrHeld := [(3, [3, 259])], itrLast := [(3, 5)], pba := [5] } }

theorem witness_HostQueuePairs_1 : ∃ (m : Master) (h : Fin 256) (d : Word) (ln : Nat) (sl : Nat) (src : Nat) (tm : Nat) (rest : List Nat) (vec : Fin 512) (s : State), (m.trusted = true
    ∧ s.domOn 145 = true ∧ 2 ^ s.txLog h < posted (fieldOf d 16 0) (s.fld (Reg.HOST_QP_TXHEAD h) 16 0) ∧
    s.bit (Reg.HOST_QP_STAT h) 31 = false) ∧ (m.trusted = true ∧ s.domOn 145 = true ∧ s.qpFetches h = true ∧
    s.returnReady sl (h % 4) = true ∧ sl < 32 ∧ s.qpOwner h = 0 ∧ ln < 65536 ∧ ln < 60) ∧ (m.trusted = true ∧
    s.domOn 145 = true ∧ Store.read [] s.intr.itrHeld h = src :: rest ∧ Store.at? s.intr.itrLast h = some tm ∧
    tm + us (s.fld (Reg.HOST_QP_CTL h) 9 0) ≤ s.time.mono) ∧ (m.trusted = true ∧ s.domOn 145 = true ∧
    s.intr.pba.contains vec.val = true ∧ s.host.up = true) ∧ (m.trusted = true ∧ s.domOn 145 = true ∧
    s.pwr.perstN = true ∧ s.pwr.resetN = true) :=
  ⟨.pf, 3, 9999, 10, 1, 3, 5, [259], 5, st171, by decide⟩

theorem witness_HostQueuePairs_2 : ∃ (m : Master) (h : Fin 256) (d : Word) (ad : Nat) (ln : Nat) (sl : Nat) (s : State), (m.trusted = true
    ∧ s.domOn 145 = true ∧ posted (fieldOf d 16 0) (s.fld (Reg.HOST_QP_TXHEAD h) 16 0) ≤ 2 ^ s.txLog h) ∧
    (m.trusted = true ∧ s.domOn 145 = true ∧ s.qpFetches h = true ∧ s.returnReady sl (h % 4) = true ∧ sl < 32 ∧
    s.qpOwner h = 0 ∧ ln < 65536 ∧ 60 ≤ ln ∧ ln ≤ 16380 ∧ ad < 2 ^ 64) :=
  ⟨.pf, 3, 9, 64, 100, 1, hqS, by decide⟩

def st172 : State := hqS.setQp 3 { tx := some qpx }

theorem witness_HostQueuePairs_3 : ∃ (m : Master) (h : Fin 256) (x : TxFetch) (b : List Byte) (s : State), (m.trusted = true
    ∧ s.domOn 145 = true ∧ (s.qp h).tx = some x ∧ x.read = false ∧ b.length = x.len) ∧ (m.trusted = true ∧
    s.domOn 145 = true ∧ (s.qp h).tx = some x ∧ x.read = false ∧ s.bit (Reg.HOST_QP_STAT h) 31 = false) :=
  ⟨.pf, 3, qpx, List.replicate 100 7, st172, by decide⟩

theorem witness_HostQueuePairs_4 : ∃ (m : Master) (h : Fin 256) (q : Nat) (y : Copy) (r : List Copy) (df : Store Nat) (f : Frame) (s : State), m.trusted = true
    ∧ s.domOn 145 = true ∧ s.host.up = true ∧ s.flt.deviceSafe = false ∧ s.pShaperOk 1056 = true ∧
    s.pick 1056 s.hostReady = some (q, df) ∧ s.queue q = y :: r ∧ s.frame? y.frame = some f ∧ q = 21140 + h :=
  ⟨.pf, 3, 21143, { cpy with kind := .host, dest := 1056, punt := List.replicate 32 1 }, [], (hqR.pick 1056 hqR.hostReady).get!.2, rsF, hqR, by decide⟩

theorem witness_MailboxesDoorbellsAndResets_1 : ∃ (m : Master) (i : Fin 256) (b : Fin 64) (o : Nat) (s : State), (m.trusted = true
    ∧ s.mbxSender i m = false ∧ s.bit Reg.MBX_GSTAT 31 = false) ∧ (m.trusted = true ∧ s.mbxReceiver i m = true)
    ∧ (m.trusted = true) ∧ (m.trusted = true ∧ s.dbTarget b m = true) ∧ (m.trusted = true ∧ s.host.up = true ∧
    s.domOn 145 = true ∧ o < 0x8000) :=
  ⟨.me 2, 3, 4, 16, mbS, by decide⟩

theorem witness_MailboxesDoorbellsAndResets_2 : ∃ (m : Master) (i : Fin 256) (b : Fin 64) (s : State), (m.trusted = true
    ∧ s.mbxSender i m = true) ∧ (m.trusted = true ∧ s.dbRinger b m = true) :=
  ⟨.pf, 3, 4, mbS, by decide⟩

def st173 : State := { (mbS.setBit (Reg.MBX_STAT 3) 30 true).setFld Reg.MBX_CTL 15 0 1 with time := { w0.time with mono := 10^9 }, mbx := { w0.mbx with posted := [(3, 5)] }, locks := [(4, 1), (5, 0x42)], intr := { w0.intr with msix := [(16, 5), (3*0x8000+16, 9)] } }

theorem witness_MailboxesDoorbellsAndResets_3 : ∃ (m : Master) (i : Fin 256) (tm : Nat) (s : State), m.trusted = true
    ∧ Store.at? s.mbx.posted i = some tm ∧ s.bit (Reg.MBX_STAT i) 30 = true ∧ 0 < s.fld Reg.MBX_CTL 15 0 ∧
    tm + ms (s.fld Reg.MBX_CTL 15 0) ≤ s.time.mono :=
  ⟨.me 3, 3, 5, st173, by decide⟩

def st174 : State := (boS 4 (some (bo (.command 5 0) .fetch []))).setReg Reg.BOOT_LEN 2

theorem witness_BootAndFirmware_1 : ∃ (m : Master) (a : Fin 16) (cmd : Fin 16) (b : List Byte) (o : BootOp) (s : State), (m.trusted = true
    ∧ s.bit Reg.BOOT_CMD 30 = false ∧ a.val ≤ 2 ∧ s.bootReady = false) ∧ (m.trusted = true ∧
    s.bit Reg.BOOT_CMD 30 = false ∧ Store.at? s.boot.hashes a = none) ∧ (m.trusted = true ∧
    s.bit Reg.BOOT_CMD 30 = false ∧ (cmd.val = 0 ∨ 5 < cmd.val)) ∧ (m.trusted = true ∧ s.boot.op = some o ∧
    o.phase = .fetch ∧ (∃ (e : Fin 16), o.by_ = .command 5 e ∧ b.length = s.fld Reg.BOOT_LEN 19 0 ∧
    s.fwCheck o.by_ b b.length ≠ 0)) :=
  ⟨.pf, 2, 0, [1,2], bo (.command 5 0) .fetch [], st174, by decide⟩

def st175 : State := { boS 4 none with boot := { w0.boot with hashes := [(1, Config.sha384 (boS 4 none).keyWindow)] } }

theorem witness_BootAndFirmware_2 : ∃ (m : Master) (a : Fin 16) (s : State), (m.trusted = true ∧
    s.bit Reg.BOOT_CMD 30 = false ∧ a.val ≤ 2 ∧ s.bootReady = true) ∧ (m.trusted = true ∧
    s.bit Reg.BOOT_CMD 30 = false ∧ 1 ≤ a.val ∧ Store.at? s.boot.hashes a = some (Config.sha384 s.keyWindow) ∧
    s.boot.revoked.contains a.val = false) :=
  ⟨.pf, 1, st175, ⟨by decide, by decide, by decide, by decide⟩, by decide, by decide, by decide, rfl, by decide⟩

def st176 : State := (boS 4 (some (bo (.command 5 0) .fetch []))).setReg Reg.BOOT_LEN (BitVec.ofNat 32 fwC.length)

theorem witness_BootAndFirmware_3 : ∃ (m : Master) (b : List Byte) (o : BootOp) (s : State), m.trusted = true ∧
    s.boot.op = some o ∧ o.phase = .fetch ∧ (∃ (e : Fin 16), o.by_ = .command 5 e ∧
    b.length = s.fld Reg.BOOT_LEN 19 0 ∧ s.fwCheck o.by_ b b.length = 0) :=
  ⟨.pf, fwC, bo (.command 5 0) .fetch [], st176, by decide⟩

def st177 : State := boS 2 (some (bo (.flash 0) .fetch []))

theorem witness_BootAndFirmware_4 : ∃ (m : Master) (o : BootOp) (s : State), m.trusted = true ∧
    s.boot.op = some o ∧ o.phase = .fetch ∧ o.by_ = .flash 0 :=
  ⟨.pf, bo (.flash 0) .fetch [], st177, by decide⟩

def st178 : State := boS 4 (some (bo (.command 5 0) .verify []))

theorem witness_BootAndFirmware_5 : ∃ (m : Master) (o : BootOp) (s : State), m.trusted = true ∧
    (∃ (e : Fin 16), s.boot.op = some o ∧ o.phase = .verify ∧ o.by_ = .command 5 e) :=
  ⟨.pf, bo (.command 5 0) .verify [], st178, by decide⟩

def st179 : State := boS 4 (some (bo (.command 1 0) .write fwC))

theorem witness_BootAndFirmware_6 : ∃ (m : Master) (o : BootOp) (s : State), m.trusted = true ∧
    (∃ (e : Fin 16), s.boot.op = some o ∧ o.phase = .write ∧ o.by_ = .command 1 e) :=
  ⟨.pf, bo (.command 1 0) .write fwC, st179, by decide⟩

def st180 : State := boS 4 (some (bo (.command 4 1) .flash [9,0,255,4]))

theorem witness_BootAndFirmware_7 : ∃ (m : Master) (c : Nat) (o : BootOp) (s : State), m.trusted = true ∧
    s.boot.op = some o ∧ o.phase = .flash ∧ o.by_ = .command 4 c ∧ c ≤ 2 ∧
    flashSlot c + o.bytes.length ≤ 0x200000 :=
  ⟨.pf, 1, bo (.command 4 1) .flash [9,0,255,4], st180, by decide⟩

def st181 : State := (boS 4 none).setBit Reg.BOOT_CMD 30 true

theorem witness_BootAndFirmware_8 : ∃ (m : Master) (s : State), m.trusted = true ∧
    s.bit Reg.BOOT_CMD 30 = true :=
  ⟨.pf, st181, by decide⟩

def st182 : State := let u := (List.range 148).foldl (fun u d => dOn u d) w0; { u with pwr := { u.pwr with resetN := true, bootSel := false, bootStarted := false } }

theorem witness_BootAndFirmware_9 : ∃ (m : Master) (s : State), m.trusted = true ∧ s.pwr.resetN = true ∧
    s.pwr.bootSel = false ∧ s.pwr.bootStarted = false ∧ s.allUp = true :=
  ⟨.pf, st182, by decide +kernel⟩

def st183 : State := { atS.setReg Reg.BOOT_ATTCTL 0x80000001 with boot := { atS.boot with attReply := some ⟨5, 1, 7, 8⟩, attDue := some 5 }, time := { w0.time with mono := 10 ^ 12 } }

theorem witness_Attestation_1 : ∃ (m : Master) (r : AttReply) (tm : Nat) (s : State), (m.trusted = true ∧
    s.boot.attReply = some r ∧ r.box < 256 ∧ s.mbxSender r.box (.me (Fin.ofNat 4 (s.dutyEngine 1))) = true) ∧
    (m.trusted = true ∧ s.attHeld = true) ∧ (m.trusted = true ∧ s.boot.attDue = some tm ∧ tm ≤ s.time.mono) ∧
    (m.trusted = true ∧ s.boot.attLast + 600 * 10 ^ 9 ≤ s.time.mono) :=
  ⟨.me 1, ⟨5, 1, 7, 8⟩, 5, st183, by decide⟩

theorem witness_Attestation_2 : ∃ (m : Master) (i : Fin 256) (s : State), m.trusted = true ∧
    s.bit (Reg.MBX_STAT i) 30 = true ∧ s.mbxUsed i = true ∧ s.fld (Reg.MBX_CFG i) 15 0 = 0xC001 ∧
    s.engRuns (s.dutyEngine 1) = true ∧ leAt (s.mbxBytes i) 0 2 = 1 ∧ s.attHeld = false ∧ s.boot.attReply = none
    ∧ 0 < s.boot.attTokens ∧ s.lmsState.1 < 2 ^ 20 :=
  ⟨.pf, 3, atS, by decide +kernel⟩

def st184 : State := { atS with boot := { atS.boot with attTokens := 0 }, time := { w0.time with mono := 10 ^ 12 } }

theorem witness_Attestation_3 : ∃ (m : Master) (i : Fin 256) (s : State), m.trusted = true ∧
    s.bit (Reg.MBX_STAT i) 30 = true ∧ s.mbxUsed i = true ∧ s.fld (Reg.MBX_CFG i) 15 0 = 0xC001 ∧
    s.engRuns (s.dutyEngine 1) = true ∧ leAt (s.mbxBytes i) 0 2 = 1 ∧ s.attHeld = false ∧ s.boot.attReply = none
    ∧ s.boot.attTokens = 0 :=
  ⟨.pf, 3, st184, by decide⟩

theorem witness_PackageAndBoundaryScan_1 : ∃ (rail : Fin 7) (dur : Nat) (tj : BitVec 12) (s : State), (s.pwr.aonValid = true
    ∧ rail.val < 2 ∧ 2000 < dur) ∧ (1150 ≤ tj.toInt ∧ s.bit Reg.DEV_THERM 31 = false) :=
  ⟨1, 2001, 1150, w0, by decide⟩

theorem witness_PackageAndBoundaryScan_2 : ∃ (rail : Fin 7) (dur : Nat) (s : State), s.pwr.aonValid = true ∧
    rail.val < 2 ∧ dur ≤ 2000 :=
  ⟨0, 2000, w0, by decide⟩

/-! ### Well-formedness: an ill-formed command for each check, which the check refuses -/

theorem test_wf_register_address : Instr.wellFormed (.registerWrite .pf 0x20006 0) = false ∧
    Instr.wellFormed (.registerWrite .pf 0x10000000 0) = false ∧ Instr.wellFormed (.registerWrite .pf 0xFFFFFFC 0) = true := by
  decide

theorem test_wf_wide_read : Instr.wellFormed (.wideLowRead (.vf 3) 0x20001) = false := by decide

theorem test_wf_unmapped : Instr.wellFormed (.unmappedAccess .pf 0x70002 true) = false := by decide

theorem test_wf_clear_on_read : Instr.wellFormed (.clearOnRead .pf 0x20003) = false := by decide

theorem test_wf_bad_shape : Instr.wellFormed (.badShapeRequest .pf true 0) = false := by decide

theorem test_wf_fault_source : Instr.wellFormed (.faultReport 0x10000 .corr .logic 0 0) = false := by decide

theorem test_wf_selftest_record : Instr.wellFormed (.selftestDone 128 true) = false := by decide

theorem test_wf_repair_record : Instr.wellFormed (.spareRepairDone 128) = false := by decide

theorem test_wf_vread : Instr.wellFormed (.avsVreadRefresh 65536) = false := by decide

theorem test_wf_first_bytes : Instr.wellFormed (.rxFrameStart (.port 0) []) = false ∧
    Instr.wellFormed (.rxLaterCell (.port 0) (List.replicate 257 0)) = false ∧
    Instr.wellFormed (.rxFrameEnd (.port 0) (List.replicate 257 0) false) = false := by decide

theorem test_wf_training_tap : Instr.wellFormed (.trainingFrameRx 0 true (.step 3 true)) = false := by decide

theorem test_wf_tx_fetch : Instr.wellFormed (.hostTxFetch 0 (2 ^ 64) 60 0) = false ∧
    Instr.wellFormed (.hostTxFetch 0 0 65536 0) = false ∧ Instr.wellFormed (.hostTxFetch 0 0 60 256) = false := by decide

theorem test_wf_rx_buffers : Instr.wellFormed (.hostRxDelivery [0, 2 ^ 64]) = false := by decide

theorem test_wf_excursion : Instr.wellFormed (.supplyExcursion 0 0) = false := by decide

theorem test_wf_scan : Instr.wellFormed (.sample [true]) = false ∧ Instr.wellFormed (.preload []) = false := by decide

theorem test_wf_dma_bytes : Instr.wellFormed (.dmaReadCompletion 0 (some (List.replicate 16381 0))) = false := by
  simp only [Instr.wellFormed, List.length_replicate, decide_eq_false_iff_not]; omega

theorem test_wf_container_length : Instr.wellFormed (.loadFetchDone 0 (some (List.replicate (2 ^ 25) 0))) = false := by
  simp only [Instr.wellFormed, List.length_replicate, decide_eq_false_iff_not]; omega

theorem test_wf_firmware_length : Instr.wellFormed (.bootFetchDone (some (List.replicate (2 ^ 20) 0))) = false := by
  simp only [Instr.wellFormed, List.length_replicate, decide_eq_false_iff_not]; omega

/-! ### Worked examples of the spec -/

/-- The state a command answers. -/
def next (o : Host.Outcome State Fault Refusal) : State :=
  match o with
  | .next t => t
  | _ => w0

/-- R36's example: ME2 holds lock 5; the PF's read returns ME2's ID, 0x0082. -/
theorem test_lock_peer_sees_winner : (next (exec (.lockRead .pf 5) { w0 with locks := [(5, 0x82)] })).reply = [0x82] := by
  decide

/-- R36's example: after ME2's write the PF's read returns 0 and the PF, ID 1, holds the lock. -/
theorem test_lock_taken_after_release :
    (next (exec (.lockRead .pf 5) (next (exec (.lockWrite (.me 2) 5 0) { w0 with locks := [(5, 0x82)] })))).locks =
      [(5, 1)] := by decide

/-- The loop of the example of chapter 1, with every setting at reset, at 670, 690 or 685 mV. -/
def avsEx (v hold cap : Nat) : State :=
  let s := dOn { w0 with avs := { w0.avs with released := true, v := v, hold := hold }, time := { w0.time with mono := 1000000 } } 0
  let s := s.setReg (Reg.SLC_RIND_DESC 0 1 0) 1
  let s := s.setSlice 0 { s.slice 0 with bankA := { (s.slice 0).bankA with full := true } }
  [0, 1, 2, 3].foldl (fun s t => s.setReg (Reg.SLC_PACE_RATE 0 0 t) (BitVec.ofNat 32 (cap * 65536))) s

/-- CAP 2,540 is below the TARGET of 2,550: the loop raises the supply by 20 mV. -/
theorem test_avs_raises : (next (exec .avsLoopPeriod (avsEx 670 0 2540))).avs.v = 690 := by decide

/-- CAP 2,640 is above 2,626.5: after 100 periods the loop lowers the supply to 685 mV. -/
theorem test_avs_lowers : (next (exec .avsLoopPeriod (avsEx 690 99 2640))).avs.v = 685 := by decide

/-- CAP 2,600 is between 2,550 and 2,626.5: the loop holds. -/
theorem test_avs_holds : (next (exec .avsLoopPeriod (avsEx 685 0 2600))).avs.v = 685 := by decide

/-- R56's example: MW_BASE = 1,008 with MW_COUNT = 32 is INVALID; with MW_COUNT = 16 it is not. -/
theorem test_window_past_end : descFieldsOk (overlay (List.replicate 256 0) 64 (toLE 2 1008 ++ toLE 2 32)) = false ∧
    descFieldsOk (overlay (List.replicate 256 0) 64 (toLE 2 1008 ++ toLE 2 16)) = true := by decide

/-- The microword of the example of chapter 4, as its four data words. -/
def hopWord : Nat := 0x10000C8C * 2 ^ 96 + 0x8C004100 * 2 ^ 64 + 1 * 2 ^ 32

/-- It decrements the hop count at metadata offset 140 and goes on to the next stage. -/
theorem test_hop_count :
    ((next (exec (.sub (.frame 2)) ((mwS hopWord).setCtx 2 { ctxMw with md := [(140, 61)] }))).ctx? 2).map
      (fun x => (x.mdByte 140, x.z, x.stage)) = some (60, false, 1) := by decide

/-- At hop count 1 the result is 0 and SETF sets Z. -/
theorem test_hop_count_zero :
    ((next (exec (.sub (.frame 2)) ((mwS hopWord).setCtx 2 { ctxMw with md := [(140, 1)] }))).ctx? 2).map
      (fun x => (x.mdByte 140, x.z)) = some (0, true) := by decide

/-- The taps of lane 517 in the example of chapter 8: LANE_TXFIR = 0x0604_320A. -/
theorem test_fir_taps : firTaps 0x0604320A = (4, 50, 10) ∧ tapsOk (4, 50, 10) = true := by decide

/-- The hash fields of the example of chapter 5: h1 = 0x5B3A_C2E6 gives shard 7 and tag 0xB6. -/
theorem test_hash_fields : hashShard 0x5B3AC2E6 = 7 ∧ hashTag 0x5B3AC2E6 = 0xB6 := by decide

/-- The sources of the example of chapter 11: their IDs and domains. -/
theorem test_fault_sources : srcId 18 (5 * 64 + 9 * 2) = 0x9152 ∧ srcId 12 37 = 0x6025 ∧ srcDomain 0x9152 = 20 ∧
    srcDomain 0x6025 = 142 ∧ srcDomain 0xA0A5 = 22 := by decide

/-- The class owners of the example of chapter 14: MGE_DUTYMAP = 0xFF98. -/
theorem test_duty_map : (List.range 8).map (w0.setReg Reg.MGE_DUTYMAP 0xFF98).dutyEngine = [0, 2, 1, 2, 3, 3, 3, 3] := by
  decide

/-- Mailbox 40 of Table 13.7. -/
def mb40 : State :=
  ((w0.setReg (Reg.MBX_CFG 40) 0x0047C002).setReg Reg.MGE_DUTYMAP 0x10).setBit (Reg.MBX_STAT 40) 30 true

/-- Table 13.7, 4.2 ms: VF 7 posts over its unread message; FULL stays and COLL is set. -/
theorem test_mailbox_collision :
    (next (exec (.mbxPost (.vf 7) 40) mb40)).fld (Reg.MBX_STAT 40) 31 28 = 0b0110 := by decide

/-- Table 13.7: another VF may not post on mailbox 40. -/
theorem test_mailbox_foreign_sender :
    (next (exec (.mbxPost (.vf 8) 40) mb40)).bit (Reg.MBX_STAT 40) 29 = false := by decide

/-- The graph of Table 03.5. -/
def graphEx : Bank :=
  let tr := fun (v n : Nat) => toLE 4 v ++ toLE 1 n
  let ex := fun (a b c : Nat) => toLE 1 a ++ toLE 1 b ++ toLE 1 c ++ [0]
  let node := fun (b : Bank) (n : Nat) (head exs trs : List Byte) =>
    b.write kParse 0 31 (64 * n) (overlay (overlay (overlay (List.replicate 64 0) 0 head) 12 exs) 28 trs)
  let m : List Byte := [255, 255, 255, 255]
  let b := node {} 64 ([2 + 2 * 4, 14, 0, 0, 0, 12, 2, 1] ++ m) [] (tr 0x8100 65 ++ tr 0x0800 66)
  let b := node b 65 ([2 + 1 * 4, 4, 0, 0, 0, 2, 2, 2] ++ m) [] (tr 0x0800 66)
  let b := node b 66 ([3 + 1 * 4, 0, 0, 4 * 8, 4, 9, 1, 4] ++ m) (ex 12 4 32 ++ ex 16 4 36 ++ ex 9 1 40) (tr 17 67)
  node b 67 ([2, 8, 0, 0, 0, 2, 2, 17] ++ m) (ex 0 4 41) []

/-- The first bytes of the frame of that example. -/
def frameEx : List Byte :=
  let l := List.replicate 150 (0 : Byte)
  let l := overlay l 12 [0x81, 0x00, 0x00, 0x01, 0x08, 0x00, 0x46]
  let l := overlay l 27 [17]
  let l := overlay l 30 [10, 1, 0, 7, 10, 2, 0, 9]
  let l := overlay l 42 [0xC3, 0x5A, 0x0D, 0x3D]
  overlay (overlay l 63 [0x4C, 0x51, 0x58, 0x2D, 0x37]) 140 [0x4C, 0x51, 0x58, 0x2D, 0x37]

/-- Its parse: four headers, PAYLOAD_OFF 50, PEND_NODE 67, no error. -/
theorem test_parse_graph :
    ((parseFrom graphEx (fun n => decide (64 ≤ n ∧ n < 96)) frameEx 296 24 64 0 {}).1.hdrs,
      (parseFrom graphEx (fun n => decide (64 ≤ n ∧ n < 96)) frameEx 296 24 64 0 {}).2) =
      ([(1, 0), (2, 14), (4, 18), (17, 42)], .done 67 50 0) := by decide

/-- A pattern of Table 03.4. -/
def patEx (value : List Byte) (mode anchor hdr start stop id prio : Nat) : List Byte :=
  let e := overlay (overlay (List.replicate 64 0) 0 value) 24 (List.replicate value.length 255)
  overlay e 48 (toLE 1 value.length ++ toLE 1 mode ++ toLE 2 anchor ++ toLE 1 hdr ++ [0] ++ toLE 2 start ++ toLE 2 stop ++
    toLE 2 id ++ toLE 1 prio)

/-- Its patterns 300 and 301: MATCH_ID 0x0A21, 0x0B00, MATCH_OFF 63 and MATCH_CNT 2. -/
theorem test_pattern_matches :
    matchBytes (patMatches [patEx [0x4C, 0x51, 0x58, 0x2D, 0x37] 0 0 0 50 511 0x0A21 5, patEx [0x0D, 0x3D] 2 2 17 0 0 0x0B00 5]
      frameEx [(1, 0), (2, 14), (4, 18), (17, 42)] 296) =
      [0x0A, 0x21, 0x0B, 0x00, 0xFF, 0xFF, 0xFF, 0xFF, 0, 63, 2] := by decide

/-- The first frame of the example of chapter 7, of 63 bytes: a runt, counted under RUNT. -/
theorem test_runt : rxReason 0 { raw := List.replicate 63 0 } false = some 0 := by decide

/-- The check value of the CRC of IEEE 802.3 over the digits 1 to 9, from general knowledge. -/
theorem test_crc_check_value :
    crcIeee 0xFFFFFFFF [0x31, 0x32, 0x33, 0x34, 0x35, 0x36, 0x37, 0x38, 0x39] = 0xCBF43926 ∧
      crc32c 0xFFFFFFFF [0x31, 0x32, 0x33, 0x34, 0x35, 0x36, 0x37, 0x38, 0x39] = 0xE3069283 := by decide

/-- The node data length of the in-band telemetry example of chapter 10. -/
theorem test_ioam_node_length : nodeLen 0xCA0000 = 4 := by decide

/-- The hypotheses of FusesStayLegal, FramesStayInRange and EveryCommandCompletes' kin meet at reset: an idle step. -/
theorem test_invariants_hyps :
    State.reset.fusesOk ∧ State.reset.pipesOk ∧ ∃ t, step State.reset = .next t := by
  refine ⟨⟨by decide, by decide, by decide, by decide, by decide, 0, by decide, by decide⟩, ?_, _, rfl⟩
  refine ⟨?_, ?_, ?_, ?_, ?_⟩ <;> intro e h <;> exact absurd h (List.not_mem_nil)

/-- The same with a fused operator slot, a revoked slot and a command in front of the queue. -/
theorem test_invariants_hyps_fused :
    ({ w0 with boot := { w0.boot with hashes := [(4, [1])], revoked := [0], floor := 64, everFused := true }
               pending := [.lockRead .pf 3] } : State).fusesOk ∧
      ∃ t, step { w0 with boot := { w0.boot with hashes := [(4, [1])], revoked := [0], floor := 64, everFused := true }
                          pending := [.lockRead .pf 3] } = .next t :=
  ⟨⟨by decide, by decide, by decide, by decide, by decide, 4, by decide, by decide⟩, _, rfl⟩

/-- The hypothesis of FusesChangeOnlyByRequests and TimeBaseIsNeverStepped: a command that answers a next state. -/
theorem test_exec_hyps : (∃ t, exec (.bootVerifyDone false) w0 = .next t) ∧ ∃ t, exec .powerOnReset w0 = .next t :=
  ⟨⟨_, rfl⟩, _, rfl⟩

/-- The part decodes no words: its commands come from outside. -/
theorem test_no_table_words : decodeTableWord 32 0 = none ∧ (w0.withFetchWord 32 0).pending = [] := by decide

end Sys2Proof.Tests
end

section
open Sys2Proof

namespace Sys2Proof.Machine

/-! ### What a rising status bit leaves alone -/

/-- The state apart from what the rise of a status bit touches: the registers, the messages sent, and the interrupt
bookkeeping beside the MSI-X tables (R11, R382, R383). -/
def State.apart (s : State) : State := { s with regs := [], out := [], intr := { msix := s.intr.msix } }

@[simp] theorem State.apart_setReg (s : State) (a : Nat) (w : Word) : (s.setReg a w).apart = s.apart := rfl
@[simp] theorem State.apart_setFld (s : State) (a hi lo v : Nat) : (s.setFld a hi lo v).apart = s.apart := rfl
@[simp] theorem State.apart_setBit (s : State) (a i : Nat) (b : Bool) : (s.setBit a i b).apart = s.apart := rfl
@[simp] theorem State.apart_emit (s : State) (o : Output) : (s.emit o).apart = s.apart := rfl
@[simp] theorem State.apart_noteMessage (s : State) (h : Nat) : (s.noteMessage h).apart = s.apart := rfl
@[simp] theorem State.apart_raiseEngine (s : State) (k src : Nat) : (s.raiseEngine k src).apart = s.apart := rfl

theorem State.apart_foldl {β : Type} (f : State → β → State) (hf : ∀ t x, (f t x).apart = t.apart) (l : List β)
    (s : State) : (l.foldl f s).apart = s.apart := by
  induction l generalizing s with
  | nil => rfl
  | cons x r ih => rw [List.foldl_cons, ih, hf]

@[simp] theorem State.apart_sendMsix (s : State) (fn vec : Nat) : (s.sendMsix fn vec).apart = s.apart := by
  simp only [State.sendMsix]
  repeat' split
  all_goals rfl

@[simp] theorem State.apart_raiseHostStat (s : State) (i : Nat) : (s.raiseHostStat i).apart = s.apart := by
  simp only [State.raiseHostStat]
  repeat' split
  all_goals simp

@[simp] theorem State.apart_sendVector (s : State) (fn vec : Nat) : (s.sendVector fn vec).apart = s.apart := by
  simp only [State.sendVector]
  repeat' split
  all_goals simp

@[simp] theorem State.apart_sendQpMessage (s : State) (src fn vec : Nat) :
    (s.sendQpMessage src fn vec).apart = s.apart := by
  simp only [State.sendQpMessage]
  split
  · split
    · rfl
    · simp
  · simp

@[simp] theorem State.apart_deliver (s : State) (src : Nat) (new : Word) : (s.deliver src new).apart = s.apart := by
  simp only [State.deliver]
  repeat' split
  all_goals simp

@[simp] theorem State.apart_raise (s : State) (a : Nat) (m : Word) : (s.raise a m).apart = s.apart := by
  simp only [State.raise]
  rw [State.apart_foldl]
  · simp
  · intro t x
    split <;> simp

@[simp] theorem State.apart_raiseBit (s : State) (a i : Nat) : (s.raiseBit a i).apart = s.apart :=
  State.apart_raise s a _

@[simp] theorem State.apart_countFld (s : State) (a hi lo n : Nat) : (s.countFld a hi lo n).apart = s.apart := by
  simp only [State.countFld]
  repeat' split
  all_goals simp

@[simp] theorem State.apart_count (s : State) (a : Nat) : (s.count a).apart = s.apart := State.apart_countFld s a _ _ _

@[simp] theorem State.locks_raiseBit (s : State) (a i : Nat) : (s.raiseBit a i).locks = s.locks :=
  (congrArg State.locks (State.apart_raiseBit s a i) :)
@[simp] theorem State.locks_count (s : State) (a : Nat) : (s.count a).locks = s.locks :=
  (congrArg State.locks (State.apart_count s a) :)
@[simp] theorem State.avs_raiseBit (s : State) (a i : Nat) : (s.raiseBit a i).avs = s.avs :=
  (congrArg State.avs (State.apart_raiseBit s a i) :)
@[simp] theorem State.flt_raiseBit (s : State) (a i : Nat) : (s.raiseBit a i).flt = s.flt :=
  (congrArg State.flt (State.apart_raiseBit s a i) :)
@[simp] theorem State.flt_count (s : State) (a : Nat) : (s.count a).flt = s.flt :=
  (congrArg State.flt (State.apart_count s a) :)
@[simp] theorem State.time_raiseBit (s : State) (a i : Nat) : (s.raiseBit a i).time = s.time :=
  (congrArg State.time (State.apart_raiseBit s a i) :)

/-! ### Addresses of a slice's registers -/

theorem regPlace_slice {a : Nat} (h : 0x08000000 ≤ a ∧ a < 0x0C000000) :
    regPlace a = (.slice, (a - 0x08000000) / 0x200000, (a - 0x08000000) % 0x200000) :=
  if_pos h

/-- The counters of a slice from offset 0x1C0000 on belong to no block with a saturation bit (R13). -/
theorem satBitOf_slice_eq_none {a n o : Nat} (h : regPlace a = (.slice, n, o)) (ho : 0x1C0000 ≤ o) :
    satBitOf a = none := by
  have h1 : ¬ (0x1B0000 ≤ o ∧ o < 0x1C0000) := by omega
  have h2 : ¬ (0x1A0000 ≤ o ∧ o < 0x1B0000) := by omega
  have h3 : ¬ (0x190000 ≤ o ∧ o < 0x1A0000) := by omega
  have h4 : ¬ (0x180000 ≤ o ∧ o < 0x190000) := by omega
  unfold satBitOf
  rw [h]
  simp only [h1, h2, h3, h4, if_false]

theorem satBitOf_rindVcnt {n c : Nat} (hn : n < 32) (hc : c < 8) : satBitOf (Reg.SLC_RIND_VCNT n c) = none :=
  satBitOf_slice_eq_none (regPlace_slice (by simp only [Reg.SLC_RIND_VCNT]; omega))
    (by simp only [Reg.SLC_RIND_VCNT]; omega)

theorem State.fld_all (s : State) (a : Nat) : s.fld a 31 0 = (s.reg a).toNat := by
  have := (s.reg a).isLt
  simp only [State.fld, fieldOf, bitsOf]
  omega

/-- A 32-bit counter whose block has no saturation bit: one more, stopping at all ones (R13). -/
theorem State.toNat_reg_count (s : State) {a : Nat} (h : satBitOf a = none) :
    ((s.count a).reg a).toNat = min (2 ^ 32 - 1) ((s.reg a).toNat + 1) := by
  have e : s.count a = s.setFld a 31 0 (min (2 ^ (31 + 1 - 0) - 1) (s.fld a 31 0 + 1)) := by
    simp only [State.count, State.countFld, h, ite_self]
  rw [← State.fld_all, e, State.fld_setFld _ _ _ _ _ (by decide), State.fld_all]
  simp only [Nat.reduceAdd, Nat.reduceSub, Nat.reducePow]
  omega

theorem State.reg_count_ne (s : State) {a b : Nat} (h : satBitOf a = none) (hb : b ≠ a) :
    (s.count a).reg b = s.reg b := by
  simp only [State.count, State.countFld, h, ite_self]
  exact State.reg_setFld_ne _ hb _ _ _

end Sys2Proof.Machine
end

section
open Sys2Proof

namespace Sys2Proof.Machine

/-! ### Rind violations (R59, R62) -/

/-- The word a violation's record takes (Table 02.3). -/
def violationWord (kind c pipe stage detail : Nat) : Word :=
  BitVec.ofNat 32 (kind * 2 ^ 28 + c * 2 ^ 25 + pipe * 2 ^ 24 + stage * 2 ^ 19 + detail % 65536)

/-- The kind reads back from the record. -/
theorem violationWord_kind {kind c stage : Nat} (hk : kind < 16) (hc : c < 8) (hs : stage < 32) (detail : Nat) :
    fieldOf (violationWord kind c 0 stage detail) 31 28 = kind := by
  simp only [violationWord, fieldOf, bitsOf, BitVec.toNat_ofNat]
  omega

/-- A violation counted, recorded where no record stands, and flagged: all that comes before the quarantine window. -/
def State.noteViolation (s : State) (n c : Nat) (w : Word) : State :=
  let t := s.count (Reg.SLC_RIND_VCNT n c)
  (if t.fld (Reg.SLC_RIND_VREC n) 31 28 = 0 then t.setReg (Reg.SLC_RIND_VREC n) w else t).raiseBit
    (Reg.SLC_RIND_STAT n) (16 + c)

/-- Counting a noted violation in its compartment's window, which may quarantine the compartment (R61). -/
def State.countWindow (s : State) (n c : Nat) : State :=
  let v := Store.read 0 (s.slice n).vwin c + 1
  let t := s.setSlice n { s.slice n with vwin := Store.put 0 (s.slice n).vwin c v }
  let q := t.fld (Reg.SLC_RIND_CTL n) 15 8
  if q ≠ 0 ∧ q < v then t.setBit (Reg.SLC_RIND_STAT n) (24 + c) true else t

theorem State.violate_eq (s : State) (n c kind pipe stage detail : Nat) :
    s.violate n c kind pipe stage detail =
      (s.noteViolation n c (violationWord kind c pipe stage detail)).countWindow n c := rfl

@[simp] theorem State.locks_noteViolation (s : State) (n c : Nat) (w : Word) :
    (s.noteViolation n c w).locks = s.locks := by
  rw [State.noteViolation, State.locks_raiseBit]
  split
  · rw [State.locks_setReg, State.locks_count]
  · rw [State.locks_count]

@[simp] theorem State.locks_countWindow (s : State) (n c : Nat) : (s.countWindow n c).locks = s.locks := by
  rw [State.countWindow]
  split
  · rw [State.locks_setBit, State.locks_setSlice]
  · rw [State.locks_setSlice]

@[simp] theorem State.locks_violate (s : State) (n c kind pipe stage detail : Nat) :
    (s.violate n c kind pipe stage detail).locks = s.locks := by
  rw [State.violate_eq, State.locks_countWindow, State.locks_noteViolation]

theorem State.reg_countWindow_ne (s : State) (n c : Nat) {a : Nat} (ha : a ≠ Reg.SLC_RIND_STAT n) :
    (s.countWindow n c).reg a = s.reg a := by
  simp only [State.countWindow]
  split
  · rw [State.reg_setBit_ne _ ha, State.reg_setSlice]
  · rw [State.reg_setSlice]

/-- The violation flag of a compartment is not the bit that quarantines it. -/
theorem State.flag_countWindow (s : State) (n : Nat) {c : Nat} (hc : c < 8) :
    (s.countWindow n c).bit (Reg.SLC_RIND_STAT n) (16 + c) = s.bit (Reg.SLC_RIND_STAT n) (16 + c) := by
  simp only [State.countWindow]
  split
  · rw [State.bit_setBit_ne _ _ _ _ _ (by omega) (by omega)]
    rfl
  · rfl

theorem State.toNat_vcnt_violate (s : State) {n c : Nat} (hn : n < 32) (hc : c < 8) (kind pipe stage detail : Nat) :
    ((s.violate n c kind pipe stage detail).reg (Reg.SLC_RIND_VCNT n c)).toNat =
      min (2 ^ 32 - 1) ((s.reg (Reg.SLC_RIND_VCNT n c)).toNat + 1) := by
  have hs : Reg.SLC_RIND_VCNT n c ≠ Reg.SLC_RIND_STAT n := by simp only [Reg.SLC_RIND_VCNT, Reg.SLC_RIND_STAT]; omega
  have hr : Reg.SLC_RIND_VCNT n c ≠ Reg.SLC_RIND_VREC n := by simp only [Reg.SLC_RIND_VCNT, Reg.SLC_RIND_VREC]; omega
  have hh : Reg.SLC_RIND_VCNT n c ≠ Reg.HOST_STAT := by simp only [Reg.SLC_RIND_VCNT, Reg.HOST_STAT]; omega
  rw [State.violate_eq, State.reg_countWindow_ne _ _ _ hs, State.noteViolation, State.reg_raiseBit_ne _ _ _ _ hs hh,
    ← State.toNat_reg_count s (satBitOf_rindVcnt hn hc)]
  split
  · rw [State.reg_setReg_ne _ hr]
  · rfl

theorem State.vrec_violate (s : State) {n c : Nat} (hn : n < 32) (hc : c < 8) (kind pipe stage detail : Nat)
    (h : s.fld (Reg.SLC_RIND_VREC n) 31 28 = 0) :
    (s.violate n c kind pipe stage detail).reg (Reg.SLC_RIND_VREC n) = violationWord kind c pipe stage detail := by
  have hs : Reg.SLC_RIND_VREC n ≠ Reg.SLC_RIND_STAT n := by simp only [Reg.SLC_RIND_VREC, Reg.SLC_RIND_STAT]; omega
  have hr : Reg.SLC_RIND_VREC n ≠ Reg.SLC_RIND_VCNT n c := by simp only [Reg.SLC_RIND_VCNT, Reg.SLC_RIND_VREC]; omega
  have hh : Reg.SLC_RIND_VREC n ≠ Reg.HOST_STAT := by simp only [Reg.SLC_RIND_VREC, Reg.HOST_STAT]; omega
  have he : (s.count (Reg.SLC_RIND_VCNT n c)).fld (Reg.SLC_RIND_VREC n) 31 28 = 0 := by
    rw [State.fld_of_reg (State.reg_count_ne s (satBitOf_rindVcnt hn hc) hr), h]
  rw [State.violate_eq, State.reg_countWindow_ne _ _ _ hs, State.noteViolation, State.reg_raiseBit_ne _ _ _ _ hs hh,
    if_pos he, State.reg_setReg_self]

theorem State.flag_violate (s : State) (n : Nat) {c : Nat} (hc : c < 8) (kind pipe stage detail : Nat) :
    (s.violate n c kind pipe stage detail).bit (Reg.SLC_RIND_STAT n) (16 + c) = true := by
  have hh : Reg.SLC_RIND_STAT n ≠ Reg.HOST_STAT := by simp only [Reg.SLC_RIND_STAT, Reg.HOST_STAT]; omega
  rw [State.violate_eq, State.flag_countWindow _ _ hc, State.noteViolation, State.bit_raiseBit _ _ _ hh (by omega)]

theorem State.vfComp_lt (s : State) (n : Nat) : s.vfComp n < 8 := by
  simp only [State.vfComp]
  cases h : (List.range 8).find? fun c => s.bit (Reg.SLC_RIND_CTL n) (24 + c) with
  | none => decide
  | some c => exact List.mem_range.1 (List.mem_of_find?_eq_some h)

/-! ### Locks (R34 to R37) -/

theorem State.lockOwner_put (s : State) (i j v : Nat) :
    State.lockOwner { s with locks := Store.put 0 s.locks i v } j = if j = i then v else s.lockOwner j :=
  Store.read_put _ _ _ _ _

@[simp] theorem State.lockOwner_answer (s : State) (ws : List Word) (i : Nat) :
    (s.answer ws).lockOwner i = s.lockOwner i := rfl

theorem Master.id_pos (m : Master) : m.id ≠ 0 := by
  cases m <;> simp [Master.id]

theorem execLockRead_free {m : Master} {i : Fin 64} {s : State} (ha : lockAvailable m i = true)
    (ho : s.lockOwner i = 0) :
    execLockRead m i s = .next ({ s with locks := Store.put 0 s.locks i m.id }.answer [0]) := by
  rw [execLockRead, if_pos ha, if_pos ho]

theorem execLockRead_held {m : Master} {i : Fin 64} {s : State} (ha : lockAvailable m i = true)
    (ho : s.lockOwner i ≠ 0) :
    execLockRead m i s = .next (s.answer [BitVec.ofNat 32 (s.lockOwner i)]) := by
  rw [execLockRead, if_pos ha, if_neg ho]

/-- A VF's read of a lock it may not use (R34, R62). -/
theorem execLockRead_vf {n : Fin 32} {i : Fin 64} {s : State} (h : lockAvailable (.vf n) i = false) :
    execLockRead (.vf n) i s = .next ((s.vfViolation n 13 i).answer [0xFFFF]) := by
  rw [execLockRead, if_neg (by simp [h])]
  rfl

theorem execLockWrite_holder {m : Master} {i : Fin 64} {s : State} (ha : lockAvailable m i = true)
    (ho : s.lockOwner i = m.id) (d : Word) :
    execLockWrite m i d s = .next { s with locks := Store.put 0 s.locks i 0 } := by
  simp only [execLockWrite, ha, if_true, ho]

theorem execLockWrite_other {m : Master} {i : Fin 64} {s : State} (ha : lockAvailable m i = true)
    (ho : s.lockOwner i ≠ m.id) (d : Word) :
    execLockWrite m i d s = .next ((s.setBit Reg.MBX_LOCK_CTL 31 true).setFld Reg.MBX_LOCK_CTL 21 16 i) := by
  simp only [execLockWrite, ha, if_true, ho, if_false]

theorem lockAvailable_vf_iff (n : Fin 32) (i : Nat) : lockAvailable (.vf n) i = true ↔ i = 32 + n.val := by
  simp [lockAvailable]

end Sys2Proof.Machine

open Sys2Proof.Machine

/-- Settles O1: by the definition of a step. -/
theorem stepTakesTheFrontCommand : Obligations.StepTakesTheFrontCommand := by
  intro c rest s h
  simp only [step, h]

/-- Settles O10: the first reader's ID is what the second one finds. -/
theorem twoReadersOfOneLock : Obligations.TwoReadersOfOneLock := by
  intro m m' i d s _ hm hm'
  have hid := Master.id_pos m
  refine ⟨fun h0 => ⟨_, execLockRead_free hm h0, rfl, ?_, ?_⟩, fun ho => ⟨?_, ?_⟩⟩
  · simp [State.lockOwner_put]
  · have ho : State.lockOwner ({ s with locks := Store.put 0 s.locks i m.id }.answer [0]) i = m.id := by
      simp [State.lockOwner_put]
    refine ⟨_, execLockRead_held hm' (by rw [ho]; exact hid), ?_, ?_⟩
    · exact congrArg (fun x => [BitVec.ofNat 32 x]) ho
    · exact ho
  · exact ⟨_, execLockRead_held hm' (by rw [ho]; exact hid), congrArg (fun x => [BitVec.ofNat 32 x]) ho, ho⟩
  · have hf : State.lockOwner { s with locks := Store.put 0 s.locks i 0 } i = 0 := by simp [State.lockOwner_put]
    exact ⟨_, execLockWrite_holder hm ho d, hf, _, execLockRead_free hm' hf, rfl,
      (State.lockOwner_put _ _ _ _).trans (if_pos rfl)⟩

/-- Settles O11: each clause is one branch of a lock command. -/
theorem lockCommands : Obligations.LockCommands := by
  intro m i n d s
  refine ⟨execLockRead_free, execLockRead_held, fun hi => ?_,
    fun ha ho => execLockWrite_holder ha ho d, fun ha ho => execLockWrite_other ha ho d, rfl⟩
  exact execLockRead_vf (Bool.eq_false_iff.2 fun h => hi ((lockAvailable_vf_iff n i).1 h))

/-- Settles O13: the refused read is a violation, which leaves the locks alone. -/
theorem lockAvailability : Obligations.LockAvailability := by
  intro n k i s
  refine ⟨rfl, rfl, lockAvailable_vf_iff n i, fun h => ⟨_, execLockRead_vf h, ?_⟩⟩
  have hc := s.vfComp_lt n
  rw [State.vfViolation]
  have hreg (a : Nat) := State.reg_answer (s.violate n (s.vfComp n) 13 0 31 i) [0xFFFF] a
  refine ⟨rfl, fun j => ?_, fun hv => ?_, s.vfComp n, hc, ?_, ?_⟩
  · rw [State.lockOwner_answer, State.lockOwner, State.locks_violate, State.lockOwner]
  · rw [State.fld, hreg, s.vrec_violate n.isLt hc 13 0 31 i hv]
    exact violationWord_kind (by decide) hc (by decide) i
  · rw [State.bit_of_reg (hreg _), s.flag_violate n hc 13 0 31 i]
  · rw [hreg, s.toNat_vcnt_violate n.isLt hc 13 0 31 i]

end

section
open Sys2Proof

namespace Sys2Proof.Machine

/-! ### The time base's two words (R30, R295) -/

/-- The register line of TIME_MONO_LO. -/
def monoLoLine : RegDesc := { name := "TIME_MONO_LO", space := .global, off := 0x50030, ro := 0xFFFFFFFF }

/-- The register line of TIME_MONO_HI. -/
def monoHiLine : RegDesc := { name := "TIME_MONO_HI", space := .global, off := 0x50034, ro := 0xFFFFFFFF }

theorem regAt_mono_lo : regAt Reg.TIME_MONO_LO = some monoLoLine := by decide
theorem regAt_mono_hi : regAt Reg.TIME_MONO_HI = some monoHiLine := by decide

theorem State.gated_trusted {s : State} {m : Master} (hm : m.trusted = true) {a : Nat}
    (ha : s.domOn (domainOf a) = true)
    (w : Bool) (run : State → State) : s.gated m a w run = run s := by
  cases m with
  | vf n => cases hm
  | pf => exact if_pos ha
  | me k => exact if_pos ha

theorem domainOf_mono_lo : domainOf Reg.TIME_MONO_LO = aonDomain := by decide
theorem domainOf_mono_hi : domainOf Reg.TIME_MONO_HI = aonDomain := by decide

theorem Master.id_injective : Function.Injective Master.id := by
  intro m m' h
  cases m <;> cases m' <;> simp only [Master.id, Master.vf.injEq, Master.me.injEq, reduceCtorEq, Fin.ext_iff] at h ⊢
    <;> omega

/-- Two masters never share the key of a holding copy (R30). -/
theorem holdKey_ne {m m' : Master} (h : m ≠ m') (a : Nat) : holdKey m a ≠ holdKey m' a := by
  have : m.id ≠ m'.id := fun e => h (Master.id_injective e)
  simp only [holdKey]
  omega

theorem State.view_mono_lo (s : State) (m : Master) : s.view m Reg.TIME_MONO_LO = BitVec.ofNat 32 s.time.mono := rfl
theorem State.view_mono_hi (s : State) (m : Master) :
    s.view m (Reg.TIME_MONO_LO + 4) = BitVec.ofNat 32 (s.time.mono / 2 ^ 32) := rfl

theorem State.readWord_mono_lo (s : State) (m : Master) :
    s.readWord m Reg.TIME_MONO_LO =
      (BitVec.ofNat 32 s.time.mono, s.hold m Reg.TIME_MONO_HI (BitVec.ofNat 32 (s.time.mono / 2 ^ 32))) := by
  have hw : isWideLow Reg.TIME_MONO_LO = true := by decide
  have hs (w : Word) : w &&& monoLoLine.seen = w := BitVec.and_allOnes
  simp only [State.readWord, regAt_mono_lo, hw, if_true, State.view_mono_lo, hs, State.view_mono_hi]
  rfl

theorem State.readWord_mono_hi (s : State) (m : Master) {w : Word}
    (h : Store.at? s.holds (holdKey m Reg.TIME_MONO_HI) = some w) :
    s.readWord m Reg.TIME_MONO_HI = (w, { s with holds := Store.del s.holds (holdKey m Reg.TIME_MONO_HI) }) := by
  have hw : isWideLow Reg.TIME_MONO_HI = false := by decide
  simp only [State.readWord, regAt_mono_hi, hw, State.takeHold, h, Option.map_some]
  rfl

/-- A read that reaches the register: its answer, and what it leaves (R10, R24). -/
def State.readAnswer (s : State) (m : Master) (a : Nat) : State := (s.readWord m a).2.answer [(s.readWord m a).1]

theorem State.busRead_mono_lo (s : State) {m : Master} (hm : m.trusted = true) :
    s.busRead m Reg.TIME_MONO_LO = (s.answer [0]).readAnswer m Reg.TIME_MONO_LO := by
  have e : s.busRead m Reg.TIME_MONO_LO =
      (s.answer [0]).gated m Reg.TIME_MONO_LO false fun t => t.readAnswer m Reg.TIME_MONO_LO := rfl
  rw [e, State.gated_trusted hm (by rw [domainOf_mono_lo]; rfl)]

theorem State.busRead_mono_hi (s : State) {m : Master} (hm : m.trusted = true) :
    s.busRead m Reg.TIME_MONO_HI = (s.answer [0]).readAnswer m Reg.TIME_MONO_HI := by
  have e : s.busRead m Reg.TIME_MONO_HI =
      (s.answer [0]).gated m Reg.TIME_MONO_HI false fun t => t.readAnswer m Reg.TIME_MONO_HI := rfl
  rw [e, State.gated_trusted hm (by rw [domainOf_mono_hi]; rfl)]

/-- The PF's or an engine's read of TIME_MONO_LO returns the low word and captures the high one. -/
theorem execWideLowRead_mono {m : Master} (hm : m.trusted = true) (s : State) :
    execWideLowRead m Reg.TIME_MONO_LO s =
      .next ((s.hold m Reg.TIME_MONO_HI (BitVec.ofNat 32 (s.time.mono / 2 ^ 32))).answer
        [BitVec.ofNat 32 s.time.mono]) := by
  have h : execWideLowRead m Reg.TIME_MONO_LO s = .next (s.busRead m Reg.TIME_MONO_LO) := rfl
  rw [h, State.busRead_mono_lo s hm, State.readAnswer, State.readWord_mono_lo]
  rfl

/-- That master's next read of TIME_MONO_HI returns what was captured. -/
theorem execClearOnRead_mono {m : Master} (hm : m.trusted = true) {s : State} {w : Word}
    (h : Store.at? s.holds (holdKey m Reg.TIME_MONO_HI) = some w) :
    execClearOnRead m Reg.TIME_MONO_HI s =
      .next ({ s with holds := Store.del s.holds (holdKey m Reg.TIME_MONO_HI) }.answer [w]) := by
  have e : execClearOnRead m Reg.TIME_MONO_HI s = .next (s.busRead m Reg.TIME_MONO_HI) := rfl
  rw [e, State.busRead_mono_hi s hm, State.readAnswer, State.readWord_mono_hi (s.answer [0]) m h]
  rfl

end Sys2Proof.Machine

open Sys2Proof.Machine

/-- Settles O15: the first read captures the high word under the reader's own key, which another master's read does not
touch. -/
theorem wideValuesReadConsistently : Obligations.WideValuesReadConsistently := by
  intro m m' s now hm hm' hne
  refine ⟨_, execWideLowRead_mono hm s, rfl, _, execWideLowRead_mono hm' _, rfl, _,
    execClearOnRead_mono hm ?_, rfl, rfl⟩
  have hk := holdKey_ne hne Reg.TIME_MONO_HI
  simp [State.hold, State.answer, Store.at?_set, hk]

end

section
open Sys2Proof

namespace Sys2Proof.Machine

/-! ### The ledger's counts touch no register -/

@[simp] theorem State.reg_setSum (s : State) (o v a : Nat) : (s.setSum o v).reg a = s.reg a := rfl
@[simp] theorem State.avs_setSum (s : State) (o v : Nat) : (s.setSum o v).avs = s.avs := rfl
@[simp] theorem State.reg_sumCount (s : State) (o n a : Nat) : (s.sumCount o n).reg a = s.reg a := rfl
@[simp] theorem State.avs_sumCount (s : State) (o n : Nat) : (s.sumCount o n).avs = s.avs := rfl
@[simp] theorem State.out_sumCount (s : State) (o n : Nat) : (s.sumCount o n).out = s.out := rfl
@[simp] theorem State.flt_sumCount (s : State) (o n : Nat) : (s.sumCount o n).flt = s.flt := rfl

@[simp] theorem State.reg_ledgerVolt (s : State) (mv a : Nat) : (s.ledgerVolt mv).reg a = s.reg a := by
  simp only [State.ledgerVolt]
  split <;> simp

@[simp] theorem State.avs_ledgerVolt (s : State) (mv : Nat) : (s.ledgerVolt mv).avs = s.avs := by
  simp only [State.ledgerVolt]
  split <;> simp

/-! ### The voltage bus (R45) -/

/-- An acknowledge ends the failures and the wait (R45). -/
theorem execAvsTransactionDone_ack {s : State} (hr : s.avs.released = true) (hb : s.bit Reg.PWR_AVS_STAT 31 = false) :
    execAvsTransactionDone true s = .next { s with avs := { s.avs with
      fails := 0, awaiting := false, readDue := if s.avs.awaiting then s.time.mono else s.avs.readDue } } := by
  simp only [execAvsTransactionDone, hr, hb, Bool.not_false, Bool.and_self, if_true]

/-- The third failure in a row stops the loop (R45). -/
theorem execAvsTransactionDone_third {s : State} (hr : s.avs.released = true) (hb : s.bit Reg.PWR_AVS_STAT 31 = false)
    (hf : s.avs.fails = 2) :
    execAvsTransactionDone false s =
      .next ((State.raiseBit { s with avs := { s.avs with fails := 3, awaiting := false } }
        Reg.PWR_AVS_STAT 31).reportFault
        (srcId 4 0) .cont .logic 0 0) := by
  simp [execAvsTransactionDone, hr, hb, hf]

theorem execAvsBuserrClear_trusted {m : Master} (hm : m.trusted = true) (s : State) :
    execAvsBuserrClear m s =
      .next (State.setBit { s with avs := { s.avs with fails := 0 } } Reg.PWR_AVS_STAT 31 false) := by
  cases m with
  | vf n => cases hm
  | pf => rfl
  | me k => rfl

theorem execAvsVreadRefresh_due {s : State} (ha : s.avsActive = true) (hd : s.avs.readDue ≤ s.time.mono) (mv : Nat) :
    execAvsVreadRefresh mv s =
      .next ((State.ledgerVolt { s with avs := { s.avs with readDue := s.time.mono + us 100 } } mv).setFld
        Reg.PWR_AVS_STAT 9 0 (min mv 1023)) := by
  simp only [execAvsVreadRefresh, ha, hd, decide_true, Bool.and_self, if_true]

/-- A failed bus keeps the loop from running (R45). -/
theorem State.avsActive_eq_false {s : State} (h : s.bit Reg.PWR_AVS_STAT 31 = true) : s.avsActive = false := by
  simp [State.avsActive, h]

/-! ### Pace windows (R48) -/

/-- The rate register at the end of a powered pipe's window: the capacity and the completions per µs. -/
def paceRate (cap completions w : Nat) : Word := BitVec.ofNat 32 (min cap 65535 * 65536 + min 65535 (completions / w))

/-- CAP and LOAD refreshed and MINCAP lowered, before the alarm (R48). -/
def State.paceRefresh (s : State) (n pipe st cap completions w : Nat) : State :=
  let r := s.setReg (Reg.SLC_PACE_RATE n pipe st) (paceRate cap completions w)
  r.setFld (Reg.SLC_PACE_MIN n pipe st) 31 16 (min (min cap 65535) (r.fld (Reg.SLC_PACE_MIN n pipe st) 31 16))

/-- The completions are counted anew from the window's end (R48). -/
def State.paceRestart (s : State) (n pipe st : Nat) : State :=
  s.setPace n pipe st { start := s.time.mono, completions := 0 }

@[simp] theorem State.reg_paceRestart (s : State) (n pipe st a : Nat) : (s.paceRestart n pipe st).reg a = s.reg a := rfl

section
variable {n : Fin 32} {pipe : Fin 2} {st : Fin 4} {s : State}
  (hw : (s.paceOf n pipe st).start + us (s.fld (Reg.SLC_PACE_CFG n) 3 0 + 1) ≤ s.time.mono)
include hw

theorem execPaceWindowEnd_on (hd : s.domOn (4 * n + pipe) = true) (cap : Nat) :
    execPaceWindowEnd n pipe st cap s =
      .next (if min cap 65535 < s.fld (Reg.SLC_PACE_CFG n) 31 16 then
        ((s.paceRestart n pipe st).paceRefresh n pipe st cap (s.paceOf n pipe st).completions
          (s.fld (Reg.SLC_PACE_CFG n) 3 0 + 1)).raiseBit (Reg.SLC_PACE_MIN n pipe st) 0
      else (s.paceRestart n pipe st).paceRefresh n pipe st cap (s.paceOf n pipe st).completions
        (s.fld (Reg.SLC_PACE_CFG n) 3 0 + 1)) := by
  rw [execPaceWindowEnd, if_pos hw, if_pos hd]
  rfl

theorem execPaceWindowEnd_off (hd : s.domOn (4 * n + pipe) = false) (cap : Nat) :
    execPaceWindowEnd n pipe st cap s = .next ((s.paceRestart n pipe st).setReg (Reg.SLC_PACE_RATE n pipe st) 0) := by
  rw [execPaceWindowEnd, if_pos hw, if_neg (by simp [hd])]
  rfl

end

/-- A status bit's rise leaves the fields of its register that it lies outside. -/
theorem State.fld_raiseBit_disjoint (s : State) {a i hi lo : Nat} (h : a ≠ Reg.HOST_STAT) (hd : i < lo ∨ hi < i) :
    (s.raiseBit a i).fld a hi lo = s.fld a hi lo := by
  apply Nat.eq_of_testBit_eq
  intro j
  have hne (hj : j < hi + 1 - lo) : i ≠ j + lo := by omega
  simp only [State.fld, testBit_fieldOf, State.reg_raiseBit_self s a i h, BitVec.getLsbD_or, BitVec.getLsbD_ofNat,
    Nat.testBit_two_pow]
  by_cases hj : j < hi + 1 - lo
  · simp [hne hj]
  · simp [hj]

/-- Two 16-bit halves packed into a word read back. -/
theorem fieldOf_halves {c l : Nat} (hc : c < 65536) (hl : l < 65536) :
    fieldOf (BitVec.ofNat 32 (c * 65536 + l)) 31 16 = c ∧ fieldOf (BitVec.ofNat 32 (c * 65536 + l)) 15 0 = l := by
  simp only [fieldOf, bitsOf, BitVec.toNat_ofNat, Nat.reduceAdd, Nat.reduceSub, Nat.reducePow]
  omega

theorem paceRate_cap (cap completions w : Nat) : fieldOf (paceRate cap completions w) 31 16 = min cap 65535 :=
  (fieldOf_halves (by omega) (by omega)).1

theorem paceRate_load (cap completions w : Nat) :
    fieldOf (paceRate cap completions w) 15 0 = min 65535 (completions / w) :=
  (fieldOf_halves (by omega) (by omega)).2

theorem paceMin_ne (n pipe st : Nat) :
    Reg.SLC_PACE_RATE n pipe st ≠ Reg.SLC_PACE_MIN n pipe st ∧ Reg.SLC_PACE_RATE n pipe st ≠ Reg.HOST_STAT ∧
      Reg.SLC_PACE_MIN n pipe st ≠ Reg.HOST_STAT := by
  simp only [Reg.SLC_PACE_RATE, Reg.SLC_PACE_MIN, Reg.HOST_STAT]
  omega

theorem State.rate_paceRefresh (s : State) (n pipe st cap completions w : Nat) :
    (s.paceRefresh n pipe st cap completions w).reg (Reg.SLC_PACE_RATE n pipe st) = paceRate cap completions w := by
  rw [State.paceRefresh, State.reg_setFld_ne _ (paceMin_ne n pipe st).1, State.reg_setReg_self]

theorem State.min_paceRefresh (s : State) (n pipe st cap completions w : Nat) :
    (s.paceRefresh n pipe st cap completions w).fld (Reg.SLC_PACE_MIN n pipe st) 31 16 =
      min (min cap 65535) (s.fld (Reg.SLC_PACE_MIN n pipe st) 31 16) := by
  rw [State.paceRefresh, State.fld_setFld _ _ _ _ _ (by decide), State.fld_setReg_ne _ (paceMin_ne n pipe st).1.symm]
  omega

end Sys2Proof.Machine

open Sys2Proof.Machine

/-- Settles O17: each clause is one branch of a command of the loop or of the pace monitors. -/
theorem avsBusAndPace : Obligations.AvsBusAndPace := by
  intro n pipe st m x s
  refine ⟨fun hr hb => ⟨⟨_, execAvsTransactionDone_ack hr hb, rfl, rfl, rfl, rfl⟩, fun hf => ?_⟩,
    fun hm => ?_,
    fun ha hd => ?_, fun hw => ?_⟩
  · have hne : Reg.PWR_AVS_STAT ≠ Reg.HOST_STAT := by decide
    have hbit := State.bit_raiseBit { s with avs := { s.avs with fails := 3, awaiting := false } }
      Reg.PWR_AVS_STAT 31 hne (by decide)
    refine ⟨_, execAvsTransactionDone_third hr hb hf, hbit,
      State.avsActive_eq_false hbit, ?_, ?_, fun a ha hh => ?_⟩
    · rw [State.avs_reportFault, State.avs_raiseBit]
    · exact congrArg₂ (fun f t => f.reports ++ [⟨srcId 4 0, .cont, .logic, 0, 0, t⟩]) (State.flt_raiseBit _ _ _)
        (congrArg Time.mono (State.time_raiseBit _ _ _))
    · rw [State.reg_reportFault, State.reg_raiseBit_ne _ _ _ _ ha hh]
      rfl
  · refine ⟨_, execAvsBuserrClear_trusted hm s, State.bit_setBit _ _ _ _ (by decide), rfl, fun a ha => ?_⟩
    rw [State.reg_setBit_ne _ ha]
    rfl
  · refine ⟨_, execAvsVreadRefresh_due ha hd x, ?_, ?_, fun a ha => ?_⟩
    · rw [State.fld_setFld _ _ _ _ _ (by decide)]
      omega
    · rw [State.avs_setFld, State.avs_ledgerVolt]
      rfl
    · rw [State.reg_setFld_ne _ ha, State.reg_ledgerVolt]
      rfl
  · obtain ⟨hrm, hrh, hmh⟩ := paceMin_ne n pipe st
    cases hd : s.domOn (4 * n + pipe) with
    | false =>
      refine ⟨_, execPaceWindowEnd_off hw hd x, fun h => (Bool.noConfusion h), fun _ => State.reg_setReg_self _ _ _⟩
    | true =>
      refine ⟨_, execPaceWindowEnd_on hw hd x, fun _ => ?_, fun h => (Bool.noConfusion h)⟩
      generalize hr : (s.paceRestart n pipe st).paceRefresh n pipe st x (s.paceOf n pipe st).completions
        (s.fld (Reg.SLC_PACE_CFG n) 3 0 + 1) = r
      have hrate : r.reg (Reg.SLC_PACE_RATE n pipe st) =
          paceRate x (s.paceOf n pipe st).completions (s.fld (Reg.SLC_PACE_CFG n) 3 0 + 1) := by
        rw [← hr, State.rate_paceRefresh]
      have hmin : r.fld (Reg.SLC_PACE_MIN n pipe st) 31 16 =
          min (min x 65535) (s.fld (Reg.SLC_PACE_MIN n pipe st) 31 16) := by
        rw [← hr, State.min_paceRefresh, State.fld_of_reg (State.reg_paceRestart _ _ _ _ _)]
      split
      next hlow =>
        refine ⟨?_, ?_, ?_, fun _ => State.bit_raiseBit _ _ _ hmh (by decide)⟩
        · rw [State.fld, State.reg_raiseBit_ne _ _ _ _ hrm hrh, hrate, paceRate_cap]
        · rw [State.fld, State.reg_raiseBit_ne _ _ _ _ hrm hrh, hrate, paceRate_load]
        · rw [State.fld_raiseBit_disjoint _ hmh (by decide), hmin]
      next hlow =>
        refine ⟨?_, ?_, hmin, fun h => absurd h hlow⟩
        · rw [State.fld, hrate, paceRate_cap]
        · rw [State.fld, hrate, paceRate_load]

end

section
open Sys2Proof

namespace Sys2Proof.Machine

/-- A least value that a list attains is what folding `min` over it gives. -/
theorem foldl_min_eq {β : Type} (f : β → Nat) (x : β) (r : List β) {c : Nat} (hle : ∀ y ∈ x :: r, c ≤ f y)
    (hat : ∃ y ∈ x :: r, c = f y) : r.foldl (fun a t => min a (f t)) (f x) = c := by
  have h : ((x :: r).map f).min? = some c := by
    rw [List.min?_eq_some_iff]
    obtain ⟨y, hy, rfl⟩ := hat
    exact ⟨List.mem_map_of_mem hy, by simpa using hle⟩
  rw [List.map_cons, List.min?_cons', List.foldl_map] at h
  exact Option.some.inj h

theorem foldl_max_eq {β : Type} (f : β → Nat) (x : β) (r : List β) {c : Nat} (hle : ∀ y ∈ x :: r, f y ≤ c)
    (hat : ∃ y ∈ x :: r, c = f y) : r.foldl (fun a t => max a (f t)) (f x) = c := by
  have h : ((x :: r).map f).max? = some c := by
    rw [List.max?_eq_some_iff]
    obtain ⟨y, hy, rfl⟩ := hat
    exact ⟨List.mem_map_of_mem hy, by simpa using hle⟩
  rw [List.map_cons, List.max?_cons', List.foldl_map] at h
  exact Option.some.inj h

/-! ### One evaluation of the loop (R43, R44) -/

/-- The need, in hundredths of Mpps (R44). -/
def State.avsNeed (s : State) (load : Nat) : Nat :=
  if s.fld Reg.PWR_AVS_CTL 31 30 = 1 then 100 * s.fld Reg.PWR_AVS_CTL 27 16 else max 100000 (110 * load)

/-- The voltage the evaluation asks for before the limits, with the periods of plenty counted (R43). -/
def State.avsDecide (s : State) (cap need : Nat) : Nat × Nat :=
  if 100 * cap < need then (s.avs.v + 5 * oneIfZero (s.fld Reg.PWR_AVS_CTL 15 12), 0)
  else if 103 * need < 10000 * cap then
    if oneIfZero (s.fld Reg.PWR_AVS_CTL 7 0) ≤ s.avs.hold + 1 then (s.avs.v - 5, 0) else (s.avs.v, s.avs.hold + 1)
  else (s.avs.v, 0)

/-- LIM follows a need that the highest voltage does not meet (R43). -/
def State.avsNoteLimit (s : State) (cap need : Nat) : State :=
  if need ≤ 100 * cap then s.setBit Reg.PWR_AVS_STAT 30 false
  else if s.avs.v = s.fld Reg.PWR_AVS_LIMIT 31 22 then
    (if s.bit Reg.PWR_AVS_STAT 30 then s else s.sumCount 5888 1).setBit Reg.PWR_AVS_STAT 30 true
  else s

/-- An evaluation decides, notes the limit and sends the voltage when it differs from the one that holds. -/
theorem State.avsEvaluate_eq (s : State) (cap load : Nat) :
    s.avsEvaluate cap load =
      let d := s.avsDecide cap (s.avsNeed load)
      let t := State.avsNoteLimit { s with avs := { s.avs with hold := d.2 } } cap (s.avsNeed load)
      if s.avsClamp d.1 = s.avs.v then t else t.avsCommand (s.avsClamp d.1) := rfl

@[simp] theorem State.avs_avsNoteLimit (s : State) (cap need : Nat) : (s.avsNoteLimit cap need).avs = s.avs := by
  rw [State.avsNoteLimit]
  repeat' split
  all_goals simp

@[simp] theorem State.out_avsNoteLimit (s : State) (cap need : Nat) : (s.avsNoteLimit cap need).out = s.out := by
  rw [State.avsNoteLimit]
  repeat' split
  all_goals simp

theorem State.reg_avsNoteLimit (s : State) (cap need : Nat) {a : Nat} (h : a ≠ Reg.PWR_AVS_STAT) :
    (s.avsNoteLimit cap need).reg a = s.reg a := by
  rw [State.avsNoteLimit]
  repeat' split
  all_goals simp [State.reg_setBit_ne _ h]

theorem State.lim_avsNoteLimit_met (s : State) {cap need : Nat} (h : need ≤ 100 * cap) :
    (s.avsNoteLimit cap need).bit Reg.PWR_AVS_STAT 30 = false := by
  rw [State.avsNoteLimit, if_pos h, State.bit_setBit _ _ _ _ (by decide)]

theorem State.lim_avsNoteLimit_top (s : State) {cap need : Nat} (h : 100 * cap < need)
    (hv : s.avs.v = s.fld Reg.PWR_AVS_LIMIT 31 22) : (s.avsNoteLimit cap need).bit Reg.PWR_AVS_STAT 30 = true := by
  rw [State.avsNoteLimit, if_neg (by omega), if_pos hv, State.bit_setBit _ _ _ _ (by decide)]

theorem State.fld_avsCommand (s : State) (v : Nat) : (s.avsCommand v).fld Reg.PWR_AVS_STAT 25 16 = v % 1024 :=
  State.fld_setFld _ _ _ _ _ (by decide)

theorem State.lim_avsCommand (s : State) (v : Nat) :
    (s.avsCommand v).bit Reg.PWR_AVS_STAT 30 = s.bit Reg.PWR_AVS_STAT 30 :=
  State.bit_setFld_disjoint _ _ _ _ _ _ (by decide) (by decide)

theorem State.reg_avsCommand (s : State) (v : Nat) {a : Nat} (h : a ≠ Reg.PWR_AVS_STAT) :
    (s.avsCommand v).reg a = s.reg a :=
  State.reg_setFld_ne _ h _ _ _

section
variable (s : State) (cap load : Nat)

theorem State.v_avsEvaluate : (s.avsEvaluate cap load).avs.v = s.avsClamp (s.avsDecide cap (s.avsNeed load)).1 := by
  rw [State.avsEvaluate_eq]
  dsimp only
  split
  next h => rw [State.avs_avsNoteLimit, h]
  next h => rfl

theorem State.hold_avsEvaluate : (s.avsEvaluate cap load).avs.hold = (s.avsDecide cap (s.avsNeed load)).2 := by
  rw [State.avsEvaluate_eq]
  dsimp only
  split
  · rw [State.avs_avsNoteLimit]
  · exact congrArg Avs.hold (State.avs_avsNoteLimit _ _ _)

theorem State.lim_avsEvaluate : (s.avsEvaluate cap load).bit Reg.PWR_AVS_STAT 30 =
    (State.avsNoteLimit { s with avs := { s.avs with hold := (s.avsDecide cap (s.avsNeed load)).2 } } cap
      (s.avsNeed load)).bit Reg.PWR_AVS_STAT 30 := by
  rw [State.avsEvaluate_eq]
  dsimp only
  split
  · rfl
  · rw [State.lim_avsCommand]

theorem State.out_avsEvaluate : (s.avsEvaluate cap load).out =
    if (s.avsEvaluate cap load).avs.v = s.avs.v then s.out
      else .avsVoltage (s.avsEvaluate cap load).avs.v :: s.out := by
  rw [State.v_avsEvaluate, State.avsEvaluate_eq]
  dsimp only
  split
  · rw [State.out_avsNoteLimit]
  · exact congrArg (List.cons _) (State.out_avsNoteLimit _ _ _)

theorem State.reg_avsEvaluate {a : Nat} (h : a ≠ Reg.PWR_AVS_STAT) : (s.avsEvaluate cap load).reg a = s.reg a := by
  rw [State.avsEvaluate_eq]
  dsimp only
  split
  · rw [State.reg_avsNoteLimit _ _ _ h]
    rfl
  · rw [State.reg_avsCommand _ _ h, State.reg_avsNoteLimit _ _ _ h]
    rfl

end

/-! ### The loop's period -/

/-- The period noted, before anything is decided. -/
def State.avsPeriod (s : State) : State := { s with avs := { s.avs with lastEval := s.time.mono } }

section
variable {s : State} (ha : s.avsActive = true) (hw : s.avs.awaiting = false)
  (ht : s.avs.lastEval + us (oneIfZero (s.fld Reg.PWR_AVS_CTL 11 8)) ≤ s.time.mono)
include ha hw ht

theorem execAvsLoopPeriod_fixed (hm : s.fld Reg.PWR_AVS_CTL 31 30 = 3)
    (hv : s.avsClamp (s.fld Reg.PWR_AVS_LIMIT 9 0 / 5 * 5) ≠ s.fld Reg.PWR_AVS_STAT 25 16) :
    execAvsLoopPeriod s = .next (s.avsPeriod.avsCommand (s.avsClamp (s.fld Reg.PWR_AVS_LIMIT 9 0 / 5 * 5))) := by
  rw [execAvsLoopPeriod, if_pos (by simp [ha, hw, ht])]
  exact (if_pos hm).trans (congrArg Host.Outcome.next (if_neg hv))

theorem execAvsLoopPeriod_run (hm : s.fld Reg.PWR_AVS_CTL 31 30 ≠ 3)
    {x : Nat × Nat × Nat} {r : List (Nat × Nat × Nat)}
    (hs : s.serviceStreams = x :: r) :
    execAvsLoopPeriod s = .next (s.avsPeriod.avsEvaluate
      (r.foldl (fun a t => min a (s.fld (Reg.SLC_PACE_RATE t.1 t.2.1 t.2.2) 31 16))
        (s.fld (Reg.SLC_PACE_RATE x.1 x.2.1 x.2.2) 31 16))
      (r.foldl (fun a t => max a (s.fld (Reg.SLC_PACE_RATE t.1 t.2.1 t.2.2) 15 0))
        (s.fld (Reg.SLC_PACE_RATE x.1 x.2.1 x.2.2) 15 0))) := by
  have hs' : s.avsPeriod.serviceStreams = x :: r := hs
  rw [execAvsLoopPeriod, if_pos (by simp [ha, hw, ht])]
  refine (if_neg hm).trans ?_
  rw [State.avsPeriod] at hs'
  rw [hs']
  rfl

end

end Sys2Proof.Machine

open Sys2Proof.Machine

/-- Settles O16: the period's streams give the lowest capacity and the highest load, and the evaluation decides on
them. -/
theorem voltageLoop : Obligations.VoltageLoop := by
  intro s cap load need ha hw ht
  refine ⟨fun hm hv => ⟨_, execAvsLoopPeriod_fixed ha hw ht hm hv, rfl, rfl, rfl, State.fld_avsCommand _ _,
    fun a h => State.reg_avsCommand _ _ h⟩, fun hm hall hcap hload hneed => ?_⟩
  obtain ⟨x, r, hs⟩ : ∃ x r, s.serviceStreams = x :: r := by
    obtain ⟨y, hy, _⟩ := hcap
    exact List.exists_cons_of_ne_nil (List.ne_nil_of_mem hy)
  have he := execAvsLoopPeriod_run ha hw ht hm hs
  rw [hs] at hall hcap hload
  rw [foldl_min_eq _ x r (fun y hy => (hall y hy).1) hcap, foldl_max_eq _ x r (fun y hy => (hall y hy).2) hload] at he
  have hn : s.avsPeriod.avsNeed load = need := hneed.symm
  have hv := s.avsPeriod.v_avsEvaluate cap load
  have hh := s.avsPeriod.hold_avsEvaluate cap load
  have hl := s.avsPeriod.lim_avsEvaluate cap load
  rw [hn] at hv hh hl
  have hplenty (h1 : 103 * need < 10000 * cap) : ¬ 100 * cap < need := by omega
  refine ⟨_, he, fun h => ?_, fun h1 h2 => ?_, fun h1 h2 => ?_, fun h1 h2 => ?_, fun h => ?_, fun h htop => ?_,
    State.out_avsEvaluate _ _ _, fun a h => State.reg_avsEvaluate _ _ _ h⟩
  · rw [hv, hh, State.avsDecide, if_pos h]
    exact ⟨rfl, rfl⟩
  · have hd : s.avsPeriod.avsDecide cap need = (s.avs.v - 5, 0) :=
      (if_neg (hplenty h1)).trans ((if_pos h1).trans (if_pos h2))
    rw [hv, hh, hd]
    exact ⟨rfl, rfl⟩
  · have hd : s.avsPeriod.avsDecide cap need = (s.avs.v, s.avs.hold + 1) :=
      (if_neg (hplenty h1)).trans ((if_pos h1).trans (if_neg (Nat.not_le.2 h2)))
    rw [hv, hh, hd]
    exact ⟨rfl, rfl⟩
  · have hd : s.avsPeriod.avsDecide cap need = (s.avs.v, 0) :=
      (if_neg (Nat.not_lt.2 h1)).trans (if_neg (Nat.not_lt.2 h2))
    rw [hv, hh, hd]
    exact ⟨rfl, rfl⟩
  · rw [hl, State.lim_avsNoteLimit_met _ h]
  · exact hl.trans (State.lim_avsNoteLimit_top _ h htop)

end

section
open Sys2Proof

namespace Sys2Proof.Machine

/-! ### The order of a round (R324) -/

@[simp] theorem mem_insertReport (r q : Report) (l : List Report) : q ∈ insertReport r l ↔ q = r ∨ q ∈ l := by
  induction l with
  | nil => simp [insertReport]
  | cons a l ih =>
    simp only [insertReport]
    split
    · simp only [List.mem_cons, ih]
      tauto
    · simp

theorem foldl_insertReport_cons (l : List Report) :
    ∀ acc q, q ∈ l.foldl (fun a r => insertReport r a) acc ↔ q ∈ acc ∨ q ∈ l := by
  induction l with
  | nil => simp
  | cons a l ih =>
    intro acc q
    rw [List.foldl_cons, ih, mem_insertReport, List.mem_cons]
    tauto

@[simp] theorem mem_sortReports (l : List Report) (q : Report) : q ∈ sortReports l ↔ q ∈ l := by
  simp [sortReports, foldl_insertReport_cons]

/-- The first report of a list has the lowest source. -/
def headLowest : List Report → Prop
  | [] => True
  | a :: l => ∀ q ∈ l, a.src ≤ q.src

theorem headLowest_insertReport {r : Report} (hr : r.cls = .corr) {l : List Report} (hl : ∀ q ∈ l, q.cls = .corr)
    (h : headLowest l) : headLowest (insertReport r l) := by
  cases l with
  | nil => simp [insertReport, headLowest]
  | cons a l =>
    have hb : a.before r = decide (a.src ≤ r.src) := by
      simp [Report.before, hr, hl a (List.mem_cons_self ..)]
    simp only [insertReport, hb, decide_eq_true_eq]
    split
    next hle =>
      intro q hq
      rcases (mem_insertReport r q l).1 hq with rfl | hq
      · exact hle
      · exact h q hq
    next hlt =>
      intro q hq
      rcases List.mem_cons.1 hq with rfl | hq
      · omega
      · have := h q hq
        omega

theorem headLowest_sortReports {l : List Report} (hl : ∀ q ∈ l, q.cls = .corr) : headLowest (sortReports l) := by
  suffices ∀ acc : List Report, (∀ q ∈ acc, q.cls = .corr) → headLowest acc →
      headLowest (l.foldl (fun a r => insertReport r a) acc) from this [] (by simp) trivial
  induction l with
  | nil => exact fun _ _ h => h
  | cons a l ih =>
    intro acc hacc h
    have ha := hl a (List.mem_cons_self ..)
    refine ih (fun q hq => hl q (List.mem_cons_of_mem _ hq)) _ (fun q hq => ?_) (headLowest_insertReport ha hacc h)
    rcases (mem_insertReport a q acc).1 hq with rfl | hq
    · exact ha
    · exact hacc q hq

/-- A round of CORR reports begins with the report whose source is below all others (R324). -/
theorem sortReports_head {l : List Report} {r : Report} (hl : ∀ q ∈ l, q.cls = .corr) (hr : r ∈ l)
    (hlow : ∀ q ∈ l, q = r ∨ r.src < q.src) : ∃ l', sortReports l = r :: l' := by
  cases he : sortReports l with
  | nil => exact absurd ((mem_sortReports l r).2 hr) (by simp [he])
  | cons a l' =>
    have ha : a ∈ l := (mem_sortReports l a).1 (by simp [he])
    have hlow' : headLowest (a :: l') := he ▸ headLowest_sortReports hl
    rcases hlow a ha with rfl | hlt
    · exact ⟨l', rfl⟩
    · rcases List.mem_cons.1 (he ▸ (mem_sortReports l r).2 hr) with rfl | hr'
      · omega
      · have := hlow' r hr'
        omega

/-! ### What handling a CORR report leaves alone -/

/-- A saturation bit lies in one of four status registers (R13). -/
theorem satBitOf_reg {a r i : Nat} (h : satBitOf a = some (r, i)) :
    r = Reg.TBL_STAT ∨ r = Reg.VAT_STAT ∨ r = Reg.FLOW_STAT ∨ r = Reg.FLT_STAT := by
  unfold satBitOf at h
  split at h
  case h_3 => cases h
  all_goals
    simp only [ite_eq_iff, Option.some.injEq, Prod.mk.injEq, reduceCtorEq] at h
    tauto

/-- What a round's reports find and leave: the collector's round, the transient results and the first fault. -/
structure RoundView where
  round : Option Nat
  reports : List Report
  roundNo : Nat
  history : List (Nat × Nat × Nat)
  first : Word
  firstRound : Word

def State.roundView (s : State) : RoundView :=
  ⟨s.flt.round, s.flt.reports, s.flt.roundNo, s.flt.history, s.reg Reg.FLT_FIRST, s.reg Reg.FLT_FIRST_RND⟩

theorem State.roundView_congr {s t : State} (hf : t.flt = s.flt) (h1 : t.reg Reg.FLT_FIRST = s.reg Reg.FLT_FIRST)
    (h2 : t.reg Reg.FLT_FIRST_RND = s.reg Reg.FLT_FIRST_RND) : t.roundView = s.roundView := by
  simp only [State.roundView, hf, h1, h2]

@[simp] theorem State.roundView_setRec (s : State) (i : Nat) (x : FltRec) :
    (s.setRec i x).roundView = s.roundView := rfl
@[simp] theorem State.roundView_delRec (s : State) (i : Nat) : (s.delRec i).roundView = s.roundView := rfl
@[simp] theorem State.roundView_sumCount (s : State) (o n : Nat) : (s.sumCount o n).roundView = s.roundView := rfl

/-- The first fault's registers are no counters, no saturation flags and not HOST_STAT. -/
theorem State.reg_fltCount_first (s : State) (k : Nat) {a : Nat} (ha : a = Reg.FLT_FIRST ∨ a = Reg.FLT_FIRST_RND) :
    (s.fltCount k).reg a = s.reg a := by
  have hk : a ≠ Reg.FLT_CNT k := by
    rcases ha with rfl | rfl <;> simp only [Reg.FLT_FIRST, Reg.FLT_FIRST_RND, Reg.FLT_CNT] <;> omega
  have hh : a ≠ Reg.HOST_STAT := by rcases ha with rfl | rfl <;> decide
  refine State.reg_countFld_ne s _ _ _ _ _ hk hh fun r i h => ?_
  rcases satBitOf_reg h with rfl | rfl | rfl | rfl <;> rcases ha with rfl | rfl <;> decide

@[simp] theorem State.flt_fltCount (s : State) (k : Nat) : (s.fltCount k).flt = s.flt := State.flt_count s _

@[simp] theorem State.roundView_fltCount (s : State) (k : Nat) : (s.fltCount k).roundView = s.roundView :=
  State.roundView_congr (State.flt_fltCount s k) (s.reg_fltCount_first k (.inl rfl)) (s.reg_fltCount_first k (.inr rfl))

@[simp] theorem State.roundView_mergeRec (s : State) (i : Nat) (x : FltRec) (r : Report) (b : Bool) :
    (s.mergeRec i x r b).roundView = s.roundView := by
  rw [State.mergeRec]
  split
  · rw [State.roundView_fltCount, State.roundView_fltCount, State.roundView_setRec]
  · rw [State.roundView_fltCount, State.roundView_setRec]

/-! ### The record a CORR report opens (R325, R328, R335) -/

/-- What a record keeps of the report that opened it. -/
def FltRec.origin (x : FltRec) : Nat × FaultClass × Nat × Nat × Nat := (x.src, x.cls, x.detail, x.round, x.merge)

/-- The number of the record a report opens, or of its reaction without a record. -/
def State.openIndex (s : State) : Nat := s.recSlot.getD (freeFrom s.flt.recs s.flt.recs.length 64)

/-- A new record is flagged in NEW, a report without one in LOST and counted (R328). -/
def State.flagOpen (s : State) : State :=
  if s.recSlot.isSome then s.raiseBit Reg.FLT_STAT 30 else (s.setBit Reg.FLT_STAT 29 true).fltCount 5

/-- The flag set and the record numbered. -/
def State.beginOpen (s : State) : State :=
  { s.flagOpen with flt := { s.flagOpen.flt with nextSeq := s.flagOpen.flt.nextSeq + 1 } }

@[simp] theorem State.flt_flagOpen (s : State) : s.flagOpen.flt = s.flt := by
  rw [State.flagOpen]
  split
  · rw [State.flt_raiseBit]
  · rw [State.flt_fltCount, State.flt_setBit]

@[simp] theorem State.roundView_flagOpen (s : State) : s.flagOpen.roundView = s.roundView := by
  have h1 : Reg.FLT_FIRST ≠ Reg.FLT_STAT := by decide
  have h2 : Reg.FLT_FIRST_RND ≠ Reg.FLT_STAT := by decide
  rw [State.flagOpen]
  split
  · exact State.roundView_congr (State.flt_raiseBit _ _ _) (State.reg_raiseBit_ne _ _ _ _ h1 (by decide))
      (State.reg_raiseBit_ne _ _ _ _ h2 (by decide))
  · rw [State.roundView_fltCount]
    exact State.roundView_congr (State.flt_setBit _ _ _ _) (State.reg_setBit_ne _ h1 _ _) (State.reg_setBit_ne _ h2 _ _)

@[simp] theorem State.roundView_beginOpen (s : State) : s.beginOpen.roundView = s.roundView := s.roundView_flagOpen

/-- What a record waits for is no part of its origin. -/
theorem State.recNeeds_origin (s : State) (r : Report) (x : FltRec) :
    (s.recNeeds r x).origin = x.origin ∧ (s.recNeeds r x).scope = x.scope := by
  simp only [State.recNeeds, FltRec.origin]
  repeat' split
  all_goals exact ⟨rfl, rfl⟩

/-- Nothing recurs before a transient result is noted (R336). -/
theorem State.recurs_eq_false {s : State} (h : s.flt.history = []) (src detail : Nat) :
    s.recurs src detail = false := by
  simp only [State.recurs, State.transients, h, List.countP_nil, Nat.le_zero]
  cases h : s.fld Reg.FLT_CTL 23 16 <;> simp

/-- Handling that ends at once in a scope without outputs writes or frees the record alone. -/
theorem State.recServed_cases (s : State) (i : Nat) {x : FltRec} (hs : x.scope = .none) :
    ∃ st, s.recServed i x = s.setRec i { x with state := st } ∨ 64 ≤ i ∧ s.recServed i x = s.delRec i := by
  rw [State.recServed, hs]
  split
  · exact ⟨.held, .inl rfl⟩
  · refine ⟨.done, ?_⟩
    split
    · exact .inl rfl
    next h => exact .inr ⟨by omega, rfl⟩

/-- With no transient result noted, handling a CORR report writes its record, or frees it beyond the 64. -/
theorem State.startHandling_corr {s : State} (i : Nat) {x : FltRec} (hc : x.cls = .corr) (hs : x.scope = .none)
    (hh : s.flt.history = []) :
    ∃ y : FltRec, y.origin = x.origin ∧
      (s.startHandling i x = s.setRec i y ∨ 64 ≤ i ∧ s.startHandling i x = s.delRec i) := by
  have hf : ¬ x.cls = .fatal := by rw [hc]; decide
  cases ht : testable x.src x.elem with
  | true =>
    have e : s.startHandling i x = s.setRec i { x with state := .selftest } := by
      rw [State.startHandling, if_neg hf, if_pos ht]
      exact if_neg (by simp [State.recurs_eq_false hh])
    exact ⟨{ x with state := .selftest }, rfl, .inl e⟩
  | false =>
    have e : s.startHandling i x = s.recServed i { x with notest := true } := by
      rw [State.startHandling, if_neg hf, if_neg (by simp [ht])]
      simp only [hs]
    obtain ⟨st, h⟩ := s.recServed_cases i (x := { x with notest := true }) hs
    exact ⟨{ x with notest := true, state := st }, rfl, e ▸ h⟩

/-- The record as it is first written, before its handling. -/
def State.newRec (s : State) (round : Nat) (r : Report) : FltRec :=
  s.flagOpen.recNeeds r
    { src := r.src, cls := r.cls, elem := r.elem, state := .handling, detail := r.detail, tile := r.tile, round := round
      monoUs := r.at_ / 1000, seq := s.flagOpen.flt.nextSeq, shadow := s.flagOpen.shadowNow r.cls, scope := s.scopeOf r
      safe := r.cls != .corr }

/-- A CORR report takes no safe state and has no reaction of its own (Table 11.8). -/
theorem State.openRec_eq {s : State} (round : Nat) {r : Report} (hr : r.cls = .corr) :
    s.openRec round r =
      (s.beginOpen.setRec s.openIndex (s.newRec round r)).startHandling s.openIndex (s.newRec round r) := by
  have hs : s.scopeOf r = .none := by rw [State.scopeOf, hr]
  have hc : ¬ r.cls = .cont := by rw [hr]; decide
  have hf (p : Prop) : ¬ (r.cls = .fatal ∧ p) := by rw [hr]; exact fun h => absurd h.1 (by decide)
  unfold State.openRec
  extract_lets slot scope i s1 x0 x _ s2 s3 s4 _ s5
  have h3 : s3 = s2.setRec i x := by
    show (s2.setRec i x).takeSafe (s.scopeOf r) = _
    rw [hs]
    rfl
  have h4 : s4 = s3 := if_neg hc
  have h5 : s5 = s4 := if_neg (hf _)
  rw [h5, h4, h3]
  rfl

/-- A CORR report opens a record: written before and after its handling, or freed again beyond the 64. -/
theorem State.openRec_corr {s : State} (round : Nat) {r : Report} (hr : r.cls = .corr) (hh : s.flt.history = []) :
    ∃ x y : FltRec, y.origin = (r.src, .corr, r.detail, round, 0) ∧
      (s.openRec round r = (s.beginOpen.setRec s.openIndex x).setRec s.openIndex y ∨
        64 ≤ s.openIndex ∧ s.openRec round r = (s.beginOpen.setRec s.openIndex x).delRec s.openIndex) := by
  obtain ⟨ho, hsc⟩ : (s.newRec round r).origin = (r.src, .corr, r.detail, round, 0) ∧
      (s.newRec round r).scope = .none := by
    obtain ⟨ho, hsc⟩ := s.flagOpen.recNeeds_origin r _
    exact ⟨ho.trans (by rw [FltRec.origin, hr]), hsc.trans (by rw [State.scopeOf, hr])⟩
  have hcls : (s.newRec round r).cls = .corr := congrArg (fun o => o.2.1) ho
  have hbegin : (s.beginOpen.setRec s.openIndex (s.newRec round r)).flt.history = [] :=
    (congrArg Collector.history s.flt_flagOpen).trans hh
  obtain ⟨y, hy, h⟩ := State.startHandling_corr s.openIndex hcls hsc hbegin
  rw [State.openRec_eq round hr]
  exact ⟨_, y, hy.trans ho, h⟩

/-- A report is counted by its class and source before it is placed. -/
def State.countReport (s : State) (r : Report) : State :=
  (s.fltCount (r.cls.code - 1)).sumCount (320 + 12 * srcCls r.src + 4 * (r.cls.code - 1)) 1

@[simp] theorem State.flt_countReport (s : State) (r : Report) : (s.countReport r).flt = s.flt :=
  (State.flt_sumCount _ _ _).trans (State.flt_fltCount s _)
@[simp] theorem State.roundView_countReport (s : State) (r : Report) : (s.countReport r).roundView = s.roundView :=
  (State.roundView_sumCount _ _ _).trans (State.roundView_fltCount s _)

/-- A CORR report in no shadow merges into a record that takes it (R325, R327). -/
theorem State.takeReport_merge {s : State} (round : Nat) {r : Report} (hr : r.cls = .corr)
    (h : (s.countReport r).findRec ((s.countReport r).inShadow round r) = none) {i : Nat} {x : FltRec}
    (hm : (s.countReport r).findRec (mergesInto r) = some (i, x)) :
    s.takeReport round r = (s.countReport r).mergeRec i x r false := by
  have hf : ¬ r.cls = .fatal := by rw [hr]; decide
  unfold State.takeReport
  extract_lets s1 s2
  have h2 : s2 = s.countReport r := if_neg hf
  simp only [h2, h, hm]

/-- With no record to merge into, a CORR report opens one of its own (R325). -/
theorem State.takeReport_open {s : State} (round : Nat) {r : Report} (hr : r.cls = .corr)
    (h : ∀ p, (s.countReport r).findRec p = none) : s.takeReport round r = (s.countReport r).openRec round r := by
  have hf : ¬ r.cls = .fatal := by rw [hr]; decide
  unfold State.takeReport
  extract_lets s1 s2
  have h2 : s2 = s.countReport r := if_neg hf
  simp only [h2, h]

/-- One CORR report of a round, while no transient result is noted, leaves what the next ones find. -/
theorem State.roundView_takeReport {s : State} (round : Nat) {r : Report} (hr : r.cls = .corr)
    (hh : s.flt.history = []) :
    (s.takeReport round r).roundView = s.roundView := by
  have hf : ¬ r.cls = .fatal := by rw [hr]; decide
  have e : (s.takeReport round r).roundView = (s.countReport r).roundView := by
    unfold State.takeReport
    extract_lets s1 s2
    have h2 : s2 = s.countReport r := if_neg hf
    rw [h2]
    split
    · rw [State.roundView_mergeRec]
    · split
      · rw [State.roundView_mergeRec]
      · obtain ⟨x, y, _, h | ⟨_, h⟩⟩ := State.openRec_corr (s := s.countReport r) round hr
          (by rw [State.flt_countReport, hh])
        · rw [h, State.roundView_setRec, State.roundView_setRec, State.roundView_beginOpen]
        · rw [h, State.roundView_delRec, State.roundView_setRec, State.roundView_beginOpen]
  rw [e, State.roundView_countReport]

theorem State.roundView_takeReports (round : Nat) {l : List Report} (hl : ∀ q ∈ l, q.cls = .corr) {s : State}
    (hh : s.flt.history = []) : (l.foldl (fun (t : State) r => t.takeReport round r) s).roundView = s.roundView := by
  induction l generalizing s with
  | nil => rfl
  | cons r l ih =>
    have h1 := State.roundView_takeReport (s := s) round (hl r (List.mem_cons_self ..)) hh
    rw [List.foldl_cons, ih (fun q hq => hl q (List.mem_cons_of_mem _ hq)) ((congrArg RoundView.history h1).trans hh),
      h1]

/-! ### A round's close (R324, R325) -/

/-- The round closed, before its reports are taken. -/
def State.closeRound (s : State) : State :=
  { s with flt := { s.flt with round := none, reports := [], roundNo := s.flt.roundNo + 1 } }

/-- A round closes: its first report is offered to FLT_FIRST, and all are taken in order. -/
theorem execCollectionRoundClose_open {s : State} (h : s.flt.round.isSome = true) {r : Report} {l : List Report}
    (hl : sortReports s.flt.reports = r :: l) :
    execCollectionRoundClose s =
      .next ((r :: l).foldl (fun (t : State) q => t.takeReport (s.flt.roundNo + 1) q)
        (s.closeRound.loadFirst (s.flt.roundNo + 1) r)) := by
  obtain ⟨n, hn⟩ := Option.isSome_iff_exists.1 h
  simp only [execCollectionRoundClose, hn, hl]
  rfl

/-- A CORR report fills the empty FLT_FIRST and does nothing else. -/
theorem State.loadFirst_corr {s : State} (h : s.bit Reg.FLT_FIRST 31 = false)
    (round : Nat) {r : Report} (hr : r.cls = .corr) :
    s.loadFirst round r = (s.setReg Reg.FLT_FIRST (BitVec.ofNat 32 (2 ^ 31 + 2 ^ 29 + r.src))).setReg Reg.FLT_FIRST_RND
      (BitVec.ofNat 32 round) := by
  rw [State.loadFirst, if_neg (by simp [h])]
  simp only [hr, FaultClass.code]
  rw [if_neg (by decide)]
  rw [one_mul]

/-- A CORR report leaves the collector as it is when it is offered to FLT_FIRST. -/
theorem State.flt_loadFirst {s : State} (round : Nat) {r : Report} (hr : r.cls = .corr) :
    (s.loadFirst round r).flt = s.flt := by
  cases h : s.bit Reg.FLT_FIRST 31 with
  | false => rw [State.loadFirst_corr h round hr, State.flt_setReg, State.flt_setReg]
  | true => rw [State.loadFirst, if_pos h]

theorem State.recSlot_empty {s : State} (h : s.flt.recs = []) : s.recSlot = some 0 := by
  simp [State.recSlot, h, freeFrom, Store.at?]

theorem State.findRec_empty {s : State} (h : s.flt.recs = []) (p : FltRec → Bool) : s.findRec p = none := by
  rw [State.findRec, h]
  rfl

theorem State.findRec_single {s : State} {x : FltRec} (h : s.flt.recs = [(0, x)]) (p : FltRec → Bool) :
    s.findRec p = if p x then some (0, x) else none := by
  rw [State.findRec, h]
  cases hp : p x <;> simp [hp]

/-- A report that merges outside a shadow is counted in its record (R327). -/
theorem State.recs_mergeRec {s : State} (i : Nat) (x : FltRec) (r : Report) :
    (s.mergeRec i x r false).flt.recs = Store.set s.flt.recs i
      { x with merge := min 255 (x.merge + 1), secmap := x.secmap ||| BitVec.ofNat 32 (2 ^ srcCls r.src) } := by
  rw [State.mergeRec, if_neg (by decide), State.flt_fltCount]
  rfl

@[simp] theorem State.flt_beginOpen_recs (s : State) : s.beginOpen.flt.recs = s.flt.recs :=
  (congrArg Collector.recs s.flt_flagOpen :)

/-- With every record free a CORR report opens record 0, and NEW is set (R328). -/
theorem State.openRec_first {s : State} (round : Nat) {r : Report} (hr : r.cls = .corr) (hh : s.flt.history = [])
    (he : s.flt.recs = []) :
    (s.openRec round r).bit Reg.FLT_STAT 30 = true ∧
      ((s.openRec round r).rec? 0).map FltRec.origin = some (r.src, .corr, r.detail, round, 0) ∧
      ∀ j, j ≠ 0 → (s.openRec round r).rec? j = none := by
  have hi : s.openIndex = 0 := by rw [State.openIndex, State.recSlot_empty he]; rfl
  obtain ⟨x, y, hy, h | ⟨h64, _⟩⟩ := State.openRec_corr round hr hh
  · rw [hi] at h
    rw [h]
    refine ⟨?_, ?_, fun j hj => ?_⟩
    · have hb : s.beginOpen.reg Reg.FLT_STAT = (s.raiseBit Reg.FLT_STAT 30).reg Reg.FLT_STAT := by
        show s.flagOpen.reg _ = _
        rw [State.flagOpen, State.recSlot_empty he]
        rfl
      rw [State.bit_of_reg (State.reg_setRec _ _ _ _), State.bit_of_reg (State.reg_setRec _ _ _ _), State.bit_of_reg hb]
      exact State.bit_raiseBit _ _ _ (by decide) (by decide)
    · rw [State.rec?_setRec, if_pos rfl]
      exact congrArg some hy
    · rw [State.rec?_setRec, if_neg hj, State.rec?_setRec, if_neg hj, State.rec?, State.flt_beginOpen_recs, he]
      rfl
  · omega

end Sys2Proof.Machine

open Sys2Proof.Machine

/-- Settles O18: a round's reports are taken in order, and CORR reports touch nothing of the round itself. -/
theorem faultReportsAndRounds : Obligations.FaultReportsAndRounds := by
  intro src d tile a b cls e r i x s
  refine ⟨fun hr he hd hs => ?_, fun ho hc hh hb hr hlow => ?_, fun ho hrs hr hh he => ?_,
    fun ho hrs hr he hx hc hsh hsrc hdet => ?_,
    fun hi hsh hb => ?_, rfl, ⟨_, rfl, rfl, rfl, fun h => ?_⟩, fun h => ?_⟩
  · show execFaultReport src cls e d tile s = _
    simp only [execFaultReport, hr, he, hd, Bool.and_self, if_true, hs, false_and, if_false]
    rfl
  · obtain ⟨l', hl⟩ := sortReports_head hc hr hlow
    have hcs : ∀ q ∈ r :: l', q.cls = .corr := fun q hq => hc q ((mem_sortReports _ q).1 (hl ▸ hq))
    have hrc := hcs r (List.mem_cons_self ..)
    have hv := State.roundView_takeReports (s.flt.roundNo + 1) hcs (s := s.closeRound.loadFirst (s.flt.roundNo + 1) r)
      ((congrArg Collector.history (State.flt_loadFirst _ hrc)).trans hh)
    rw [State.loadFirst_corr (s := s.closeRound) hb _ hrc] at hv
    refine ⟨_, execCollectionRoundClose_open ho hl, ?_⟩
    rw [State.loadFirst_corr (s := s.closeRound) hb _ hrc]
    refine ⟨congrArg RoundView.round hv, congrArg RoundView.reports hv, congrArg RoundView.roundNo hv, ?_, ?_⟩
    · refine (congrArg RoundView.first hv).trans ?_
      exact (State.reg_setReg_ne _ (by decide) _).trans (State.reg_setReg_self _ _ _)
    · exact (congrArg RoundView.firstRound hv).trans (State.reg_setReg_self _ _ _)
  · have hl : sortReports s.flt.reports = [r] := by rw [hrs]; rfl
    have hflt := State.flt_loadFirst (s := s.closeRound) (s.flt.roundNo + 1) hr
    have hcr := (State.flt_countReport (s.closeRound.loadFirst (s.flt.roundNo + 1) r) r).trans hflt
    have hrecs := (congrArg Collector.recs hcr).trans he
    refine ⟨_, execCollectionRoundClose_open ho hl, ?_⟩
    rw [List.foldl_cons, List.foldl_nil, State.takeReport_open _ hr (State.findRec_empty hrecs)]
    exact State.openRec_first _ hr ((congrArg Collector.history hcr).trans hh) hrecs
  · have hl : sortReports s.flt.reports = [r] := by rw [hrs]; rfl
    have hflt := State.flt_loadFirst (s := s.closeRound) (s.flt.roundNo + 1) hr
    have hcr := (State.flt_countReport (s.closeRound.loadFirst (s.flt.roundNo + 1) r) r).trans hflt
    have hrecs := (congrArg Collector.recs hcr).trans he
    have hout : (State.countReport (s.closeRound.loadFirst (s.flt.roundNo + 1) r) r).inShadow
        (s.flt.roundNo + 1) r x = false := by
      simp [State.inShadow, hsh]
    have hin : mergesInto r x = true := by simp [mergesInto, hx, RecState.handled, hc, hr, hsrc, hdet]
    refine ⟨_, execCollectionRoundClose_open ho hl, ?_⟩
    have hnone := (State.findRec_single hrecs _).trans (if_neg (Bool.eq_false_iff.1 hout))
    have hsome := (State.findRec_single hrecs (mergesInto r)).trans (if_pos hin)
    rw [List.foldl_cons, List.foldl_nil, State.takeReport_merge _ hr hnone hsome]
    have hm := State.recs_mergeRec (s := State.countReport (s.closeRound.loadFirst (s.flt.roundNo + 1) r) r) 0 x r
    rw [hrecs] at hm
    refine ⟨congrArg List.length hm, ?_⟩
    rw [State.rec?, hm]
    exact congrArg (fun st => some (st, min 255 (x.merge + 1), x.sec)) hx
  · show execShadowEnd i s = _
    simp only [execShadowEnd, hi, hsh, hb, if_true]
  · simp [State.errFault, h]
  · simp [State.errFault, h]

end

section
/-!
The locks after a function-level reset (R37, R395), and the refutation of O57.

What a reset does to queue pairs, frames, mailboxes, routing and interrupts leaves the locks alone; the reset itself
frees the locks of its function and of no other.
-/

open Sys2Proof

namespace Sys2Proof.Machine

/-! ### What leaves the locks alone -/

theorem State.locks_of_apart {s t : State} (h : t.apart = s.apart) : t.locks = s.locks :=
  (congrArg State.locks h : t.apart.locks = s.apart.locks)

theorem State.locks_foldl {β : Type} (f : State → β → State) (hf : ∀ t x, (f t x).locks = t.locks) (l : List β)
    (s : State) : (l.foldl f s).locks = s.locks := by
  induction l generalizing s with
  | nil => rfl
  | cons x r ih => rw [List.foldl_cons, ih, hf]

@[simp] theorem State.locks_setLink (s : State) (a : Nat) (w : Word) : (s.setLink a w).locks = s.locks := rfl
@[simp] theorem State.locks_setCol (s : State) (j : Nat) (x : PostCol) : (s.setCol j x).locks = s.locks := rfl
@[simp] theorem State.locks_queueToStore (s : State) (src : Nat) (f : Frame) :
    (s.queueToStore src f).locks = s.locks := rfl

@[simp] theorem State.locks_teleCount (s : State) (k n : Nat) : (s.teleCount k n).locks = s.locks :=
  State.locks_of_apart (s.apart_countFld _ _ _ _)

@[simp] theorem State.locks_deliver (s : State) (src : Nat) (w : Word) : (s.deliver src w).locks = s.locks :=
  State.locks_of_apart (s.apart_deliver src w)

@[simp] theorem State.locks_haltQp (s : State) (h cause : Nat) : (s.haltQp h cause).locks = s.locks := by
  rw [State.haltQp]
  split
  · rfl
  · rw [State.locks_raiseBit, State.locks_setFld, State.locks_setBit]

@[simp] theorem State.locks_sendCollector (s : State) (j : Nat) : (s.sendCollector j).locks = s.locks := by
  rw [State.sendCollector]
  extract_lets
  split
  · rfl
  · rw [State.locks_teleCount, State.locks_queueToStore, State.locks_setCol]

@[simp] theorem State.locks_postcard (s : State) (j kind : Nat) (f : Frame)
    (out queue code eepoch qdelay qdepth : Nat) :
    (s.postcard j kind f out queue code eepoch qdelay qdepth).locks = s.locks := by
  rw [State.postcard]
  extract_lets
  split
  · split
    · rw [State.locks_sendCollector, State.locks_teleCount, State.locks_setCol]
    · rw [State.locks_teleCount, State.locks_setCol]
  · rw [State.locks_teleCount, State.locks_setCol]

@[simp] theorem State.locks_dropVat (s : State) (f : Frame) (out queue row eepoch : Nat) :
    (s.dropVat f out queue row eepoch).locks = s.locks := by
  rw [State.dropVat]
  split
  · exact State.locks_postcard _ _ _ _ _ _ _ _ _ _
  · rfl

@[simp] theorem State.locks_doubleFree (s : State) (cell : Nat) : (s.doubleFree cell).locks = s.locks := by
  rw [State.doubleFree, State.locks_reportFault, State.locks_raiseBit]

@[simp] theorem State.locks_releaseCells (s : State) (l : List Nat) : (s.releaseCells l).locks = s.locks := by
  induction l generalizing s with
  | nil => rfl
  | cons a r ih =>
    rw [State.releaseCells, ih]
    split
    · exact State.locks_setLink _ _ _
    · exact State.locks_doubleFree _ _

@[simp] theorem State.locks_dropCells (s : State) (f : Nat) : (s.dropCells f).locks = s.locks := by
  rw [State.dropCells]
  split
  · rfl
  · rw [State.locks_setFrame, State.locks_releaseCells]

@[simp] theorem State.locks_releaseFrame (s : State) (f : Nat) : (s.releaseFrame f).locks = s.locks :=
  s.locks_dropCells f

@[simp] theorem State.locks_unref (s : State) (f : Nat) : (s.unref f).locks = s.locks := by
  rw [State.unref]
  split
  · rfl
  · split
    · exact State.locks_doubleFree _ _
    · split
      · exact State.locks_releaseFrame _ _
      · exact State.locks_setFrame _ _ _

@[simp] theorem State.locks_qpReset (s : State) (h : Nat) : (s.qpReset h).locks = s.locks := by
  rw [State.qpReset, State.locks_foldl]
  · rw [State.locks_setQueue, State.locks_setQp, State.locks_setBit, State.locks_setFld, State.locks_setReg,
      State.locks_setReg, State.locks_setReg, State.locks_setReg]
  · intro t x
    split
    · rw [State.locks_unref, State.locks_dropVat, State.locks_count]
    · rfl

/-! ### Function-level resets (R37, R395) -/

@[simp] theorem State.locks_mbxPartyReset (s : State) (p : Nat → Bool) : (s.mbxPartyReset p).locks = s.locks := by
  rw [State.mbxPartyReset, State.locks_foldl]
  intro t i
  dsimp only
  repeat' split
  all_goals rfl

@[simp] theorem State.locks_routingReset (s : State) (fn : Nat) : (s.routingReset fn).locks = s.locks := by
  rw [State.routingReset]
  have hen (f : State → Nat → State) (hf : ∀ t i, (f t i).locks = t.locks) (l : List Nat) :
      (l.foldl f s).locks = s.locks := State.locks_foldl f hf l s
  split
  · refine hen _ (fun t i => ?_) _
    split <;> rfl
  · refine (State.locks_foldl _ (fun t i => ?_) _ _).trans (hen _ (fun t i => ?_) _)
    · rfl
    · split <;> rfl

@[simp] theorem State.locks_rewake (s : State) (p : Nat → Bool) : (s.rewake p).locks = s.locks := by
  rw [State.rewake, State.locks_foldl, State.locks_foldl]
  all_goals
    intro t i
    split
    · exact State.locks_deliver _ _ _
    · rfl

theorem State.locks_freeLocks (s : State) (p : Nat → Bool) :
    (s.freeLocks p).locks = s.locks.filter fun e => !p e.2 := rfl

theorem State.locks_withIntr (s : State) (x : Interrupts) : ({ s with intr := x } : State).locks = s.locks := rfl

/-- A function-level reset frees the locks its function holds, and no other. -/
theorem State.locks_flr (s : State) (fn : Nat) :
    (s.flr fn).locks = s.locks.filter fun e => !(e.2 == fnMaster fn) := by
  rw [State.flr, State.locks_rewake, State.locks_routingReset, State.locks_withIntr, State.locks_mbxPartyReset,
    State.locks_freeLocks, State.locks_foldl]
  intro t h
  split
  · rw [State.locks_qpReset, State.locks_haltQp]
  · rfl

/-- The PCI Express domain is on, the link is up, and the PF (master ID 1) holds lock 0. -/
def pfHoldsLock : State :=
  { State.reset.setFld (Reg.PWR_DOM 145) 29 27 2 with host := { up := true }, locks := [(0, 1)] }

theorem domOn_pfHoldsLock : pfHoldsLock.domOn 145 = true := by decide

/-- The reset of VF 1 (master ID 0x41) leaves the PF its lock. -/
theorem locks_flr_pfHoldsLock : (pfHoldsLock.flr 2).locks = [(0, 1)] := by
  have hl : pfHoldsLock.locks = [(0, 1)] := rfl
  rw [State.locks_flr, hl]
  decide

theorem exec_flrVf_pfHoldsLock : exec (.flrVf 1) pfHoldsLock = .next (pfHoldsLock.flr 2) := by
  have hup : pfHoldsLock.host.up = true := rfl
  show execFlrVf 1 pfHoldsLock = _
  rw [execFlrVf, hup, domOn_pfHoldsLock]
  rfl

end Sys2Proof.Machine

open Sys2Proof.Machine

/-- Refutes O57: in its last clause `0x40 + n` is a sum of `Fin 32`, which is n and not the ID of VF n. With n = 1 the
clause says that no lock is held by master 1 after a reset of VF 1, and master 1 is the PF, whose lock stays. -/
theorem not_mailboxesDoorbellsAndResets : ¬ Obligations.MailboxesDoorbellsAndResets := by
  unfold Obligations.MailboxesDoorbellsAndResets
  intro h
  obtain ⟨-, -, -, -, -, -, -, -, -, -, hflr⟩ := h .pf 0 0 0 0 0 1 0 pfHoldsLock rfl
  obtain ⟨⟨t, he, hlocks, -⟩, -⟩ := hflr rfl domOn_pfHoldsLock (by decide)
  have ht : pfHoldsLock.flr 2 = t := Host.Outcome.next.inj (exec_flrVf_pfHoldsLock.symm.trans he)
  refine hlocks 0 ?_
  rw [← ht, locks_flr_pfHoldsLock]
  decide

end

section
/-!
Every command completes (O9): the commands whose arm writes its next state outright need no argument; the others branch,
and each branch is a next state. The groups follow the model's files.
-/

open Sys2Proof

namespace Sys2Proof.Machine

/-- The outcome is a next state: neither a fault nor a refusal. -/
def Out.completes (o : Out) : Prop := ∃ t, o = .next t

theorem completes_next (t : State) : Out.completes (.next t) := ⟨t, rfl⟩

theorem exec_completes (c : Instr) (s : State) : Out.completes (exec c s) := by
  cases c
  -- Sys2Proof/Machine/Rind.lean
  case' rindCommit | rindCommitDone | quarantineWindowEnd | quarantineRelease =>
    simp only [exec, execRindCommit, execRindCommitDone, execQuarantineWindowEnd, execQuarantineRelease]
  -- Sys2Proof/Machine/Mailbox.lean
  case' itrHoldEnd | dutymapWrite | mbxPost | mbxMessageRead | mbxTimeout | mbxCfgWrite | doorbellRing | doorbellClear
    | doorbellCfgWrite | msixUnmask =>
    simp only [exec, execItrHoldEnd, execDutymapWrite, execMbxPost, execMbxMessageRead, execMbxTimeout,
      execMbxCfgWrite, execDoorbellRing, execDoorbellClear, execDoorbellCfgWrite, execMsixUnmask]
  -- Sys2Proof/Machine/Clockless.lean
  case' lockRead | lockWrite | lockForce | avsLoopPeriod | avsTransactionDone | avsVreadRefresh | avsBuserrClear |
    paceWindowEnd =>
    simp only [exec, execLockRead, execLockWrite, execLockForce, execAvsLoopPeriod, execAvsTransactionDone,
      execAvsVreadRefresh, execAvsBuserrClear, execPaceWindowEnd]
  -- Sys2Proof/Machine/Rx.lean
  case' rxFrameStart | rxFrameEnd | rxOversize | reasmTimeout | rxLaterCell =>
    simp only [exec, execRxFrameStart, execRxFrameEnd, execRxOversize, execReasmTimeout, execRxLaterCell]
  -- Sys2Proof/Machine/Loader.lean
  case' loadPlaceTaken | loadFetchDone | loadSignaturesDone | loadShadowDone | epochSwitch | bankRetire | retireTimeout
    | drainStart | drainPipesDone | drainBoundReached | drainSwitchDone | continuityCheckDone | revertCheckDone =>
    simp only [exec, execLoadPlaceTaken, execLoadFetchDone, execLoadSignaturesDone, execLoadShadowDone,
      execEpochSwitch, execBankRetire, execRetireTimeout, execDrainStart, execDrainPipesDone, execDrainBoundReached,
      execDrainSwitchDone, execContinuityCheckDone, execRevertCheckDone]
  -- Sys2Proof/Machine/StageOps.lean
  case' stageEntry | memopComplete =>
    simp only [exec, execStageEntry, execMemopComplete]
  -- Sys2Proof/Machine/Ingress.lean
  case' ingressAdmit | parseDone =>
    simp only [exec, execIngressAdmit, execParseDone]
  -- Sys2Proof/Machine/Resolve.lean
  case' resolve =>
    simp only [exec, execResolve]
  -- Sys2Proof/Machine/Egress.lean
  case' dequeue | queueHeadDiscard | deparse | transmitStart | transmitDone | transmitUnderrun | hostRxDelivery =>
    simp only [exec, execDequeue, execQueueHeadDiscard, execDeparse, execTransmitStart, execTransmitDone,
      execTransmitUnderrun, execHostRxDelivery]
  -- Sys2Proof/Machine/Lookup.lean
  case' endpointLookup | aclLookup | missReadReturn | missStallTimeout =>
    simp only [exec, execEndpointLookup, execAclLookup, execMissReadReturn, execMissStallTimeout]
  -- Sys2Proof/Machine/FlowState.lean
  case' counterAdd | meter | flowMissReturn | flowStallTimeout =>
    simp only [exec, execCounterAdd, execMeter, execFlowMissReturn, execFlowStallTimeout]
  -- Sys2Proof/Machine/Boot.lean
  case' bootCmdReserved | flashBoot | bootFetchDone | bootVerifyDone | bootWriteDone | flashWriteDone =>
    simp only [exec, execBootCmdReserved, execFlashBoot, execBootFetchDone, execBootVerifyDone, execBootWriteDone,
      execFlashWriteDone]
  -- Sys2Proof/Machine/EngRegs.lean
  case' scrubDone | engineHalted =>
    simp only [exec, execScrubDone, execEngineHalted]
  -- Sys2Proof/Machine/PairLink.lean
  case' heartbeatSend | heartbeatWindowEnd | ackSend | recordSend | sweepVisit =>
    simp only [exec, execHeartbeatSend, execHeartbeatWindowEnd, execAckSend, execRecordSend, execSweepVisit]
  -- Sys2Proof/Machine/Ports.lean
  case' linkFault | linkupDebounce | pcsAligned =>
    simp only [exec, execLinkFault, execLinkupDebounce, execPcsAligned]
  -- Sys2Proof/Machine/Power.lean
  case' fatalResetTimer | domainRampStart | domainRampDone | domainRampTimeout | resetNAssert | resetNRelease | core |
    shutdown | shutdownComplete | eng | perstN =>
    simp only [exec, execFatalResetTimer, execDomainRampStart, execDomainRampDone, execDomainRampTimeout,
      execResetNAssert, execResetNRelease, execCore, execShutdown, execShutdownComplete, execEng, execPerstN]
  -- Sys2Proof/Machine/Attest.lean
  case' attestRequest | attestReply | attestRelease | attestWindowTimeout | attestToken =>
    simp only [exec, execAttestRequest, execAttestReply, execAttestRelease, execAttestWindowTimeout, execAttestToken]
  -- Sys2Proof/Machine/Faults.lean
  case' faultReport | collectionRoundClose | shadowEnd | selftestDone | spareRepairDone =>
    simp only [exec, execFaultReport, execCollectionRoundClose, execShadowEnd, execSelftestDone, execSpareRepairDone]
  -- Sys2Proof/Machine/HostQp.lean
  case' hostTxFetch | dmaReadCompletion | dmaCompletionTimeout | flrVf | flrPf | pcieLinkDown | pcieLinkUp =>
    simp only [exec, execHostTxFetch, execDmaReadCompletion, execDmaCompletionTimeout, execFlrVf, execFlrPf,
      execPcieLinkDown, execPcieLinkUp]
  -- Sys2Proof/Machine/Lanes.lean
  case' trainingDone | trainingTimeout | trainingRestart | cdrLoss | refclkLost | pllLock | injectPeriodic |
    marginScanDone | checkerLockLoss =>
    simp only [exec, execTrainingDone, execTrainingTimeout, execTrainingRestart, execCdrLoss, execRefclkLost,
      execPllLock, execInjectPeriodic, execMarginScanDone, execCheckerLockLoss]
  -- Sys2Proof/Machine/Ledger.lean
  case' summaryHourly | ledgerSummaryDone | ledgerFlushToken | ledgerRecordToken | ledgerDataRead | ledgerRecordDone =>
    simp only [exec, execSummaryHourly, execLedgerSummaryDone, execLedgerFlushToken, execLedgerRecordToken,
      execLedgerDataRead, execLedgerRecordDone]
  -- Sys2Proof/Machine/Skim.lean
  case' spillStart | spillWriteAck | readbackStart | readbackDone =>
    simp only [exec, execSpillStart, execSpillWriteAck, execReadbackStart, execReadbackDone]
  -- Sys2Proof/Machine/Tables.lean
  case' objectFree | updateCmdDone | learnApply | ageTick | churnVisit | churnCompareDelete | pressCompact |
    flapRecRead =>
    simp only [exec, execObjectFree, execUpdateCmdDone, execLearnApply, execAgeTick, execChurnVisit,
      execChurnCompareDelete, execPressCompact, execFlapRecRead]
  -- Sys2Proof/Machine/TimeTele.lean
  case' collectorFlushTimeout | ppsOutPulse | ppsOutEnd | ppsInEdge =>
    simp only [exec, execCollectorFlushTimeout, execPpsOutPulse, execPpsOutEnd, execPpsInEdge]
  -- Sys2Proof/Machine/Access.lean
  case' registerWrite | wideLowRead | unmappedAccess | badShapeRequest | clearOnRead =>
    simp only [exec, execRegisterWrite, execWideLowRead, execUnmappedAccess, execBadShapeRequest, execClearOnRead]
  -- Sys2Proof/Machine/Engine.lean
  case' engineInterrupt =>
    simp only [exec, execEngineInterrupt]
  -- Sys2Proof/Machine/Package.lean
  case' thermalTrip =>
    simp only [exec, execThermalTrip]
  all_goals repeat' split
  all_goals exact completes_next _

theorem step_completes (s : State) : Out.completes (step s) := by
  rw [step]
  split
  · exact completes_next _
  · exact exec_completes _ _

end Sys2Proof.Machine

open Sys2Proof.Machine

/-- Settles O9, by the cases of the instruction and the branches of its command. -/
theorem everyCommandCompletes : Obligations.EveryCommandCompletes :=
  ⟨exec_completes, step_completes⟩

end

section
/-!
A dequeue (R223), and why the range of the frames in hand (O5) is not kept by it.
-/

open Sys2Proof

namespace Sys2Proof

/-- What a map answers is among its entries. -/
theorem Store.mem_of_at? {α : Type} {m : Store α} {k : Nat} {v : α} (h : Store.at? m k = some v) :
    (k, v) ∈ m := by
  induction m with
  | nil => cases h
  | cons e r ih =>
    rw [Store.at?] at h
    split at h
    next hk => exact List.mem_cons.2 (.inl (by rw [← hk, ← Option.some.inj h]))
    next => exact List.mem_cons_of_mem _ (ih h)

end Sys2Proof

namespace Sys2Proof.Machine

/-! ### A dequeue -/

/-- The head of a queue as it leaves: its depth and its delay noted (R306, Table 04.4). -/
def State.leaving (s : State) (q : Nat) (y : Copy) : Copy :=
  { y with qdepth := s.dep q, qdelay := min (2 ^ 32 - 1) (s.time.mono - y.enq) }

/-- The state once the head has left queue q of destination d: the rest `r` stays, the shapers are charged and the
deficits kept. -/
def State.popped (s : State) (d q : Nat) (df : Store Nat) (y : Copy) (r : List Copy) : State :=
  let t := (s.setQueue q r).chargeShapers d q (s.copyLen (s.leaving q y))
  { t with vat := { t.vat with deficit := if r.isEmpty then Store.del df q else df
                               lastServed := Store.set t.vat.lastServed d q } }

theorem State.popQueue_cons {s : State} {q : Nat} {y : Copy} {r : List Copy} (h : s.queue q = y :: r) (d : Nat)
    (df : Store Nat) : s.popQueue d q df = some (s.leaving q y, s.popped d q df y r) := by
  simp only [State.popQueue, h]
  rfl

/-- What a dequeue does once a queue's head has left: it is dropped when its epoch is dead on its recirculation path,
and goes on to its egress pipe or its port otherwise (R77, R99). -/
def State.afterPop (t : State) (d : Nat) (z : Copy) (f : Frame) : State :=
  if 1024 ≤ d ∧ d < 1056 then
    if t.isDead (d - 1024) f.epoch then (t.unref z.frame).count (Reg.SLC_EPOCH_DROP (d - 1024)) else t.sendOn d z f
  else if d < 1024 then
    let z := if z.piped then { z with eepoch := t.curEpoch (pipeOf d) } else z
    ((t.histDequeue d z).postDequeue d z f).sendOn d z f
  else t.sendOn d z f

/-- A destination that may be served takes the head of the queue its scheduler picks (R223). -/
theorem execDequeue_head {s : State} {d : Fin 1058} {q : Nat} {df : Store Nat} {y : Copy} {r : List Copy} {f : Frame}
    (hd : d.val ≠ 1056) (hs : s.servable d = true) (hp : s.pShaperOk d = true)
    (hk : s.pick d (s.returnTakes d) = some (q, df)) (hq : s.queue q = y :: r) (hf : s.frame? y.frame = some f) :
    execDequeue d s = .next ((s.popped d q df y r).afterPop d (s.leaving q y) f) := by
  have hf' : (s.popped d q df y r).frame? (s.leaving q y).frame = some f := hf
  simp only [execDequeue, hd, hs, hp, hk, State.popQueue_cons hq, hf', State.afterPop]
  simp only [decide_false, Bool.not_true, Bool.or_self, Bool.false_eq_true, if_false]
  repeat' split
  all_goals rfl

/-- The context of a copy that enters the egress pipe of destination d (R72, R99). -/
def State.egressCtx (t : State) (d : Nat) (z : Copy) (f : Frame) : Ctx :=
  let e := t.curEpoch (pipeOf d)
  { slice := pipeOf d, pipe := 1, stream := if d < 1024 then d % 32 / 8 else f.stream, frame := z.frame,
    copy := some { z with eepoch := e }, comp := f.comp, epoch := e, md := egressMd { z with eepoch := e } f e,
    parsed := true, order := t.nextCtx, since := t.time.mono }

theorem State.ctx?_sendOn {t : State} {z : Copy} (hz : z.piped = true) (d : Nat) (f : Frame) :
    (t.sendOn d z f).ctx? t.nextCtx = some (t.egressCtx d z f) := by
  rw [State.sendOn, if_pos hz]
  exact (Store.at?_set _ _ _ _).trans (if_pos rfl)

/-- A copy that port 1057 dequeues goes on at once: it is of no recirculation path and of no front port. -/
theorem State.ctx?_afterPop_solyen {t : State} {z : Copy} (hz : z.piped = true) (f : Frame) :
    (t.afterPop 1057 z f).ctx? t.nextCtx = some (t.egressCtx 1057 z f) := by
  rw [State.afterPop, if_neg (by decide), if_neg (by decide)]
  exact State.ctx?_sendOn hz 1057 f

/-! ### A state that keeps the ranges and whose step does not -/

/-- The pair runs over rail 0, and the one copy in queue 0 of port 1057 names recirculation port 1024 as its
destination. The ranges of the frames in hand do not forbid it; that a run reaches it is not claimed. -/
def strayCopy : State :=
  { ((State.reset.setFld (Reg.PWR_DOM 144) 29 27 2).setFld Reg.PAIR_STAT 17 16 1).setFld Reg.PAIR_STAT 22 20 2 with
    vat := { frames := [(0, { isOpen := false })]
             queues := [(qidOf 1057 0, [{ frame := 0, kind := .unicast, dest := 1024, queue := 0 }])] } }

theorem pipesOk_strayCopy : strayCopy.pipesOk := by
  have hc : strayCopy.ctxs = [] := rfl
  have hf : strayCopy.vat.frames = [(0, { isOpen := false })] := rfl
  have hs : strayCopy.vat.toStore = [] := rfl
  have hq : strayCopy.host.qps = [] := rfl
  have hl : strayCopy.tbl.learnq = [] := rfl
  simp [State.pipesOk, hc, hf, hs, hq, hl]

theorem servable_strayCopy : strayCopy.servable 1057 = true := by
  decide +kernel

theorem pShaperOk_strayCopy : strayCopy.pShaperOk 1057 = true := by
  decide +kernel

theorem pick_strayCopy :
    strayCopy.pick 1057 (strayCopy.returnTakes 1057) = some (qidOf 1057 0, [(qidOf 1057 0, 256)]) := by
  decide +kernel

/-- The stray copy enters an egress pipe of its queue's destination, which has none: of slice 33. -/
theorem execDequeue_strayCopy : ∃ t x, execDequeue 1057 strayCopy = .next t ∧ t.ctx? 0 = some x ∧ x.slice = 33 :=
  ⟨_, _, execDequeue_head (by decide) servable_strayCopy pShaperOk_strayCopy pick_strayCopy rfl rfl,
    State.ctx?_afterPop_solyen rfl _, rfl⟩

end Sys2Proof.Machine

open Sys2Proof.Machine

/-- Refutes O5: the ranges say nothing of the copies in queues. In `strayCopy` the queue of port 1057 holds a copy that
names recirculation port 1024; it passes an egress pipe (R99), and the dequeue of port 1057 puts it into that of slice
1057 − 1024 = 33. -/
theorem not_framesStayInRange : ¬ Obligations.FramesStayInRange := by
  unfold Obligations.FramesStayInRange
  intro h
  obtain ⟨t, x, he, hx, hslice⟩ := execDequeue_strayCopy
  have hok : ({ strayCopy with pending := [.dequeue 1057] } : State).pipesOk := pipesOk_strayCopy
  have hstep : step { strayCopy with pending := [.dequeue 1057] } = .next t :=
    (stepTakesTheFrontCommand (.dequeue 1057) [] _ rfl).trans he
  obtain ⟨hctxs, -⟩ := h _ t hok hstep
  have hlt : x.slice < 32 := (hctxs _ (Store.mem_of_at? hx)).1
  omega

end

section
/-! What a violation does beyond its own records: the compartment's window and its quarantine (R61). -/

open Sys2Proof

namespace Sys2Proof.Machine

theorem State.slices_of_apart {s t : State} (h : t.apart = s.apart) : t.slices = s.slices :=
  (congrArg State.slices h : t.apart.slices = s.apart.slices)

@[simp] theorem State.apart_noteViolation (s : State) (n c : Nat) (w : Word) :
    (s.noteViolation n c w).apart = s.apart := by
  rw [State.noteViolation, State.apart_raiseBit]
  split
  · rw [State.apart_setReg, State.apart_count]
  · rw [State.apart_count]

theorem State.slice_noteViolation (s : State) (n c : Nat) (w : Word) (j : Nat) :
    (s.noteViolation n c w).slice j = s.slice j := by
  rw [State.slice, State.slices_of_apart (s.apart_noteViolation n c w), State.slice]

/-- The record's fields side by side (Table 02.3). -/
theorem violationWord_toNat {kind c pipe stage : Nat} (hk : kind < 16) (hc : c < 8) (hp : pipe < 2) (hs : stage < 32)
    (detail : Nat) : (violationWord kind c pipe stage detail).toNat =
      kind * 2 ^ 28 + c * 2 ^ 25 + pipe * 2 ^ 24 + stage * 2 ^ 19 + detail % 65536 := by
  simp only [violationWord, BitVec.toNat_ofNat]
  omega

section
variable (s : State) {n c : Nat} (hn : n < 32) (hc : c < 8) (w : Word) {a : Nat}
include hn hc

/-- A violation noted writes its counter, the record, the flags and, through an interrupt, HOST_STAT. -/
theorem State.reg_noteViolation_ne (h1 : a ≠ Reg.SLC_RIND_VCNT n c) (h2 : a ≠ Reg.SLC_RIND_VREC n)
    (h3 : a ≠ Reg.SLC_RIND_STAT n) (h4 : a ≠ Reg.HOST_STAT) : (s.noteViolation n c w).reg a = s.reg a := by
  rw [State.noteViolation, State.reg_raiseBit_ne _ _ _ _ h3 h4]
  split
  · rw [State.reg_setReg_ne _ h2, State.reg_count_ne s (satBitOf_rindVcnt hn hc) h1]
  · rw [State.reg_count_ne s (satBitOf_rindVcnt hn hc) h1]

/-- A record that stands is kept (R59). -/
theorem State.vrec_noteViolation_kept (h : s.fld (Reg.SLC_RIND_VREC n) 31 28 ≠ 0) :
    (s.noteViolation n c w).reg (Reg.SLC_RIND_VREC n) = s.reg (Reg.SLC_RIND_VREC n) := by
  have h1 : Reg.SLC_RIND_VREC n ≠ Reg.SLC_RIND_VCNT n c := by simp only [Reg.SLC_RIND_VCNT, Reg.SLC_RIND_VREC]; omega
  have h3 : Reg.SLC_RIND_VREC n ≠ Reg.SLC_RIND_STAT n := by simp only [Reg.SLC_RIND_VREC, Reg.SLC_RIND_STAT]; omega
  have h4 : Reg.SLC_RIND_VREC n ≠ Reg.HOST_STAT := by simp only [Reg.SLC_RIND_VREC, Reg.HOST_STAT]; omega
  have hreg := State.reg_count_ne s (satBitOf_rindVcnt hn hc) h1
  rw [State.noteViolation, State.reg_raiseBit_ne _ _ _ _ h3 h4, if_neg (by rwa [State.fld_of_reg hreg]), hreg]

/-- The quarantine bits are not among the flags a violation sets. -/
theorem State.quar_noteViolation :
    (s.noteViolation n c w).bit (Reg.SLC_RIND_STAT n) (24 + c) = s.bit (Reg.SLC_RIND_STAT n) (24 + c) := by
  have h1 : Reg.SLC_RIND_STAT n ≠ Reg.SLC_RIND_VCNT n c := by simp only [Reg.SLC_RIND_VCNT, Reg.SLC_RIND_STAT]; omega
  have h2 : Reg.SLC_RIND_STAT n ≠ Reg.SLC_RIND_VREC n := by simp only [Reg.SLC_RIND_VREC, Reg.SLC_RIND_STAT]; omega
  have h4 : Reg.SLC_RIND_STAT n ≠ Reg.HOST_STAT := by simp only [Reg.SLC_RIND_STAT, Reg.HOST_STAT]; omega
  rw [State.noteViolation, State.bit_raiseBit_ne _ _ _ _ h4 (by omega)]
  refine State.bit_of_reg ?_ _
  split
  · rw [State.reg_setReg_ne _ h2, State.reg_count_ne s (satBitOf_rindVcnt hn hc) h1]
  · rw [State.reg_count_ne s (satBitOf_rindVcnt hn hc) h1]

/-- QLIMIT is not touched by a violation. -/
theorem State.qlimit_noteViolation :
    (s.noteViolation n c w).fld (Reg.SLC_RIND_CTL n) 15 8 = s.fld (Reg.SLC_RIND_CTL n) 15 8 :=
  State.fld_of_reg (State.reg_noteViolation_ne s hn hc w
    (by simp only [Reg.SLC_RIND_CTL, Reg.SLC_RIND_VCNT]; omega)
    (by simp only [Reg.SLC_RIND_CTL, Reg.SLC_RIND_VREC]; omega)
    (by simp only [Reg.SLC_RIND_CTL, Reg.SLC_RIND_STAT]; omega) (by simp only [Reg.SLC_RIND_CTL, Reg.HOST_STAT]; omega))
    _ _

end

/-- The window's count passes QLIMIT: the compartment is quarantined (R61). -/
theorem State.quar_countWindow_over {s : State} {n c : Nat} (hc : c < 8) (h0 : s.fld (Reg.SLC_RIND_CTL n) 15 8 ≠ 0)
    (h : s.fld (Reg.SLC_RIND_CTL n) 15 8 ≤ Store.read 0 (s.slice n).vwin c) :
    (s.countWindow n c).bit (Reg.SLC_RIND_STAT n) (24 + c) = true := by
  rw [State.countWindow, if_pos ⟨h0, Nat.lt_succ_of_le h⟩, State.bit_setBit _ _ _ _ (by omega)]

/-- It does not pass QLIMIT, or QLIMIT is 0: nothing is quarantined (R61). -/
theorem State.countWindow_within {s : State} {n c : Nat}
    (h : s.fld (Reg.SLC_RIND_CTL n) 15 8 = 0 ∨ Store.read 0 (s.slice n).vwin c < s.fld (Reg.SLC_RIND_CTL n) 15 8) :
    s.countWindow n c = s.setSlice n { s.slice n with
      vwin := Store.put 0 (s.slice n).vwin c (Store.read 0 (s.slice n).vwin c + 1) } := by
  have hq : ¬ (s.fld (Reg.SLC_RIND_CTL n) 15 8 ≠ 0 ∧
      s.fld (Reg.SLC_RIND_CTL n) 15 8 < Store.read 0 (s.slice n).vwin c + 1) := by omega
  rw [State.countWindow]
  exact if_neg hq

end Sys2Proof.Machine

open Sys2Proof.Machine

/-- Settles O24: the violation is noted, then counted in its window; each step leaves the other's registers alone. -/
theorem violationsQuarantine : Obligations.ViolationsQuarantine := by
  intro n c kind pipe stage detail s _ hkind hpipe hstage
  have hn := n.isLt
  have hc := c.isLt
  generalize hw : violationWord kind c pipe stage detail = w
  have he : s.violate n c kind pipe stage detail = (s.noteViolation n c w).countWindow n c := by
    rw [State.violate_eq, hw]
  have hql := State.qlimit_noteViolation s hn hc w
  have hsl := s.slice_noteViolation n c w n
  refine ⟨s.toNat_vcnt_violate hn hc _ _ _ _, fun hv => ?_, fun hv => ?_, s.flag_violate n hc _ _ _ _,
    fun h0 hle => ?_, fun h => ?_, fun a h1 h2 h3 h4 => ?_⟩
  · exact (congrArg BitVec.toNat (s.vrec_violate hn hc kind pipe stage detail hv)).trans
      (violationWord_toNat hkind hc hpipe hstage detail)
  · rw [he, State.reg_countWindow_ne _ _ _ (by simp only [Reg.SLC_RIND_VREC, Reg.SLC_RIND_STAT]; omega),
      State.vrec_noteViolation_kept s hn hc w hv]
  · rw [he, State.quar_countWindow_over hc (by rwa [hql]) (by rwa [hql, hsl])]
  · rw [he, State.countWindow_within (by rwa [hql, hsl])]
    exact (State.bit_of_reg (State.reg_setSlice _ _ _ _) _).trans (State.quar_noteViolation s hn hc w)
  · rw [he, State.reg_countWindow_ne _ _ _ h3, State.reg_noteViolation_ne s hn hc w h1 h2 h3 h4]

end

section
/-! Descriptors as bytes and as registers, and what a commit's check promises (R55, R56). -/

open Sys2Proof

namespace Sys2Proof

/-- Bytes cut out of a string, byte by byte. -/
theorem bytesAt_eq (l : List Byte) (off n : Nat) : bytesAt l off n =
    (List.range n).map fun i => l.getD (off + i) 0 := by
  apply List.ext_getElem
  · simp [bytesAt]
  · intro i h1 h2
    have hi : i < n := by simpa using h2
    by_cases hl : off + i < l.length
    · have hlt : i < ((l.drop off).take n).length := by simp; omega
      simp only [bytesAt]
      rw [List.getElem_append_left hlt]
      simp [hl]
    · have hle : ((l.drop off).take n).length ≤ i := by simp; omega
      simp only [bytesAt]
      rw [List.getElem_append_right hle]
      simp [hl]

@[simp] theorem length_toLE (n v : Nat) : (toLE n v).length = n := by
  induction n generalizing v with
  | zero => rfl
  | succ n ih => simp [toLE, ih]

/-- Byte i of a little-endian number. -/
theorem getD_toLE {n i : Nat} (h : i < n) (v : Nat) : (toLE n v).getD i 0 = BitVec.ofNat 8 (v / 256 ^ i) := by
  induction n generalizing i v with
  | zero => omega
  | succ n ih =>
    cases i with
    | zero => simp [toLE]
    | succ i =>
      rw [toLE, List.getD_cons_succ, ih (by omega), Nat.div_div_eq_div_mul, ← Nat.pow_succ']

/-- Byte 4k + i of a string of words is byte i of word k. -/
theorem getD_flatMap_words (ws : List Word) (k : Nat) {i : Nat} (hi : i < 4) :
    (ws.flatMap fun w => toLE 4 w.toNat).getD (4 * k + i) 0 = BitVec.ofNat 8 ((ws.getD k 0).toNat / 256 ^ i) := by
  induction ws generalizing k with
  | nil => simp
  | cons w r ih =>
    rw [List.flatMap_cons]
    cases k with
    | zero =>
      rw [List.getD_append _ _ _ _ (by simp; omega), Nat.mul_zero, Nat.zero_add, getD_toLE hi, List.getD_cons_zero]
    | succ k =>
      have hk : 4 * (k + 1) + i - (toLE 4 w.toNat).length = 4 * k + i := by simp; omega
      rw [List.getD_append_right _ _ _ _ (by simp; omega), hk, ih, List.getD_cons_succ]

/-- Word k read back from the bytes of a string of words. -/
theorem leAt_words (ws : List Word) (k : Nat) :
    leAt (ws.flatMap fun w => toLE 4 w.toNat) (4 * k) 4 = (ws.getD k 0).toNat := by
  have hlt := (ws.getD k 0).isLt
  have hb (i : Nat) (hi : i < 4) := getD_flatMap_words ws k hi
  rw [leAt, bytesAt_eq]
  simp only [List.range_succ, List.range_zero, List.nil_append, List.cons_append, List.map_cons, List.map_nil,
    hb 0 (by decide), hb 1 (by decide), hb 2 (by decide), hb 3 (by decide), leNat, BitVec.toNat_ofNat]
  omega

/-- The lowest byte of a string of words. -/
theorem leAt_words_one (ws : List Word) :
    leAt (ws.flatMap fun w => toLE 4 w.toNat) 0 1 = (ws.getD 0 0).toNat % 256 := by
  have hb := getD_flatMap_words ws 0 (i := 0) (by decide)
  rw [leAt, bytesAt_eq]
  simp only [List.range_succ, List.range_zero, List.nil_append, List.map_cons, List.map_nil, hb, leNat,
    BitVec.toNat_ofNat]
  omega

end Sys2Proof

namespace Sys2Proof.Machine

/-! ### Registers written in a row -/

section
variable (addr : Nat → Nat) (val : Nat → Word) (l : List Nat) (s : State)

/-- The registers `addr j` written with `val j`, for each j of a list. -/
def State.setRegs : State := l.foldl (fun t j => t.setReg (addr j) (val j)) s

@[simp] theorem State.apart_setRegs : (s.setRegs addr val l).apart = s.apart :=
  State.apart_foldl _ (fun _ _ => State.apart_setReg _ _ _) l s

theorem State.reg_setRegs_ne {a : Nat} (h : ∀ j ∈ l, a ≠ addr j) : (s.setRegs addr val l).reg a = s.reg a := by
  induction l generalizing s with
  | nil => rfl
  | cons k r ih =>
    rw [List.forall_mem_cons] at h
    rw [State.setRegs, List.foldl_cons]
    exact (ih _ h.2).trans (State.reg_setReg_ne _ h.1 _)

theorem State.reg_setRegs_mem (hinj : Function.Injective addr) {j : Nat} (hj : j ∈ l) :
    (s.setRegs addr val l).reg (addr j) = val j := by
  induction l generalizing s with
  | nil => cases hj
  | cons k r ih =>
    rw [State.setRegs, List.foldl_cons]
    by_cases hr : j ∈ r
    · exact ih _ hr
    · obtain rfl : j = k := (List.mem_cons.1 hj).resolve_right hr
      refine (State.reg_setRegs_ne addr val r _ fun i hi he => hr ?_).trans (State.reg_setReg_self _ _ _)
      rwa [hinj he]

end

/-! ### The check of a commit (R56) -/

/-- Descriptors that do not overlap share no front port. -/
theorem pairwise_ports {l : List (List Byte)} (h : anyOverlap l = false) :
    l.Pairwise fun d e => leAt d 8 4 &&& leAt e 8 4 = 0 := by
  induction l with
  | nil => exact List.Pairwise.nil
  | cons d r ih =>
    rw [anyOverlap, Bool.or_eq_false_iff, List.any_eq_false] at h
    refine List.pairwise_cons.2 ⟨fun e he => ?_, ih h.2⟩
    have hp := h.1 e he
    simp only [Bool.or_eq_true, bne_iff_ne, ne_eq, not_or, not_not] at hp
    exact hp.1

/-- Two valid compartments among descriptors that do not overlap share no front port. -/
theorem validComps_ports {ds : Nat → List Byte} (h : anyOverlap (validComps ds) = false) {c c' : Nat} (hc : c < 8)
    (hc' : c' < 8) (hne : c ≠ c') (hv : descValid (ds (1 + c)) = true) (hv' : descValid (ds (1 + c')) = true) :
    leAt (ds (1 + c)) 8 4 &&& leAt (ds (1 + c')) 8 4 = 0 := by
  have hp := pairwise_ports h
  rw [validComps, List.pairwise_filter, List.pairwise_map, List.pairwise_iff_getElem] at hp
  have hlt {a b : Nat} (hab : a < b) (hb : b < 8) (ha : descValid (ds (1 + a)) = true)
      (hvb : descValid (ds (1 + b)) = true) : leAt (ds (1 + a)) 8 4 &&& leAt (ds (1 + b)) 8 4 = 0 := by
    have := hp a b (by simp; omega) (by simpa using hb) hab
    simp only [List.getElem_range] at this
    exact this ha hvb
  rcases Nat.lt_or_gt_of_ne hne with hab | hab
  · exact hlt hab hc' hv hv'
  · rw [Nat.land_comm]
    exact hlt hab hc hv' hv

theorem State.commitResult_le (s : State) (n i : Nat) (d : List Byte) : s.commitResult n i d ≤ 5 := by
  simp only [State.commitResult]
  repeat' split
  all_goals decide

/-- RESULT is OK: the descriptor exists and overlaps no other (R56). -/
theorem State.commitResult_eq_zero {s : State} {n i : Nat} {d : List Byte} (h : s.commitResult n i d = 0) :
    i ≤ 8 ∧ anyOverlap (validComps (s.descsWith n i d)) = false := by
  simp only [State.commitResult] at h
  split at h
  · exact absurd h (by decide)
  next hi =>
    split at h
    · exact absurd h (by decide)
    next ho =>
      rw [State.commitOverlaps, Bool.or_eq_true, Bool.or_eq_true, not_or, not_or] at ho
      exact ⟨by omega, Bool.eq_false_iff.2 ho.1.1⟩

/-! ### The descriptors in the registers (R55) -/

/-- The words of descriptor i of slice n. -/
def State.descWords (s : State) (n i : Nat) : List Word := (List.range 64).map fun j => s.reg (Reg.SLC_RIND_DESC n i j)

theorem State.descBytes_eq (s : State) (n i : Nat) :
    s.descBytes n i = (s.descWords n i).flatMap fun w => toLE 4 w.toNat := by
  rw [State.descBytes, State.descWords, List.flatMap_map]

theorem getD_map_range (f : Nat → Word) {j m : Nat} (hj : j < m) : ((List.range m).map f).getD j 0 = f j := by
  simp [hj]

theorem State.getD_descWords (s : State) (n i : Nat) {j : Nat} (hj : j < 64) :
    (s.descWords n i).getD j 0 = s.reg (Reg.SLC_RIND_DESC n i j) := by
  rw [State.descWords, getD_map_range _ hj]

/-- A descriptor's aligned word is its register's value. -/
theorem State.desc_word (s : State) (n i k : Nat) : s.desc n i (4 * k) 4 = (s.reg (Reg.SLC_RIND_DESC n i k)).toNat := by
  rw [State.desc, Nat.mul_div_cancel_left k (by decide), Nat.mul_mod_right]
  generalize s.reg (Reg.SLC_RIND_DESC n i k) = w
  rw [Nat.mul_zero, Nat.pow_zero, Nat.div_one]
  exact Nat.mod_eq_of_lt w.isLt

/-- A descriptor's first byte is its first register's low byte. -/
theorem State.desc_flags (s : State) (n i : Nat) : s.desc n i 0 1 = (s.reg (Reg.SLC_RIND_DESC n i 0)).toNat % 256 := by
  simp [State.desc]

/-! ### The end of a commit -/

/-- The check has ended with RESULT r (R56). -/
def State.commitEnd (s : State) (n r : Nat) : State :=
  ((s.setSlice n { s.slice n with commit := none }).setBit (Reg.SLC_RIND_CMD n) 30 false).setFld
    (Reg.SLC_RIND_CMD n) 29 27 r

/-- The descriptor takes effect whole (R58). -/
def State.takeDesc (s : State) (n i : Nat) (ws : List Word) : State :=
  (s.setRegs (Reg.SLC_RIND_DESC n i) (fun j => ws.getD j 0) (List.range 64)).noteCommit n i

theorem State.reg_noteCommit (s : State) (n i a : Nat) : (s.noteCommit n i).reg a = s.reg a := rfl
theorem State.slices_noteCommit (s : State) (n i : Nat) : (s.noteCommit n i).slices = s.slices := rfl

theorem execRindCommitDone_eq {s : State} {n : Fin 32} {i : Nat} {ws : List Word} {r : Nat}
    (h : (s.slice n).commit = some (i, ws)) (hr : s.commitResult n i (ws.flatMap fun w => toLE 4 w.toNat) = r) :
    execRindCommitDone n s = .next (if r = 0 then (s.commitEnd n r).takeDesc n i ws else s.commitEnd n r) := by
  rw [execRindCommitDone, h, ← hr]
  rfl

theorem execRindCommit_trusted {m : Master} (hm : m.trusted = true) {n : Fin 32} {s : State}
    (hb : s.bit (Reg.SLC_RIND_CMD n) 30 = false) (idx : Fin 16) :
    execRindCommit m n idx s = .next ((s.setBit (Reg.SLC_RIND_CMD n) 30 true).setSlice n { s.slice n with
      commit := some (idx.val, (List.range 64).map fun k => s.reg (Reg.SLC_RIND_STAGE n k)) }) := by
  cases m with
  | vf k => cases hm
  | pf => simp only [execRindCommit, hb, Bool.false_eq_true, if_false]
  | me k => simp only [execRindCommit, hb, Bool.false_eq_true, if_false]

section
variable (s : State) (n r i : Nat) (ws : List Word)

theorem State.commit_commitEnd : ((s.commitEnd n r).slice n).commit = none := by
  have h : (s.commitEnd n r).slices = (s.setSlice n { s.slice n with commit := none }).slices := rfl
  rw [State.slice, h, ← State.slice, State.slice_setSlice, if_pos rfl]

theorem State.busy_commitEnd : (s.commitEnd n r).bit (Reg.SLC_RIND_CMD n) 30 = false := by
  rw [State.commitEnd, State.bit_setFld_disjoint _ _ _ _ _ _ (by decide) (by decide),
    State.bit_setBit _ _ _ _ (by decide)]

theorem State.result_commitEnd (hr : r ≤ 5) : (s.commitEnd n r).fld (Reg.SLC_RIND_CMD n) 29 27 = r := by
  rw [State.commitEnd, State.fld_setFld _ _ _ _ _ (by decide)]
  omega

theorem State.reg_commitEnd_ne {a : Nat} (h : a ≠ Reg.SLC_RIND_CMD n) : (s.commitEnd n r).reg a = s.reg a := by
  rw [State.commitEnd, State.reg_setFld_ne _ h, State.reg_setBit_ne _ h, State.reg_setSlice]

theorem rindDesc_injective : Function.Injective (Reg.SLC_RIND_DESC n i) := by
  intro j k h
  simp only [Reg.SLC_RIND_DESC] at h
  omega

theorem State.reg_takeDesc_ne {a : Nat} (h : ∀ k : Fin 64, a ≠ Reg.SLC_RIND_DESC n i k) :
    (s.takeDesc n i ws).reg a = s.reg a := by
  rw [State.takeDesc, State.reg_noteCommit, State.reg_setRegs_ne _ _ _ s fun j hj => h ⟨j, List.mem_range.1 hj⟩]

theorem State.reg_takeDesc {j : Nat} (hj : j < 64) :
    (s.takeDesc n i ws).reg (Reg.SLC_RIND_DESC n i j) = ws.getD j 0 := by
  rw [State.takeDesc, State.reg_noteCommit,
    State.reg_setRegs_mem _ _ _ s (rindDesc_injective n i) (List.mem_range.2 hj)]

theorem State.slice_takeDesc (k : Nat) : (s.takeDesc n i ws).slice k = s.slice k := by
  rw [State.slice, State.takeDesc, State.slices_noteCommit, State.slices_of_apart (State.apart_setRegs _ _ _ s),
    State.slice]

/-- The descriptor put in place is the one the check judged: its words are those of the staged bytes. -/
theorem State.leAt_descsWith {t : State} {k j : Nat} (hj : j < 64)
    (h : t.reg (Reg.SLC_RIND_DESC n k j) = if k = i then ws.getD j 0 else s.reg (Reg.SLC_RIND_DESC n k j)) :
    leAt (s.descsWith n i (ws.flatMap fun w => toLE 4 w.toNat) k) (4 * j) 4 =
      (t.reg (Reg.SLC_RIND_DESC n k j)).toNat := by
  rw [h, State.descsWith]
  split
  · exact leAt_words ws j
  · rw [State.descBytes_eq, leAt_words, State.getD_descWords _ _ _ hj]

theorem State.flags_descsWith {t : State} {k : Nat}
    (h : t.reg (Reg.SLC_RIND_DESC n k 0) = if k = i then ws.getD 0 0 else s.reg (Reg.SLC_RIND_DESC n k 0)) :
    leAt (s.descsWith n i (ws.flatMap fun w => toLE 4 w.toNat) k) 0 1 = t.desc n k 0 1 := by
  rw [State.desc_flags, h, State.descsWith]
  split
  · exact leAt_words_one ws
  · rw [State.descBytes_eq, leAt_words_one, State.getD_descWords _ _ _ (by decide)]

end

/-- After an OK commit no two valid compartments share a front port (R55, R56). -/
theorem State.ports_takeDesc {s : State} {n i r : Nat} {ws : List Word} {c c' : Nat}
    (h : s.commitResult n i (ws.flatMap fun w => toLE 4 w.toNat) = 0) (hc : c < 8) (hc' : c' < 8) (hne : c ≠ c')
    (hv : ((s.commitEnd n r).takeDesc n i ws).compValid n c = true)
    (hv' : ((s.commitEnd n r).takeDesc n i ws).compValid n c' = true) :
    ((s.commitEnd n r).takeDesc n i ws).desc n (1 + c) 8 4 &&&
      ((s.commitEnd n r).takeDesc n i ws).desc n (1 + c') 8 4 = 0 := by
  obtain ⟨hi, ho⟩ := State.commitResult_eq_zero h
  generalize ht : (s.commitEnd n r).takeDesc n i ws = t at hv hv' ⊢
  have hreg {k j : Nat} (hk : k ≤ 8) (hj : j < 64) :
      t.reg (Reg.SLC_RIND_DESC n k j) = if k = i then ws.getD j 0 else s.reg (Reg.SLC_RIND_DESC n k j) := by
    rw [← ht]
    split
    next e =>
      subst e
      exact State.reg_takeDesc _ _ _ _ hj
    next e =>
      rw [State.reg_takeDesc_ne _ _ _ _ (fun q => by simp only [Reg.SLC_RIND_DESC]; omega),
        State.reg_commitEnd_ne _ _ _ (by simp only [Reg.SLC_RIND_DESC, Reg.SLC_RIND_CMD]; omega)]
  have hvalid {k : Nat} (hk : k < 8) (hv : t.compValid n k = true) :
      descValid (s.descsWith n i (ws.flatMap fun w => toLE 4 w.toNat) (1 + k)) = true := by
    rw [descValid, State.flags_descsWith s n i ws (hreg (by omega) (by decide))]
    exact hv
  have hport {k : Nat} (hk : k < 8) : t.desc n (1 + k) 8 4 =
      leAt (s.descsWith n i (ws.flatMap fun w => toLE 4 w.toNat) (1 + k)) 8 4 := by
    rw [t.desc_word n (1 + k) 2]
    exact (State.leAt_descsWith s n i ws (j := 2) (by decide) (hreg (by omega) (by decide))).symm
  rw [hport hc, hport hc']
  exact validComps_ports ho hc hc' hne (hvalid hc hv) (hvalid hc' hv')

/-! ### The quarantine's window and its end (R61) -/

theorem Store.read_mapVal {α β : Type} (d : α) (f : α → β) (m : Store α) (k : Nat) :
    Store.read (f d) (m.map fun e => (e.1, f e.2)) k = f (Store.read d m k) := by
  induction m with
  | nil => rfl
  | cons e r ih =>
    simp only [Store.read, List.map_cons, Store.at?] at ih ⊢
    split
    · rfl
    · exact ih

/-- The window ends for every compartment of every slice. -/
theorem execQuarantineWindowEnd_due {s : State} (h : s.vwinStart + 1000000 ≤ s.time.mono) :
    ∃ t, execQuarantineWindowEnd s = .next t ∧ (∀ n, (t.slice n).vwin = []) ∧ t.vwinStart = s.vwinStart + 1000000 ∧
      t.regs = s.regs := by
  refine ⟨_, if_pos h, fun n => ?_, rfl, rfl⟩
  exact congrArg Slice.vwin (Store.read_mapVal {} (fun x : Slice => { x with vwin := [] }) s.slices n)

end Sys2Proof.Machine

open Sys2Proof.Machine

/-- Settles O23: the commit's end writes RESULT and, on OK, the descriptor the check judged; what the check found holds
of the registers then. -/
theorem rindCommits : Obligations.RindCommits := by
  intro m n idx i ws j c c' q s
  refine ⟨fun hm hb => ⟨_, execRindCommit_trusted hm hb idx, ?_, ?_, fun a ha => ?_⟩, fun hcommit => ?_, fun hw => ?_,
    ?_⟩
  · rw [State.slice_setSlice, if_pos rfl]
  · rw [State.bit_of_reg (State.reg_setSlice _ _ _ _), State.bit_setBit _ _ _ _ (by decide)]
  · rw [State.reg_setSlice, State.reg_setBit_ne _ ha]
  · generalize hr : s.commitResult n i (ws.flatMap fun w => toLE 4 w.toNat) = r
    have hle : r ≤ 5 := hr ▸ s.commitResult_le n i _
    refine ⟨_, execRindCommitDone_eq hcommit hr, ?_⟩
    have hres := s.result_commitEnd n r hle
    split
    next h0 =>
      have hcmd : ((s.commitEnd n r).takeDesc n i ws).reg (Reg.SLC_RIND_CMD n) =
          (s.commitEnd n r).reg (Reg.SLC_RIND_CMD n) :=
        State.reg_takeDesc_ne _ _ _ _ fun k => by simp only [Reg.SLC_RIND_CMD, Reg.SLC_RIND_DESC]; omega
      rw [State.bit_of_reg hcmd, State.fld_of_reg hcmd, State.slice_takeDesc, hres]
      refine ⟨s.busy_commitEnd n r, s.commit_commitEnd n r, rfl, fun _ => ⟨State.reg_takeDesc _ _ _ _ j.isLt,
        fun hne hv hv' => State.ports_takeDesc (hr.trans h0) c.isLt c'.isLt (fun e => hne (Fin.ext e)) hv hv'⟩, ?_⟩
      intro a ha hor
      rw [State.reg_takeDesc_ne _ _ _ _ (hor.resolve_left (not_not.2 h0)), State.reg_commitEnd_ne _ _ _ ha]
    next h0 =>
      rw [hres]
      exact ⟨s.busy_commitEnd n r, s.commit_commitEnd n r, rfl, fun h => absurd h h0,
        fun a ha _ => State.reg_commitEnd_ne _ _ _ ha⟩
  · obtain ⟨t, ht, hv, hs, hr⟩ := execQuarantineWindowEnd_due hw
    exact ⟨t, ht, hv n, hs, hr⟩
  · have hlt : s.fld (Reg.SLC_RIND_STAT n) 31 24 &&& (255 - q.toNat) < 2 ^ 8 :=
      Nat.and_lt_two_pow _ (by omega)
    refine ⟨_, rfl, ?_, State.fld_setFld_disjoint _ _ _ _ _ _ _ (by decide) (by decide),
      fun a ha => State.reg_setFld_ne _ ha _ _ _⟩
    rw [State.fld_setFld _ _ _ _ _ (by decide)]
    exact Nat.mod_eq_of_lt hlt

end

section
/-!
What the release, or the drop, of a stored frame leaves alone (R197, R200, R209): the contexts, the slices, the queues
and the ports' outputs, and every register outside VAT_STAT, HOST_STAT and the telemetry block.
-/

open Sys2Proof

namespace Sys2Proof.Machine

/-- The state apart from what the rise of a status bit, a telemetry record and the release of a frame's cells touch. -/
def State.offVat (s : State) : State :=
  { s.apart with flt := {}, tele := {}, vat := { queues := s.vat.queues, out := s.vat.out } }

/-- A register that neither the release of a frame nor a telemetry record writes. -/
def offVatReg (a : Nat) : Prop := a ≠ Reg.VAT_STAT ∧ a ≠ Reg.HOST_STAT ∧ (a < 0x5000000 ∨ 0x6000000 ≤ a)

/-- `t` differs from `s` only in what the release or the drop of stored frames touches. -/
structure VatOnly (s t : State) : Prop where
  off : t.offVat = s.offVat
  reg : ∀ a, offVatReg a → t.reg a = s.reg a

namespace VatOnly

theorem refl (s : State) : VatOnly s s := ⟨rfl, fun _ _ => rfl⟩

theorem trans {s t u : State} (h : VatOnly s t) (h' : VatOnly t u) : VatOnly s u :=
  ⟨h'.off.trans h.off, fun a ha => (h'.reg a ha).trans (h.reg a ha)⟩

theorem of_apart {s t : State} (h : t.apart = s.apart) (hr : ∀ a, offVatReg a → t.reg a = s.reg a) : VatOnly s t :=
  ⟨(congrArg State.offVat h : t.apart.offVat = s.apart.offVat), hr⟩

variable {s t : State}

theorem ctxs (h : VatOnly s t) : t.ctxs = s.ctxs := (congrArg State.ctxs h.off : t.offVat.ctxs = s.offVat.ctxs)
theorem slices (h : VatOnly s t) : t.slices = s.slices :=
  (congrArg State.slices h.off : t.offVat.slices = s.offVat.slices)
theorem out (h : VatOnly s t) : t.vat.out = s.vat.out :=
  (congrArg (fun u => u.vat.out) h.off : t.offVat.vat.out = s.offVat.vat.out)
theorem queue (h : VatOnly s t) (q : Nat) : t.queue q = s.queue q :=
  (congrArg (fun u => u.queue q) h.off : t.offVat.queue q = s.offVat.queue q)

end VatOnly

theorem State.ctxs_count (s : State) (a : Nat) : (s.count a).ctxs = s.ctxs :=
  (congrArg State.ctxs (s.apart_count a) : (s.count a).apart.ctxs = s.apart.ctxs)

/-! ### The release of a frame (R197, R209) -/

theorem State.vatOnly_doubleFree (s : State) (cell : Nat) : VatOnly s (s.doubleFree cell) :=
  (VatOnly.of_apart (s.apart_raiseBit _ _) fun _ ha => s.reg_raiseBit_ne _ _ _ ha.1 ha.2.1).trans ⟨rfl, fun _ _ => rfl⟩

theorem State.vatOnly_setFrame (s : State) (f : Nat) (x : Frame) : VatOnly s (s.setFrame f x) := ⟨rfl, fun _ _ => rfl⟩

theorem State.vatOnly_setLink (s : State) (i : Nat) (w : Word) : VatOnly s (s.setLink i w) := ⟨rfl, fun _ _ => rfl⟩

theorem State.vatOnly_releaseCells (s : State) (l : List Nat) : VatOnly s (s.releaseCells l) := by
  induction l generalizing s with
  | nil => exact .refl s
  | cons _ r ih =>
    rw [State.releaseCells]
    split
    · exact (s.vatOnly_setLink _ _).trans (ih _)
    · exact (s.vatOnly_doubleFree _).trans (ih _)

theorem State.vatOnly_dropCells (s : State) (f : Nat) : VatOnly s (s.dropCells f) := by
  rw [State.dropCells]
  split
  · exact .refl s
  · exact (s.vatOnly_releaseCells _).trans (State.vatOnly_setFrame _ _ _)

theorem State.vatOnly_releaseFrame (s : State) (f : Nat) : VatOnly s (s.releaseFrame f) :=
  (s.vatOnly_dropCells f).trans ⟨rfl, fun _ _ => rfl⟩

theorem State.vatOnly_unref (s : State) (f : Nat) : VatOnly s (s.unref f) := by
  rw [State.unref]
  split
  · exact .refl s
  · split
    · exact s.vatOnly_doubleFree _
    · split
      · exact s.vatOnly_releaseFrame f
      · exact s.vatOnly_setFrame _ _

theorem State.vatOnly_settle (s : State) (f : Nat) : VatOnly s (s.settle f) := by
  rw [State.settle]
  split
  · exact .refl s
  · split
    · exact (s.vatOnly_setFrame _ _).trans (State.vatOnly_unref _ _)
    · exact .refl s

theorem State.vatOnly_resolved (s : State) (f : Nat) : VatOnly s (s.resolved f) := by
  rw [State.resolved]
  split
  · exact .refl s
  · exact (s.vatOnly_setFrame _ _).trans (State.vatOnly_settle _ _)

theorem State.vatOnly_noCopies (s : State) (f : Nat) : VatOnly s (s.noCopies f) :=
  (s.vatOnly_dropCells f).trans (State.vatOnly_resolved _ _)

/-! ### Telemetry records (R307, R309, R310) -/

theorem satBitOf_teleCnt {k : Nat} (hk : k < 16) : satBitOf (Reg.TELE_CNT k) = none := by
  interval_cases k <;> rfl

theorem State.vatOnly_teleCount (s : State) {k : Nat} (hk : k < 16) (n : Nat) : VatOnly s (s.teleCount k n) := by
  refine .of_apart (s.apart_countFld _ _ _ _) fun a ha => s.reg_countFld_ne _ _ _ _ _ ?_ ha.2.1 ?_
  · have := ha.2.2
    simp only [Reg.TELE_CNT]
    omega
  · rw [satBitOf_teleCnt hk]
    simp

theorem State.vatOnly_setCol (s : State) (j : Nat) (x : PostCol) : VatOnly s (s.setCol j x) := ⟨rfl, fun _ _ => rfl⟩

theorem State.vatOnly_queueToStore (s : State) (src : Nat) (f : Frame) : VatOnly s (s.queueToStore src f) :=
  ⟨rfl, fun _ _ => rfl⟩

theorem State.vatOnly_sendCollector (s : State) (j : Nat) : VatOnly s (s.sendCollector j) := by
  rw [State.sendCollector]
  extract_lets
  split
  · exact .refl s
  · refine ((s.vatOnly_setCol _ _).trans (State.vatOnly_queueToStore _ _ _)).trans (State.vatOnly_teleCount _ ?_ _)
    decide

theorem State.vatOnly_postcard (s : State) (j kind : Nat) (f : Frame) (out queue code eepoch qdelay qdepth : Nat) :
    VatOnly s (s.postcard j kind f out queue code eepoch qdelay qdepth) := by
  have hc (x : PostCol) {k : Nat} (hk : k < 16) : VatOnly s ((s.setCol j x).teleCount k 1) :=
    (s.vatOnly_setCol j x).trans (State.vatOnly_teleCount _ hk _)
  rw [State.postcard]
  extract_lets
  split
  · split
    · exact (hc _ (by decide)).trans (State.vatOnly_sendCollector _ _)
    · exact hc _ (by decide)
  · exact hc _ (by decide)

theorem State.vatOnly_dropVat (s : State) (f : Frame) (out queue row eepoch : Nat) :
    VatOnly s (s.dropVat f out queue row eepoch) := by
  rw [State.dropVat]
  split
  · exact s.vatOnly_postcard _ _ _ _ _ _ _ _ _
  · exact .refl s

end Sys2Proof.Machine

end

section
/-!
The bank swap (R72 to R77) and the drain swap (R78 to R80) of a slice.
-/

open Sys2Proof

namespace Sys2Proof.Machine

/-! ### Slices and banks -/

theorem State.slice_of_slices {s t : State} (h : t.slices = s.slices) (n : Nat) : t.slice n = s.slice n := by
  rw [State.slice, h, State.slice]

@[simp] theorem Slice.shadow_setShadow (x : Slice) (b : Bank) : (x.setShadow b).shadow = b := by
  cases x with | mk _ _ act => cases act <;> rfl

@[simp] theorem Slice.active_setShadow (x : Slice) (b : Bank) : (x.setShadow b).active = x.active := by
  cases x with | mk _ _ act => cases act <;> rfl

@[simp] theorem Slice.activeB_setShadow (x : Slice) (b : Bank) : (x.setShadow b).activeB = x.activeB := by
  cases x with | mk _ _ act => cases act <;> rfl

/-- The banks trade places. -/
theorem Slice.active_flip (x : Slice) (d : NatSet) : ({ x with activeB := !x.activeB, dead := d } : Slice).active =
    x.shadow := by
  cases x with | mk _ _ act => cases act <;> rfl

theorem Slice.shadow_flip (x : Slice) (d : NatSet) : ({ x with activeB := !x.activeB, dead := d } : Slice).shadow =
    x.active := by
  cases x with | mk _ _ act => cases act <;> rfl

/-! ### The registers of the swap are distinct -/

theorem epoch_ne_bsStat (n : Nat) : Reg.SLC_EPOCH n ≠ Reg.SLC_BS_STAT n := by
  simp only [Reg.SLC_EPOCH, Reg.SLC_BS_STAT]; omega
theorem epoch_ne_csProt (n : Nat) : Reg.SLC_EPOCH n ≠ Reg.SLC_CS_PROT n := by
  simp only [Reg.SLC_EPOCH, Reg.SLC_CS_PROT]; omega
theorem epoch_ne_stgStat (n : Nat) : Reg.SLC_EPOCH n ≠ Reg.SLC_STG_STAT n := by
  simp only [Reg.SLC_EPOCH, Reg.SLC_STG_STAT]; omega
theorem epoch_ne_hostStat (n : Nat) : Reg.SLC_EPOCH n ≠ Reg.HOST_STAT := by
  simp only [Reg.SLC_EPOCH, Reg.HOST_STAT]; omega
theorem bsStat_ne_hostStat (n : Nat) : Reg.SLC_BS_STAT n ≠ Reg.HOST_STAT := by
  simp only [Reg.SLC_BS_STAT, Reg.HOST_STAT]; omega

/-! ### The loader -/

theorem State.slice_setLoader (s : State) (n : Nat) (l : Loader) :
    (s.setLoader n l).slice n = { s.slice n with loader := l } := by
  rw [State.setLoader, State.slice_setSlice, if_pos rfl]

theorem State.loader_setLoader (s : State) (n : Nat) (l : Loader) : (s.setLoader n l).loader n = l := by
  rw [State.loader, State.slice_setLoader]

theorem State.reg_setLoader (s : State) (n : Nat) (l : Loader) (a : Nat) : (s.setLoader n l).reg a = s.reg a := rfl

theorem State.ldState_of_reg {s t : State} {n : Nat} (h : t.reg (Reg.SLC_BS_STAT n) = s.reg (Reg.SLC_BS_STAT n)) :
    t.ldState n = s.ldState n := State.fld_of_reg h _ _

theorem State.curEpoch_of_reg {s t : State} {n : Nat} (h : t.reg (Reg.SLC_EPOCH n) = s.reg (Reg.SLC_EPOCH n)) :
    t.curEpoch n = s.curEpoch n := State.fld_of_reg h _ _

theorem State.ldState_setLdState (s : State) (n : Nat) {v : Nat} (hv : v < 16) : (s.setLdState n v).ldState n = v := by
  rw [State.ldState, State.setLdState, State.fld_setFld _ _ _ _ _ (by decide)]
  exact Nat.mod_eq_of_lt hv

theorem State.reg_setLdState_ne (s : State) {n a : Nat} (h : a ≠ Reg.SLC_BS_STAT n) (v : Nat) :
    (s.setLdState n v).reg a = s.reg a := State.reg_setFld_ne _ h _ _ _

section
variable (s : State) (n code frame : Nat)

theorem State.slices_ldDone : (s.ldDone n code frame).slices = s.slices := by
  rw [State.ldDone, State.slices_of_apart (State.apart_raiseBit _ _ _), State.slices_setFld, State.slices_setFld]

theorem State.reg_ldDone_ne {a : Nat} (h : a ≠ Reg.SLC_BS_STAT n) (hh : a ≠ Reg.HOST_STAT) :
    (s.ldDone n code frame).reg a = s.reg a := by
  rw [State.ldDone, State.reg_raiseBit_ne _ _ _ _ h hh, State.reg_setFld_ne _ h, State.reg_setFld_ne _ h]

theorem State.done_ldDone : (s.ldDone n code frame).bit (Reg.SLC_BS_STAT n) 15 = true :=
  State.bit_raiseBit _ _ _ (bsStat_ne_hostStat n) (by decide)

theorem State.ldState_ldDone : (s.ldDone n code frame).ldState n = s.ldState n := by
  rw [State.ldState, State.ldDone, State.fld_raiseBit_disjoint _ (bsStat_ne_hostStat n) (by decide),
    State.fld_setFld_disjoint _ _ _ _ _ _ _ (by decide) (by decide),
    State.fld_setFld_disjoint _ _ _ _ _ _ _ (by decide) (by decide), State.ldState]

theorem State.code_ldDone : (s.ldDone n code frame).fld (Reg.SLC_BS_STAT n) 23 16 = code % 256 := by
  rw [State.ldDone, State.fld_raiseBit_disjoint _ (bsStat_ne_hostStat n) (by decide),
    State.fld_setFld_disjoint _ _ _ _ _ _ _ (by decide) (by decide), State.fld_setFld _ _ _ _ _ (by decide)]
  rfl

theorem State.slice_ldEnd : (s.ldEnd n code frame).slice n = { s.slice n with loader := {} } := by
  rw [State.ldEnd, State.slice_of_slices (State.slices_ldDone _ _ _ _), State.setLdState,
    State.slice_of_slices (State.slices_setFld _ _ _ _ _), State.slice_setLoader]

theorem State.ldState_ldEnd : (s.ldEnd n code frame).ldState n = 0 := by
  rw [State.ldEnd, State.ldState_ldDone, State.ldState_setLdState _ _ (by decide)]

theorem State.done_ldEnd : (s.ldEnd n code frame).bit (Reg.SLC_BS_STAT n) 15 = true := State.done_ldDone _ _ _ _

theorem State.code_ldEnd : (s.ldEnd n code frame).fld (Reg.SLC_BS_STAT n) 23 16 = code % 256 :=
  State.code_ldDone _ _ _ _

theorem State.reg_ldEnd_ne {a : Nat} (h : a ≠ Reg.SLC_BS_STAT n) (hh : a ≠ Reg.HOST_STAT) :
    (s.ldEnd n code frame).reg a = s.reg a := by
  rw [State.ldEnd, State.reg_ldDone_ne _ _ _ _ h hh, State.reg_setLdState_ne _ h, State.reg_setLoader]

end

/-! ### The switch of the banks (R73) -/

/-- A slice whose shadow has become active under epoch e. -/
def Slice.switched (x : Slice) (e : Nat) : Slice :=
  { x.setShadow { x.shadow with epoch := e } with activeB := !x.activeB, dead := NatSet.drop x.dead e }

section
variable (x : Slice) (e : Nat)

theorem Slice.active_switched : (x.switched e).active = { x.shadow with epoch := e } := by
  have h := (x.setShadow { x.shadow with epoch := e }).active_flip (NatSet.drop x.dead e)
  rwa [Slice.activeB_setShadow, Slice.shadow_setShadow] at h

theorem Slice.shadow_switched : (x.switched e).shadow = x.active := by
  have h := (x.setShadow { x.shadow with epoch := e }).shadow_flip (NatSet.drop x.dead e)
  rwa [Slice.activeB_setShadow, Slice.active_setShadow] at h

theorem Slice.dead_switched : e ∉ (x.switched e).dead := fun h => ((NatSet.mem_drop _ _ _).1 h).2 rfl

end

theorem State.slice_switchBanks (s : State) (n : Nat) : (s.switchBanks n).slice n =
    (s.slice n).switched (s.nextEpoch n) := by
  have h : (s.switchBanks n).slices = (s.setSlice n ((s.slice n).switched (s.nextEpoch n))).slices := by
    rw [State.switchBanks]
    extract_lets
    rfl
  rw [State.slice_of_slices h, State.slice_setSlice, if_pos rfl]

theorem State.curEpoch_switchBanks (s : State) (n : Nat) : (s.switchBanks n).curEpoch n = (s.curEpoch n + 1) % 16 := by
  rw [State.switchBanks]
  extract_lets
  rw [State.curEpoch_of_reg ((State.reg_setBit_ne _ (epoch_ne_stgStat n) _ _).trans
    (State.reg_setBit_ne _ (epoch_ne_csProt n) _ _)), State.curEpoch, State.fld_setFld _ _ _ _ _ (by decide)]
  exact Nat.mod_mod _ _

theorem State.isDead_iff (s : State) (n e : Nat) : s.isDead n e = true ↔ e ∈ (s.slice n).dead := by
  simp [State.isDead]

theorem State.slices_noteFullSwap (s : State) (n : Nat) : (s.noteFullSwap n).slices = s.slices := by
  rw [State.noteFullSwap]
  extract_lets
  split
  · rfl
  · rfl

theorem State.reg_noteFullSwap (s : State) (n a : Nat) : (s.noteFullSwap n).reg a = s.reg a := by
  rw [State.noteFullSwap]
  extract_lets
  split
  · rfl
  · rfl

theorem State.slice_markDead (s : State) (n e : Nat) :
    (s.markDead n e).slice n = { s.slice n with dead := NatSet.add (s.slice n).dead e } := by
  rw [State.markDead, State.slice_setSlice, if_pos rfl]

theorem State.reg_markDead (s : State) (n e a : Nat) : (s.markDead n e).reg a = s.reg a := rfl

theorem State.isDead_markDead (s : State) (n e : Nat) : (s.markDead n e).isDead n e = true := by
  rw [State.isDead_iff, State.slice_markDead]
  exact (NatSet.mem_add _ _ _).2 (.inl rfl)

/-! ### The commands of the swap -/

/-- The old epoch's retirement is under way since `now` (R73, R75). -/
def State.retiring (s : State) (n old now : Nat) : State :=
  (((s.setLoader n { since := now }).setLdState n 7).setFld (Reg.SLC_EPOCH n) 27 24 old).setBit
    (Reg.SLC_EPOCH n) 23 true

theorem execEpochSwitch_go {s : State} {n : Fin 32} (h : s.ldState n = 5) (hd : (s.loader n).drain = false)
    (hg : s.swapMayGo n = true) :
    ∃ t : State, execEpochSwitch n s = .next (t.retiring n (s.curEpoch n) s.time.mono) ∧
      t.slice n = (s.slice n).switched (s.nextEpoch n) ∧ t.curEpoch n = (s.curEpoch n + 1) % 16 := by
  refine ⟨(s.switchBanks n).noteFullSwap n, ?_, ?_, ?_⟩
  · rw [execEpochSwitch, if_pos (by simp [h, hd, hg])]
    rfl
  · rw [State.slice_of_slices (State.slices_noteFullSwap _ _), State.slice_switchBanks]
  · rw [State.curEpoch_of_reg (State.reg_noteFullSwap _ _ _), State.curEpoch_switchBanks]

section
variable (s : State) (n old now : Nat)

theorem State.slice_retiring : (s.retiring n old now).slice n = { s.slice n with loader := { since := now } } := by
  have h : (s.retiring n old now).slices = (s.setLoader n { since := now }).slices := rfl
  rw [State.slice_of_slices h, State.slice_setLoader]

theorem State.curEpoch_retiring : (s.retiring n old now).curEpoch n = s.curEpoch n := by
  rw [State.curEpoch, State.retiring, State.setBit, State.fld_setFld_disjoint _ _ _ _ _ _ _ (by decide) (by decide),
    State.fld_setFld_disjoint _ _ _ _ _ _ _ (by decide) (by decide), ← State.curEpoch,
    State.curEpoch_of_reg (State.reg_setLdState_ne _ (epoch_ne_bsStat n) _),
    State.curEpoch_of_reg (State.reg_setLoader _ _ _ _)]

theorem State.old_retiring : (s.retiring n old now).fld (Reg.SLC_EPOCH n) 27 24 = old % 16 := by
  rw [State.retiring, State.setBit, State.fld_setFld_disjoint _ _ _ _ _ _ _ (by decide) (by decide),
    State.fld_setFld _ _ _ _ _ (by decide)]
  rfl

theorem State.busy_retiring : (s.retiring n old now).bit (Reg.SLC_EPOCH n) 23 = true :=
  State.bit_setBit _ _ _ _ (by decide)

theorem State.ldState_retiring : (s.retiring n old now).ldState n = 7 := by
  rw [State.retiring, State.ldState_of_reg ((State.reg_setBit_ne _ (epoch_ne_bsStat n).symm _ _).trans
    (State.reg_setFld_ne _ (epoch_ne_bsStat n).symm _ _ _)), State.ldState_setLdState _ _ (by decide)]

end

theorem fieldOf_lt (w : Word) (hi lo : Nat) : fieldOf w hi lo < 2 ^ (hi + 1 - lo) :=
  Nat.mod_lt _ (Nat.two_pow_pos _)

theorem State.curEpoch_lt (s : State) (n : Nat) : s.curEpoch n < 16 := fieldOf_lt _ 31 28

/-- The state once the old bank is retired (R75). -/
def State.retired (s : State) (n : Nat) : State :=
  (s.setSlice n ((s.slice n).setShadow {})).setBit (Reg.SLC_EPOCH n) 23 false

theorem execBankRetire_ready {s : State} {n : Fin 32} (h : s.ldState n = 7) (hr : s.retireReady n = true) :
    execBankRetire n s =
      .next ((s.retired n).ldEnd n (s.fld (Reg.SLC_BS_STAT n) 23 16) (s.fld (Reg.SLC_BS_STAT n) 11 0)) := by
  simp only [execBankRetire, h, hr]
  rfl

theorem State.slice_retired (s : State) (n : Nat) : (s.retired n).slice n = (s.slice n).setShadow {} := by
  rw [State.retired, State.slice_of_slices (State.slices_setBit _ _ _ _), State.slice_setSlice, if_pos rfl]

theorem State.curEpoch_retired (s : State) (n : Nat) : (s.retired n).curEpoch n = s.curEpoch n := by
  rw [State.curEpoch, State.retired, State.setBit, State.fld_setFld_disjoint _ _ _ _ _ _ _ (by decide) (by decide),
    State.fld_of_reg (State.reg_setSlice _ _ _ _), State.curEpoch]

theorem State.busy_retired (s : State) (n : Nat) : (s.retired n).bit (Reg.SLC_EPOCH n) 23 = false :=
  State.bit_setBit _ _ _ _ (by decide)

/-- What the timeout of a retirement leaves: RETIRE_LATE set and, with AUTO_FORCE, the old epoch dead (R77). -/
def State.retireLate (s : State) (n : Nat) : State :=
  if s.bit (Reg.SLC_EPOCH_CFG n) 0 then (s.setBit (Reg.SLC_EPOCH n) 22 true).markDead n (s.fld (Reg.SLC_EPOCH n) 27 24)
  else s.setBit (Reg.SLC_EPOCH n) 22 true

theorem execRetireTimeout_due {s : State} {n : Fin 32} (h : s.ldState n = 7)
    (hd : (s.loader n).since + us (max 1 (s.fld (Reg.SLC_EPOCH_CFG n) 31 16)) ≤ s.time.mono) :
    execRetireTimeout n s = .next (s.retireLate n) := by
  simp only [execRetireTimeout, h, hd, decide_true, State.retireLate]
  rfl

theorem State.reg_retireLate (s : State) (n a : Nat) : (s.retireLate n).reg a =
    (s.setBit (Reg.SLC_EPOCH n) 22 true).reg a := by
  rw [State.retireLate]
  split
  · exact State.reg_markDead _ _ _ _
  · rfl

end Sys2Proof.Machine

open Sys2Proof.Machine

/-- Settles O27: each command's guard holds, and its writes are read back. -/
theorem epochSwaps : Obligations.EpochSwaps := by
  intro n s
  refine ⟨fun h hd hg => ?_, fun h hr => ⟨_, execBankRetire_ready h hr, ?_⟩,
    fun h hd => ⟨_, execRetireTimeout_due h hd, ?_⟩⟩
  · obtain ⟨t, ht, hslice, hcur⟩ := execEpochSwitch_go h hd hg
    refine ⟨_, ht, ?_, State.ldState_retiring _ _ _ _, ?_, ?_, ?_, ?_, State.busy_retiring _ _ _ _, ?_⟩
    · rw [State.curEpoch_retiring, hcur]
    · rw [State.slice_retiring, hslice]
      rfl
    · rw [State.slice_retiring, hslice]
      exact Slice.active_switched _ _
    · rw [State.slice_retiring, hslice]
      exact Slice.shadow_switched _ _
    · rw [State.old_retiring]
      exact Nat.mod_eq_of_lt (s.curEpoch_lt n)
    · rw [Bool.eq_false_iff, ne_eq, State.isDead_iff, State.slice_retiring, hslice]
      exact Slice.dead_switched _ _
  · refine ⟨State.ldState_ldEnd _ _ _ _, ?_, ?_, ?_, ?_, State.done_ldEnd _ _ _ _⟩
    · rw [State.slice_ldEnd, State.slice_retired]
      exact Slice.shadow_setShadow _ _
    · rw [State.slice_ldEnd, State.slice_retired]
      exact Slice.active_setShadow _ _
    · rw [State.curEpoch_of_reg (State.reg_ldEnd_ne _ _ _ _ (epoch_ne_bsStat n) (epoch_ne_hostStat n)),
        State.curEpoch_retired]
    · rw [State.bit_of_reg (State.reg_ldEnd_ne _ _ _ _ (epoch_ne_bsStat n) (epoch_ne_hostStat n)), State.busy_retired]
  · refine ⟨?_, ?_, fun hforce => ?_, fun a ha => ?_⟩
    · rw [State.bit_of_reg (s.reg_retireLate _ _), State.bit_setBit _ _ _ _ (by decide)]
    · rw [State.ldState_of_reg ((s.reg_retireLate _ _).trans (State.reg_setBit_ne _ (epoch_ne_bsStat n).symm _ _)), h]
    · rw [State.retireLate, if_pos hforce, State.isDead_markDead]
    · rw [State.reg_retireLate, State.reg_setBit_ne _ ha]

end

section
/-!
The drain swap of a slice (R78 to R80).
-/

open Sys2Proof

namespace Sys2Proof

theorem Store.ne_of_mem_del {α : Type} {m : Store α} {k : Nat} {e : Nat × α} (h : e ∈ Store.del m k) :
    e ∈ m ∧ e.1 ≠ k := by
  simpa [Store.del] using h

theorem Store.ne_of_at?_eq_none {α : Type} {m : Store α} {k : Nat} (h : Store.at? m k = none) {e : Nat × α}
    (he : e ∈ m) : e.1 ≠ k := by
  induction m with
  | nil => cases he
  | cons d r ih =>
    rw [Store.at?] at h
    split at h
    · cases h
    next hk =>
      obtain rfl | hr := List.mem_cons.1 he
      · exact hk
      · exact ih h hr

end Sys2Proof

namespace Sys2Proof.Machine

/-! ### The ports' states (R246) -/

theorem State.slices_foldl {β : Type} (f : State → β → State) (hf : ∀ t x, (f t x).slices = t.slices) (l : List β)
    (s : State) : (l.foldl f s).slices = s.slices := by
  induction l generalizing s with
  | nil => rfl
  | cons x r ih => rw [List.foldl_cons, ih, hf]

theorem State.slices_drainPorts (s : State) (n a b : Nat) : (s.drainPorts n a b).slices = s.slices := by
  refine State.slices_foldl _ (fun t i => ?_) _ _
  split
  · rfl
  · rfl

/-- A register below the ports'. -/
theorem State.reg_drainPorts {a : Nat} (ha : a < 0x0E000000) (s : State) (n i j : Nat) :
    (s.drainPorts n i j).reg a = s.reg a := by
  refine State.reg_foldl _ _ (fun t k => ?_) _ _
  split
  · exact State.reg_setFld_ne _ (by simp only [Reg.PORT_STAT]; omega) _ _ _
  · rfl

theorem bsStat_lt (n : Fin 32) : Reg.SLC_BS_STAT n < 0x0E000000 := by
  simp only [Reg.SLC_BS_STAT]; omega

/-! ### Frames discarded from the pipes (R79) -/

/-- A frame dropped in its pipe leaves it, and no other enters. -/
theorem State.mem_ctxs_dropCtx {s : State} {c : Nat} {e : Nat × Ctx} (h : e ∈ (s.dropCtx c).ctxs) :
    e ∈ s.ctxs ∧ e.1 ≠ c := by
  rw [State.dropCtx] at h
  split at h
  next hc => exact ⟨h, Store.ne_of_at?_eq_none hc h⟩
  next x _ =>
    refine Store.ne_of_mem_del ?_
    split at h
    · rwa [(State.vatOnly_noCopies _ _).ctxs] at h
    · rwa [(State.vatOnly_unref _ _).ctxs] at h

theorem State.mem_ctxs_foldl_dropCtx {ctr : Nat} {l : List Nat} {s : State} {e : Nat × Ctx}
    (h : e ∈ (l.foldl (fun t c => (t.dropCtx c).count ctr) s).ctxs) : e ∈ s.ctxs ∧ e.1 ∉ l := by
  induction l generalizing s with
  | nil => exact ⟨h, List.not_mem_nil⟩
  | cons c r ih =>
    obtain ⟨hm, hr⟩ := ih h
    rw [State.ctxs_count] at hm
    obtain ⟨hs, hc⟩ := State.mem_ctxs_dropCtx hm
    exact ⟨hs, fun hl => (List.mem_cons.1 hl).elim hc hr⟩

theorem State.ctxsOf_discardPipes (s : State) (n ctr : Nat) : (s.discardPipes n ctr).ctxsOf n = [] := by
  rw [State.ctxsOf, List.map_eq_nil_iff, List.filter_eq_nil_iff]
  intro e he hn
  obtain ⟨hs, hne⟩ := State.mem_ctxs_foldl_dropCtx he
  exact hne (List.mem_map.2 ⟨e, List.mem_filter.2 ⟨hs, hn⟩, rfl⟩)

/-! ### The commands of the drain swap -/

section
variable {s : State} {n : Fin 32}

/-- The loader as a drain starts (R78). -/
def State.drainLoader (s : State) (n : Nat) : Loader :=
  { s.loader n with
    phase := .pipes, since := s.time.mono, preEpoch := s.curEpoch n, preNoref := s.bit (Reg.SLC_CS_PROT n) 3 }

theorem execDrainStart_go (h : s.ldState n = 5) (hd : (s.loader n).drain = true) (hg : s.swapMayGo n = true) :
    execDrainStart n s = .next (((s.setLoader n (s.drainLoader n)).setLdState n 6).drainPorts n 2 4) :=
  if_pos (by simp [h, hd, hg])

theorem execDrainPipesDone_empty (h : (s.loader n).phase = .pipes) (he : s.ctxsOf n = []) :
    execDrainPipesDone n s = .next (s.setLoader n { s.loader n with phase := .switching }) :=
  if_pos ⟨h, he⟩

theorem execDrainBoundReached_due (h : (s.loader n).phase = .pipes) (hb : (s.loader n).since + us 80 ≤ s.time.mono) :
    execDrainBoundReached n s =
      .next ((s.discardPipes n (Reg.SLC_DRAIN_DROP n)).setLoader n { s.loader n with phase := .switching }) :=
  if_pos ⟨h, hb⟩

theorem execDrainSwitchDone_switching (h : (s.loader n).phase = .switching) :
    execDrainSwitchDone n s =
      .next (((s.switchBanks n).markDead n (s.loader n).preEpoch).setLoader n { s.loader n with phase := .check }) :=
  if_pos h

theorem execContinuityCheckDone_passed (h : (s.loader n).phase = .check) :
    execContinuityCheckDone n none s = .next ((s.noteFullSwap n).drainEnd n 0) :=
  if_pos h

/-- The banks and the epoch of before the drain, with the loader waiting for their check (R80). -/
def State.reverting (s : State) (n : Nat) : State :=
  (s.revertBanks n (s.loader n).preEpoch).setLoader n { s.loader n with phase := .revert, claimPassed := false }

/-- The fault of a failed continuity check names the pipe's stage and the tile that ends the path (R80). -/
def State.contFault (s : State) (n : Nat) (p : TilePath) : State :=
  s.drawWord.2.reportFault (stageSrc n p.pipe.val (min p.stage 31)) .cont
    (if p.action then .actionTile else .matchTile) (p.action.toNat + 256 * p.tile) s.drawWord.1.toNat

theorem execContinuityCheckDone_failed (h : (s.loader n).phase = .check) (p : TilePath) :
    execContinuityCheckDone n (some p) s = .next ((s.reverting n).contFault n p) :=
  if_pos h

theorem execRevertCheckDone_revert (h : (s.loader n).phase = .revert) :
    execRevertCheckDone n s = .next (s.drainEnd n 0x16) := if_pos h

end

/-! ### The end of a drain and the reverted banks -/

section
variable (s : State) (n : Fin 32) (code : Nat)

theorem State.slice_drainEnd : (s.drainEnd n code).slice n = { (s.slice n).setShadow {} with loader := {} } := by
  rw [State.drainEnd, State.slice_of_slices (State.slices_drainPorts _ _ _ _), State.slice_ldEnd, State.slice_setSlice,
    if_pos rfl]

theorem State.ldState_drainEnd : (s.drainEnd n code).ldState n = 0 := by
  rw [State.drainEnd, State.ldState_of_reg (State.reg_drainPorts (bsStat_lt n) _ _ _ _), State.ldState_ldEnd]

theorem State.code_drainEnd : (s.drainEnd n code).fld (Reg.SLC_BS_STAT n) 23 16 = code % 256 := by
  rw [State.drainEnd, State.fld_of_reg (State.reg_drainPorts (bsStat_lt n) _ _ _ _), State.code_ldEnd]

theorem State.shadow_drainEnd : ((s.drainEnd n code).slice n).shadow = {} := by
  rw [State.slice_drainEnd]
  exact Slice.shadow_setShadow _ _

theorem State.phase_drainEnd : ((s.drainEnd n code).loader n).phase = .none := by
  rw [State.loader, State.slice_drainEnd]

theorem State.activeB_revertBanks (pre : Nat) : ((s.revertBanks n pre).slice n).activeB = !(s.slice n).activeB := by
  have h : (s.revertBanks n pre).slices =
      (s.setSlice n { s.slice n with
        activeB := !(s.slice n).activeB, dead := NatSet.drop (s.slice n).dead pre }).slices := rfl
  rw [State.slice_of_slices h, State.slice_setSlice, if_pos rfl]

theorem State.curEpoch_revertBanks (pre : Nat) : (s.revertBanks n pre).curEpoch n = pre % 16 := by
  rw [State.revertBanks, State.curEpoch_of_reg ((State.reg_setBit_ne _ (epoch_ne_csProt n) _ _).trans
    (State.reg_setBit_ne _ (epoch_ne_stgStat n) _ _)), State.curEpoch, State.fld_setFld _ _ _ _ _ (by decide)]
  rfl

theorem State.activeB_reverting : ((s.reverting n).slice n).activeB = !(s.slice n).activeB := by
  rw [State.reverting, State.slice_setLoader, State.activeB_revertBanks]

theorem State.loader_reverting : (s.reverting n).loader n =
    { s.loader n with phase := .revert, claimPassed := false } := by
  rw [State.reverting, State.loader_setLoader]

theorem State.curEpoch_reverting : (s.reverting n).curEpoch n = (s.loader n).preEpoch % 16 := by
  rw [State.reverting, State.curEpoch_of_reg (State.reg_setLoader _ _ _ _), State.curEpoch_revertBanks]

theorem State.flt_reverting : (s.reverting n).flt = s.flt := by
  rw [State.reverting, State.setLoader, State.flt_setSlice, State.revertBanks, State.flt_setBit, State.flt_setBit,
    State.flt_setFld, State.flt_setSlice]

theorem State.slices_contFault (p : TilePath) : (s.contFault n p).slices = s.slices := rfl

theorem State.reg_contFault (p : TilePath) (a : Nat) : (s.contFault n p).reg a = s.reg a := rfl

theorem State.reports_contFault (p : TilePath) : (s.contFault n p).flt.reports = s.flt.reports ++
    [⟨stageSrc n p.pipe.val (min p.stage 31), .cont, if p.action then .actionTile else .matchTile,
      p.action.toNat + 256 * p.tile, s.drawWord.1.toNat, s.time.mono⟩] := rfl

end

end Sys2Proof.Machine

open Sys2Proof.Machine

/-- Settles O28: one command a step, from the guard its loader's phase gives. -/
theorem drainSwaps : Obligations.DrainSwaps := by
  intro n p s
  refine ⟨fun h hd hg => ⟨_, execDrainStart_go h hd hg, ?_⟩,
    fun h => ⟨fun he => execDrainPipesDone_empty h he, fun hb => ⟨_, execDrainBoundReached_due h hb, ?_, ?_⟩⟩,
    fun h => ⟨_, execDrainSwitchDone_switching h, ?_⟩,
    fun h => ⟨⟨_, execContinuityCheckDone_passed h, State.ldState_drainEnd _ _ _, State.phase_drainEnd _ _ _,
      State.code_drainEnd _ _ _, State.shadow_drainEnd _ _ _⟩, _, execContinuityCheckDone_failed h p, ?_⟩,
    fun h => ⟨_, execRevertCheckDone_revert h, State.ldState_drainEnd _ _ _, State.code_drainEnd _ _ _,
      State.shadow_drainEnd _ _ _⟩⟩
  · have hl : (((s.setLoader n (s.drainLoader n)).setLdState n 6).drainPorts n 2 4).loader n = s.drainLoader n := by
      rw [State.loader, State.slice_of_slices (State.slices_drainPorts _ _ _ _), State.setLdState,
        State.slice_of_slices (State.slices_setFld _ _ _ _ _), ← State.loader, State.loader_setLoader]
    rw [hl, State.ldState_of_reg (State.reg_drainPorts (bsStat_lt n) _ _ _ _), State.ldState_setLdState _ _ (by decide)]
    exact ⟨rfl, rfl, rfl, rfl⟩
  · rw [State.loader_setLoader]
  · exact State.ctxsOf_discardPipes s n _
  · rw [State.loader_setLoader, State.slice_setLoader, State.slice_markDead, State.slice_switchBanks,
      State.curEpoch_of_reg ((State.reg_setLoader _ _ _ _).trans (State.reg_markDead _ _ _ _)),
      State.curEpoch_switchBanks]
    refine ⟨rfl, rfl, rfl, ?_⟩
    rw [State.isDead_iff, State.slice_setLoader, State.slice_markDead]
    exact (NatSet.mem_add _ _ _).2 (.inl rfl)
  · have hs := State.slice_of_slices ((s.reverting n).slices_contFault n p) n
    refine ⟨?_, ?_, ?_, ?_, ?_⟩
    · rw [State.loader, hs, ← State.loader, State.loader_reverting]
    · rw [hs, State.activeB_reverting]
    · rw [State.curEpoch_of_reg (State.reg_contFault _ _ _ _), State.curEpoch_reverting]
    · rw [State.reports_contFault, State.flt_reverting, List.length_append, List.length_singleton]
    · rw [State.reports_contFault, List.getLast?_concat, Option.map_some, stageSrc]

end

section
/-!
Metadata bytes (R85), the admission to an ingress pipe (R53, R72, R77, R82) and the end of a parse (R90, R92).
-/

open Sys2Proof

namespace Sys2Proof

theorem leNat_toLE (n v : Nat) : leNat (toLE n v) = v % 256 ^ n := by
  induction n generalizing v with
  | zero => simp [toLE, leNat, Nat.mod_one]
  | succ n ih =>
    have h : 256 ^ (n + 1) = 256 * 256 ^ n := Nat.pow_succ'
    rw [toLE, leNat, ih, BitVec.toNat_ofNat, h, Nat.mod_mul]

theorem beNat_toBE (n v : Nat) : beNat (toBE n v) = v % 256 ^ n := by
  rw [beNat, toBE, List.reverse_reverse, leNat_toLE]

@[simp] theorem length_toBE (n v : Nat) : (toBE n v).length = n := by
  rw [toBE, List.length_reverse, length_toLE]

end Sys2Proof

namespace Sys2Proof.Machine

/-! ### Metadata bytes (R85) -/

/-- Bytes written into the metadata are read back there. -/
theorem Ctx.mdBytes_of_put {x : Ctx} {m : List Host.Cell} {k : Nat} {pre l post : List Byte}
    (h : x.md = putBytes m k (pre ++ l ++ post)) (hb : k + pre.length + l.length ≤ 256) :
    x.mdBytes (k + pre.length) l.length = l := by
  apply List.ext_getElem
  · simp [Ctx.mdBytes]
  · intro i _ hi
    have hr : k ≤ k + pre.length + i ∧ k + pre.length + i < k + (pre ++ l ++ post).length := by simp; omega
    have hj : k + pre.length + i - k = pre.length + i := by omega
    simp only [Ctx.mdBytes, List.getElem_map, List.getElem_range, h, read_putBytes, if_pos hr, hj]
    rw [if_pos (by omega)]
    simp [List.getElem?_append_left, List.getElem?_append_right, hi]

/-- Bytes written elsewhere leave a piece of the metadata as it is. -/
theorem Ctx.mdBytes_of_put_ne {x y : Ctx} {k : Nat} {l : List Byte} (h : y.md = putBytes x.md k l) {off n : Nat}
    (hd : off + n ≤ k ∨ k + l.length ≤ off) : y.mdBytes off n = x.mdBytes off n := by
  refine List.map_congr_left fun i hi => ?_
  have hi' := List.mem_range.1 hi
  have hn : ¬ (k ≤ off + i ∧ off + i < k + l.length) := by omega
  simp only [h, read_putBytes, hn, if_false]

theorem Ctx.mdBytes_putMd_before (x : Ctx) {k off n : Nat} (hd : off + n ≤ k) (l : List Byte) :
    (x.putMd k l).mdBytes off n = x.mdBytes off n :=
  Ctx.mdBytes_of_put_ne rfl (.inl hd)

/-- A number written big-endian into the metadata among other bytes is read back. -/
theorem Ctx.mdBE_of_put {x : Ctx} {m : List Host.Cell} {pre post : List Byte} {k n v off : Nat}
    (h : x.md = putBytes m k (pre ++ toBE n v ++ post)) (ho : off = k + pre.length) (hb : off + n ≤ 256) :
    x.mdBE off n = v % 256 ^ n := by
  have hl := Ctx.mdBytes_of_put h (by simpa [← ho] using hb)
  rw [length_toBE, ← ho] at hl
  rw [Ctx.mdBE, hl, beNat_toBE]

theorem Ctx.mdBE_putMd (x : Ctx) {pre post : List Byte} {k n v off : Nat} (ho : off = k + pre.length)
    (hb : k + (pre ++ toBE n v ++ post).length ≤ 256) :
    (x.putMd k (pre ++ toBE n v ++ post)).mdBE off n = v % 256 ^ n := by
  have ht : (pre ++ toBE n v ++ post).take (256 - k) = pre ++ toBE n v ++ post := List.take_of_length_le (by omega)
  refine Ctx.mdBE_of_put (m := x.md) (post := post) ?_ ho (by simp at hb; omega)
  rw [Ctx.putMd, ht]

theorem Ctx.mdBE_putMd_before (x : Ctx) {k off n : Nat} (hd : off + n ≤ k) (l : List Byte) :
    (x.putMd k l).mdBE off n = x.mdBE off n := by
  rw [Ctx.mdBE, Ctx.mdBytes_putMd_before x hd, Ctx.mdBE]

/-- Pieces written behind a field leave it as it is. -/
theorem Ctx.mdBE_foldl_putMd (x : Ctx) {k off n : Nat} (hd : off + n ≤ k) (l : List (Nat × List Byte)) :
    (l.foldl (fun y e => y.putMd (k + e.1) e.2) x).mdBE off n = x.mdBE off n := by
  induction l generalizing x with
  | nil => rfl
  | cons e r ih => rw [List.foldl_cons, ih, Ctx.mdBE_putMd_before x (by omega)]

theorem Ctx.frame_foldl_putMd (x : Ctx) (k : Nat) (l : List (Nat × List Byte)) :
    (l.foldl (fun y e => y.putMd (k + e.1) e.2) x).frame = x.frame := by
  induction l generalizing x with
  | nil => rfl
  | cons e r ih => rw [List.foldl_cons, ih, Ctx.putMd]

/-! ### Admission (R53, R72, R77, R82) -/

/-- Whether a waiting frame is one that no valid compartment owns, or that of a quarantined one (R53, R61). -/
def State.unowned (s : State) (n : Nat) (f : Frame) : Bool :=
  !f.owned || !s.compValid n f.comp || s.bit (Reg.SLC_RIND_STAT n) (24 + f.comp)

/-- The epoch under which a frame enters an ingress pipe (R72). -/
def State.entryEpoch (s : State) (n : Nat) (f : Frame) : Nat := if f.isRecirc then f.epoch else s.curEpoch n

/-- The context of a frame that enters an ingress pipe (R82). -/
def ingressCtx (n st k : Nat) (f : Frame) (e : Nat) : Ctx :=
  { slice := n, pipe := 0, stream := st, frame := k, comp := f.comp, epoch := e, rnode := f.rnode,
    md := putBytes (putBytes [] 0 (f.stdAt e)) 96 (if f.isRecirc then f.carry else []) }

/-- What becomes of the frame an admission arbiter grants. -/
def State.granted (s : State) (n st k : Nat) (f : Frame) : State :=
  if s.unowned n f then s.dropWaiting k (Reg.SLC_UNOWNED_DROP n)
  else if f.isRecirc && s.isDead n f.epoch then s.dropWaiting k (Reg.SLC_EPOCH_DROP n)
  else (s.setFrame k { f with waiting := false, epoch := s.entryEpoch n f }).addCtx
    (ingressCtx n st k f (s.entryEpoch n f))

theorem execIngressAdmit_first {s : State} {n : Fin 32} {st : Fin 4} {k : Nat} {f : Frame}
    (h : firstSeq (s.waitingAt n st false) = some (k, f)) (ha : s.admits n = true) (ho : f.isOpen = false) :
    execIngressAdmit n st false false s = .next (s.granted n st k f) := by
  simp only [execIngressAdmit, h]
  rw [if_neg (by simp [ha, ho]), if_neg (by simp), State.granted, apply_ite Host.Outcome.next,
    apply_ite Host.Outcome.next]
  rfl

/-! A waiting frame that is dropped enters no pipe and counts once. -/

section
variable (s : State) (k : Nat)

theorem State.ctxs_dropWaiting (a : Nat) : (s.dropWaiting k a).ctxs = s.ctxs := by
  rw [State.dropWaiting, State.ctxs_count, (s.vatOnly_noCopies k).ctxs]

/-- Counting a drop in a counter of a slice whose block has no saturation bit. -/
theorem State.toNat_reg_dropWaiting {a : Nat} (hs : satBitOf a = none) (ha : offVatReg a) :
    ((s.dropWaiting k a).reg a).toNat = min (2 ^ 32 - 1) ((s.reg a).toNat + 1) := by
  rw [State.dropWaiting, State.toNat_reg_count _ hs, (s.vatOnly_noCopies k).reg a ha]

end

section
variable (n : Fin 32)

theorem satBitOf_unownedDrop : satBitOf (Reg.SLC_UNOWNED_DROP n) = none :=
  satBitOf_slice_eq_none (regPlace_slice (by simp only [Reg.SLC_UNOWNED_DROP]; omega))
    (by simp only [Reg.SLC_UNOWNED_DROP]; omega)

theorem satBitOf_epochDrop : satBitOf (Reg.SLC_EPOCH_DROP n) = none :=
  satBitOf_slice_eq_none (regPlace_slice (by simp only [Reg.SLC_EPOCH_DROP]; omega))
    (by simp only [Reg.SLC_EPOCH_DROP]; omega)

/-- A slice's registers are none of those the release of a frame writes. -/
theorem offVatReg_of_le {a : Nat} (h : 0x08000000 ≤ a) : offVatReg a :=
  ⟨by simp only [Reg.VAT_STAT]; omega, by simp only [Reg.HOST_STAT]; omega, .inr (by omega)⟩

theorem offVatReg_unownedDrop : offVatReg (Reg.SLC_UNOWNED_DROP n) :=
  offVatReg_of_le (by simp only [Reg.SLC_UNOWNED_DROP]; omega)

theorem offVatReg_epochDrop : offVatReg (Reg.SLC_EPOCH_DROP n) :=
  offVatReg_of_le (by simp only [Reg.SLC_EPOCH_DROP]; omega)

end

/-! A frame that enters the pipe. -/

section
variable {s : State} {n st k : Nat} {f : Frame}

/-- The frame has entered the pipe under the current epoch. -/
def State.entered (s : State) (n st k : Nat) (f : Frame) : State :=
  (s.setFrame k { f with waiting := false, epoch := s.curEpoch n }).addCtx (ingressCtx n st k f (s.curEpoch n))

theorem State.granted_entered (hu : s.unowned n f = false) (hr : f.isRecirc = false) :
    s.granted n st k f = s.entered n st k f := by
  simp [State.granted, State.entered, State.entryEpoch, hu, hr]

theorem State.ctx?_entered : ∃ y, (s.entered n st k f).ctx? s.nextCtx = some y ∧
    (y.slice, y.pipe, y.frame, y.comp, y.epoch, y.stage) = (n, 0, k, f.comp, s.curEpoch n, 0) ∧
    y.md = (ingressCtx n st k f (s.curEpoch n)).md :=
  ⟨_, (Store.at?_set _ _ _ _).trans (if_pos rfl), rfl, rfl⟩

theorem State.frame?_entered : (s.entered n st k f).frame? k =
    some { f with waiting := false, epoch := s.curEpoch n } :=
  (Store.at?_set _ _ _ _).trans (if_pos rfl)

end

/-- The standard region of a fresh frame's context (Table 03.2). -/
theorem ingressCtx_md {n st k e : Nat} {f : Frame} (hr : f.isRecirc = false) :
    (ingressCtx n st k f e).md = putBytes [] 0 (f.stdAt e) := by
  simp [ingressCtx, hr, putBytes]

section
variable {x : Ctx} {f : Frame} {e : Nat} (h : x.md = putBytes [] 0 (f.stdAt e))
include h

theorem Ctx.inPort_of_stdAt : x.mdBE 0 2 = f.inPort % 65536 := by
  refine Ctx.mdBE_of_put (m := []) (pre := []) (k := 0) (post := ?_) ?_ rfl (by decide)
  rotate_left
  · rw [h, Frame.stdAt, List.nil_append]
    simp only [List.append_assoc]
    rfl

theorem Ctx.orig_of_stdAt : x.mdBE 2 2 = f.orig % 65536 := by
  refine Ctx.mdBE_of_put (m := []) (pre := toBE 2 f.inPort) (k := 0) (post := ?_) ?_ (by simp) (by decide)
  rotate_left
  · rw [h, Frame.stdAt]
    simp only [List.append_assoc]
    rfl

theorem Ctx.comp_of_stdAt : x.mdBE 6 1 = f.comp % 256 := by
  refine Ctx.mdBE_of_put (m := []) (pre := toBE 2 f.inPort ++ toBE 2 f.orig ++ toBE 2 0) (k := 0)
    (post := ?_) ?_ (by simp) (by decide)
  rotate_left
  · rw [h, Frame.stdAt]
    simp only [List.append_assoc]
    rfl

end

/-! ### The end of a parse (R90, R92) -/

/-- The metadata a completed parse leaves (R92). -/
def Ctx.afterParse (x : Ctx) (len flags node po : Nat) (pr : Parse) (ms : List (Nat × Nat × Nat)) : Ctx :=
  let x := x.putMd 4 (toBE 2 len)
  let x := x.putMd 9 (toBE 1 flags ++ toBE 1 node ++ toBE 1 pr.hdrs.length ++ toBE 2 po)
  let x := x.putMd 16 (pr.hdrs.flatMap fun h => toBE 1 h.1 ++ toBE 2 h.2)
  let x := x.putMd 52 (matchBytes ms)
  pr.extracts.foldl (fun y e => y.putMd (96 + e.1) e.2) x

section
variable (x : Ctx) (len flags node po : Nat) (pr : Parse) (ms : List (Nat × Nat × Nat))

theorem Ctx.frame_afterParse : (x.afterParse len flags node po pr ms).frame = x.frame := by
  rw [Ctx.afterParse, Ctx.frame_foldl_putMd]
  rfl

/-- A field of the standard region before the headers is what the two first writes left there. -/
theorem Ctx.mdBE_afterParse {off n : Nat} (h : off + n ≤ 16) : (x.afterParse len flags node po pr ms).mdBE off n =
    ((x.putMd 4 (toBE 2 len)).putMd 9 (toBE 1 flags ++ toBE 1 node ++ toBE 1 pr.hdrs.length ++ toBE 2 po)).mdBE
      off n := by
  rw [Ctx.afterParse, Ctx.mdBE_foldl_putMd _ (by omega), Ctx.mdBE_putMd_before _ (by omega),
    Ctx.mdBE_putMd_before _ (by omega)]

theorem Ctx.len_afterParse : (x.afterParse len flags node po pr ms).mdBE 4 2 = len % 65536 := by
  rw [Ctx.mdBE_afterParse _ _ _ _ _ _ _ (by decide), Ctx.mdBE_putMd_before _ (by decide)]
  have h := x.mdBE_putMd (pre := []) (post := []) (n := 2) (v := len) (off := 4) (k := 4) rfl (by simp)
  rwa [List.nil_append, List.append_nil] at h

theorem Ctx.flags_afterParse : (x.afterParse len flags node po pr ms).mdBE 9 1 = flags % 256 := by
  rw [Ctx.mdBE_afterParse _ _ _ _ _ _ _ (by decide)]
  have h := (x.putMd 4 (toBE 2 len)).mdBE_putMd (pre := []) (post := toBE 1 node ++ toBE 1 pr.hdrs.length ++ toBE 2 po)
    (n := 1) (v := flags) (off := 9) (k := 9) rfl (by simp)
  rw [List.nil_append, ← List.append_assoc, ← List.append_assoc] at h
  exact h

theorem Ctx.node_afterParse : (x.afterParse len flags node po pr ms).mdBE 10 1 = node % 256 := by
  rw [Ctx.mdBE_afterParse _ _ _ _ _ _ _ (by decide)]
  have h := (x.putMd 4 (toBE 2 len)).mdBE_putMd (pre := toBE 1 flags) (post := toBE 1 pr.hdrs.length ++ toBE 2 po)
    (n := 1) (v := node) (off := 10) (k := 9) (by simp) (by simp)
  rw [← List.append_assoc] at h
  exact h

theorem Ctx.hdrCount_afterParse : (x.afterParse len flags node po pr ms).mdBE 11 1 = pr.hdrs.length % 256 := by
  rw [Ctx.mdBE_afterParse _ _ _ _ _ _ _ (by decide)]
  exact (x.putMd 4 (toBE 2 len)).mdBE_putMd (by simp) (by simp)

theorem Ctx.payload_afterParse : (x.afterParse len flags node po pr ms).mdBE 12 2 = po % 65536 := by
  rw [Ctx.mdBE_afterParse _ _ _ _ _ _ _ (by decide)]
  have h := (x.putMd 4 (toBE 2 len)).mdBE_putMd (pre := toBE 1 flags ++ toBE 1 node ++ toBE 1 pr.hdrs.length)
    (post := []) (n := 2) (v := po) (off := 12) (k := 9) (by simp) (by simp)
  rwa [List.append_nil] at h

end

/-- The separator has completed: the context and the frame count as parsed (R92). -/
def State.parseEnd (s : State) (c : Nat) (y : Ctx) (f : Frame) (flags : Nat) : State :=
  (s.setCtx c { y with parsed := true }).setFrame y.frame
    { f with parsed := true, std := y.mdBytes 0 12, pflags := flags, match0 := y.mdBE 52 2 }

/-- The flags of a parse that ended: those of its end, and HFULL (Table 03.2). -/
def parseFlags (fl : Nat) (pr : Parse) : Nat := fl + if pr.hfull then 32 else 0

section
variable {s : State} {c : Nat} {x : Ctx} {f : Frame} {pr : Parse} (hx : s.ctx? c = some x)
  (hf : s.frame? x.frame = some f) (hp : x.parsed = false) (hpipe : x.pipe = 0) (ho : f.isOpen = false)
include hx hf hp hpipe ho

theorem execParseDone_done {node po fl : Nat} (h : s.parse x f f.bytes.length = (pr, .done node po fl))
    (he : fl % 2 = 0) :
    ∃ ms, execParseDone c s = .next
      (s.parseEnd c (x.afterParse f.bytes.length (parseFlags fl pr) node po pr ms) f (parseFlags fl pr)) := by
  have hl : s.parseLen f = f.bytes.length := if_neg (by simp [ho])
  have hodd : ¬ (fl + if pr.hfull = true then 32 else 0) % 2 = 1 := by
    split
    · omega
    · omega
  refine ⟨patMatches (s.patterns (s.ctxBank x) x.slice x.comp) f.bytes pr.hdrs (min 512 (f.bytes.length - 4)), ?_⟩
  have hclosed : ¬ f.isOpen = true := by simp [ho]
  simp only [execParseDone, hx, hf, hl, h]
  rw [if_neg (by simp [hp, hpipe]), if_neg (by simp [ho]), if_neg hodd, if_neg hclosed]
  rfl

theorem execParseDone_branch {node : Nat} (h : s.parse x f f.bytes.length = (pr, .branch node)) :
    execParseDone c s = .next ((s.violate x.slice x.comp 8 0 31 node).dropCtx c) := by
  have hl : s.parseLen f = f.bytes.length := if_neg (by simp [ho])
  simp only [execParseDone, hx, hf, hp, hpipe, hl, h, ho]
  rfl

end

section
variable (s : State) (c : Nat) (y : Ctx) (f : Frame) (flags : Nat)

theorem State.ctx?_parseEnd : ∃ z, (s.parseEnd c y f flags).ctx? c = some z ∧ z.parsed = true ∧
    ∀ off n, z.mdBE off n = y.mdBE off n :=
  ⟨_, (Store.at?_set _ _ _ _).trans (if_pos rfl), rfl, fun _ _ => rfl⟩

theorem State.frame?_parseEnd : (s.parseEnd c y f flags).frame? y.frame =
    some { f with parsed := true, std := y.mdBytes 0 12, pflags := flags, match0 := y.mdBE 52 2 } :=
  (Store.at?_set _ _ _ _).trans (if_pos rfl)

end

end Sys2Proof.Machine

open Sys2Proof.Machine

/-- Settles O30: the arbiter's branches, and the two ways a parse ends. -/
theorem admissionAndParse : Obligations.AdmissionAndParse := by
  intro n st k c node po fl f x pr s
  refine ⟨fun hfirst ha ho => ⟨fun hown hv hq hr => ?_, fun hu => ?_, fun hown hv hq hr hd => ?_⟩,
    fun hx hf hp hpipe ho => ⟨fun h hh he => ?_, fun h => execParseDone_branch hx hf hp hpipe ho h⟩⟩
  · have hu : s.unowned n f = false := by simp [State.unowned, hown, hv, hq]
    refine ⟨_, execIngressAdmit_first hfirst ha ho, ?_⟩
    have hmd := ingressCtx_md (n := n) (st := st) (k := k) (e := s.curEpoch n) hr
    obtain ⟨y, hy, hyc, hym⟩ := State.ctx?_entered (s := s) (n := n) (st := st) (k := k) (f := f)
    rw [State.granted_entered hu hr, hy, State.frame?_entered, Option.map_some, Option.map_some, hyc]
    rw [Ctx.inPort_of_stdAt (hym.trans hmd), Ctx.orig_of_stdAt (hym.trans hmd), Ctx.comp_of_stdAt (hym.trans hmd)]
    exact ⟨rfl, rfl, rfl, rfl⟩
  · have hu' : s.unowned n f = true := by
      simp only [State.unowned, Bool.or_eq_true, Bool.not_eq_true']
      tauto
    refine ⟨_, execIngressAdmit_first hfirst ha ho, ?_⟩
    rw [State.granted, if_pos hu']
    exact ⟨State.ctxs_dropWaiting _ _ _,
      State.toNat_reg_dropWaiting _ _ (satBitOf_unownedDrop n) (offVatReg_unownedDrop n)⟩
  · have hu : ¬ s.unowned n f = true := by simp [State.unowned, hown, hv, hq]
    refine ⟨_, execIngressAdmit_first hfirst ha ho, ?_⟩
    rw [State.granted, if_neg hu, if_pos (by simp [hr, hd])]
    exact ⟨State.ctxs_dropWaiting _ _ _,
      State.toNat_reg_dropWaiting _ _ (satBitOf_epochDrop n) (offVatReg_epochDrop n)⟩
  · obtain ⟨ms, ht⟩ := execParseDone_done hx hf hp hpipe ho h he
    obtain ⟨z, hz, hzp, hzm⟩ := s.ctx?_parseEnd c
      (x.afterParse f.bytes.length (parseFlags fl pr) node po pr ms) f (parseFlags fl pr)
    refine ⟨_, ht, ?_, ?_, rfl⟩
    · rw [hz, Option.map_some, hzp, hzm, hzm, hzm, hzm, hzm, Ctx.len_afterParse, Ctx.flags_afterParse,
        Ctx.node_afterParse, Ctx.hdrCount_afterParse, Ctx.payload_afterParse, hh]
      rfl
    · have hfr := s.frame?_parseEnd c (x.afterParse f.bytes.length (parseFlags fl pr) node po pr ms) f
          (parseFlags fl pr)
      rw [Ctx.frame_afterParse] at hfr
      rw [hfr]
      rfl

end

section
/-!
Copies leave their queues (R77, R99, R223), heads that will not be sent (R205, R227), and the deparser (R125, R126).
-/

open Sys2Proof

namespace Sys2Proof.Machine

/-! ### Counters -/

theorem State.vat_count (s : State) (a : Nat) : (s.count a).vat = s.vat :=
  (congrArg State.vat (s.apart_count a) : (s.count a).apart.vat = s.apart.vat)

/-- A 32-bit counter that is not its own saturation register: one more, stopping at all ones (R13). -/
theorem State.toNat_reg_count_of_ne (s : State) {a : Nat} (h : ∀ r i, satBitOf a = some (r, i) → a ≠ r)
    (hh : a ≠ Reg.HOST_STAT) : ((s.count a).reg a).toNat = min (2 ^ 32 - 1) ((s.reg a).toNat + 1) := by
  have e : (s.count a).reg a = (s.setFld a 31 0 (min (2 ^ (31 + 1 - 0) - 1) (s.fld a 31 0 + 1))).reg a := by
    simp only [State.count, State.countFld]
    split
    · split
      next r i hs => exact State.reg_raiseBit_ne _ _ _ _ (h r i hs) hh
      next => rfl
    · rfl
  rw [e, ← State.fld_all, State.fld_setFld _ _ _ _ _ (by decide), State.fld_all]
  simp only [Nat.reduceAdd, Nat.reduceSub, Nat.reducePow]
  omega

/-! ### A dequeue (R223) -/

theorem State.queue_setQueue (s : State) (q j : Nat) (l : List Copy) :
    (s.setQueue q l).queue j = if j = q then l else s.queue j := Store.read_put _ _ _ _ _

section
variable (s : State) (d q : Nat) (df : Store Nat) (y : Copy) (r : List Copy)

theorem State.queue_popped (j : Nat) : (s.popped d q df y r).queue j = if j = q then r else s.queue j :=
  s.queue_setQueue q j r

theorem State.reg_popped (a : Nat) : (s.popped d q df y r).reg a = s.reg a := rfl
theorem State.regs_popped : (s.popped d q df y r).regs = s.regs := rfl
theorem State.ctxs_popped : (s.popped d q df y r).ctxs = s.ctxs := rfl
theorem State.nextCtx_popped : (s.popped d q df y r).nextCtx = s.nextCtx := rfl

theorem State.regs_histDequeue (z : Copy) : (s.histDequeue d z).regs = s.regs := rfl
theorem State.ctxs_histDequeue (z : Copy) : (s.histDequeue d z).ctxs = s.ctxs := rfl
theorem State.nextCtx_histDequeue (z : Copy) : (s.histDequeue d z).nextCtx = s.nextCtx := rfl
theorem State.vat_histDequeue (z : Copy) : (s.histDequeue d z).vat = s.vat := rfl

end

section
variable (s : State) (d : Nat) (z : Copy) (f : Frame)

theorem State.queue_sendOn (j : Nat) : (s.sendOn d z f).queue j = s.queue j := by
  rw [State.sendOn]
  split
  · rfl
  · rfl

theorem State.regs_sendOn : (s.sendOn d z f).regs = s.regs := by
  rw [State.sendOn]
  split
  · rfl
  · rfl

theorem State.out_sendOn_piped (h : z.piped = true) : (s.sendOn d z f).vat.out = s.vat.out := by
  rw [State.sendOn, if_pos h]
  rfl

theorem State.sendOn_unpiped (h : z.piped = false) : s.sendOn d z f = s.appendOut d z := by
  rw [State.sendOn, h]
  rfl

theorem State.read_appendOut : Store.read [] (s.appendOut d z).vat.out d = Store.read [] s.vat.out d ++ [z] := by
  rw [State.appendOut, Store.read_set, if_pos rfl]

end

theorem piped_unicast {z : Copy} (hd : z.dest < 1056) (hk : z.kind = .unicast) : z.piped = true := by
  simp [Copy.piped, hk, hd]

theorem piped_made {z : Copy} (hk : z.kind = .made) : z.piped = false := by
  simp [Copy.piped, hk]

theorem State.fld_one_eq_zero {s : State} {a i : Nat} (h : s.bit a i = false) : s.fld a i i = 0 := by
  have hlt := fieldOf_lt (s.reg a) i i
  have hne : s.fld a i i ≠ 1 := by simpa [State.bit] using h
  have he : i + 1 - i = 1 := by omega
  rw [he] at hlt
  simp only [State.fld] at hne ⊢
  omega

/-- The copy a front port's scheduler sends on, under its egress pipe's epoch (R72). -/
def State.epochTagged (t : State) (d : Nat) (z : Copy) : Copy :=
  if z.piped then { z with eepoch := t.curEpoch (pipeOf d) } else z

theorem State.piped_epochTagged (t : State) (d : Nat) (z : Copy) : (t.epochTagged d z).piped = z.piped := by
  rw [State.epochTagged]
  split
  · rfl
  · rfl

theorem State.frame_epochTagged (t : State) (d : Nat) (z : Copy) : (t.epochTagged d z).frame = z.frame := by
  rw [State.epochTagged]
  split
  · rfl
  · rfl

/-- A port without sampling makes no record of a dequeue (R307). -/
theorem State.afterPop_front {t : State} {d : Nat} (hd : d < 1024) (ht : t.bit (Reg.PORT_TEL1 d) 31 = false) (z : Copy)
    (f : Frame) : t.afterPop d z f = (t.histDequeue d (t.epochTagged d z)).sendOn d (t.epochTagged d z) f := by
  have hp (x : Copy) : (t.histDequeue d x).postDequeue d x f = t.histDequeue d x := by
    rw [State.postDequeue]
    exact if_pos (.inl (State.fld_one_eq_zero (s := t) ht))
  rw [State.afterPop, if_neg (by omega), if_pos hd]
  exact congrArg (fun u : State => u.sendOn d (t.epochTagged d z) f) (hp _)

/-- A front port's scheduler takes a head: the queue moves up and no register changes; a piped copy enters its egress
pipe, another one waits for its port (R99). -/
theorem State.afterPop_front_cases {s : State} {d q : Nat} {df : Store Nat} {y : Copy} {r : List Copy} {f : Frame}
    (hd : d < 1024) (ht : s.bit (Reg.PORT_TEL1 d) 31 = false) :
    ∃ (u : State) (z : Copy), (s.popped d q df y r).afterPop d (s.leaving q y) f = u.sendOn d z f ∧ u.regs = s.regs ∧
      u.ctxs = s.ctxs ∧ u.nextCtx = s.nextCtx ∧ u.vat = (s.popped d q df y r).vat ∧ z.piped = y.piped ∧
      z.frame = y.frame := by
  have ht' := (State.bit_of_reg (s.reg_popped d q df y r (Reg.PORT_TEL1 d)) 31).trans ht
  refine ⟨_, _, State.afterPop_front hd ht' _ f, ?_, ?_, ?_, State.vat_histDequeue _ _ _, ?_, ?_⟩
  · rw [State.regs_histDequeue, State.regs_popped]
  · rw [State.ctxs_histDequeue, State.ctxs_popped]
  · rw [State.nextCtx_histDequeue, State.nextCtx_popped]
  · exact State.piped_epochTagged _ d (s.leaving q y)
  · exact State.frame_epochTagged _ d (s.leaving q y)

theorem satBitOf_epochDrop_of_lt {n : Nat} (h : n < 32) : satBitOf (Reg.SLC_EPOCH_DROP n) = none :=
  satBitOf_epochDrop ⟨n, h⟩

/-- A recirculated copy of a dead epoch goes no further (R77). -/
theorem State.afterPop_dead {t : State} {d : Nat} {f : Frame} (h1 : 1024 ≤ d) (h2 : d < 1056)
    (hd : t.isDead (d - 1024) f.epoch = true) (z : Copy) :
    t.afterPop d z f = (t.unref z.frame).count (Reg.SLC_EPOCH_DROP (d - 1024)) := by
  rw [State.afterPop, if_pos ⟨h1, h2⟩, if_pos hd]

/-! ### A head that will not be sent (R205, R227) -/

theorem State.headDiscard_comp {s : State} {y : Copy} {why : Reason} (h : s.headDiscard y = some why) :
    why.comp = none ∧ why ≠ .rcircShape := by
  rw [State.headDiscard] at h
  repeat' split at h
  all_goals cases h
  all_goals exact ⟨rfl, by decide⟩

theorem Reason.port_lt {why : Reason} {k : Nat} (h : why.port = some k) : k < 8 := by
  cases why <;> cases h <;> decide

/-- A drop counts at its port, where it has a counter there (R200). -/
def State.countPortDrop (s : State) (why : Reason) (dest : Nat) : State :=
  match why.port with
  | some k => if portCounted why dest then s.count (Reg.VAT_PCNT dest k) else s
  | none => s

/-- Without a compartment's counter a drop counts at its port alone (R200). -/
theorem State.vatDrop_eq (s : State) {why : Reason} (h : why.comp = none) (f : Frame) (dest queue : Nat) :
    s.vatDrop why f dest queue = (s.countPortDrop why dest).dropVat f dest queue why.row 0 := by
  rw [State.vatDrop, h]
  rfl

theorem State.queue_count (s : State) (a q : Nat) : (s.count a).queue q = s.queue q := by
  rw [State.queue, State.vat_count, State.queue]

theorem State.queue_vatDrop (s : State) {why : Reason} (h : why.comp = none) (f : Frame) (dest queue q : Nat) :
    (s.vatDrop why f dest queue).queue q = s.queue q := by
  rw [State.vatDrop_eq s h, (State.vatOnly_dropVat _ _ _ _ _ _).queue, State.countPortDrop]
  split
  · split
    · exact s.queue_count _ q
    · rfl
  · rfl

/-- The ports that count a drop at the head of a queue have a row of counters each. -/
theorem portCounted_lt {why : Reason} {d : Nat} (h : why ≠ .rcircShape) (hp : portCounted why d = true) : d < 1058 := by
  simp [portCounted, h] at hp
  omega

theorem offVatReg_pcnt {dest k : Nat} (hd : dest < 1058) (hk : k < 8) : offVatReg (Reg.VAT_PCNT dest k) := by
  refine ⟨?_, ?_, .inl ?_⟩
  · simp only [Reg.VAT_PCNT, Reg.VAT_STAT]; omega
  · simp only [Reg.VAT_PCNT, Reg.HOST_STAT]; omega
  · simp only [Reg.VAT_PCNT]; omega

theorem State.toNat_pcnt_vatDrop (s : State) {why : Reason} (h : why.comp = none) {k dest : Nat}
    (hk : why.port = some k) (hp : portCounted why dest = true) (hd : dest < 1058) (f : Frame) (queue : Nat) :
    ((s.vatDrop why f dest queue).reg (Reg.VAT_PCNT dest k)).toNat =
      min (2 ^ 32 - 1) ((s.reg (Reg.VAT_PCNT dest k)).toNat + 1) := by
  have hk8 := Reason.port_lt hk
  have hoff := offVatReg_pcnt hd hk8
  rw [State.vatDrop_eq s h, (State.vatOnly_dropVat _ _ _ _ _ _).reg _ hoff]
  simp only [State.countPortDrop, hk, hp, if_true]
  refine s.toNat_reg_count_of_ne (fun a i hs => ?_) hoff.2.1
  obtain rfl | rfl | rfl | rfl := satBitOf_reg hs
  · simp only [Reg.VAT_PCNT, Reg.TBL_STAT]; omega
  · exact hoff.1
  · simp only [Reg.VAT_PCNT, Reg.FLOW_STAT]; omega
  · simp only [Reg.VAT_PCNT, Reg.FLT_STAT]; omega

/-- The state once a queue's head has been taken from it without a scheduler. -/
def State.beheaded (s : State) (q : Nat) (r : List Copy) : State :=
  let s := s.setQueue q r
  if r.isEmpty then { s with vat := { s.vat with deficit := Store.del s.vat.deficit q } } else s

theorem State.queue_beheaded (s : State) (q : Nat) (r : List Copy) (j : Nat) :
    (s.beheaded q r).queue j = if j = q then r else s.queue j := by
  rw [State.beheaded]
  extract_lets
  split
  · exact s.queue_setQueue q j r
  · exact s.queue_setQueue q j r

theorem State.reg_beheaded (s : State) (q : Nat) (r : List Copy) (a : Nat) : (s.beheaded q r).reg a = s.reg a := by
  rw [State.beheaded]
  extract_lets
  split
  · rfl
  · rfl

theorem execQueueHeadDiscard_head {s : State} {q : Fin 21396} {y : Copy} {r : List Copy} {f : Frame} {why : Reason}
    (hq : s.queue q = y :: r) (hw : s.headDiscard y = some why) (hf : s.frame? y.frame = some f) :
    execQueueHeadDiscard q s = .next (((s.beheaded q r).vatDrop why f y.dest y.queue).unref y.frame) := by
  simp only [execQueueHeadDiscard, hq, hw, hf]
  rfl

/-! ### The deparser (R125, R126) -/

/-- The frame has left its egress pipe (R48). -/
def State.leftPipe (s : State) (c : Nat) (x : Ctx) : State := (s.delCtx c).noteCompletion x.slice 1 x.stream

/-- What an egress frame is made of by its deparser program. -/
def State.pieces (s : State) (x : Ctx) : List Piece := deparse (s.ctxBank x) x (x.mdByte 68 % 128) 16 0

/-- A frame that leaves its egress pipe, a short one counted (Table 04.4). -/
def State.emitted (s : State) (c : Nat) (x : Ctx) (f : Frame) : State :=
  if ((s.pieces x).flatMap (Piece.bytes f.data)).length < 60 then (s.leftPipe c x).egCount x 3 else s.leftPipe c x

/-- An action without copies makes none. -/
theorem State.egressCopies_none (s : State) {x : Ctx} (h1 : bitOf (x.mdBE 64 4) 1 = false)
    (h2 : bitOf (x.mdBE 64 4) 2 = false) (f : Frame) (l : List Byte) : s.egressCopies x f l = s := by
  simp only [State.egressCopies, h1, h2]
  rfl

section
variable {s : State} {c : Nat} {x : Ctx} {y : Copy} {f : Frame} (hx : s.ctx? c = some x) (hy : x.copy = some y)
  (hf : s.frame? x.frame = some f) (hp : x.pipe = 1) (hst : x.stage = 24) (hr : x.running = false) (ho : x.outst = [])
  (hin : s.egressInOrder x y.dest = true) (h1 : bitOf (x.mdBE 64 4) 1 = false) (h2 : bitOf (x.mdBE 64 4) 2 = false)
include hx hy hf hp hst hr ho hin h1 h2

theorem execDeparse_emit (h0 : bitOf (x.mdBE 64 4) 0 = false) (hd : y.dest < 1024) :
    execDeparse c s =
      .next ((s.emitted c x f).appendOut y.dest { y with emitted := some (s.pieces x), dropCode := x.mdByte 76 }) := by
  simp only [execDeparse, hx, hy, hf]
  rw [if_neg (by simp [hp, hst, hr, ho, hin, h1, h2]), if_neg (by simp [h0]), if_neg (by omega),
    State.egressCopies_none _ h1 h2]
  rfl

theorem execDeparse_drop (h0 : bitOf (x.mdBE 64 4) 0 = true) :
    execDeparse c s = .next ((((s.emitted c x f).egCount x 0).dropProg f y.dest y.queue (x.mdByte 76) x.epoch).unref
      x.frame) := by
  simp only [execDeparse, hx, hy, hf]
  rw [if_neg (by simp [hp, hst, hr, ho, hin, h1, h2]), if_pos h0, State.egressCopies_none _ h1 h2]
  rfl

end

theorem State.ctx?_leftPipe (s : State) (c : Nat) (x : Ctx) : (s.leftPipe c x).ctx? c = none :=
  (Store.at?_del _ _ _).trans (if_pos rfl)

theorem State.apart_emitted (s : State) (c : Nat) (x : Ctx) (f : Frame) : (s.emitted c x f).apart =
    (s.leftPipe c x).apart := by
  rw [State.emitted]
  split
  · exact State.apart_count _ _
  · rfl

theorem satBitOf_egCnt {n c k : Nat} (hn : n < 32) (hc : c < 8) (hk : k < 8) : satBitOf (Reg.SLC_EG_CNT n c k) = none :=
  satBitOf_slice_eq_none (regPlace_slice (by simp only [Reg.SLC_EG_CNT]; omega)) (by simp only [Reg.SLC_EG_CNT]; omega)

theorem State.reg_emitted_ne (s : State) {c : Nat} {x : Ctx} (hn : x.slice < 32) (hc : x.comp < 8) (f : Frame) {a : Nat}
    (ha : a ≠ Reg.SLC_EG_CNT x.slice x.comp 3) : (s.emitted c x f).reg a = s.reg a := by
  rw [State.emitted]
  split
  · exact State.reg_count_ne _ (satBitOf_egCnt hn hc (by decide)) ha
  · rfl

/-! A frame dropped by its egress program leaves the pipe and is counted. -/

section
variable (s : State) (c : Nat) (x : Ctx) (f : Frame)

theorem State.apart_dropped : ((s.emitted c x f).egCount x 0).apart = (s.leftPipe c x).apart :=
  (State.apart_count _ _).trans (s.apart_emitted c x f)

theorem State.ctxs_dropped : ((s.emitted c x f).egCount x 0).ctxs = (s.leftPipe c x).ctxs :=
  (congrArg State.ctxs (s.apart_dropped c x f) :
    ((s.emitted c x f).egCount x 0).apart.ctxs = (s.leftPipe c x).apart.ctxs)

theorem State.vat_dropped : ((s.emitted c x f).egCount x 0).vat = (s.leftPipe c x).vat :=
  (congrArg State.vat (s.apart_dropped c x f) : ((s.emitted c x f).egCount x 0).apart.vat = (s.leftPipe c x).apart.vat)

theorem State.tele_dropped (hn : x.slice < 32) (hc : x.comp < 8) (ht : s.bit Reg.TELE_CTL 31 = false) :
    ((s.emitted c x f).egCount x 0).bit Reg.TELE_CTL 31 = false := by
  have hne (k : Nat) : Reg.TELE_CTL ≠ Reg.SLC_EG_CNT x.slice x.comp k := by
    simp only [Reg.TELE_CTL, Reg.SLC_EG_CNT]; omega
  rw [State.egCount, State.bit_of_reg (State.reg_count_ne _ (satBitOf_egCnt hn hc (by decide)) (hne 0)),
    State.bit_of_reg (s.reg_emitted_ne hn hc f (hne 3)), ht]

end

/-- Without DPROG_EN a drop makes no record (R307). -/
theorem State.dropProg_off {s : State} (h : s.bit Reg.TELE_CTL 31 = false) (f : Frame) (out queue code eepoch : Nat) :
    s.dropProg f out queue code eepoch = s := by
  rw [State.dropProg, h]
  rfl

end Sys2Proof.Machine

open Sys2Proof.Machine

/-- Settles O39: what leaves a queue or a pipe, and what counts it. -/
theorem queuesAndEgress : Obligations.QueuesAndEgress := by
  intro d q c df x y r f why s hf
  refine ⟨fun hsv hsh hpk hq => ⟨fun hd ht => ?_, fun h1 h2 hdead => ?_⟩, fun hq hw hs hc => ?_,
    fun hx hfr hy hs hc hp hst hr ho hin hd => ⟨fun ha hl => ?_, fun ha ht => ?_⟩⟩
  · obtain ⟨u, z, hz, hregs, hctxs, hnext, hvat, hpiped, hframe⟩ :=
      State.afterPop_front_cases (s := s) (q := q.val) (df := df) (y := y) (r := r) (f := f) hd ht
    refine ⟨_, execDequeue_head (by omega) hsv hsh hpk hq hf, ?_⟩
    rw [hz]
    have hqueue (j : Nat) : (u.sendOn d z f).queue j = if j = q.val then r else s.queue j := by
      rw [State.queue_sendOn, State.queue, hvat]
      exact s.queue_popped d q df y r j
    refine ⟨(hqueue q).trans (if_pos rfl), fun j hj => (hqueue j).trans (if_neg hj),
      (State.regs_sendOn _ _ _ _).trans hregs,
      fun hdest hk => ?_, fun hk => ?_⟩
    · have hpz := hpiped.trans (piped_unicast hdest hk)
      rw [State.out_sendOn_piped _ _ _ _ hpz, hvat, ← hnext, State.ctx?_sendOn hpz]
      refine ⟨rfl, ?_⟩
      simp only [Option.map_some, State.egressCtx, pipeOf, if_pos hd, hframe]
    · have hpz := hpiped.trans (piped_made hk)
      rw [State.sendOn_unpiped _ _ _ _ hpz, State.read_appendOut, List.map_append, hvat]
      refine ⟨hctxs, ?_⟩
      rw [List.map_singleton, hframe]
      rfl
  · have hv := (s.popped d q df y r).vatOnly_unref y.frame
    refine ⟨_, execDequeue_head (by omega) hsv hsh hpk hq hf, ?_⟩
    rw [State.afterPop_dead (t := s.popped d q df y r) h1 h2 hdead]
    refine ⟨?_, ?_, ?_, ?_⟩
    · rw [State.queue_count]
      exact (hv.queue q).trans ((s.queue_popped _ _ _ _ _ _).trans (if_pos rfl))
    · rw [State.ctxs_count]
      exact hv.ctxs
    · rw [State.vat_count]
      exact hv.out
    · rw [State.toNat_reg_count _ (satBitOf_epochDrop_of_lt (by omega))]
      exact congrArg (fun w : Word => min (2 ^ 32 - 1) (w.toNat + 1))
        (hv.reg _ (offVatReg_of_le (by simp only [Reg.SLC_EPOCH_DROP]; omega)))
  · obtain ⟨hcomp, hne⟩ := State.headDiscard_comp hw
    have hv := ((s.beheaded q r).vatDrop why f y.dest y.queue).vatOnly_unref y.frame
    have hqueue (j : Nat) : (((s.beheaded q r).vatDrop why f y.dest y.queue).unref y.frame).queue j =
        if j = q.val then r else s.queue j := by
      rw [hv.queue, State.queue_vatDrop _ hcomp, State.queue_beheaded]
    refine ⟨_, execQueueHeadDiscard_head hq hw hf, (hqueue q).trans (if_pos rfl),
      fun j hj => (hqueue j).trans (if_neg hj),
      fun k hk hpc => ?_⟩
    have hdest := portCounted_lt hne hpc
    rw [hv.reg _ (offVatReg_pcnt hdest (Reason.port_lt hk)), State.toNat_pcnt_vatDrop _ hcomp hk hpc hdest,
      State.reg_beheaded]
  · have hb (i : Nat) : bitOf (x.mdBE 64 4) i = false := by rw [ha, bitOf, Nat.zero_testBit]
    have he : s.emitted c x f = s.leftPipe c x := if_neg (Nat.not_lt.2 hl)
    refine ⟨_, execDeparse_emit hx hy (hfr ▸ hf) hp hst hr ho hin (hb 1) (hb 2) (hb 0) hd, ?_⟩
    rw [he]
    exact ⟨s.ctx?_leftPipe c x, rfl, State.read_appendOut _ _ _⟩
  · have hb : bitOf (x.mdBE 64 4) 0 = true ∧ bitOf (x.mdBE 64 4) 1 = false ∧ bitOf (x.mdBE 64 4) 2 = false := by
      rw [ha]
      decide
    obtain ⟨hb0, hb1, hb2⟩ := hb
    refine ⟨_, execDeparse_drop hx hy (hfr ▸ hf) hp hst hr ho hin hb1 hb2 hb0, ?_⟩
    rw [State.dropProg_off (s.tele_dropped c x f hs hc ht)]
    have hv := ((s.emitted c x f).egCount x 0).vatOnly_unref x.frame
    refine ⟨?_, ?_, ?_⟩
    · rw [State.ctx?, hv.ctxs, s.ctxs_dropped c x f]
      exact s.ctx?_leftPipe c x
    · rw [hv.out, s.vat_dropped c x f]
      rfl
    · rw [hv.reg _ (offVatReg_of_le (by simp only [Reg.SLC_EG_CNT]; omega)), State.egCount,
        State.toNat_reg_count _ (satBitOf_egCnt hs hc (by decide)),
        State.reg_emitted_ne s hs hc f (by simp only [Reg.SLC_EG_CNT]; omega)]

end

section
/-!
Single words of the active stores (R105, R145), mirror sessions (R107) and the scrub of a slice (R144).
-/

open Sys2Proof

namespace Sys2Proof.Machine

/-! ### Bytes of a bank -/

theorem Bank.byte_write (b : Bank) (kind pipe stage off i : Nat) (l : List Byte) :
    (b.write kind pipe stage off l).byte kind pipe stage i =
      if off ≤ i ∧ i < off + l.length then l.getD (i - off) 0 else b.byte kind pipe stage i := by
  rw [Bank.byte, Bank.write, read_putBytes, Bank.byte]
  generalize hK : (kind * 64 + pipe * 32 + stage) * 2 ^ 18 = K
  have hb (j : Nat) : bankKey kind pipe stage j = K + j := by rw [bankKey, hK]
  have hc : (K + off ≤ K + i ∧ K + i < K + off + l.length) ↔ (off ≤ i ∧ i < off + l.length) := by omega
  have hi : K + i - (K + off) = i - off := by omega
  simp only [hb, hc, hi]

/-- Inside what was written the bytes are those written. -/
theorem Bank.bytes_write (b : Bank) (kind pipe stage off : Nat) {l : List Byte} {i n : Nat} (h : i + n ≤ l.length) :
    (b.write kind pipe stage off l).bytes kind pipe stage (off + i) n = bytesAt l i n := by
  rw [Bank.bytes, bytesAt_eq]
  refine List.map_congr_left fun j hj => ?_
  have hj' := List.mem_range.1 hj
  have hi : off + i + j - off = i + j := by omega
  rw [Bank.byte_write, if_pos (by omega), hi]

/-- Outside of it they stay. -/
theorem Bank.bytes_write_ne (b : Bank) (kind pipe stage : Nat) {off o n : Nat} {l : List Byte}
    (h : o + n ≤ off ∨ off + l.length ≤ o) :
    (b.write kind pipe stage off l).bytes kind pipe stage o n = b.bytes kind pipe stage o n := by
  refine List.map_congr_left fun j hj => ?_
  have hj' := List.mem_range.1 hj
  rw [Bank.byte_write, if_neg (by omega)]

@[simp] theorem Slice.active_setActive (x : Slice) (b : Bank) : (x.setActive b).active = b := by
  cases x with | mk _ _ act => cases act <;> rfl

theorem State.slice_writeActive (s : State) (n kind pipe stage off : Nat) (l : List Byte) (j : Nat) :
    (s.writeActive n kind pipe stage off l).slice j =
      if j = n then (s.slice n).setActive ((s.slice n).active.write kind pipe stage off l) else s.slice j :=
  s.slice_setSlice n j _

/-! ### The access registers -/

theorem State.windowMay_trusted {m : Master} (hm : m.trusted = true) (s : State) (n off size x : Nat) :
    s.windowMay m n off size x = true := by
  cases m with
  | vf k => cases hm
  | pf => rfl
  | me k => rfl

section
variable (s : State) (a : Nat) (mask d : Word)

theorem State.reg_setRW_ne {b : Nat} (h : b ≠ a) : (s.setRW a mask d).reg b = s.reg b := State.reg_setReg_ne s h _

theorem State.slice_setRW (j : Nat) : (s.setRW a mask d).slice j = s.slice j := State.slice_of_slices rfl j

theorem State.loadPeriod_setRW {n : Nat} (h : Reg.SLC_BS_STAT n ≠ a) : (s.setRW a mask d).loadPeriod n =
    s.loadPeriod n := by
  rw [State.loadPeriod, State.ldState_of_reg (s.reg_setRW_ne a mask d h), State.loader, State.slice_setRW,
    ← State.loader, State.loadPeriod]

end

/-- The access to a microword's store (R145): the fields of SLC_CS_ACC take the command's values. -/
def State.csAccess (s : State) (n : Nat) (acc : Word) : State := s.setRW (Reg.SLC_CS_ACC n) 0x3F8003FF acc

/-- The access to an indirection table (R105). -/
def State.lbAccess (s : State) (n : Nat) (acc : Word) : State := s.setRW (Reg.SLC_LB_ACC n) 0x0FFFF000 acc

theorem State.slices_csAccess (s : State) (n : Nat) (acc : Word) : (s.csAccess n acc).slices = s.slices :=
  State.slices_setReg _ _ _

theorem State.slices_bankWr (s : State) (n : Nat) : (s.bankWr n).slices = s.slices := State.slices_setBit _ _ _ _

theorem State.bit_bankWr (s : State) (n : Nat) : (s.bankWr n).bit (Reg.SLC_BS_STAT n) 14 = true :=
  State.bit_setBit _ _ _ _ (by decide)

/-- The words in SLC_CS_DATA. -/
def State.csData (s : State) (n : Nat) : List Word := (List.range 4).map fun w => s.reg (Reg.SLC_CS_DATA n w)

/-- One microword written (R145). -/
def State.csWrite (s : State) (n : Nat) (acc : Word) : State :=
  (s.writeActive n kMicro (fieldOf acc 29 29) (fieldOf acc 28 24) (16 * fieldOf acc 9 0)
    ((s.csData n).flatMap fun w => toLE 4 w.toNat)).setBit (Reg.SLC_CS_PROT n) 3 true

/-- One microword read (R145). -/
def State.csRead (s : State) (n : Nat) (acc : Word) : State :=
  s.setRegs (Reg.SLC_CS_DATA n) (fun w => BitVec.ofNat 32 ((s.slice n).active.le kMicro (fieldOf acc 29 29)
    (fieldOf acc 28 24) (16 * fieldOf acc 9 0 + 4 * w) 4)) (List.range 4)

section
variable {m : Master} {n : Fin 32} {acc : Word} {s : State} (hm : m.trusted = true)

section
variable (hd : s.domOn (domainOf (Reg.SLC_CS_ACC n)) = true) (ht : fieldOf acc 23 23 = 0) (hst : fieldOf acc 28 24 < 24)
include hm hd ht hst

theorem execCsWordWrite_micro : execCsWordWrite m n acc s = .next (
    if (s.csAccess n acc).loadPeriod n then (s.csAccess n acc).bankWr n
    else if (s.csAccess n acc).bit (Reg.SLC_CS_PROT n) 2 then s.csAccess n acc
    else (s.csAccess n acc).csWrite n acc) := by
  have hflat (t : State) : (List.range 4).flatMap (fun w => toLE 4 (t.reg (Reg.SLC_CS_DATA n w)).toNat) =
      (t.csData n).flatMap fun w => toLE 4 w.toNat := by
    rw [State.csData, List.flatMap_map]
  rw [execCsWordWrite, State.gated_trusted hm hd]
  simp only [ht, zero_ne_one, if_false, Nat.not_le.2 hst, State.windowMay_trusted hm,
    Bool.true_eq_false, hflat]
  rfl

theorem execCsWordRead_micro : execCsWordRead m n acc s = .next ((s.csAccess n acc).csRead n acc) := by
  rw [execCsWordRead, State.gated_trusted hm hd]
  simp only [ht, zero_ne_one, if_false, Nat.not_le.2 hst]
  rfl

end

section
variable (hd : s.domOn (domainOf (Reg.SLC_LB_ACC n)) = true)
include hm hd

theorem execLbEntryWrite_eq : execLbEntryWrite m n acc s = .next (
    if (s.lbAccess n acc).loadPeriod n then (s.lbAccess n acc).bankWr n
    else (s.lbAccess n acc).writeActive n kHashSel 0 31 (8448 * fieldOf acc 27 24 + 256 + 2 * fieldOf acc 23 12)
      (toLE 2 ((s.lbAccess n acc).fld (Reg.SLC_LB_DATA n) 15 0))) := by
  rw [execLbEntryWrite, State.gated_trusted hm hd]
  simp only [State.windowMay_trusted hm, Bool.true_eq_false, if_false]
  rfl

theorem execLbEntryRead_eq : execLbEntryRead m n acc s = .next ((s.lbAccess n acc).setReg (Reg.SLC_LB_DATA n)
    (BitVec.ofNat 32 (((s.lbAccess n acc).slice n).active.lbEntry (fieldOf acc 27 24) (fieldOf acc 23 12)))) := by
  rw [execLbEntryRead, State.gated_trusted hm hd]
  simp only [State.windowMay_trusted hm, Bool.true_eq_false, if_false]
  rfl

end

/-- A mirror session's sampling set, its count at 0 (R107). -/
def State.mirrorSet (s : State) (n i : Nat) (d : Word) : State :=
  let t := s.setReg (Reg.SLC_MIR_CFG1 n i) (d &&& 0xFFFFFF00)
  t.setSlice n { t.slice n with mirror := Store.put 0 (t.slice n).mirror i 0 }

include hm in
theorem execMirrorCfg1Write_eq {i : Fin 16} {d : Word} (hd : s.domOn (domainOf (Reg.SLC_MIR_CFG1 n i)) = true) :
    execMirrorCfg1Write m n i d s = .next (s.mirrorSet n i d) := by
  rw [execMirrorCfg1Write, State.gated_trusted hm hd]
  rfl

include hm in
theorem execSliceScrub_eq (hd : s.domOn (domainOf (Reg.SLC_CS_PROT n)) = true) :
    execSliceScrub m n s = .next (s.setBit (Reg.SLC_CS_PROT n) 30 true) := by
  rw [execSliceScrub, State.gated_trusted hm hd]

end

/-! ### What a microword's access leaves -/

theorem csProt_ne_csAcc (n : Nat) : Reg.SLC_CS_PROT n ≠ Reg.SLC_CS_ACC n := by
  simp only [Reg.SLC_CS_PROT, Reg.SLC_CS_ACC]; omega
theorem bsStat_ne_csAcc (n : Nat) : Reg.SLC_BS_STAT n ≠ Reg.SLC_CS_ACC n := by
  simp only [Reg.SLC_BS_STAT, Reg.SLC_CS_ACC]; omega
theorem bsStat_ne_lbAcc (n : Nat) : Reg.SLC_BS_STAT n ≠ Reg.SLC_LB_ACC n := by
  simp only [Reg.SLC_BS_STAT, Reg.SLC_LB_ACC]; omega
theorem csData_ne_csAcc (n w : Nat) : Reg.SLC_CS_DATA n w ≠ Reg.SLC_CS_ACC n := by
  simp only [Reg.SLC_CS_DATA, Reg.SLC_CS_ACC]; omega
theorem lbData_ne_lbAcc (n : Nat) : Reg.SLC_LB_DATA n ≠ Reg.SLC_LB_ACC n := by
  simp only [Reg.SLC_LB_DATA, Reg.SLC_LB_ACC]; omega
theorem csData_injective (n : Nat) : Function.Injective (Reg.SLC_CS_DATA n) := by
  intro i j h
  simp only [Reg.SLC_CS_DATA] at h
  omega

theorem length_flatMap_words (ws : List Word) : (ws.flatMap fun w => toLE 4 w.toNat).length = 4 * ws.length := by
  induction ws with
  | nil => rfl
  | cons w r ih =>
    rw [List.flatMap_cons, List.length_append, ih, length_toLE, List.length_cons]
    omega

section
variable (s : State) (n : Nat) (acc : Word)

theorem State.length_csBytes : ((s.csData n).flatMap fun w => toLE 4 w.toNat).length = 16 := by
  rw [length_flatMap_words, State.csData, List.length_map, List.length_range]

theorem State.slice_csWrite (j : Nat) : (s.csWrite n acc).slice j = if j = n then (s.slice n).setActive
    ((s.slice n).active.write kMicro (fieldOf acc 29 29) (fieldOf acc 28 24) (16 * fieldOf acc 9 0)
      ((s.csData n).flatMap fun w => toLE 4 w.toNat)) else s.slice j := by
  rw [State.csWrite, State.slice_of_slices (State.slices_setBit _ _ _ _), State.slice_writeActive]

theorem State.active_csWrite : ((s.csWrite n acc).slice n).active =
    (s.slice n).active.write kMicro (fieldOf acc 29 29) (fieldOf acc 28 24) (16 * fieldOf acc 9 0)
      ((s.csData n).flatMap fun w => toLE 4 w.toNat) := by
  rw [State.slice_csWrite, if_pos rfl, Slice.active_setActive]

/-- The word written is read back. -/
theorem State.le_csWrite {w : Nat} (hw : w < 4) : ((s.csWrite n acc).slice n).active.le kMicro (fieldOf acc 29 29)
    (fieldOf acc 28 24) (16 * fieldOf acc 9 0 + 4 * w) 4 = (s.reg (Reg.SLC_CS_DATA n w)).toNat := by
  rw [State.active_csWrite, Bank.le, Bank.bytes_write _ _ _ _ _ (by rw [State.length_csBytes]; omega), ← leAt,
    leAt_words, State.csData, getD_map_range _ hw]

/-- The other words stay. -/
theorem State.bytes_csWrite_ne {b : Nat} (h : b ≠ fieldOf acc 9 0) : ((s.csWrite n acc).slice n).active.bytes kMicro
    (fieldOf acc 29 29) (fieldOf acc 28 24) (16 * b) 16 =
      (s.slice n).active.bytes kMicro (fieldOf acc 29 29) (fieldOf acc 28 24) (16 * b) 16 := by
  rw [State.active_csWrite, Bank.bytes_write_ne _ _ _ _ (by rw [State.length_csBytes]; omega)]

theorem State.noref_csWrite : (s.csWrite n acc).bit (Reg.SLC_CS_PROT n) 3 = true := State.bit_setBit _ _ _ _ (by decide)

theorem State.slices_csRead : (s.csRead n acc).slices = s.slices := State.slices_of_apart (State.apart_setRegs _ _ _ s)

theorem State.reg_csRead {w : Nat} (hw : w < 4) : (s.csRead n acc).reg (Reg.SLC_CS_DATA n w) =
    BitVec.ofNat 32 ((s.slice n).active.le kMicro (fieldOf acc 29 29) (fieldOf acc 28 24)
      (16 * fieldOf acc 9 0 + 4 * w) 4) :=
  State.reg_setRegs_mem _ _ _ s (csData_injective n) (List.mem_range.2 hw)

/-- An indirection entry written is read back (R105). -/
theorem Bank.lbEntry_write (b : Bank) (g i : Nat) {v : Nat} (hv : v < 65536) :
    (b.write kHashSel 0 31 (8448 * g + 256 + 2 * i) (toLE 2 v)).lbEntry g i = v := by
  have h : (b.write kHashSel 0 31 (8448 * g + 256 + 2 * i) (toLE 2 v)).bytes kHashSel 0 31 (8448 * g + 256 + 2 * i) 2 =
      toLE 2 v := b.bytes_write kHashSel 0 31 (8448 * g + 256 + 2 * i) (i := 0) (by simp)
  rw [Bank.lbEntry, Bank.le, h, leNat_toLE]
  exact Nat.mod_eq_of_lt hv

end

theorem State.fld_lt (s : State) (a hi lo : Nat) : s.fld a hi lo < 2 ^ (hi + 1 - lo) := fieldOf_lt _ _ _

/-! ### The end of a scrub (R144) -/

/-- The scrub's bit is cleared. -/
def State.scrubbed (s : State) (n : Nat) : State := s.setBit (Reg.SLC_CS_PROT n) 30 false

/-- A digest that differs: SMISM and a fault of the pipe. -/
def State.digestBad (s : State) (n pipe : Nat) : State :=
  (s.setBit (Reg.SLC_CS_PROT n) 1 true).reportFault (stageSrc n pipe 31) .cont .logic 0 0

section
variable (s : State) (n : Nat)

theorem State.slice_scrubbed (j : Nat) : (s.scrubbed n).slice j = s.slice j := by
  rw [State.scrubbed, State.slice_of_slices (State.slices_setBit _ _ _ _)]

theorem State.scrub_scrubbed : (s.scrubbed n).bit (Reg.SLC_CS_PROT n) 30 = false := State.bit_setBit _ _ _ _ (by decide)

theorem State.noref_scrubbed : (s.scrubbed n).bit (Reg.SLC_CS_PROT n) 3 = s.bit (Reg.SLC_CS_PROT n) 3 :=
  State.bit_setBit_ne _ _ _ _ _ (by decide) (by decide)

/-- The digests of both pipes compared with their references. -/
def State.compareDigests (t : State) (n : Nat) (b : Bank) : State :=
  let u := if b.record.digestI = b.digestI then t else t.digestBad n 0
  if b.record.digestE = b.digestE then u else u.digestBad n 1

variable {s n} in
theorem State.sliceScrubDone_eq (h : s.bit (Reg.SLC_CS_PROT n) 30 = true) : s.sliceScrubDone n =
    if (s.scrubbed n).bit (Reg.SLC_CS_PROT n) 3 = true ∨ ((s.scrubbed n).slice n).active.digestI = [] then
      ((s.scrubbed n).setSlice n (((s.scrubbed n).slice n).setActive ((s.scrubbed n).slice n).active.record)).setBit
        (Reg.SLC_CS_PROT n) 3 false
    else (s.scrubbed n).compareDigests n ((s.scrubbed n).slice n).active := by
  rw [State.sliceScrubDone, if_neg (by simp [h])]
  rfl

end

section
variable {s : State} {n : Nat} (h : s.bit (Reg.SLC_CS_PROT n) 30 = true)
include h

theorem State.sliceScrubDone_noref (hn : s.bit (Reg.SLC_CS_PROT n) 3 = true) :
    s.sliceScrubDone n = ((s.scrubbed n).setSlice n ((s.slice n).setActive (s.slice n).active.record)).setBit
      (Reg.SLC_CS_PROT n) 3 false := by
  rw [State.sliceScrubDone_eq h, if_pos (.inl ((s.noref_scrubbed n).trans hn)), State.slice_scrubbed]

/-- With a reference, each pipe's digest is compared. -/
theorem State.sliceScrubDone_compare (hn : s.bit (Reg.SLC_CS_PROT n) 3 = false) (hd : (s.slice n).active.digestI ≠ []) :
    s.sliceScrubDone n = (s.scrubbed n).compareDigests n (s.slice n).active := by
  have hno : ¬ ((s.scrubbed n).bit (Reg.SLC_CS_PROT n) 3 = true ∨ ((s.scrubbed n).slice n).active.digestI = []) := by
    rw [State.noref_scrubbed, State.slice_scrubbed]
    simp [hn, hd]
  rw [State.sliceScrubDone_eq h, if_neg hno, State.slice_scrubbed]

end

theorem State.compareDigests_ne (t : State) (n : Nat) {b : Bank} (hi : b.record.digestI ≠ b.digestI) :
    t.compareDigests n b = t.digestBad n 0 ∨ t.compareDigests n b = (t.digestBad n 0).digestBad n 1 := by
  simp only [State.compareDigests, hi, if_false]
  split
  · exact .inl rfl
  · exact .inr rfl

section
variable (s : State) (n pipe : Nat)

theorem State.slices_digestBad : (s.digestBad n pipe).slices = s.slices := by
  rw [State.digestBad, State.slices_reportFault, State.slices_setBit]

theorem State.smism_digestBad : (s.digestBad n pipe).bit (Reg.SLC_CS_PROT n) 1 = true := by
  rw [State.digestBad, State.bit_of_reg (State.reg_reportFault _ _ _ _ _ _ _), State.bit_setBit _ _ _ _ (by decide)]

theorem State.scrub_digestBad : (s.digestBad n pipe).bit (Reg.SLC_CS_PROT n) 30 = s.bit (Reg.SLC_CS_PROT n) 30 := by
  rw [State.digestBad, State.bit_of_reg (State.reg_reportFault _ _ _ _ _ _ _),
    State.bit_setBit_ne _ _ _ _ _ (by decide) (by decide)]

theorem State.reports_digestBad : (s.digestBad n pipe).flt.reports.length = s.flt.reports.length + 1 := by
  rw [State.digestBad, State.reportFault, List.length_append, List.length_singleton, State.flt_setBit]

theorem State.flt_scrubbed : (s.scrubbed n).flt = s.flt := by
  rw [State.scrubbed, State.flt_setBit]

theorem State.slices_scrubbed : (s.scrubbed n).slices = s.slices := by
  rw [State.scrubbed, State.slices_setBit]

end

end Sys2Proof.Machine

open Sys2Proof.Machine

/-- Settles O47: each command at its access register, and the two ends of a scrub. -/
theorem storeWordsAndMirrors : Obligations.StoreWordsAndMirrors := by
  intro m n i acc d w p st a s hm hp hst ha
  subst hp hst ha
  refine ⟨fun hd ht h24 => ⟨fun hl hprot => ?_, fun hl => ?_, ?_⟩, fun hd => ⟨fun hl => ?_, ?_⟩, fun hd => ?_,
    fun hd => ?_, fun hs => ⟨fun hn => ?_, fun hn hdig hne => ?_⟩⟩
  · have hl' : ¬ (s.csAccess n acc).loadPeriod n = true := by
      rw [State.csAccess, State.loadPeriod_setRW _ _ _ _ (bsStat_ne_csAcc n), hl]
      decide
    have hprot' : ¬ (s.csAccess n acc).bit (Reg.SLC_CS_PROT n) 2 = true := by
      rw [State.csAccess, State.bit_of_reg (State.reg_setRW_ne _ _ _ _ (csProt_ne_csAcc n)), hprot]
      decide
    refine ⟨_, execCsWordWrite_micro hm hd ht h24, ?_⟩
    rw [if_neg hl', if_neg hprot']
    refine ⟨?_, fun b hb => ?_, State.noref_csWrite _ _ _, fun j hj => ?_⟩
    · rw [State.le_csWrite _ _ _ w.isLt, State.csAccess, State.reg_setRW_ne _ _ _ _ (csData_ne_csAcc n w)]
    · rw [State.bytes_csWrite_ne _ _ _ hb, State.csAccess, State.slice_setRW]
    · rw [State.slice_csWrite, if_neg hj, State.csAccess, State.slice_setRW]
  · have hl' : (s.csAccess n acc).loadPeriod n = true := by
      rw [State.csAccess, State.loadPeriod_setRW _ _ _ _ (bsStat_ne_csAcc n), hl]
    refine ⟨_, execCsWordWrite_micro hm hd ht h24, ?_⟩
    rw [if_pos hl', State.slices_bankWr, State.slices_csAccess, State.bit_bankWr]
    exact ⟨rfl, rfl⟩
  · refine ⟨_, execCsWordRead_micro hm hd ht h24, (State.slices_csRead _ _ _).trans (State.slices_csAccess _ _ _), ?_⟩
    rw [State.reg_csRead _ _ _ w.isLt, State.csAccess, State.slice_setRW]
  · have hl' : ¬ (s.lbAccess n acc).loadPeriod n = true := by
      rw [State.lbAccess, State.loadPeriod_setRW _ _ _ _ (bsStat_ne_lbAcc n), hl]
      decide
    refine ⟨_, execLbEntryWrite_eq hm hd, ?_⟩
    rw [if_neg hl']
    refine ⟨?_, fun j hj => ?_⟩
    · rw [State.slice_writeActive, if_pos rfl, Slice.active_setActive, Bank.lbEntry_write _ _ _ (State.fld_lt _ _ 15 0),
        State.lbAccess, State.fld_of_reg (State.reg_setRW_ne _ _ _ _ (lbData_ne_lbAcc n))]
    · rw [State.slice_writeActive, if_neg hj, State.lbAccess, State.slice_setRW]
  · refine ⟨_, execLbEntryRead_eq hm hd, ?_, ?_⟩
    · rw [State.slices_setReg, State.lbAccess, State.setRW, State.slices_setReg]
    · rw [State.reg_setReg_self, State.lbAccess, State.slice_setRW]
  · refine ⟨_, execMirrorCfg1Write_eq hm hd, ?_, ?_, fun b hb => ?_⟩
    · rw [State.mirrorSet, State.reg_setSlice, State.reg_setReg_self]
    · rw [State.mirrorSet, State.slice_setSlice, if_pos rfl, Store.read_put, if_pos rfl]
    · rw [State.mirrorSet, State.reg_setSlice, State.reg_setReg_ne _ hb]
  · exact ⟨_, execSliceScrub_eq hm hd, State.bit_setBit _ _ _ _ (by decide), State.slices_setBit _ _ _ _,
      fun b hb => State.reg_setBit_ne _ hb _ _⟩
  · refine ⟨_, congrArg Host.Outcome.next (State.sliceScrubDone_noref hs hn), ?_, State.bit_setBit _ _ _ _ (by decide),
      ?_, ?_⟩
    · rw [State.bit_setBit_ne _ _ _ _ _ (by decide) (by decide), State.bit_of_reg (State.reg_setSlice _ _ _ _),
        State.scrub_scrubbed]
    · rw [State.flt_setBit, State.flt_setSlice, State.flt_scrubbed]
    · rw [State.slice_of_slices (State.slices_setBit _ _ _ _), State.slice_setSlice, if_pos rfl, Slice.active_setActive]
  · refine ⟨_, congrArg Host.Outcome.next (State.sliceScrubDone_compare hs hn hdig), ?_⟩
    obtain h | h := (s.scrubbed n).compareDigests_ne n hne
    · rw [h, State.scrub_digestBad, State.scrub_scrubbed, State.smism_digestBad, State.slices_digestBad,
        State.slices_scrubbed, State.reports_digestBad, State.flt_scrubbed]
      exact ⟨rfl, rfl, rfl, Nat.lt_succ_self _⟩
    · rw [h, State.scrub_digestBad, State.scrub_digestBad, State.scrub_scrubbed, State.smism_digestBad,
        State.slices_digestBad, State.slices_digestBad, State.slices_scrubbed, State.reports_digestBad,
        State.reports_digestBad, State.flt_scrubbed]
      exact ⟨rfl, rfl, rfl, by omega⟩

end

section
/-!
A frame enters its stage (R119, R130, R443), looks up its stage tables (R121) and takes a response (R133).
-/

open Sys2Proof

namespace Sys2Proof.Machine

/-! ### A frame dropped in its pipe -/

theorem State.ctx?_dropCtx (s : State) (c : Nat) : (s.dropCtx c).ctx? c = none := by
  by_contra h
  obtain ⟨x, hx⟩ := Option.ne_none_iff_exists'.1 h
  exact (State.mem_ctxs_dropCtx (Store.mem_of_at? hx)).2 rfl

theorem State.reg_dropCtx (s : State) (c : Nat) {a : Nat} (ha : offVatReg a) : (s.dropCtx c).reg a = s.reg a := by
  rw [State.dropCtx]
  split
  next => rfl
  next x _ =>
    split
    · exact (State.vatOnly_noCopies _ _).reg a ha
    · exact (State.vatOnly_unref _ _).reg a ha

/-- A frame dropped for a violation leaves its pipe and its compartment flagged (R59). -/
theorem State.flag_violate_dropCtx (s : State) (x : Ctx) (hc : x.comp < 8) (c kind detail : Nat) :
    ((s.ctxViolate x kind detail).dropCtx c).bit (Reg.SLC_RIND_STAT x.slice) (16 + x.comp) = true := by
  have ha : offVatReg (Reg.SLC_RIND_STAT x.slice) := offVatReg_of_le (by simp only [Reg.SLC_RIND_STAT]; omega)
  rw [State.bit_of_reg (State.reg_dropCtx _ c ha)]
  exact State.flag_violate _ _ hc _ _ _ _

/-! ### Entry and dispatch -/

/-- The frame at its stage's door: flags, steps and what it awaits are cleared. -/
def Ctx.atEntry (x : Ctx) : Ctx :=
  { x with z := false, n := false, c := false, hit := false, err := false, steps := 0, lastFlags := none }

section
variable {s : State} {c : Nat} {x : Ctx}

section
variable (hx : s.ctx? c = some x) (hp : x.parsed = true) (hr : x.running = false) (hst : x.stage < 24)
  (ho : x.outst = [])
include hx hp hr hst ho

theorem execStageEntry_untiled (ht : (s.ctxBank x).actionTile x.pipe x.stage = 0) :
    execStageEntry c s = .next (s.setCtx c x.atEntry.endStage) := by
  have hg : (x.parsed && !x.running && decide (x.stage < 24) && x.outst.isEmpty) = true := by simp [hp, hr, hst, ho]
  simp only [execStageEntry, hx, if_pos hg]
  exact if_pos (.inl ht)

theorem execStageEntry_opcode (ht : (s.ctxBank x).actionTile x.pipe x.stage ≠ 0)
    (hs : (s.ctxBank x).le kStageCfg x.pipe x.stage 0 4 % 2 = 0) (he : (s.ctxBank x).sub x 0 1 = 1) :
    execStageEntry c s = .next (s.dispatch c x.atEntry ((s.ctxBank x).sub x 2 1)) := by
  have hg : (x.parsed && !x.running && decide (x.stage < 24) && x.outst.isEmpty) = true := by simp [hp, hr, hst, ho]
  have hd : ¬ ((s.ctxBank x).actionTile x.pipe x.stage = 0 ∨ (s.ctxBank x).le kStageCfg x.pipe x.stage 0 4 % 2 = 1) := by
    rintro (h | h)
    · exact ht h
    · omega
  have he' : (s.ctxBank x).sub x.atEntry 0 1 = 1 := he
  rw [Ctx.atEntry] at he'
  simp only [execStageEntry, hx, if_pos hg, if_neg hd, he']
  rfl

end

/-- A fresh routine's first microword lies within every budget (R135). -/
theorem State.fetchWord_first {addr : Nat} (hw : s.inWindow x.slice x.comp 64 2 addr = true) (h0 : x.steps = 0)
    (hp : s.parityMode x.slice = false) :
    s.fetchWord c x addr = s.setCtx c { x with running := true, upc := addr, issued := false } := by
  have hb (b : Nat) : ¬ (if b = 0 ∨ 16 < b then 16 else b) ≤ x.steps := by
    rw [h0]
    split <;> omega
  rw [State.fetchWord]
  simp only [hw, hp, hb, if_false, Bool.true_eq_false, Bool.false_eq_true, false_and]

theorem State.dispatch_outside {opc : Nat} (hw : s.inWindow x.slice x.comp 72 2 opc = false) :
    s.dispatch c x opc = (s.ctxViolate x 8 opc).dropCtx c := if_pos hw

theorem State.dispatch_valid {opc e : Nat} (hw : s.inWindow x.slice x.comp 72 2 opc = true)
    (hp : s.parityMode x.slice = false) (he : e = (s.ctxBank x).le kDispatch x.pipe x.stage (4 * opc) 4)
    (hv : 2 ^ 31 ≤ e) : s.dispatch c x opc = s.fetchWord c x (e % 1024) := by
  subst he
  rw [State.dispatch]
  simp only [hw, hp, Nat.not_lt.2 hv, if_false, Bool.true_eq_false, Bool.false_eq_true, false_and]

/-! ### Stage tables and responses -/

theorem execStageTableLookup_miss (hx : s.ctx? c = some x) (hm : s.mayIssue x 1 = true)
    (h : s.stageTable x (s.ctxBank x) (s.memSlot x % 2) (s.memKey x) = .miss) :
    execStageTableLookup c s = .next (s.setCtx c (x.issue 1 0 (some (List.replicate 16 0, false, false)))) := by
  simp only [execStageTableLookup, State.memNow, hx, hm, h, if_true]
  rfl

/-- The frame with an operation's response in its slot. -/
def Ctx.complete (x : Ctx) (o : Outst) (r : List Byte) (hit err : Bool) : Ctx :=
  { x with
    resp := putBytes x.resp (16 * o.slot) r
    outst := x.outst.filter (·.seq != o.seq)
    lastFlags := if o.seq + 1 = x.nextSeq then some (hit, err) else x.lastFlags }

theorem find?_seq {l : List Outst} {o : Outst} (ho : o ∈ l) (hu : ∀ q ∈ l, q.seq = o.seq → q = o) :
    l.find? (fun q => q.seq == o.seq) = some o := by
  cases h : l.find? (fun q => q.seq == o.seq) with
  | none => exact absurd (List.find?_eq_none.1 h o ho) (by simp)
  | some q => rw [hu q (List.mem_of_find?_eq_some h) (by simpa using List.find?_some h)]

theorem execMemopComplete_answered {o : Outst} {r : List Byte} {hit err : Bool} (hx : s.ctx? c = some x)
    (ho : o ∈ x.outst) (hu : ∀ q ∈ x.outst, q.seq = o.seq → q = o) (hr : o.resp = some (r, hit, err)) :
    execMemopComplete c o.seq s = .next (s.setCtx c (x.complete o r hit err)) := by
  obtain ⟨seq, op, slot, resp⟩ := o
  cases hr
  simp only [execMemopComplete, hx, find?_seq ho hu]
  rfl

theorem Ctx.respBytes_complete (x : Ctx) (o : Outst) (r : List Byte) (hit err : Bool) {i : Nat} (hi : i < r.length)
    (hb : 16 * o.slot + i < 128) :
    (x.complete o r hit err).respBytes (16 * o.slot + i) 1 = [r.getD i 0] := by
  have hin : 16 * o.slot ≤ 16 * o.slot + i ∧ 16 * o.slot + i < 16 * o.slot + r.length := by omega
  simp only [Ctx.respBytes, Ctx.complete, List.range_one, List.map_cons, List.map_nil, Nat.add_zero, if_pos hb,
    read_putBytes, if_pos hin, Nat.add_sub_cancel_left]

theorem State.ctx?_setCtx_self (s : State) (c : Nat) (y : Ctx) : (s.setCtx c y).ctx? c = some y := by
  rw [State.ctx?_setCtx, if_pos rfl]

end

end Sys2Proof.Machine

open Sys2Proof.Machine

/-- Settles O31: each command at its branch, and what the context it sets reads. -/
theorem stagesAndStageTables : Obligations.StagesAndStageTables := by
  intro c e o r h er x s hx _ hc
  refine ⟨fun hp hr hst ho => ⟨fun ht => ?_, fun ht hs he hd => ⟨fun hw hpar hv hin => ?_, fun hw => ?_⟩⟩,
    execStageTableLookup_miss hx, fun ho hu hr => ?_⟩
  · refine ⟨_, execStageEntry_untiled hx hp hr hst ho ht, ?_, State.regs_setCtx _ _ _⟩
    rw [State.ctx?_setCtx_self]
    rfl
  · refine ⟨_, execStageEntry_opcode hx hp hr hst ho ht hs he, ?_⟩
    have hg : s.dispatch c x.atEntry ((s.ctxBank x).sub x 2 1) = _ :=
      (State.dispatch_valid (x := x.atEntry) hw hpar hd hv).trans (State.fetchWord_first (x := x.atEntry) hin rfl hpar)
    rw [hg, State.ctx?_setCtx_self]
    exact ⟨rfl, State.regs_setCtx _ _ _⟩
  · refine ⟨_, execStageEntry_opcode hx hp hr hst ho ht hs he, ?_⟩
    have hg : s.dispatch c x.atEntry ((s.ctxBank x).sub x 2 1) = _ := State.dispatch_outside (x := x.atEntry) hw
    rw [hg]
    exact ⟨State.ctx?_dropCtx _ _, State.flag_violate_dropCtx s x.atEntry hc c 8 _⟩
  · refine ⟨_, execMemopComplete_answered hx ho hu hr, State.regs_setCtx _ _ _, fun y hy => ?_⟩
    rw [State.ctx?_setCtx_self, Option.mem_some_iff] at hy
    subst hy
    refine ⟨rfl, fun q hq => ?_, fun i hi hb => x.respBytes_complete o r h er hi hb, fun hl => if_pos hl⟩
    exact bne_iff_ne.1 (List.mem_filter.1 hq).2

end

section
/-!
What the operations of a frame's microword compute (R123, R128, R131).
-/

open Sys2Proof

namespace Sys2Proof

theorem leNat_lt (l : List Byte) : leNat l < 256 ^ l.length := by
  induction l with
  | nil => decide
  | cons b r ih =>
    have hb := b.isLt
    have h : 256 ^ (b :: r).length = 256 * 256 ^ r.length := Nat.pow_succ'
    rw [leNat, h]
    omega

theorem beNat_lt (l : List Byte) : beNat l < 256 ^ l.length := by
  simpa [beNat] using leNat_lt l.reverse

theorem two_pow_bytes (n : Nat) : 256 ^ n = 2 ^ (8 * n) := by rw [Nat.pow_mul]

/-- A difference kept in m values is 0 for equal operands alone. -/
theorem wrapped_sub_eq_zero_iff {a b m : Nat} (ha : a < m) (hb : b < m) : (a + m - b) % m = 0 ↔ a = b := by
  by_cases h : b ≤ a
  · have hs : a + m - b = a - b + m := by omega
    rw [hs, Nat.add_mod_right, Nat.mod_eq_of_lt (by omega)]
    omega
  · rw [Nat.mod_eq_of_lt (by omega)]
    omega

end Sys2Proof

namespace Sys2Proof.Machine

/-! ### A microword's operands and result -/

/-- The bytes a frame's microword works on at once (Table 04.6, WIDTH). -/
def opWidth (w : Nat) : Nat := 2 ^ bitsOf w 105 104

/-- Operand A of a frame's microword. -/
def Ctx.operandA (x : Ctx) (w : Nat) : Nat :=
  if bitsOf w 15 15 = 1 then beNat (x.respBytes (bitsOf w 95 88) (opWidth w)) else x.mdBE (bitsOf w 95 88) (opWidth w)

/-- Operand B of a frame's microword. -/
def Ctx.operandB (x : Ctx) (w : Nat) : Nat :=
  match bitsOf w 79 78 with
  | 0 => x.mdBE (bitsOf w 87 80) (opWidth w)
  | 1 => bitsOf w 63 32 % 2 ^ (8 * opWidth w)
  | 2 => beNat (x.respBytes (bitsOf w 87 80) (opWidth w))
  | _ => x.flagByte

theorem Ctx.mdBE_lt (x : Ctx) (off n : Nat) : x.mdBE off n < 2 ^ (8 * n) := by
  have h := beNat_lt (x.mdBytes off n)
  rwa [Ctx.mdBytes, List.length_map, List.length_range, two_pow_bytes] at h

theorem Ctx.beNat_respBytes_lt (x : Ctx) (off n : Nat) : beNat (x.respBytes off n) < 2 ^ (8 * n) := by
  have h := beNat_lt (x.respBytes off n)
  rwa [Ctx.respBytes, List.length_map, List.length_range, two_pow_bytes] at h

theorem Ctx.operandA_lt (x : Ctx) (w : Nat) : x.operandA w < 2 ^ (8 * opWidth w) := by
  rw [Ctx.operandA]
  split
  · exact x.beNat_respBytes_lt _ _
  · exact x.mdBE_lt _ _

theorem Ctx.flagByte_lt (x : Ctx) (w : Nat) : x.flagByte < 2 ^ (8 * opWidth w) := by
  have hb (b : Bool) : b.toNat ≤ 1 := Bool.toNat_le b
  have h : x.flagByte < 2 ^ 8 := by
    have h1 := hb x.z
    have h2 := hb x.n
    have h3 := hb x.c
    have h4 := hb x.hit
    have h5 := hb x.err
    rw [Ctx.flagByte]
    omega
  have hw : 1 ≤ opWidth w := Nat.one_le_two_pow
  exact h.trans_le (Nat.pow_le_pow_right (by decide) (by omega))

theorem Ctx.operandB_lt (x : Ctx) (w : Nat) : x.operandB w < 2 ^ (8 * opWidth w) := by
  rw [Ctx.operandB]
  split
  · exact x.mdBE_lt _ _
  · exact Nat.mod_lt _ (Nat.two_pow_pos _)
  · exact x.beNat_respBytes_lt _ _
  · exact x.flagByte_lt w

/-- What the operation of a frame's microword computes. -/
def Ctx.alu (x : Ctx) (w : Nat) : Nat × Bool :=
  aluResult (bitsOf w 111 106) (8 * opWidth w) (x.operandA w) (x.operandB w)

/-- The frame with its microword's result in the metadata. -/
def Ctx.storeResult (x : Ctx) (w : Nat) : Ctx :=
  if writesResult (bitsOf w 111 106) then x.writeMd (bitsOf w 103 96) (toBE (opWidth w) (x.alu w).1) else x

/-- The frame after the operation of a microword that awaits nothing. -/
def Ctx.computed (x : Ctx) (w : Nat) : Ctx :=
  if setsFlags (bitsOf w 111 106) (bitsOf w 72 72 == 1) then
    { x.storeResult w with
      z := (x.alu w).1 == 0, n := (x.alu w).1.testBit (8 * opWidth w - 1), c := (x.alu w).2 }
  else x.storeResult w

section
variable {x : Ctx} {w : Nat}

theorem Ctx.operate_eq_computed (hc : (classOf x.pipe w).1 < 3) : x.operate w = x.computed w :=
  if_neg (Nat.not_le.2 hc)

theorem Ctx.md_computed : (x.computed w).md = (x.storeResult w).md := by
  rw [Ctx.computed]
  split <;> rfl

theorem Ctx.stage_computed : (x.computed w).stage = x.stage := by
  rw [Ctx.computed, Ctx.storeResult]
  split <;> split <;> rfl

theorem Ctx.md_computed_silent (h : writesResult (bitsOf w 111 106) = false) : (x.computed w).md = x.md := by
  rw [Ctx.md_computed, Ctx.storeResult, h]
  rfl

theorem Ctx.md_computed_writes (h : writesResult (bitsOf w 111 106) = true) (h64 : 64 ≤ bitsOf w 103 96)
    (hd : bitsOf w 103 96 + opWidth w ≤ 256) :
    (x.computed w).md = putBytes x.md (bitsOf w 103 96) (toBE (opWidth w) (x.alu w).1) := by
  have hm : max (bitsOf w 103 96) 64 = bitsOf w 103 96 := max_eq_left h64
  have h0 : 64 - bitsOf w 103 96 = 0 := Nat.sub_eq_zero_of_le h64
  rw [Ctx.md_computed, Ctx.storeResult, if_pos h, Ctx.writeMd, hm, h0, List.drop_zero, Ctx.putMd,
    List.take_of_length_le (by rw [length_toBE]; omega)]

theorem Ctx.flags_storeResult : ((x.storeResult w).z, (x.storeResult w).n, (x.storeResult w).c) = (x.z, x.n, x.c) := by
  rw [Ctx.storeResult]
  split <;> rfl

theorem Ctx.flags_computed_kept (h : setsFlags (bitsOf w 111 106) (bitsOf w 72 72 == 1) = false) :
    ((x.computed w).z, (x.computed w).n, (x.computed w).c) = (x.z, x.n, x.c) := by
  have he : x.computed w = x.storeResult w := if_neg (by rw [h]; decide)
  rw [he, Ctx.flags_storeResult]

theorem Ctx.computed_flags (h : setsFlags (bitsOf w 111 106) (bitsOf w 72 72 == 1) = true) :
    x.computed w = { x.storeResult w with
      z := (x.alu w).1 == 0, n := (x.alu w).1.testBit (8 * opWidth w - 1), c := (x.alu w).2 } := if_pos h

theorem Ctx.zero_alu_cmp (ho : bitsOf w 111 106 = 9) :
    ((x.alu w).1 == 0) = decide (x.operandA w % 2 ^ (8 * opWidth w) = x.operandB w) := by
  have hA := x.operandA_lt w
  rw [Nat.mod_eq_of_lt hA, Ctx.alu, ho]
  exact (Bool.eq_iff_iff.2 (by simpa [aluResult] using wrapped_sub_eq_zero_iff hA (x.operandB_lt w)))

end

/-! ### A microword that ends its routine -/

/-- The frame has executed its microword and goes on to the next stage. -/
def Ctx.leaveStage (x : Ctx) (w : Nat) : Ctx := { x.computed w with steps := x.steps + 1 }.endStage

theorem State.sequence_end {s : State} {c : Nat} {x : Ctx} {w : Nat} (h : bitsOf w 124 122 = 4) :
    s.sequence c x w = s.setCtx c x.endStage := by
  simp only [State.sequence, h]

/-- Frame c stands at microword w, whose operation may execute and which awaits nothing and ends the routine. -/
structure State.LastWord (s : State) (c : Nat) (x : Ctx) (w : Nat) : Prop where
  ctx : s.ctx? c = some x
  runs : x.running = true
  word : w = s.microword x
  may : x.mayExecute w = true
  seq : bitsOf w 124 122 = 4
  cls : (classOf x.pipe w).1 < 3
  fits : (classOf x.pipe w).2 = false
  memop : memopReserved x.pipe w = false

namespace State.LastWord
variable {s : State} {c : Nat} {x : Ctx} {w : Nat} (h : s.LastWord c x w) {is : Nat → Bool}
include h

theorem frameOp (hi : is (bitsOf w 111 106) = true) :
    s.frameOp c is = (if 16 ≤ bitsOf w 111 106 then s.stageEvent x 16 else s).setCtx c (x.leaveStage w) := by
  have hg : (x.running && is (bitsOf w 111 106) && x.mayExecute w) = true := by
    rw [h.runs, hi, h.may]
    rfl
  rw [State.frameOp]
  simp only [h.ctx, ← h.word, if_pos hg, h.fits, h.memop, Ctx.operate_eq_computed h.cls, State.sequence_end h.seq]
  simp only [Bool.or_false, decide_eq_true_eq, Bool.false_eq_true, if_false]
  rfl

theorem frameOp_meant (hi : is (bitsOf w 111 106) = true) (ho : bitsOf w 111 106 < 16) :
    s.frameOp c is = s.setCtx c (x.leaveStage w) := by
  rw [h.frameOp hi, if_neg (Nat.not_le.2 ho)]

end State.LastWord

theorem Ctx.stage_leaveStage (x : Ctx) (w : Nat) : (x.leaveStage w).stage = x.stage + 1 :=
  congrArg (· + 1) (Ctx.stage_computed (x := x) (w := w))

theorem Ctx.flags_leaveStage (x : Ctx) (w : Nat) (h : setsFlags (bitsOf w 111 106) (bitsOf w 72 72 == 1) = false) :
    ((x.leaveStage w).z, (x.leaveStage w).n, (x.leaveStage w).c) = (x.z, x.n, x.c) := Ctx.flags_computed_kept h

/-- NOP and operations without a meaning change neither metadata nor flags (R128). -/
theorem Ctx.leaveStage_silent (x : Ctx) {w : Nat} (ho : bitsOf w 111 106 = 0 ∨ 16 ≤ bitsOf w 111 106) :
    ((x.leaveStage w).stage, (x.leaveStage w).md, (x.leaveStage w).z, (x.leaveStage w).n, (x.leaveStage w).c) =
      (x.stage + 1, x.md, x.z, x.n, x.c) := by
  have hw : writesResult (bitsOf w 111 106) = false := by simp only [writesResult, decide_eq_false_iff_not]; omega
  have hf : setsFlags (bitsOf w 111 106) (bitsOf w 72 72 == 1) = false := by
    have h9 : (bitsOf w 111 106 == 9) = false := beq_false_of_ne (by omega)
    have hd : decide (0 < bitsOf w 111 106 ∧ bitsOf w 111 106 < 16) = false := decide_eq_false (by omega)
    rw [setsFlags, h9, hd, Bool.and_false, Bool.or_false]
  exact Prod.ext (x.stage_leaveStage w) (Prod.ext (Ctx.md_computed_silent hw) (x.flags_leaveStage w hf))

/-! ### The operations with a result -/

/-- The operations that write a result, with their commands and what they compute from A and B (Table 04.7). -/
def frameRows (c bits A B : Nat) : List (Nat × Instr × Nat) :=
  [(1, .mov (.frame c), B), (2, .add (.frame c), (A + B) % 2 ^ bits),
    (3, .sub (.frame c), (A + 2 ^ bits - B) % 2 ^ bits), (4, .and (.frame c), A &&& B), (5, .or (.frame c), A ||| B),
    (6, .xor (.frame c), A ^^^ B), (7, .shl (.frame c), A * 2 ^ (B % 64) % 2 ^ bits),
    (8, .shr (.frame c), A / 2 ^ (B % 64)), (10, .min (.frame c), min A B), (11, .max (.frame c), max A B),
    (12, .csum (.frame c), onesSum (aluResult.wordsOf bits A ++ aluResult.wordsOf bits B) % 2 ^ bits),
    (13, .crc (.frame c), (crc32c (BitVec.ofNat 32 B) (toBE (bits / 8) A)).toNat % 2 ^ bits),
    (14, .setb (.frame c), (A ||| 2 ^ (B % 64)) % 2 ^ bits), (15, .clrb (.frame c), A - (A &&& 2 ^ (B % 64)))]

/-- Each row's command executes its operation, which writes a result: the one `aluResult` gives. -/
theorem frameRows_spec {c bits A B o v : Nat} {ins : Instr} (h : (o, ins, v) ∈ frameRows c bits A B) (s : State) :
    exec ins s = .next (s.frameOp c (· == o)) ∧ writesResult o = true ∧ v = (aluResult o bits A B).1 := by
  simp only [frameRows, List.mem_cons, Prod.mk.injEq, List.not_mem_nil, or_false] at h
  obtain ⟨rfl, rfl, rfl⟩ | ⟨rfl, rfl, rfl⟩ | ⟨rfl, rfl, rfl⟩ | ⟨rfl, rfl, rfl⟩ | ⟨rfl, rfl, rfl⟩ | ⟨rfl, rfl, rfl⟩ |
    ⟨rfl, rfl, rfl⟩ | ⟨rfl, rfl, rfl⟩ | ⟨rfl, rfl, rfl⟩ | ⟨rfl, rfl, rfl⟩ | ⟨rfl, rfl, rfl⟩ | ⟨rfl, rfl, rfl⟩ |
    ⟨rfl, rfl, rfl⟩ | ⟨rfl, rfl, rfl⟩ := h
  all_goals exact ⟨rfl, rfl, rfl⟩

theorem writesResult_iff {o : Nat} : writesResult o = true ↔ o ≠ 0 ∧ o ≠ 9 ∧ o < 16 := decide_eq_true_iff

/-- An operation with a result sets the flags with SETF alone (R128). -/
theorem setsFlags_of_writes {o : Nat} (h : writesResult o = true) (f : Bool) : setsFlags o f = f := by
  obtain ⟨h0, h9, h16⟩ := writesResult_iff.1 h
  have hd : decide (0 < o ∧ o < 16) = true := decide_eq_true ⟨Nat.pos_of_ne_zero h0, h16⟩
  rw [setsFlags, beq_false_of_ne h9, hd, Bool.and_true, Bool.false_or]

section
variable {x : Ctx} {w : Nat} (hw : writesResult (bitsOf w 111 106) = true)
include hw

theorem Ctx.mdBE_leaveStage (h64 : 64 ≤ bitsOf w 103 96) (hd : bitsOf w 103 96 + opWidth w ≤ 256) :
    (x.leaveStage w).mdBE (bitsOf w 103 96) (opWidth w) = (x.alu w).1 % 2 ^ (8 * opWidth w) := by
  rw [← two_pow_bytes]
  refine Ctx.mdBE_of_put (m := x.md) (pre := []) (post := []) ?_ rfl hd
  rw [List.nil_append, List.append_nil]
  exact Ctx.md_computed_writes hw h64 hd

theorem Ctx.mdByte_leaveStage_ne (h64 : 64 ≤ bitsOf w 103 96) (hd : bitsOf w 103 96 + opWidth w ≤ 256) {e : Nat}
    (he : e < bitsOf w 103 96 ∨ bitsOf w 103 96 + opWidth w ≤ e) : (x.leaveStage w).mdByte e = x.mdByte e := by
  refine congrArg beNat (Ctx.mdBytes_of_put_ne (Ctx.md_computed_writes (x := x) hw h64 hd) ?_)
  rw [length_toBE]
  omega

theorem Ctx.flags_leaveStage_set (hf : bitsOf w 72 72 = 1) :
    (x.leaveStage w).z = ((x.alu w).1 == 0) ∧ (x.leaveStage w).n = (x.alu w).1.testBit (8 * opWidth w - 1) := by
  have h := setsFlags_of_writes hw (bitsOf w 72 72 == 1)
  rw [hf] at h
  have he := Ctx.computed_flags (x := x) (w := w) (by rw [hf]; exact h)
  exact ⟨congrArg Ctx.z he, congrArg Ctx.n he⟩

end

/-! ### CMP and the count of reserved operations -/

theorem Ctx.leaveStage_cmp (x : Ctx) {w : Nat} (ho : bitsOf w 111 106 = 9) :
    ((x.leaveStage w).stage, (x.leaveStage w).md, (x.leaveStage w).z, (x.leaveStage w).c) =
      (x.stage + 1, x.md, decide (x.operandA w % 2 ^ (8 * opWidth w) = x.operandB w),
        decide (x.operandA w < x.operandB w)) := by
  have he := Ctx.computed_flags (x := x) (w := w) (by rw [ho]; rfl)
  have hc : (x.alu w).2 = decide (x.operandA w < x.operandB w) := by rw [Ctx.alu, ho]; rfl
  refine Prod.ext (x.stage_leaveStage w) (Prod.ext (Ctx.md_computed_silent (by rw [ho]; rfl)) (Prod.ext ?_ ?_))
  · exact (congrArg Ctx.z he).trans (Ctx.zero_alu_cmp ho)
  · exact (congrArg Ctx.c he).trans hc

theorem State.rsvop_stageEvent (s : State) (x : Ctx) :
    (s.stageEvent x 16).fld (Reg.SLC_STG_EVT x.slice x.pipe x.stage) 23 16 =
      min 255 (s.fld (Reg.SLC_STG_EVT x.slice x.pipe x.stage) 23 16 + 1) := by
  refine (State.fld_setFld _ _ _ _ _ (by decide)).trans (Nat.mod_eq_of_lt ?_)
  exact (min_le_left _ _).trans_lt (by decide)

end Sys2Proof.Machine

open Sys2Proof.Machine

/-- Settles O32: the frame after its microword, by what its operation writes. -/
theorem microwordsOfFrames : Obligations.MicrowordsOfFrames := by
  intro c w A B d bits o v ins x s hx hr hw hm hseq hc hf hp hbits hd hA hB
  have h : s.LastWord c x w := ⟨hx, hr, hw, hm, hseq, hc, hf, hp⟩
  have h8 : bits / 8 = opWidth w := by rw [hbits]; exact Nat.mul_div_cancel_left _ (by decide)
  rw [h8] at hA hB
  obtain rfl : bits = 8 * opWidth w := hbits
  obtain rfl : A = x.operandA w := hA
  obtain rfl : B = x.operandB w := by
    refine hB.trans ?_
    unfold Ctx.operandB
    generalize bitsOf w 79 78 = m
    obtain _ | _ | _ | m := m <;> rfl
  subst hd
  refine ⟨fun hrow ho h64 h256 => ?_, fun ho => ?_, fun ho => ?_, fun ho => ?_⟩
  · obtain ⟨hex, hwr, rfl⟩ := frameRows_spec hrow s
    subst ho
    rw [h8] at h256 ⊢
    have h16 := (writesResult_iff.1 hwr).2.2
    refine ⟨_, hex, ?_⟩
    rw [h.frameOp_meant (is := (· == bitsOf w 111 106)) (beq_self_eq_true _) h16]
    refine ⟨State.regs_setCtx _ _ _, fun c' hne => ?_, ?_, fun y hy => ?_⟩
    · rw [State.ctx?_setCtx, if_neg hne]
    · rw [State.ctx?_setCtx_self]
      exact congrArg some (x.stage_leaveStage w)
    · rw [State.ctx?_setCtx_self, Option.mem_some_iff] at hy
      subst hy
      refine ⟨Ctx.mdBE_leaveStage hwr h64 h256, fun e he => Ctx.mdByte_leaveStage_ne hwr h64 h256 he, fun h0 => ?_,
        Ctx.flags_leaveStage_set hwr⟩
      exact x.flags_leaveStage w (by rw [setsFlags_of_writes hwr, h0]; rfl)
  · refine ⟨_, rfl, ?_⟩
    have he : s.microOp (.frame c) 0 = s.setCtx c (x.leaveStage w) :=
      h.frameOp_meant (is := (· == 0)) (beq_iff_eq.2 ho) (by omega)
    rw [he, State.ctx?_setCtx_self]
    exact ⟨State.regs_setCtx _ _ _, congrArg some (x.leaveStage_silent (.inl ho))⟩
  · refine ⟨_, rfl, ?_⟩
    have he : s.microOp (.frame c) 9 = s.setCtx c (x.leaveStage w) :=
      h.frameOp_meant (is := (· == 9)) (beq_iff_eq.2 ho) (by omega)
    rw [he, State.ctx?_setCtx_self]
    exact ⟨State.regs_setCtx _ _ _, congrArg some (x.leaveStage_cmp ho)⟩
  · have he : exec (.rsvop (.frame c)) s = .next ((s.stageEvent x 16).setCtx c (x.leaveStage w)) := by
      have h' := h.frameOp (is := fun op => decide (16 ≤ op)) (decide_eq_true ho)
      rw [if_pos ho] at h'
      exact congrArg Host.Outcome.next h'
    refine ⟨_, he, ?_⟩
    rw [State.ctx?_setCtx_self, State.fld_of_reg (State.reg_setCtx _ _ _ _)]
    exact ⟨State.rsvop_stageEvent s x, congrArg some (x.leaveStage_silent (.inr ho))⟩

end

section
/-!
What the steps of a management engine read and leave alone (R136): its registers, its fetch and its sequencing.
-/

open Sys2Proof

namespace Sys2Proof.Machine

/-! ### Engines and their registers -/

theorem State.engine_setEngine_self (s : State) (k : Nat) (e : Engine) : (s.setEngine k e).engine k = e := by
  rw [State.engine_setEngine, if_pos rfl]

theorem State.engine_of_engines {s t : State} (h : t.engines = s.engines) (k : Nat) : t.engine k = s.engine k := by
  rw [State.engine, State.engine, h]

theorem State.engines_of_apart {s t : State} (h : t.apart = s.apart) : t.engines = s.engines :=
  (congrArg State.engines h : t.apart.engines = s.apart.engines)

theorem Engine.reg_setReg (e : Engine) (d : Nat) (v : BitVec 64) (r : Nat) :
    (e.setReg d v).reg r = if r = d ∧ r ≠ 0 then v else e.reg r := by
  by_cases hd : d = 0
  · have hn : ¬ (r = d ∧ r ≠ 0) := by omega
    rw [Engine.setReg, if_pos hd, if_neg hn]
  · rw [Engine.setReg, if_neg hd]
    by_cases hr : r = 0
    · have hn : ¬ (r = d ∧ r ≠ 0) := by omega
      rw [if_neg hn, Engine.reg, Engine.reg, if_pos hr, if_pos hr]
    · rw [Engine.reg, Engine.reg, if_neg hr, if_neg hr, Store.read_put]
      by_cases h : r = d
      · rw [if_pos h, if_pos ⟨h, hr⟩]
      · rw [if_neg h, if_neg (fun hc => h hc.1)]

theorem Engine.reg_of_g {e f : Engine} (h : e.g = f.g) (r : Nat) : e.reg r = f.reg r := by
  rw [Engine.reg, Engine.reg, h]

/-! ### Registers of an engine are distinct -/

theorem mgeCtl_ne_mgeStat (k j : Nat) : Reg.MGE_CTL k ≠ Reg.MGE_STAT j := by
  simp only [Reg.MGE_CTL, Reg.MGE_STAT]; omega

theorem mgeStat_ne_mgeJrnl (k : Nat) : Reg.MGE_STAT k ≠ Reg.MGE_JRNL k := by
  simp only [Reg.MGE_STAT, Reg.MGE_JRNL]; omega

theorem pwrDom_ne_mgeStat (i k : Nat) (h : i < 148) : Reg.PWR_DOM i ≠ Reg.MGE_STAT k := by
  simp only [Reg.PWR_DOM, Reg.MGE_STAT]; omega

theorem State.domOn_of_reg {s t : State} {d : Nat} (h : t.reg (Reg.PWR_DOM d) = s.reg (Reg.PWR_DOM d)) :
    t.domOn d = s.domOn d := by
  rw [State.domOn, State.domOn, State.fld_of_reg h]

/-! ### Fetch (R136, R143) -/

/-- The state in which engine k has fetched the microword it stands at. -/
def State.fetching (s : State) (k : Nat) : State := s.setFld (Reg.MGE_STAT k) 13 0 (s.engine k).upc

section
variable (s : State) (k : Nat)

theorem State.engines_fetching : (s.fetching k).engines = s.engines := State.engines_setFld _ _ _ _ _

theorem State.engine_fetching (j : Nat) : (s.fetching k).engine j = s.engine j :=
  State.engine_of_engines (s.engines_fetching k) j

theorem State.reg_fetching_ne {a : Nat} (h : a ≠ Reg.MGE_STAT k) : (s.fetching k).reg a = s.reg a :=
  State.reg_setFld_ne _ h _ _ _

theorem State.bit_fetching {i : Nat} (h : 13 < i) : (s.fetching k).bit (Reg.MGE_STAT k) i = s.bit (Reg.MGE_STAT k) i :=
  State.bit_setFld_disjoint _ _ _ _ _ _ (by decide) (.inr h)

theorem State.engRuns_fetching (k : Fin 4) : (s.fetching k).engRuns k = s.engRuns k := by
  rw [State.engRuns, State.engRuns, State.engHalted, State.bit_fetching s k (by decide), ← State.engHalted,
    State.domOn_of_reg (State.reg_fetching_ne s k (pwrDom_ne_mgeStat _ _ (by omega)))]

end

/-- Engine k stands before microword `(s.engine k).upc`, which it will fetch without fault. -/
structure State.AtFetch (s : State) (k : Fin 4) : Prop where
  runs : s.engRuns k = true
  awake : (s.engine k).waiting = false
  goes : (s.engine k).haltReq = false
  memory : (s.engine k).memDone = false
  oper : (s.engine k).opDone = false
  sound : s.engBad k (s.engine k).upc = false

/-- The microword engine k stands at. -/
def State.engWord (s : State) (k : Nat) : Nat := (s.engine k).word (s.engine k).upc

namespace State.AtFetch
variable {s : State} {k : Fin 4} (h : s.AtFetch k)
include h

theorem engAt : s.engAt k = some (s.engine k, s.engWord k) := by
  rw [State.engAt]
  simp only [h.runs, h.awake, h.goes, h.oper]
  rfl

theorem engFetch (run : State → State) : s.engFetch k run = run (s.fetching k) := by
  have hs : (s.fetching k).engBad k (s.engine k).upc = false := by
    rw [State.engBad, State.engine_fetching, State.bit_of_reg (State.reg_fetching_ne s k (mgeCtl_ne_mgeStat _ _)),
      ← State.engBad, h.sound]
  rw [State.engFetch]
  simp only [h.memory, Bool.false_eq_true, if_false]
  exact if_neg (by rw [← State.fetching, hs]; decide)

theorem engMem {op : Nat} (ho : engMemop (s.engWord k) = op) (run : State → State) :
    s.engMem k op run = run (s.fetching k) := by
  rw [State.engMem]
  simp only [h.engAt, ho, h.memory, and_self, if_true]
  exact h.engFetch run

theorem engOp {is : Nat → Bool} (hi : is (bitsOf (s.engWord k) 171 164) = true) (hm : engMemop (s.engWord k) = 0) :
    s.engOp k is = (s.fetching k).engExecute k (s.engWord k) := by
  rw [State.engOp]
  simp only [h.engAt, hi, hm, h.memory, Bool.false_or, beq_self_eq_true, Bool.and_self, if_true]
  exact h.engFetch _

end State.AtFetch

/-! ### Sequencing -/

/-- The engine at microword `a`, the one before it done. -/
def Engine.goTo (e : Engine) (a : Nat) : Engine :=
  { e with upc := a % 16384, memDone := false, opDone := false, loaded := none }

theorem State.engine_engGo (s : State) (k a : Nat) : (s.engGo k a).engine k = (s.engine k).goTo a :=
  State.engine_setEngine_self _ _ _

theorem State.regs_engGo (s : State) (k a : Nat) : (s.engGo k a).regs = s.regs := State.regs_setEngine _ _ _

theorem State.reg_engGo (s : State) (k a b : Nat) : (s.engGo k a).reg b = s.reg b := State.reg_setEngine _ _ _ _

theorem State.engSequence_next {s : State} {k w : Nat} (h : bitsOf w 188 186 = 0) (sel : Nat) :
    s.engSequence k w sel = s.engGo k ((s.engine k).upc + 1) := by
  simp only [State.engSequence, h]

theorem State.engine_engHalt (s : State) (k : Nat) : (s.engHalt k).engine k =
    { s.engine k with held := [], memDone := false, opDone := false, loaded := none, waiting := false,
                      haltReq := false, afterStep := false } :=
  (State.engine_of_engines (State.engines_setBit _ _ _ _) k).trans (State.engine_setEngine_self _ _ _)

theorem State.engHalted_engHalt (s : State) (k : Nat) : (s.engHalt k).engHalted k = true :=
  State.bit_setBit _ _ _ _ (by decide)

theorem State.reg_engHalt_ne (s : State) (k : Nat) {a : Nat} (h : a ≠ Reg.MGE_STAT k) :
    (s.engHalt k).reg a = s.reg a :=
  (State.reg_setBit_ne _ h _ _).trans (State.reg_setEngine _ _ _ _)

end Sys2Proof.Machine

end

section
/-!
What the operations of an engine's microword compute, and its journal's opening and closing (R128, R136, R137).
-/

open Sys2Proof

namespace Sys2Proof.Machine

/-! ### The operation of a microword -/

/-- Operand A of an engine's microword. -/
def Engine.operandA (e : Engine) (w : Nat) : Nat := (e.reg (bitsOf w 158 154)).toNat

/-- Operand B of an engine's microword. -/
def Engine.operandB (e : Engine) (w : Nat) : Nat :=
  if bitsOf w 148 148 = 1 then bitsOf w 127 64 else (e.reg (bitsOf w 153 149)).toNat

theorem Engine.operandB_lt (e : Engine) (w : Nat) : e.operandB w < 2 ^ 64 := by
  rw [Engine.operandB]
  split
  · exact Nat.mod_lt _ (by decide)
  · exact BitVec.isLt _

/-- What the first operation of an engine's microword computes. -/
def Engine.alu (e : Engine) (w : Nat) : Nat × Bool := aluResult (bitsOf w 171 164) 64 (e.operandA w) (e.operandB w)

/-- The engine with the flags of its microword's first operation. -/
def Engine.flagged (e : Engine) (w : Nat) : Engine :=
  if setsFlags (bitsOf w 171 164) (bitsOf w 142 142 == 1) then e.flags (e.alu w) else e

/-- The engine `x` with the result of a microword of `e`, or the immediate of LDI. -/
def Engine.storeResult (x e : Engine) (w : Nat) : Engine :=
  if writesResult (bitsOf w 171 164) then x.setReg (bitsOf w 163 159) (BitVec.ofNat 64 (e.alu w).1)
  else if bitsOf w 171 164 = 18 then x.setReg (bitsOf w 163 159) (BitVec.ofNat 64 (bitsOf w 127 64)) else x

/-- The engine apart from its registers, its flags and the values it has logged. -/
def Engine.rest (e : Engine) : Engine := { e with g := [], z := false, n := false, c := false, jlog := [] }

theorem Engine.upc_of_rest {e f : Engine} (h : e.rest = f.rest) : e.upc = f.upc :=
  (congrArg Engine.upc h : e.rest.upc = f.rest.upc)
theorem Engine.jopen_of_rest {e f : Engine} (h : e.rest = f.rest) : e.jopen = f.jopen :=
  (congrArg Engine.jopen h : e.rest.jopen = f.rest.jopen)
theorem Engine.steps_of_rest {e f : Engine} (h : e.rest = f.rest) : e.steps = f.steps :=
  (congrArg Engine.steps h : e.rest.steps = f.rest.steps)

theorem Engine.rest_setReg (e : Engine) (d : Nat) (v : BitVec 64) : (e.setReg d v).rest = e.rest := by
  rw [Engine.setReg]
  split <;> rfl

theorem Engine.rest_flagged (e : Engine) (w : Nat) : (e.flagged w).rest = e.rest := by
  rw [Engine.flagged]
  split <;> rfl

theorem Engine.rest_storeResult (x e : Engine) (w : Nat) : (x.storeResult e w).rest = x.rest := by
  rw [Engine.storeResult]
  split
  · exact x.rest_setReg _ _
  · split
    · exact x.rest_setReg _ _
    · rfl

theorem Engine.g_flagged (e : Engine) (w : Nat) : (e.flagged w).g = e.g := by
  rw [Engine.flagged]
  split <;> rfl

theorem Engine.flags_setReg (e : Engine) (d : Nat) (v : BitVec 64) :
    ((e.setReg d v).z, (e.setReg d v).n, (e.setReg d v).c) = (e.z, e.n, e.c) := by
  rw [Engine.setReg]
  split <;> rfl

theorem Engine.flags_storeResult (x e : Engine) (w : Nat) :
    ((x.storeResult e w).z, (x.storeResult e w).n, (x.storeResult e w).c) = (x.z, x.n, x.c) := by
  rw [Engine.storeResult]
  split
  · exact x.flags_setReg _ _
  · split
    · exact x.flags_setReg _ _
    · rfl

/-- The operands a microword logs for its step's record (R138). -/
def Engine.logged (e : Engine) (w : Nat) : List Byte :=
  if bitsOf w 132 132 = 1 then
    toLE 8 (e.reg (bitsOf w 158 154)).toNat ++ toLE 8 (e.reg (bitsOf w 153 149)).toNat ++
      toLE 8 (e.reg (bitsOf w 163 159)).toNat
  else e.jlog

/-- A microword without a second operation, on an engine that has loaded nothing. -/
theorem Engine.operate_single {e : Engine} {w : Nat} (h2 : bitsOf w 63 56 = 0) (hl : e.loaded = none) :
    e.operate w = { (e.flagged w).storeResult e w with jlog := e.logged w } := by
  have h9 : ¬ (0 = 9) := by decide
  have h0 : ¬ (writesResult 0 = true) := by decide
  rw [Engine.operate]
  simp only [h2, hl, if_neg h9, if_neg h0]
  rfl

section
variable {e : Engine} {w : Nat} (h2 : bitsOf w 63 56 = 0) (hl : e.loaded = none)
include h2 hl

theorem Engine.rest_operate : (e.operate w).rest = e.rest := by
  rw [Engine.operate_single h2 hl]
  exact (Engine.rest_storeResult _ e w).trans (e.rest_flagged w)

theorem Engine.flags_operate :
    ((e.operate w).z, (e.operate w).n, (e.operate w).c) = ((e.flagged w).z, (e.flagged w).n, (e.flagged w).c) := by
  rw [Engine.operate_single h2 hl]
  exact Engine.flags_storeResult _ e w

theorem Engine.reg_operate (r : Nat) : (e.operate w).reg r = ((e.flagged w).storeResult e w).reg r := by
  rw [Engine.operate_single h2 hl]
  exact Engine.reg_of_g rfl r

theorem Engine.reg_operate_writes (hw : writesResult (bitsOf w 171 164) = true) (r : Nat) : (e.operate w).reg r =
    if r = bitsOf w 163 159 ∧ r ≠ 0 then BitVec.ofNat 64 (e.alu w).1 else e.reg r := by
  rw [Engine.reg_operate h2 hl, Engine.storeResult, if_pos hw, Engine.reg_setReg, Engine.reg_of_g (e.g_flagged w)]

theorem Engine.reg_operate_ldi (ho : bitsOf w 171 164 = 18) (r : Nat) : (e.operate w).reg r =
    if r = bitsOf w 163 159 ∧ r ≠ 0 then BitVec.ofNat 64 (bitsOf w 127 64) else e.reg r := by
  have hw : ¬ writesResult (bitsOf w 171 164) = true := by rw [ho]; decide
  rw [Engine.reg_operate h2 hl, Engine.storeResult, if_neg hw, if_pos ho, Engine.reg_setReg,
    Engine.reg_of_g (e.g_flagged w)]

theorem Engine.g_operate (hw : writesResult (bitsOf w 171 164) = false) (ho : bitsOf w 171 164 ≠ 18) :
    (e.operate w).g = e.g := by
  rw [Engine.operate_single h2 hl, Engine.storeResult, hw, if_neg (by decide), if_neg ho]
  exact e.g_flagged w

theorem Engine.flags_operate_kept (hf : setsFlags (bitsOf w 171 164) (bitsOf w 142 142 == 1) = false) :
    ((e.operate w).z, (e.operate w).n, (e.operate w).c) = (e.z, e.n, e.c) := by
  have he : e.flagged w = e := if_neg (by rw [hf]; decide)
  rw [Engine.flags_operate h2 hl, he]

theorem Engine.flags_operate_cmp (ho : bitsOf w 171 164 = 9) :
    (e.operate w).z = decide (e.operandA w = e.operandB w) ∧
      (e.operate w).c = decide (e.operandA w < e.operandB w) := by
  have hf : e.flagged w = e.flags (e.alu w) := if_pos (by rw [ho]; rfl)
  have hr : e.alu w = aluResult 9 64 (e.operandA w) (e.operandB w) := by rw [Engine.alu, ho]
  have h := Engine.flags_operate h2 hl
  rw [hf, hr] at h
  obtain ⟨hz, hnc⟩ := Prod.ext_iff.1 h
  obtain ⟨-, hc⟩ := Prod.ext_iff.1 hnc
  refine ⟨hz.trans (Bool.eq_iff_iff.2 ?_), hc⟩
  rw [decide_eq_true_iff]
  exact beq_iff_eq.trans (wrapped_sub_eq_zero_iff (BitVec.isLt _) (e.operandB_lt w))

end

/-! ### One microword from its fetch to the next -/

/-- Engine k stands before microword w: one operation, no memory operation, on to the next microword. -/
structure State.SingleOp (s : State) (k : Fin 4) (w : Nat) : Prop extends s.AtFetch k where
  word : w = s.engWord k
  memop : engMemop w = 0
  seq : bitsOf w 188 186 = 0
  single : bitsOf w 63 56 = 0
  none : (s.engine k).loaded = none

theorem State.journalStep_closed {s : State} {k : Nat} (h : (s.engine k).jopen = false) (w : Nat) (cont : State → State) :
    s.journalStep k w cont = cont s := by
  simp only [State.journalStep, h, Bool.false_eq_true, if_false]

/-- Engine k's microword fetched and its operation done. -/
def State.operated (s : State) (k : Nat) : State :=
  (s.fetching k).setEngine k ((s.engine k).operate (s.engWord k))

theorem State.engine_operated (s : State) (k : Nat) :
    (s.operated k).engine k = (s.engine k).operate (s.engWord k) := State.engine_setEngine_self _ _ _

theorem State.reg_operated_ne (s : State) {k a : Nat} (h : a ≠ Reg.MGE_STAT k) : (s.operated k).reg a = s.reg a :=
  (State.reg_setEngine _ _ _ _).trans (s.reg_fetching_ne k h)

namespace State.SingleOp
variable {s : State} {k : Fin 4} {w : Nat} (h : s.SingleOp k w)
include h

theorem operated_rest : ((s.operated k).engine k).rest = (s.engine k).rest := by
  rw [State.engine_operated, ← h.word]
  exact Engine.rest_operate h.single h.none

theorem upc_operated : ((s.operated k).engine k).upc = (s.engine k).upc :=
  Engine.upc_of_rest h.operated_rest

theorem jopen_operated : ((s.operated k).engine k).jopen = (s.engine k).jopen :=
  Engine.jopen_of_rest h.operated_rest

theorem g_operated (hw : writesResult (bitsOf w 171 164) = false) (ho : bitsOf w 171 164 ≠ 18) :
    ((s.operated k).engine k).g = (s.engine k).g := by
  rw [State.engine_operated, ← h.word]
  exact Engine.g_operate h.single h.none hw ho

/-- Its execution: the journal opens or closes around the operation, and the engine goes on (R137). -/
theorem engOp {is : Nat → Bool} (hi : is (bitsOf w 171 164) = true) : s.engOp k is =
    (if bitsOf w 171 164 = 16 then (s.operated k).journalOpen k (bitsOf w 79 64) else s.operated k).journalStep k w
      fun t => (if bitsOf w 171 164 = 17 then t.journalClose k else t).engSequence k w
        ((s.engine k).operandA w) := by
  rw [h.toAtFetch.engOp (by rwa [← h.word]) (by rw [← h.word, h.memop]), State.engExecute, State.operated]
  simp only [State.engine_fetching, ← h.word]
  rfl

theorem engOp_closed {is : Nat → Bool} (hi : is (bitsOf w 171 164) = true) (hj : (s.engine k).jopen = false)
    (h16 : bitsOf w 171 164 ≠ 16) (h17 : bitsOf w 171 164 ≠ 17) :
    s.engOp k is = (s.operated k).engGo k ((s.engine k).upc + 1) := by
  rw [h.engOp hi, if_neg h16, State.journalStep_closed (h.jopen_operated.trans hj), if_neg h17,
    State.engSequence_next h.seq, h.upc_operated]

/-- Outside a journal the engine's operation is done and it goes to the next microword. -/
theorem engine_engOp_closed {is : Nat → Bool} (hi : is (bitsOf w 171 164) = true) (hj : (s.engine k).jopen = false)
    (h16 : bitsOf w 171 164 ≠ 16) (h17 : bitsOf w 171 164 ≠ 17) :
    (s.engOp k is).engine k = ((s.engine k).operate w).goTo ((s.engine k).upc + 1) := by
  rw [h.engOp_closed hi hj h16 h17, State.engine_engGo, State.engine_operated, ← h.word]

theorem reg_engOp_closed {is : Nat → Bool} (hi : is (bitsOf w 171 164) = true) (hj : (s.engine k).jopen = false)
    (h16 : bitsOf w 171 164 ≠ 16) (h17 : bitsOf w 171 164 ≠ 17) {a : Nat} (ha : a ≠ Reg.MGE_STAT k) :
    (s.engOp k is).reg a = s.reg a := by
  rw [h.engOp_closed hi hj h16 h17, State.reg_engGo, State.reg_operated_ne s ha]

/-- Without a result and without flags set the engine only goes on (R128). -/
theorem engOp_silent {is : Nat → Bool} (hi : is (bitsOf w 171 164) = true) (hj : (s.engine k).jopen = false)
    (ho : bitsOf w 171 164 = 0 ∨ 19 ≤ bitsOf w 171 164) :
    ((s.engOp k is).engine k).upc = ((s.engine k).upc + 1) % 16384 ∧
      ((s.engOp k is).engine k).g = (s.engine k).g ∧
      (((s.engOp k is).engine k).z, ((s.engOp k is).engine k).n, ((s.engOp k is).engine k).c) =
        ((s.engine k).z, (s.engine k).n, (s.engine k).c) := by
  have hw : writesResult (bitsOf w 171 164) = false := by simp only [writesResult, decide_eq_false_iff_not]; omega
  have hf : setsFlags (bitsOf w 171 164) (bitsOf w 142 142 == 1) = false := by
    have hd : decide (0 < bitsOf w 171 164 ∧ bitsOf w 171 164 < 16) = false := decide_eq_false (by omega)
    rw [setsFlags, beq_false_of_ne (by omega), hd, Bool.and_false, Bool.or_false]
  rw [h.engine_engOp_closed hi hj (by omega) (by omega)]
  exact ⟨rfl, Engine.g_operate h.single h.none hw (by omega), Engine.flags_operate_kept h.single h.none hf⟩

end State.SingleOp

/-! ### The journal (R137, R138) -/

/-- The engine with a journal opened for a routine. -/
def Engine.opened (e : Engine) (routine : Nat) : Engine :=
  { e with jopen := true, routine := routine, steps := 0, stepNo := 0, held := [], jlog := [] }

section
variable {s : State} {k : Nat}

theorem State.engine_journalOpen (h : (s.engine k).jopen = false) (routine : Nat) :
    (s.journalOpen k routine).engine k = (s.engine k).opened routine := by
  rw [State.journalOpen]
  simp only [h, Bool.false_eq_true, if_false]
  exact (State.engine_of_engines ((State.engines_setFld _ _ _ _ _).trans (State.engines_setBit _ _ _ _)) k).trans
    (State.engine_setEngine_self _ _ _)

theorem State.journalOpen_flag (h : (s.engine k).jopen = false) (routine : Nat) :
    (s.journalOpen k routine).bit (Reg.MGE_STAT k) 26 = true := by
  rw [State.journalOpen]
  simp only [h, Bool.false_eq_true, if_false]
  rw [State.bit_of_reg (State.reg_setFld_ne _ (mgeStat_ne_mgeJrnl k) _ _ _)]
  exact State.bit_setBit _ _ _ _ (by decide)

/-- A commit of no held writes keeps the journal open. -/
theorem State.stepCommit_empty (h : (s.engine k).held = []) :
    ((s.stepCommit k).engine k).jopen = (s.engine k).jopen ∧ ((s.stepCommit k).engine k).held = [] ∧
      ((s.stepCommit k).engine k).g = (s.engine k).g ∧
      (s.stepCommit k).reg (Reg.MGE_STAT k) = s.reg (Reg.MGE_STAT k) := by
  rw [State.stepCommit]
  simp only [h, List.foldl_nil, State.engine_setEngine_self, State.reg_setReg_ne _ (mgeStat_ne_mgeJrnl k),
    State.reg_setEngine, State.engine_of_engines (State.engines_setReg _ _ _), and_self]

/-- The microstep that opens a journal, with STEP or without. -/
theorem State.journalStep_opened (hj : (s.engine k).jopen = true) (hh : (s.engine k).held = [])
    (h0 : (s.engine k).steps = 0) (w : Nat) : ∃ u, (∀ cont, s.journalStep k w cont = cont u) ∧
      (u.engine k).jopen = true ∧ (u.engine k).held = [] ∧ (u.engine k).g = (s.engine k).g ∧
      u.reg (Reg.MGE_STAT k) = s.reg (Reg.MGE_STAT k) := by
  by_cases hs : bitsOf w 133 133 = 1
  · obtain ⟨hcj, hch, hcg, hcr⟩ := State.stepCommit_empty hh
    refine ⟨s.stepCommit k, fun cont => ?_, hcj.trans hj, hch, hcg, hcr⟩
    rw [State.journalStep]
    simp only [if_pos hj, if_pos hs]
  · refine ⟨s.setEngine k { s.engine k with steps := (s.engine k).steps + 1, afterStep := false }, fun cont => ?_, ?_⟩
    · have hn : ¬ 256 ≤ (s.engine k).steps := by omega
      rw [State.journalStep]
      simp only [if_pos hj, if_neg hs, if_neg hn]
    · rw [State.engine_setEngine_self]
      exact ⟨hj, hh, rfl, State.reg_setEngine _ _ _ _⟩

/-- A microstep without STEP in an open journal, below the bound of 256. -/
theorem State.journalStep_plain (hj : (s.engine k).jopen = true) {w : Nat} (hs : bitsOf w 133 133 = 0)
    (hn : (s.engine k).steps < 256) (cont : State → State) : s.journalStep k w cont =
      cont (s.setEngine k { s.engine k with steps := (s.engine k).steps + 1, afterStep := false }) := by
  have hs' : ¬ bitsOf w 133 133 = 1 := by omega
  rw [State.journalStep]
  simp only [if_pos hj, if_neg hs', if_neg (Nat.not_le.2 hn)]

theorem State.engine_journalClose (s : State) (k : Nat) : (s.journalClose k).engine k =
    { s.engine k with jopen := false, held := [], steps := 0, afterStep := false } :=
  (State.engine_of_engines (State.engines_setBit _ _ _ _) k).trans (State.engine_setEngine_self _ _ _)

theorem State.journalClose_flag (s : State) (k : Nat) : (s.journalClose k).bit (Reg.MGE_STAT k) 26 = false :=
  State.bit_setBit _ _ _ _ (by decide)

theorem State.bit_engGo (s : State) (k a b i : Nat) : (s.engGo k a).bit b i = s.bit b i :=
  State.bit_of_reg (State.reg_engGo _ _ _ _) i

end

namespace State.SingleOp
variable {s : State} {k : Fin 4} {w : Nat} (h : s.SingleOp k w)
include h

theorem engOp_jopen (ho : bitsOf w 171 164 = 16) (hj : (s.engine k).jopen = false) {t : State}
    (ht : s.engOp k (· == 16) = t) : (t.engine k).jopen = true ∧ (t.engine k).held = [] ∧
      t.bit (Reg.MGE_STAT k) 26 = true ∧ (t.engine k).g = (s.engine k).g := by
  have hc := h.jopen_operated.trans hj
  have hg := h.g_operated (by rw [ho]; rfl) (by omega)
  have he := State.engine_journalOpen hc (bitsOf w 79 64)
  obtain ⟨u, hu, huj, huh, hug, hur⟩ := State.journalStep_opened (s := (s.operated k).journalOpen k (bitsOf w 79 64))
    (congrArg Engine.jopen he) (congrArg Engine.held he) (congrArg Engine.steps he) w
  rw [h.engOp (is := (· == 16)) (beq_iff_eq.2 ho), if_pos ho, hu, if_neg (by omega), State.engSequence_next h.seq] at ht
  subst ht
  rw [State.engine_engGo, State.bit_engGo, State.bit_of_reg hur, State.journalOpen_flag hc]
  exact ⟨huj, huh, rfl, hug.trans ((congrArg Engine.g he).trans hg)⟩

theorem engOp_jclose (ho : bitsOf w 171 164 = 17) (hj : (s.engine k).jopen = true) (hs : bitsOf w 133 133 = 0)
    (hn : (s.engine k).steps < 256) {t : State} (ht : s.engOp k (· == 17) = t) :
    (t.engine k).jopen = false ∧ (t.engine k).held = [] ∧ t.bit (Reg.MGE_STAT k) 26 = false ∧
      (t.engine k).g = (s.engine k).g := by
  have hg := h.g_operated (by rw [ho]; rfl) (by omega)
  have hn' := (Engine.steps_of_rest h.operated_rest).trans_lt hn
  rw [h.engOp (is := (· == 17)) (beq_iff_eq.2 ho), if_neg (by omega),
    State.journalStep_plain (h.jopen_operated.trans hj) hs hn', if_pos ho, State.engSequence_next h.seq] at ht
  subst ht
  rw [State.engine_engGo, State.bit_engGo, State.journalClose_flag, State.engine_journalClose,
    State.engine_setEngine_self]
  exact ⟨rfl, rfl, rfl, hg⟩

end State.SingleOp

/-! ### The operations with a result -/

/-- The operations that write a result, with their commands and what they compute from A and B (Table 04.7). -/
def engineRows (k : Fin 4) (A B : Nat) : List (Nat × Instr × Nat) :=
  [(1, .mov (.engine k), B), (2, .add (.engine k), A + B), (3, .sub (.engine k), A + 2 ^ 64 - B),
    (4, .and (.engine k), A &&& B), (5, .or (.engine k), A ||| B), (6, .xor (.engine k), A ^^^ B),
    (7, .shl (.engine k), A * 2 ^ (B % 64)), (8, .shr (.engine k), A / 2 ^ (B % 64)),
    (10, .min (.engine k), min A B), (11, .max (.engine k), max A B),
    (12, .csum (.engine k), onesSum (aluResult.wordsOf 64 A ++ aluResult.wordsOf 64 B)),
    (13, .crc (.engine k), (crc32c (BitVec.ofNat 32 B) (toBE 8 A)).toNat),
    (14, .setb (.engine k), A ||| 2 ^ (B % 64)), (15, .clrb (.engine k), A - (A &&& 2 ^ (B % 64)))]

/-- Each row's command executes its operation, whose result `aluResult` gives modulo 2^64. -/
theorem engineRows_spec {k : Fin 4} {A B o v : Nat} {ins : Instr} (h : (o, ins, v) ∈ engineRows k A B) (s : State) :
    exec ins s = .next (s.engOp k (· == o)) ∧ writesResult o = true ∧
      (aluResult o 64 A B).1 % 2 ^ 64 = v % 2 ^ 64 := by
  simp only [engineRows, List.mem_cons, Prod.mk.injEq, List.not_mem_nil, or_false] at h
  obtain ⟨rfl, rfl, rfl⟩ | ⟨rfl, rfl, rfl⟩ | ⟨rfl, rfl, rfl⟩ | ⟨rfl, rfl, rfl⟩ | ⟨rfl, rfl, rfl⟩ | ⟨rfl, rfl, rfl⟩ |
    ⟨rfl, rfl, rfl⟩ | ⟨rfl, rfl, rfl⟩ | ⟨rfl, rfl, rfl⟩ | ⟨rfl, rfl, rfl⟩ | ⟨rfl, rfl, rfl⟩ | ⟨rfl, rfl, rfl⟩ |
    ⟨rfl, rfl, rfl⟩ | ⟨rfl, rfl, rfl⟩ := h
  all_goals exact ⟨rfl, rfl, by simp only [aluResult, Nat.mod_mod, Nat.reduceDiv]⟩

end Sys2Proof.Machine

open Sys2Proof.Machine

/-- Settles O49: the engine after its microword, by what its operation writes. -/
theorem microwordsOfEngines : Obligations.MicrowordsOfEngines := by
  intro k w A B d o v ins e s he hr hwt hh hm hop hl hw hbad hmem hseq h2 hd hA hB
  subst he
  have h : s.SingleOp k w := ⟨⟨hr, hwt, hh, hm, hop, hbad⟩, hw, hmem, hseq, h2, hl⟩
  obtain rfl : A = (s.engine k).operandA w := hA
  obtain rfl : B = (s.engine k).operandB w := hB
  subst hd
  refine ⟨fun hj => ⟨fun hrow ho => ?_, fun ho => ?_, fun ho => ?_, fun ho => ?_, fun ho => ?_, fun ho => ?_⟩,
    fun hj ho hs hn => ⟨_, rfl, h.engOp_jclose ho hj hs hn rfl⟩⟩
  · obtain ⟨hex, hwr, hv⟩ := engineRows_spec hrow s
    subst ho
    obtain ⟨-, -, h16⟩ := writesResult_iff.1 hwr
    have hr : BitVec.ofNat 64 ((s.engine k).alu w).1 = BitVec.ofNat 64 v := BitVec.eq_of_toNat_eq hv
    have hi : (bitsOf w 171 164 == bitsOf w 171 164) = true := beq_self_eq_true _
    refine ⟨_, hex, ?_⟩
    rw [h.engine_engOp_closed (is := (· == bitsOf w 171 164)) hi hj (by omega) (by omega)]
    refine ⟨rfl, fun r => ?_, fun h0 => ?_,
      fun a ha => h.reg_engOp_closed (is := (· == bitsOf w 171 164)) hi hj (by omega) (by omega) ha⟩
    · rw [← hr]
      exact Engine.reg_operate_writes h.single h.none hwr r
    · exact Engine.flags_operate_kept h.single h.none (by rw [setsFlags_of_writes hwr, h0]; rfl)
  · exact ⟨_, rfl, h.engOp_silent (is := (· == 0)) (beq_iff_eq.2 ho) hj (.inl ho)⟩
  · exact ⟨_, rfl, h.engOp_silent (is := fun op => decide (19 ≤ op)) (decide_eq_true ho) hj (.inr ho)⟩
  · have hx := h.engine_engOp_closed (is := (· == 9)) (beq_iff_eq.2 ho) hj (by omega) (by omega)
    have hg := Engine.g_operate h.single h.none (by rw [ho]; rfl) (by omega)
    exact ⟨_, rfl, (congrArg Engine.g hx).trans hg, congrArg Engine.upc hx,
      (congrArg Engine.z hx).trans (Engine.flags_operate_cmp h.single h.none ho).1,
      (congrArg Engine.c hx).trans (Engine.flags_operate_cmp h.single h.none ho).2⟩
  · have hx := h.engine_engOp_closed (is := (· == 18)) (beq_iff_eq.2 ho) hj (by omega) (by omega)
    exact ⟨_, rfl, congrArg Engine.upc hx, fun r =>
      (Engine.reg_of_g (congrArg Engine.g hx) r).trans (Engine.reg_operate_ldi h.single h.none ho r)⟩
  · exact ⟨_, rfl, h.engOp_jopen ho hj rfl⟩

end

section
/-!
An engine's LOAD and STORE, its held step writes, and the ends of its microwords (R136, R138, R139).
-/

open Sys2Proof

namespace Sys2Proof.Machine

/-! ### Data RAM (Table 04.10, SPACE 1) -/

section
variable {s : State} {k w : Nat}

theorem State.engRead_ram {a n : Nat} (h : a + n ≤ 2 ^ 18) :
    s.engRead k 1 a n = (getBytes (s.engine k).ram a n, s) := by
  have h0 : ¬ (1 = 0) := by decide
  have hs : ¬ (spaceSize 1 < a + n) := Nat.not_lt.2 h
  rw [State.engRead, if_neg h0, if_neg hs]

theorem State.engWrite_ram {a : Nat} {l : List Byte} (h : a + l.length ≤ 2 ^ 18) :
    s.engWrite k 1 a l = s.setEngine k { s.engine k with ram := putBytes (s.engine k).ram a l } := by
  have h0 : ¬ (1 = 0) := by decide
  have h3 : ¬ (1 = 3) := by decide
  have hs : ¬ (spaceSize 1 < a + l.length) := Nat.not_lt.2 h
  rw [State.engWrite, if_neg h0, if_neg h3, if_neg hs]

variable (hr : s.engRuns k = true) (hn : engSize w < 64) (hsp : bitsOf w 131 128 = 1)
  (ha : (s.engine k).addressOf w + engSize w ≤ 2 ^ 18)
include hr hn hsp ha

theorem State.engLoad_ram (hh : (s.engine k).held = []) : s.engLoad k w = s.setEngine k { s.engine k with
    memDone := true
    loaded := some (bitsOf w 163 159,
      BitVec.ofNat 64 (leNat (getBytes (s.engine k).ram ((s.engine k).addressOf w) (engSize w)))) } := by
  have hl : ¬ (getBytes (s.engine k).ram ((s.engine k).addressOf w) (engSize w)).length = 64 := by
    rw [getBytes_length]
    omega
  rw [State.engLoad]
  simp only [hsp, State.engRead_ram ha, hh, List.foldl_nil, if_neg hl, hr, if_true]

theorem State.engStore_ram : (s.engStore k w).engine k = { s.engine k with
      memDone := true
      ram := putBytes (s.engine k).ram ((s.engine k).addressOf w)
        (toLE (engSize w) ((s.engine k).reg (bitsOf w 153 149)).toNat) } ∧
    ∀ b, (s.engStore k w).reg b = s.reg b := by
  have h2 : ¬ (((s.engine k).jopen && decide (2 ≤ 1)) = true) := by simp
  have h64 : ¬ engSize w = 64 := by omega
  have hr' (e : Engine) : (s.setEngine k e).engRuns k = true := hr
  rw [State.engStore]
  simp only [hsp, if_neg h2, if_neg h64]
  rw [State.engWrite_ram (by rwa [length_toLE]), if_pos (hr' _), State.engine_setEngine_self,
    State.engine_setEngine_self]
  exact ⟨rfl, fun b => (State.reg_setEngine _ _ _ _).trans (State.reg_setEngine _ _ _ _)⟩

end

/-- Bytes next to those written stay. -/
theorem getBytes_putBytes_ne (m : List Host.Cell) {k b n : Nat} {l : List Byte} (h : b + n ≤ k ∨ k + l.length ≤ b) :
    getBytes (putBytes m k l) b n = getBytes m b n := by
  refine List.map_congr_left fun i hi => ?_
  have hi' := List.mem_range.1 hi
  rw [read_putBytes, if_neg (by omega)]

theorem getBytes_putBytes_toLE (m : List Host.Cell) (k n v : Nat) : getBytes (putBytes m k (toLE n v)) k n = toLE n v := by
  simpa using getBytes_putBytes m k (toLE n v)

/-! ### The commands of a memory operation -/

section
variable {s : State} {k : Fin 4} (h : s.AtFetch k)
include h

theorem execEngineLoad_fetched (ho : engMemop (s.engWord k) = 1) :
    execEngineLoad k s = .next ((s.fetching k).engLoad k (s.engWord k)) := congrArg Host.Outcome.next (h.engMem ho _)

theorem execEngineStore_fetched (ho : engMemop (s.engWord k) = 2) :
    execEngineStore k s = .next ((s.fetching k).engStore k (s.engWord k)) := congrArg Host.Outcome.next (h.engMem ho _)

end

/-! ### Step writes (R138) -/

section
variable {s : State} {k w : Nat} (hj : (s.engine k).jopen = true) (hsp : 2 ≤ bitsOf w 131 128)
include hj hsp

theorem State.engStore_held (hn : engSize w < 64) (h : (s.engine k).held.length < 16) : s.engStore k w = s.setEngine k { s.engine k with
    memDone := true
    held := (s.engine k).held ++ [⟨bitsOf w 131 128, (s.engine k).addressOf w,
      toLE (engSize w) ((s.engine k).reg (bitsOf w 153 149)).toNat⟩] } := by
  have h64 : ¬ engSize w = 64 := by omega
  have hs : ((s.engine k).jopen && decide (2 ≤ bitsOf w 131 128)) = true := by rw [hj, decide_eq_true hsp]; rfl
  rw [State.engStore]
  simp only [if_pos hs, if_neg (Nat.not_le.2 h), if_neg h64]

theorem State.engStore_full (h : 16 ≤ (s.engine k).held.length) : s.engStore k w = s.stepError k := by
  have hs : ((s.engine k).jopen && decide (2 ≤ bitsOf w 131 128)) = true := by rw [hj, decide_eq_true hsp]; rfl
  rw [State.engStore]
  simp only [if_pos hs, if_pos h]

end

/-- A step error halts the engine, its held writes lost (R138). -/
theorem State.stepError_halts (s : State) (k : Nat) : (s.stepError k).engHalted k = true ∧
    ((s.stepError k).engine k).held = [] ∧ (s.stepError k).bit (Reg.MGE_STAT k) 29 = true := by
  have hb (i : Nat) : (s.stepError k).bit (Reg.MGE_STAT k) i =
      ((s.engHalt k).setBit (Reg.MGE_STAT k) 29 true).bit (Reg.MGE_STAT k) i :=
    State.bit_of_reg (State.reg_reportFault _ _ _ _ _ _ _) i
  have he : (s.stepError k).engine k = (s.engHalt k).engine k :=
    State.engine_of_engines ((State.engines_reportFault _ _ _ _ _ _).trans (State.engines_setBit _ _ _ _)) k
  refine ⟨?_, ?_, ?_⟩
  · rw [State.engHalted, hb, State.bit_setBit_ne _ _ _ _ _ (by decide) (by decide)]
    exact s.engHalted_engHalt k
  · rw [he, State.engine_engHalt]
  · rw [hb, State.bit_setBit _ _ _ _ (by decide)]

/-- The spaces that step writes go to, and HBM, as a step error leaves them. -/
theorem State.stepError_memories (s : State) (k : Nat) : (s.stepError k).tbl = s.tbl ∧ (s.stepError k).flow = s.flow ∧
    (s.stepError k).slices = s.slices ∧ (s.stepError k).hbm = s.hbm := by
  simp [State.stepError, State.engHalt]

/-! ### The sequencings with commands of their own -/

theorem State.engSeq_go {s : State} {k seq : Nat} (hr : s.engRuns k = true) (ho : (s.engine k).opDone = true)
    (hs : bitsOf (s.engWord k) 188 186 = seq) (run : State → Engine → Nat → State) :
    s.engSeq k seq run = run s (s.engine k) (s.engWord k) := by
  rw [State.engWord] at hs
  rw [State.engSeq]
  simp only [hr, ho, hs, beq_self_eq_true, Bool.and_self, if_true]
  rfl

theorem State.engPush_room {s : State} {k : Nat} (h : (s.engine k).rstack.length < 8) (a : Nat) :
    s.engPush k a = s.setEngine k { s.engine k with rstack := a % 16384 :: (s.engine k).rstack } := by
  rw [State.engPush]
  exact if_pos h

end Sys2Proof.Machine

open Sys2Proof.Machine

/-- Settles O50: each memory operation by the space it meets, and each of the last four sequencings. -/
theorem engineMemoryAndSequencing : Obligations.EngineMemoryAndSequencing := by
  intro k w a n r e s he hr hw
  subst he
  rw [hw, ← State.engWord]
  refine ⟨fun hwt hh hm hop hbad ha hn hlt => ?_, fun ho => ⟨fun hs hlen => ?_, fun hs hst => ?_, fun hs => ?_, fun hs => ?_⟩⟩
  · have h : s.AtFetch k := ⟨hr, hwt, hh, hm, hop, hbad⟩
    have hrt := (s.engRuns_fetching k).trans hr
    have het : (s.fetching k).engine k = s.engine k := s.engine_fetching k k
    obtain rfl : a = (s.engine k).addressOf (s.engWord k) := ha
    subst hn
    refine ⟨fun ho hsp hheld hb => ?_, fun ho hsp hb => ?_, fun ho hj hsp => ⟨fun hlen => ?_, fun hlen => ?_⟩⟩
    · refine ⟨_, execEngineLoad_fetched h ho, ?_⟩
      have hl := State.engLoad_ram hrt hlt hsp (by rwa [het]) (by rwa [het])
      rw [het] at hl
      rw [hl, State.engine_setEngine_self]
      exact ⟨rfl, fun b hne => (State.reg_setEngine _ _ _ _).trans (s.reg_fetching_ne k hne)⟩
    · refine ⟨_, execEngineStore_fetched h ho, ?_⟩
      obtain ⟨he, hreg⟩ := State.engStore_ram hrt hlt hsp (by rwa [het])
      rw [het] at he
      rw [he]
      exact ⟨getBytes_putBytes_toLE _ _ _ _, fun hwf => Memory.wf_putBytes hwf _ _,
        fun b hd => getBytes_putBytes_ne _ (by rw [length_toLE]; omega), rfl, rfl,
        fun b hne => (hreg b).trans (s.reg_fetching_ne k hne)⟩
    · refine ⟨_, execEngineStore_fetched h ho, ?_⟩
      have hl := State.engStore_held (s := s.fetching k) (by rwa [het]) hsp hlt (by rwa [het])
      rw [het] at hl
      rw [hl, State.engine_setEngine_self]
      exact ⟨rfl, rfl, rfl, rfl, rfl, rfl, rfl⟩
    · refine ⟨_, execEngineStore_fetched h ho, ?_⟩
      rw [State.engStore_full (by rwa [het]) hsp (by rwa [het])]
      obtain ⟨hhalt, hheld, hbit⟩ := State.stepError_halts (s.fetching k) k
      exact ⟨hhalt, hheld, hbit, State.stepError_memories (s.fetching k) k⟩
  · refine ⟨_, congrArg Host.Outcome.next (State.engSeq_go hr ho hs _), ?_⟩
    rw [State.engPush_room hlen, State.engine_engGo, State.engine_setEngine_self]
    exact ⟨Nat.mod_eq_of_lt (Nat.mod_lt _ (by decide)), rfl, rfl, rfl⟩
  · refine ⟨_, congrArg Host.Outcome.next (State.engSeq_go hr ho hs _), ?_⟩
    simp only [hst]
    rw [State.engine_engGo, State.engine_setEngine_self]
    exact ⟨rfl, rfl, rfl, rfl⟩
  · refine ⟨_, congrArg Host.Outcome.next (State.engSeq_go hr ho hs _), ?_⟩
    rw [State.engine_setEngine_self, State.engine_engGo]
    exact ⟨rfl, rfl, rfl, rfl⟩
  · refine ⟨_, congrArg Host.Outcome.next (State.engSeq_go hr ho hs _), ?_⟩
    rw [State.engine_engHalt, State.engine_engGo]
    exact ⟨rfl, State.engHalted_engHalt _ _, rfl, fun b hne => (State.reg_engHalt_ne _ _ hne).trans (s.reg_engGo _ _ _)⟩

end

section
/-!
Run control, scrub, store view and interrupts of a management engine (R137, R139, R140, R144, R146).
-/

open Sys2Proof

namespace Sys2Proof

/-! ### Fields of a register's write -/

theorem fieldOf_congr {w v : Word} {hi lo : Nat} (h : ∀ i, lo ≤ i → i ≤ hi → w.getLsbD i = v.getLsbD i) :
    fieldOf w hi lo = fieldOf v hi lo := by
  apply Nat.eq_of_testBit_eq
  intro i
  rw [testBit_fieldOf, testBit_fieldOf]
  by_cases hi' : i < hi + 1 - lo
  · rw [h (i + lo) (by omega) (by omega)]
  · simp [hi']

theorem getLsbD_or_fieldMask (d : Word) {hi lo : Nat} (h : hi < 32) (i : Nat) :
    (d ||| fieldMask hi lo).getLsbD i = (d.getLsbD i || decide (lo ≤ i ∧ i ≤ hi)) := by
  rw [BitVec.getLsbD_or, getLsbD_fieldMask _ _ _ h]

end Sys2Proof

namespace Sys2Proof.Machine

/-! ### A write of MGE_CTL (R140, R144, R146, R440) -/

/-- MGE_CTL takes the bits written; RUN starts or halts the engine and SCRUB starts a scrub. -/
def State.mgeCtlTaken (s : State) (k : Nat) (data : Word) : State :=
  let t := s.setReg (Reg.MGE_CTL k) (data &&& 0xC0003FFF)
  let t := if data.msb then t.engRun k else t.engAskHalt k
  if fieldOf data 29 29 = 1 then t.setBit (Reg.MGE_STAT k) 27 true else t

/-- A trusted master writes every bit but, if it is not the PF, PARITY. -/
theorem State.mgeCtlWrite_trusted {m : Master} (hm : m.trusted = true) (s : State) (k : Nat) (data : Word) :
    ∃ data', s.mgeCtlWrite m k data = s.mgeCtlTaken k data' ∧ ∀ i, i ≠ 30 → data'.getLsbD i = data.getLsbD i := by
  cases m with
  | vf n => cases hm
  | pf => exact ⟨data, rfl, fun _ _ => rfl⟩
  | me j =>
    refine ⟨_, rfl, fun i hi => ?_⟩
    have h30 : (0x40000000 : Word) = fieldMask 30 30 := by decide
    have hn : decide (30 ≤ i ∧ i ≤ 30) = false := decide_eq_false (by omega)
    rw [h30, BitVec.getLsbD_or, BitVec.getLsbD_and, BitVec.getLsbD_and, BitVec.getLsbD_not,
      getLsbD_fieldMask _ _ _ (by decide), hn]
    by_cases h : i < 32
    · simp [h]
    · simp [h, BitVec.getLsbD_of_ge _ _ (Nat.not_lt.1 h)]

theorem domainOf_mgeCtl (k : Fin 4) : domainOf (Reg.MGE_CTL k) = 146 + k / 2 := by
  revert k; decide

theorem domainOf_mgeCsAcc (k : Fin 4) : domainOf (Reg.MGE_CS_ACC k) = domainOf (Reg.MGE_CTL k) := by
  revert k; decide

section
variable {data d : Word} (h : ∀ i, i ≠ 30 → data.getLsbD i = d.getLsbD i)
include h

theorem msb_of_bits : data.msb = d.msb := by
  rw [BitVec.msb_eq_getLsbD_last, BitVec.msb_eq_getLsbD_last]
  exact h 31 (by decide)

theorem scrub_of_bits : fieldOf data 29 29 = fieldOf d 29 29 := fieldOf_congr fun i _ _ => h i (by omega)

theorem start_of_bits : fieldOf (data &&& 0xC0003FFF) 13 0 = fieldOf d 13 0 := by
  have hm : (0xC0003FFF : Word) = fieldMask 31 30 ||| fieldMask 13 0 := by decide
  refine fieldOf_congr fun i h1 h2 => ?_
  rw [BitVec.getLsbD_and, h i (by omega), hm, getLsbD_or_fieldMask _ (by decide), decide_eq_true ⟨h1, h2⟩,
    Bool.or_true, Bool.and_true]

end

/-- The bits of MGE_CTL that the three commands set or clear leave the others. -/
theorem getLsbD_withRun (d : Word) {i : Nat} (h : i < 31) : (d ||| 0x80000000).getLsbD i = d.getLsbD i := by
  have hm : (0x80000000 : Word) = fieldMask 31 31 := by decide
  rw [hm, getLsbD_or_fieldMask _ (by decide), decide_eq_false (by omega), Bool.or_false]

theorem msb_withRun (d : Word) : (d ||| 0x80000000).msb = true := by
  rw [BitVec.msb_or]
  exact Bool.or_true _

theorem msb_withoutRun (d : Word) : (d &&& 0x7FFFFFFF).msb = false := by
  rw [BitVec.msb_and]
  exact Bool.and_false _

theorem scrub_withoutRun (d : Word) : fieldOf (d &&& 0x7FFFFFFF) 29 29 = fieldOf d 29 29 := by
  have hm : (0x7FFFFFFF : Word) = fieldMask 30 0 := by decide
  refine fieldOf_congr fun i h1 h2 => ?_
  rw [BitVec.getLsbD_and, hm, getLsbD_fieldMask _ _ _ (by decide), decide_eq_true (by omega), Bool.and_true]

theorem scrub_withScrub (d : Word) : fieldOf (d ||| 0x20000000) 29 29 = 1 := by
  have hm : (0x20000000 : Word) = fieldMask 29 29 := by decide
  rw [bitsOf_one, hm, getLsbD_or_fieldMask _ (by decide), decide_eq_true (by omega), Bool.or_true]
  rfl

/-! ### An engine starts (R140) -/

theorem foldl_fixed_of_mem {α β : Type} {f : α → β → α} {a : α} {l : List β} (h : ∀ b ∈ l, f a b = a) :
    l.foldl f a = a := by
  induction l with
  | nil => rfl
  | cons b r ih =>
    obtain ⟨hb, hr⟩ := List.forall_mem_cons.1 h
    rw [List.foldl_cons, hb, ih hr]

/-- Nothing waits in a mailbox or a doorbell, so nobody is woken (R391). -/
theorem State.rewake_quiet {s : State} (hm : ∀ i : Fin 256, s.bit (Reg.MBX_STAT i) 30 = false)
    (hd : ∀ i : Fin 64, s.reg (Reg.MBX_DB i) = 0) (p : Nat → Bool) : s.rewake p = s := by
  refine (congrArg (List.foldl _ · _) (foldl_fixed_of_mem fun i hi => ?_)).trans (foldl_fixed_of_mem fun i hi => ?_)
  · have h : s.bit (Reg.MBX_STAT i) 30 = false := hm ⟨i, List.mem_range.1 hi⟩
    rw [h, Bool.false_and, if_neg (by decide)]
  · have h : s.reg (Reg.MBX_DB i) = 0 := hd ⟨i, List.mem_range.1 hi⟩
    rw [h, bne_self_eq_false, Bool.false_and, if_neg (by decide)]

theorem State.apart_rewake (s : State) (p : Nat → Bool) : (s.rewake p).apart = s.apart := by
  rw [State.rewake, State.apart_foldl, State.apart_foldl]
  all_goals
    intro t i
    split
    · exact State.apart_deliver _ _ _
    · rfl

/-- The last record of an engine's journal in G1 to G3. -/
def Engine.recalled (e : Engine) (r : JRec) : Engine :=
  ((e.setReg 1 (BitVec.ofNat 64 r.routine)).setReg 2 (BitVec.ofNat 64 r.step)).setReg 3 (BitVec.ofNat 64 r.state)

theorem Engine.reg_recalled (e : Engine) (r : JRec) : (e.recalled r).reg 1 = BitVec.ofNat 64 r.routine ∧
    (e.recalled r).reg 2 = BitVec.ofNat 64 r.step ∧ (e.recalled r).reg 3 = BitVec.ofNat 64 r.state := by
  simp [Engine.recalled, Engine.reg_setReg]

theorem Engine.store_setReg (e : Engine) (d : Nat) (v : BitVec 64) : (e.setReg d v).store = e.store := by
  rw [Engine.setReg]
  split <;> rfl

theorem Engine.store_recalled (e : Engine) (r : JRec) : (e.recalled r).store = e.store := by
  rw [Engine.recalled, Engine.store_setReg, Engine.store_setReg, Engine.store_setReg]

/-- The engine with all that a start clears cleared. -/
def Engine.rested (e : Engine) : Engine :=
  { e with memDone := false, opDone := false, loaded := none, waiting := false, haltReq := false, afterStep := false,
           held := [], steps := 0 }

/-- The engine as a start leaves it: at its recovery entry with its last record while a journal is open. -/
def Engine.restarted (e : Engine) (start : Nat) : Engine :=
  if e.jopen then
    let x := e.rested.recalled (e.lastRec.getD ⟨0, 0, 0, 0, []⟩)
    { x with upc := x.entry 0xFE % 16384 }
  else { e.rested with upc := start }

theorem State.engStart_eq {s : State} {k : Nat} (h : (s.engine k).blocked = false) : s.engStart k =
    (s.setEngine k ((s.engine k).restarted (s.fld (Reg.MGE_CTL k) 13 0))).setBit (Reg.MGE_STAT k) 31 false := by
  rw [State.engStart]
  exact if_neg (by rw [h]; decide)

theorem Engine.restarted_closed {e : Engine} (h : e.jopen = false) (start : Nat) :
    e.restarted start = { e.rested with upc := start } := if_neg (by rw [h]; decide)

theorem Engine.restarted_open {e : Engine} (h : e.jopen = true) (start : Nat) :
    e.restarted start = { e.rested.recalled (e.lastRec.getD ⟨0, 0, 0, 0, []⟩) with upc := e.entry 0xFE % 16384 } := by
  rw [Engine.restarted, if_pos h]
  simp only [Engine.entry, Engine.store_recalled]
  rfl

theorem Engine.store_restarted (e : Engine) (start : Nat) : (e.restarted start).store = e.store := by
  rw [Engine.restarted]
  split
  · exact e.rested.store_recalled (e.lastRec.getD ⟨0, 0, 0, 0, []⟩)
  · rfl

theorem Engine.restarted_lastRec {e : Engine} (h : e.jopen = true) (start : Nat) {r : JRec} (hr : r ∈ e.lastRec) :
    (e.restarted start).reg 1 = BitVec.ofNat 64 r.routine ∧ (e.restarted start).reg 2 = BitVec.ofNat 64 r.step ∧
      (e.restarted start).reg 3 = BitVec.ofNat 64 r.state := by
  have hl : e.lastRec.getD ⟨0, 0, 0, 0, []⟩ = r := by rw [Option.mem_def.1 hr, Option.getD_some]
  rw [Engine.restarted_open h, hl]
  exact Engine.reg_recalled e.rested r

section
variable {s : State} {k : Nat}

theorem State.engine_engStart (h : (s.engine k).blocked = false) :
    (s.engStart k).engine k = (s.engine k).restarted (s.fld (Reg.MGE_CTL k) 13 0) := by
  rw [State.engStart_eq h, State.engine_of_engines (State.engines_setBit _ _ _ _), State.engine_setEngine_self]

theorem State.engHalted_engStart (h : (s.engine k).blocked = false) : (s.engStart k).engHalted k = false := by
  rw [State.engStart_eq h]
  exact State.bit_setBit _ _ _ _ (by decide)

theorem State.reg_engStart_ne (h : (s.engine k).blocked = false) {a : Nat} (ha : a ≠ Reg.MGE_STAT k) :
    (s.engStart k).reg a = s.reg a := by
  rw [State.engStart_eq h, State.reg_setBit_ne _ ha, State.reg_setEngine]

theorem State.store_engStart (s : State) (k : Nat) : ((s.engStart k).engine k).store = (s.engine k).store := by
  cases h : (s.engine k).blocked with
  | false => rw [State.engine_engStart h, Engine.store_restarted]
  | true =>
    have he : s.engStart k = s := if_pos h
    rw [he]

/-- The state in which engine k is no longer asked to halt. -/
def State.unasked (s : State) (k : Nat) : State := s.setEngine k { s.engine k with haltReq := false }

theorem State.engine_unasked (s : State) (k : Nat) : (s.unasked k).engine k = { s.engine k with haltReq := false } :=
  State.engine_setEngine_self _ _ _

theorem State.engRun_halted (h : s.engHalted k = true) :
    s.engRun k = ((s.unasked k).engStart k).rewake ((s.unasked k).engineParty k) := if_pos h

theorem State.engRun_running (h : s.engHalted k = false) : s.engRun k = s.unasked k := by
  refine if_neg ?_
  change ¬ s.engHalted k = true
  rw [h]
  decide

theorem State.store_engRun (s : State) (k : Nat) : ((s.engRun k).engine k).store = (s.engine k).store := by
  cases h : s.engHalted k with
  | false => rw [State.engRun_running h, State.engine_unasked]
  | true =>
    rw [State.engRun_halted h, State.engine_of_engines (State.engines_of_apart (State.apart_rewake _ _)),
      State.store_engStart, State.engine_unasked]

theorem State.store_engAskHalt (s : State) (k : Nat) : ((s.engAskHalt k).engine k).store = (s.engine k).store := by
  rw [State.engAskHalt]
  split
  · rfl
  · rw [State.engine_setEngine_self]

end

/-! ### The commands of run control -/

/-- MGE_CTL holding what a write takes. -/
def State.ctlSet (s : State) (k : Nat) (data : Word) : State := s.setReg (Reg.MGE_CTL k) (data &&& 0xC0003FFF)

section
variable (s : State) (k : Nat) (data : Word)

theorem State.engine_ctlSet : (s.ctlSet k data).engine k = s.engine k :=
  State.engine_of_engines (State.engines_setReg _ _ _) k

theorem State.engHalted_ctlSet : (s.ctlSet k data).engHalted k = s.engHalted k :=
  State.bit_of_reg (State.reg_setReg_ne _ (mgeCtl_ne_mgeStat k k).symm _) 31

theorem State.mgeCtlTaken_run (h : data.msb = true) (h29 : fieldOf data 29 29 = 0) :
    s.mgeCtlTaken k data = (s.ctlSet k data).engRun k := by
  have hn : ¬ fieldOf data 29 29 = 1 := by omega
  rw [State.mgeCtlTaken]
  simp only [h, if_true, if_neg hn]
  rfl

theorem State.mgeCtlTaken_halt (h : data.msb = false) (h29 : fieldOf data 29 29 = 0) (hr : s.engHalted k = false) :
    s.mgeCtlTaken k data = (s.ctlSet k data).setEngine k { s.engine k with haltReq := true } := by
  have hn : ¬ fieldOf data 29 29 = 1 := by omega
  have ha : (s.ctlSet k data).engAskHalt k = (s.ctlSet k data).setEngine k { s.engine k with haltReq := true } := by
    rw [State.engAskHalt, if_neg (by rw [State.engHalted_ctlSet, hr]; decide), State.engine_ctlSet]
  rw [State.mgeCtlTaken]
  simp only [h, Bool.false_eq_true, if_false, if_neg hn]
  exact ha

theorem State.mgeCtlTaken_scrub (h29 : fieldOf data 29 29 = 1) :
    (s.mgeCtlTaken k data).bit (Reg.MGE_STAT k) 27 = true ∧
      ((s.mgeCtlTaken k data).engine k).store = (s.engine k).store := by
  rw [State.mgeCtlTaken]
  simp only [if_pos h29]
  refine ⟨State.bit_setBit _ _ _ _ (by decide), ?_⟩
  rw [State.engine_of_engines (State.engines_setBit _ _ _ _), ← State.ctlSet]
  split
  · rw [State.store_engRun, State.engine_ctlSet]
  · rw [State.store_engAskHalt, State.engine_ctlSet]

end

/-- The state in which a write of MGE_CTL with RUN = 1 has started a halted engine. -/
def State.started (s : State) (k : Nat) (data : Word) : State := ((s.ctlSet k data).unasked k).engStart k

section
variable {s : State} {k : Nat} (hb : (s.engine k).blocked = false)
include hb

theorem State.engine_started (data : Word) : (s.started k data).engine k =
    (s.engine k).restarted (fieldOf (data &&& 0xC0003FFF) 13 0) := by
  have he : ((s.ctlSet k data).unasked k).engine k = { s.engine k with haltReq := false } := by
    rw [State.engine_unasked, State.engine_ctlSet]
  have hf : ((s.ctlSet k data).unasked k).fld (Reg.MGE_CTL k) 13 0 = fieldOf (data &&& 0xC0003FFF) 13 0 :=
    congrArg (fieldOf · 13 0) (s.reg_setReg_self _ _)
  rw [State.started, State.engine_engStart (by rw [he]; exact hb), he, hf]
  rfl

theorem State.engHalted_started (data : Word) : (s.started k data).engHalted k = false :=
  State.engHalted_engStart (by rw [State.engine_unasked, State.engine_ctlSet]; exact hb)

theorem State.reg_started_ne (data : Word) {a : Nat} (h : a ≠ Reg.MGE_STAT k) (h' : a ≠ Reg.MGE_CTL k) :
    (s.started k data).reg a = s.reg a := by
  rw [State.started, State.reg_engStart_ne (by rw [State.engine_unasked, State.engine_ctlSet]; exact hb) h]
  exact State.reg_setReg_ne _ h' _

theorem State.engRun_quiet (hh : s.engHalted k = true) (hm : ∀ i : Fin 256, s.bit (Reg.MBX_STAT i) 30 = false)
    (hd : ∀ i : Fin 64, s.reg (Reg.MBX_DB i) = 0) (data : Word) :
    (s.ctlSet k data).engRun k = s.started k data := by
  rw [State.engRun_halted (by rw [State.engHalted_ctlSet, hh]), State.started]
  refine State.rewake_quiet (fun i => ?_) (fun i => ?_) _
  · exact (State.bit_of_reg (State.reg_started_ne hb data (by simp only [Reg.MBX_STAT, Reg.MGE_STAT]; omega)
      (by simp only [Reg.MBX_STAT, Reg.MGE_CTL]; omega)) 30).trans (hm i)
  · exact (State.reg_started_ne hb data (by simp only [Reg.MBX_DB, Reg.MGE_STAT]; omega)
      (by simp only [Reg.MBX_DB, Reg.MGE_CTL]; omega)).trans (hd i)

end

section
variable {m : Master} {k : Fin 4} {s : State} (hm : m.trusted = true)
  (hd : s.domOn (domainOf (Reg.MGE_CTL k)) = true) (d : Word)
include hm hd

theorem execEngineRun_trusted : ∃ data, execEngineRun m k d s = .next (s.mgeCtlTaken k data) ∧
    ∀ i, i ≠ 30 → data.getLsbD i = (d ||| 0x80000000).getLsbD i := by
  obtain ⟨data, hw, hb⟩ := s.mgeCtlWrite_trusted hm k (d ||| 0x80000000)
  refine ⟨data, ?_, hb⟩
  rw [execEngineRun, State.gated_trusted hm hd, hw]

theorem execEngineHaltRequest_trusted : ∃ data, execEngineHaltRequest m k d s = .next (s.mgeCtlTaken k data) ∧
    ∀ i, i ≠ 30 → data.getLsbD i = (d &&& 0x7FFFFFFF).getLsbD i := by
  obtain ⟨data, hw, hb⟩ := s.mgeCtlWrite_trusted hm k (d &&& 0x7FFFFFFF)
  refine ⟨data, ?_, hb⟩
  rw [execEngineHaltRequest, State.gated_trusted hm hd, hw]

theorem execEngineScrub_trusted : ∃ data, execEngineScrub m k d s = .next (s.mgeCtlTaken k data) ∧
    ∀ i, i ≠ 30 → data.getLsbD i = (d ||| 0x20000000).getLsbD i := by
  obtain ⟨data, hw, hb⟩ := s.mgeCtlWrite_trusted hm k (d ||| 0x20000000)
  refine ⟨data, ?_, hb⟩
  rw [execEngineScrub, State.gated_trusted hm hd, hw]

theorem execEngineCsRead_trusted : execEngineCsRead m k d s = .next (s.engStoreRead k d) := by
  rw [execEngineCsRead, State.gated_trusted hm (by rwa [domainOf_mgeCsAcc])]

end

/-! ### Halts and interrupts at a boundary (R139, R146) -/

theorem State.engRuns_of_running {s : State} {k : Fin 4} (hd : s.domOn (domainOf (Reg.MGE_CTL k)) = true)
    (hh : s.engHalted k = false) : s.engRuns k = true := by
  rw [domainOf_mgeCtl] at hd
  rw [State.engRuns, hd, hh]
  rfl

theorem execEngineHalted_due {s : State} {k : Fin 4} (hr : s.engRuns k = true) (hq : (s.engine k).haltReq = true)
    (hb : (s.engine k).atBoundary = true) : execEngineHalted k s = .next (s.engHalt k) := by
  rw [execEngineHalted]
  exact if_pos (by rw [hr, hq, hb]; rfl)

/-- The state in which engine k has taken the first of its pending sources. -/
def State.sourceTaken (s : State) (k : Nat) (rest : List Nat) : State :=
  { s with intr := { s.intr with engine := Store.put [] s.intr.engine k rest } }

/-- The state in which engine k has gone to its handler of a source, at a microword the spec does not give. -/
def State.toHandler (s : State) (k src : Nat) : State :=
  { s with fresh := s.fresh + src + 1 }.setEngine k { s.engine k with
    upc := Config.freeNat (s.fresh + src) % 16384, waiting := false, afterStep := false }

section
variable {s : State} {k : Fin 4} {src : Nat} {rest : List Nat}

theorem execEngineInterrupt_taken (hr : s.engRuns k = true) (hb : (s.engine k).atBoundary = true)
    (hq : (s.engine k).haltReq = false) (hp : Store.read [] s.intr.engine k = src :: rest) :
    execEngineInterrupt k s =
      .next (((s.sourceTaken k rest).engPush k (s.engine k).upc).toHandler k src) := by
  have hg : (s.engRuns k && (s.engine k).atBoundary && !(s.engine k).haltReq) = true := by rw [hr, hb, hq]; rfl
  rw [execEngineInterrupt]
  simp only [hp, if_pos hg]
  rfl

theorem State.pending_sourceTaken (s : State) (k : Nat) (rest : List Nat) :
    Store.read [] (s.sourceTaken k rest).intr.engine k = rest :=
  (Store.read_put _ _ _ _ _).trans (if_pos rfl)

end

/-! ### The end of a scrub and the view of the store (R144, R146) -/

section
variable {s : State} {k : Nat} (hs : s.bit (Reg.MGE_STAT k) 27 = true)
include hs

theorem State.engScrubDone_matches (h : (s.engine k).digest = []) :
    s.engScrubDone k = s.setBit (Reg.MGE_STAT k) 27 false := by
  have hn : ¬ s.bit (Reg.MGE_STAT k) 27 = false := by rw [hs]; decide
  rw [State.engScrubDone, if_neg hn]
  exact if_pos (.inl (by rwa [State.engine_of_engines (State.engines_setBit _ _ _ _)]))

theorem State.engScrubDone_differs (h : (s.engine k).digest ≠ [])
    (hd : Config.sha384 (s.engine k).image ≠ (s.engine k).digest) : s.engScrubDone k =
      (((s.setBit (Reg.MGE_STAT k) 27 false).setBit (Reg.MGE_STAT k) 28 true).reportFault (srcId 6 k) .cont .logic 0 0) := by
  have hn : ¬ s.bit (Reg.MGE_STAT k) 27 = false := by rw [hs]; decide
  rw [State.engScrubDone, if_neg hn]
  refine if_neg ?_
  rw [State.engine_of_engines (State.engines_setBit _ _ _ _)]
  exact not_or.2 ⟨h, hd⟩

end

theorem mgeCsData_injective (k : Nat) : Function.Injective (Reg.MGE_CS_DATA k) := by
  intro i j h
  simp only [Reg.MGE_CS_DATA] at h
  omega

section
variable {s : State} {k : Nat} {acc : Word}

theorem State.engStoreRead_entry (h : fieldOf acc 29 29 = 1) : s.engStoreRead k acc =
    (s.setReg (Reg.MGE_CS_ACC k) (acc &&& 0x20003FFF)).setReg (Reg.MGE_CS_DATA k 0)
      (BitVec.ofNat 32 ((s.engine k).entry (fieldOf acc 7 0))) := by
  rw [State.engStoreRead]
  simp only [if_pos h, State.engine_of_engines (State.engines_setReg _ _ _)]

theorem State.engStoreRead_word (h : fieldOf acc 29 29 = 0) : s.engStoreRead k acc =
    (s.setReg (Reg.MGE_CS_ACC k) (acc &&& 0x20003FFF)).setRegs (Reg.MGE_CS_DATA k)
      (fun j => BitVec.ofNat 32 ((s.engine k).word (fieldOf acc 13 0) / 2 ^ (32 * j))) (List.range 6) := by
  have hn : ¬ fieldOf acc 29 29 = 1 := by omega
  rw [State.engStoreRead]
  simp only [if_neg hn, State.engine_of_engines (State.engines_setReg _ _ _)]
  rfl

end

theorem State.engines_engStoreRead (s : State) (k : Nat) (acc : Word) : (s.engStoreRead k acc).engines = s.engines := by
  by_cases h : fieldOf acc 29 29 = 1
  · rw [State.engStoreRead_entry h, State.engines_setReg, State.engines_setReg]
  · have h0 : fieldOf acc 29 29 = 0 := by
      have := fieldOf_lt acc 29 29
      omega
    rw [State.engStoreRead_word h0, State.engines_of_apart (State.apart_setRegs _ _ _ _), State.engines_setReg]

end Sys2Proof.Machine

open Sys2Proof.Machine

/-- Settles O48: each command at its branch, and what the state it leaves reads. -/
theorem engineRunControl : Obligations.EngineRunControl := by
  intro m k d w src rest e s hm hd he
  subst he
  refine ⟨fun hh hb h29 hmbx hdb => ?_, fun hh => ⟨fun h29 => ?_, fun hq hb => ?_, fun hq hb hp hl => ?_⟩, ?_,
    fun hs => ⟨fun hdig => ?_, fun hdig hne => ?_⟩, ?_⟩
  · obtain ⟨data, hx, hbits⟩ := execEngineRun_trusted hm hd d
    have hlow (i : Nat) (h30 : i ≠ 30) (h31 : i < 31) : data.getLsbD i = d.getLsbD i :=
      (hbits i h30).trans (getLsbD_withRun d h31)
    have hscrub : fieldOf data 29 29 = 0 := (fieldOf_congr fun i _ _ => hlow i (by omega) (by omega)).trans h29
    have hrun : s.mgeCtlTaken k data = s.started k data :=
      (s.mgeCtlTaken_run k data ((msb_of_bits hbits).trans (msb_withRun d)) hscrub).trans
        (State.engRun_quiet hb hh hmbx hdb data)
    have hstart : fieldOf (data &&& 0xC0003FFF) 13 0 = fieldOf d 13 0 :=
      (start_of_bits hbits).trans (fieldOf_congr fun i _ _ => getLsbD_withRun d (by omega))
    refine ⟨_, hx, ?_⟩
    rw [hrun, State.engine_started hb, State.engHalted_started hb, hstart]
    refine ⟨rfl, fun hj => ?_, fun hj => ⟨?_, fun r hr => Engine.restarted_lastRec hj _ hr⟩⟩
    · rw [Engine.restarted_closed hj]
      exact ⟨rfl, rfl⟩
    · exact congrArg Engine.upc (Engine.restarted_open hj _)
  · obtain ⟨data, hx, hbits⟩ := execEngineHaltRequest_trusted hm hd d
    have hscrub := (scrub_of_bits hbits).trans ((scrub_withoutRun d).trans h29)
    refine ⟨_, hx, ?_⟩
    rw [s.mgeCtlTaken_halt k data ((msb_of_bits hbits).trans (msb_withoutRun d)) hscrub hh,
      State.engine_setEngine_self]
    exact ⟨rfl, fun a ha => State.reg_setReg_ne _ ha _⟩
  · refine ⟨_, execEngineHalted_due (State.engRuns_of_running hd hh) hq hb, State.engHalted_engHalt _ _, ?_⟩
    rw [State.engine_engHalt]
    exact ⟨rfl, rfl, fun a ha => State.reg_engHalt_ne _ _ ha⟩
  · refine ⟨_, execEngineInterrupt_taken (State.engRuns_of_running hd hh) hb hq hp, ?_⟩
    have hl' : ((s.sourceTaken k rest).engine k).rstack.length < 8 := hl
    rw [State.engPush_room hl', State.toHandler, State.engine_setEngine_self, State.engine_setEngine_self]
    exact ⟨rfl, rfl, s.pending_sourceTaken k rest, rfl, rfl⟩
  · obtain ⟨data, hx, hbits⟩ := execEngineScrub_trusted hm hd d
    exact ⟨_, hx, s.mgeCtlTaken_scrub k data ((scrub_of_bits hbits).trans (scrub_withScrub d))⟩
  · refine ⟨_, congrArg Host.Outcome.next (State.engScrubDone_matches hs hdig), ?_, ?_, ?_⟩
    · exact State.bit_setBit _ _ _ _ (by decide)
    · exact State.flt_setBit _ _ _ _
    · exact State.engines_setBit _ _ _ _
  · refine ⟨_, congrArg Host.Outcome.next (State.engScrubDone_differs hs hdig hne), ?_, ?_, ?_⟩
    · rw [State.bit_of_reg (State.reg_reportFault _ _ _ _ _ _ _), State.bit_setBit _ _ _ _ (by decide)]
    · rw [State.bit_of_reg (State.reg_reportFault _ _ _ _ _ _ _),
        State.bit_setBit_ne _ _ _ _ _ (by decide) (by decide), State.bit_setBit _ _ _ _ (by decide)]
    · exact List.length_append
  · refine ⟨_, execEngineCsRead_trusted hm hd d, State.engines_engStoreRead _ _ _, fun h0 => ?_, fun h1 => ?_⟩
    · rw [State.engStoreRead_word h0]
      exact State.reg_setRegs_mem _ _ _ _ (mgeCsData_injective k) (List.mem_range.2 w.isLt)
    · rw [State.engStoreRead_entry h1, State.reg_setReg_self]

end

section
/-!
A microword's lookups of routes and ACL entries and its learns (R148, R150, R171, R179, R184).
-/

open Sys2Proof

namespace Sys2Proof

@[simp] theorem length_bytesAt (l : List Byte) (off n : Nat) : (bytesAt l off n).length = n := by
  rw [bytesAt_eq, List.length_map, List.length_range]

theorem bytesAt_length {l : List Byte} {n : Nat} (h : l.length = n) : bytesAt l 0 n = l := by
  subst h
  simp [bytesAt]

theorem Store.le_of_mem_rising {α : Type} {m : Store α} {e : Nat × α} {lo : Nat} (hr : Store.rising lo m = true)
    (he : e ∈ m) : lo ≤ e.1 := by
  induction m generalizing lo with
  | nil => cases he
  | cons q r ih =>
    simp only [Store.rising, Bool.and_eq_true, decide_eq_true_eq] at hr
    rcases List.mem_cons.1 he with rfl | her
    · exact hr.1
    · have := ih hr.2 her
      omega

/-- In a canonical map, an entry with no match below it is the first match. -/
theorem Store.find?_lowest {α : Type} {p : Nat × α → Bool} {m : Store α} {e : Nat × α} {lo : Nat}
    (hr : Store.rising lo m = true) (he : e ∈ m) (hp : p e = true) (hl : ∀ q ∈ m, q.1 < e.1 → p q = false) :
    m.find? p = some e := by
  induction m generalizing lo with
  | nil => cases he
  | cons q r ih =>
    simp only [Store.rising, Bool.and_eq_true] at hr
    rcases List.mem_cons.1 he with rfl | her
    · exact List.find?_cons_of_pos hp
    · have hq : p q = false := hl q List.mem_cons_self (Store.le_of_mem_rising hr.2 her)
      rw [List.find?_cons_of_neg (by rw [hq]; exact Bool.false_ne_true)]
      exact ih hr.2 her fun x hx => hl x (List.mem_cons_of_mem _ hx)

end Sys2Proof

namespace Sys2Proof.Machine

/-! ### A table operation answered at once (R148) -/

/-- A use of an allowance does not make an earlier frame of the stream late (R134). -/
theorem State.earlierDone_use {s : State} {x : Ctx} (h : s.earlierDone x = true) (c k : Nat) :
    (s.setCtx c (x.use k)).earlierDone (x.use k) = true :=
  Store.all_set (by simp) h

theorem State.mayIssue_use {s : State} {x : Ctx} {op : Nat} (h : s.mayIssue x op = true) (c k : Nat) :
    (s.setCtx c (x.use k)).mayIssue (x.use k) op = true := by
  simp only [State.mayIssue, Bool.and_eq_true, Bool.or_eq_true] at h ⊢
  exact ⟨h.1, h.2.imp_right fun he => State.earlierDone_use he c k⟩

/-- The state in which frame c's operation has been answered with `r`. -/
def State.answered (c op slot : Nat) (x : Ctx) (r : State × List Byte × Bool × Bool) : State :=
  r.1.setCtx c (x.issue op slot (some (bytesAt r.2.1 0 16, r.2.2)))

section
variable {s : State} {c op k max : Nat} {x : Ctx} (hx : s.ctx? c = some x) (hm : s.mayIssue x op = true) (ho : op ≠ 1)
include hx hm ho

theorem State.memNow_answered (run : State → Ctx → State × List Byte × Bool × Bool) :
    s.memNow c op run = State.answered c op (s.memSlot x) x (run s x) := by
  simp only [State.memNow, hx, hm, if_true, if_neg ho]
  rfl

/-- Within its allowance an operation takes one use and its target answers. -/
theorem State.tableNow_within (hu : x.uses k < max) (run : State → Ctx → State × List Byte × Bool × Bool) :
    s.tableNow c op k max run =
      State.answered c op (s.memSlot x) (x.use k) (run (s.setCtx c (x.use k)) (x.use k)) := by
  simp only [State.tableNow, hx, hm, if_true, if_neg (Nat.not_le.2 hu)]
  exact State.memNow_answered (State.ctx?_setCtx_self _ _ _) (State.mayIssue_use hm c k) ho run

/-- Beyond its allowance an operation answers STATUS 3. -/
theorem State.tableNow_beyond (hu : max ≤ x.uses k) (run : State → Ctx → State × List Byte × Bool × Bool) :
    s.tableNow c op k max run = State.answered c op (s.memSlot x) x (s.overLimit x) := by
  simp only [State.tableNow, hx, hm, if_true, if_pos hu]
  exact State.memNow_answered hx hm ho _

end

theorem State.outst_answered (c op slot : Nat) (x : Ctx) {r : State × List Byte × Bool × Bool}
    (hr : r.2.1.length = 16) : ((State.answered c op slot x r).ctx? c).map (·.outst) =
      some (x.outst ++ [⟨x.nextSeq, op, slot, some r.2⟩]) := by
  rw [State.answered, State.ctx?_setCtx_self, bytesAt_length hr]
  rfl

/-! ### Answers without a result (R150) -/

theorem statusAnswer_length (status : Nat) (rind : Bool) : (statusAnswer status rind).1.length = 16 :=
  length_bytesAt _ _ _

theorem statusAnswer_zero_rind : statusAnswer 0 true = (List.replicate 16 0, false, true) := by decide

theorem statusAnswer_three : statusAnswer 3 false = ([3] ++ List.replicate 15 0, false, true) := by decide

/-! ### Route lookups (R179) -/

/-- The longer of a matching route and the best one so far. -/
def longerRoute (best : Option Route) (r : Route) : Option Route :=
  match best with
  | some q => if q.plen < r.plen then some r else best
  | none => some r

theorem longerRoute_bound {r a : Route} {best : Option Route} (hb : ∀ q ∈ best, q = r ∨ q.plen < r.plen)
    (ha : a = r ∨ a.plen < r.plen) : ∀ q ∈ longerRoute best a, q = r ∨ q.plen < r.plen := by
  have hs : ∀ q ∈ some a, q = r ∨ q.plen < r.plen := fun q hq => Option.mem_some_iff.1 hq ▸ ha
  cases best with
  | none => exact hs
  | some b =>
    rw [longerRoute]
    split
    · exact hs
    · exact hb

theorem longerRoute_longest {r : Route} {best : Option Route} (hb : ∀ q ∈ best, q = r ∨ q.plen < r.plen) :
    longerRoute best r = some r := by
  cases best with
  | none => rfl
  | some b =>
    rcases hb b rfl with rfl | h
    · exact if_neg (Nat.lt_irrefl _)
    · exact if_pos h

theorem longerRoute_kept {r a : Route} (ha : a = r ∨ a.plen < r.plen) : longerRoute (some r) a = some r := by
  refine if_neg fun h => ?_
  rcases ha with rfl | h'
  · exact Nat.lt_irrefl _ h
  · exact Nat.lt_asymm h h'

/-- A fold that keeps the longest matching route ends with the one every other match is shorter than. -/
theorem foldl_longerRoute {p : Route → Prop} [DecidablePred p] {r : Route} (hp : p r) (l : List Route) :
    (∀ q ∈ l, p q → q = r ∨ q.plen < r.plen) → ∀ best : Option Route, (∀ q ∈ best, q = r ∨ q.plen < r.plen) →
      (r ∈ l ∨ best = some r) → l.foldl (fun b q => if p q then longerRoute b q else b) best = some r := by
  induction l with
  | nil => exact fun _ _ _ h => h.resolve_left List.not_mem_nil
  | cons a l ih =>
    intro hl best hb h
    rw [List.forall_mem_cons] at hl
    rw [List.foldl_cons]
    by_cases ha : p a
    · rw [if_pos ha]
      refine ih hl.2 _ ?_ ?_
      · exact longerRoute_bound hb (hl.1 ha)
      · rcases h with h | rfl
        · rcases List.mem_cons.1 h with rfl | h
          · exact .inr (longerRoute_longest hb)
          · exact .inl h
        · exact .inr (longerRoute_kept (hl.1 ha))
    · rw [if_neg ha]
      refine ih hl.2 best hb (h.imp_left fun h => ?_)
      exact (List.mem_cons.1 h).resolve_left fun e => ha (e ▸ hp)

/-- Whether a route matches an address of its family (R179). -/
abbrev Route.covers (r : Route) (af vrf addr : Nat) : Prop :=
  r.af = af ∧ r.vrf = vrf ∧ r.quar = false ∧
    r.addr / 2 ^ ((if af = 2 then 128 else 32) - r.plen) = addr / 2 ^ ((if af = 2 then 128 else 32) - r.plen)

/-- The fold of a lookup is `longerRoute` over the routes that cover the address. -/
theorem Press.lookup_longest {p : Press} {af vrf addr : Nat} {r : Route} (hr : r ∈ p.routes) (hc : r.covers af vrf addr)
    (hl : ∀ q ∈ p.routes, q.covers af vrf addr → q = r ∨ q.plen < r.plen) : p.lookup af vrf addr = some r :=
  foldl_longerRoute (p := fun q => q.covers af vrf addr) hc p.routes hl none (fun _ h => nomatch h) (.inl hr)

/-- A lookup in the window answers the longest match with its opcode and object (R150, R179). -/
theorem State.routeLookup_hit {s : State} {x : Ctx} {b : Nat} {r : Route}
    (hw : s.inWindow x.slice x.comp 28 2 (s.memImm x % 65536) = true) (hb : s.pressFor x.slice = some b)
    (h4 : (s.memImm x).testBit 16 = false)
    (hl : (s.press b).lookup 1 (s.memImm x % 65536) (beNat ((s.memKey x).take 4)) = some r) :
    s.routeLookup x = ((s.objAnswer r.nhop).2, [1, BitVec.ofNat 8 r.opc, BitVec.ofNat 8 r.plen, 0, 0, 0, 0, 0] ++
      State.epAnswer.objBE (s.objAnswer r.nhop).1, true, false) := by
  simp only [State.routeLookup, hw, h4, hb, Bool.true_eq_false, Bool.false_eq_true, if_false, Option.bind_some,
    Nat.reduceEqDiff, hl]

theorem State.routeLookup_outside {s : State} {x : Ctx}
    (hw : s.inWindow x.slice x.comp 28 2 (s.memImm x % 65536) = false) :
    s.routeLookup x = s.tableAnswer x (s.memImm x % 65536) := by
  simp only [State.routeLookup, hw, if_true]

/-- An object is answered by the tables alone, but for values drawn for an index that holds none. -/
theorem State.regs_objAnswer (s : State) (i : Nat) : (s.objAnswer i).2.regs = s.regs := by
  simp only [State.objAnswer]
  repeat' split
  all_goals rfl

theorem State.tbl_objAnswer (s : State) (i : Nat) : (s.objAnswer i).2.tbl = s.tbl := by
  simp only [State.objAnswer]
  repeat' split
  all_goals rfl

theorem length_objBE (o : List Byte) : (State.epAnswer.objBE o).length = 8 := by
  simp [State.epAnswer.objBE]

/-! ### ACL lookups (R184) -/

/-- The key of an ACL lookup: two templates and eight bytes of metadata (R184). -/
def State.aclKey (s : State) (x : Ctx) : List Byte :=
  s.memKey x ++ (s.ctxBank x).key x ((bitsOf (s.microword x) 17 16 + 1) % 4) ++ x.mdBytes 0 8

/-- Whether an ACL entry lies in the range a lookup names and matches its key. -/
def State.aclHit (s : State) (x : Ctx) (e : Nat × List Byte) : Bool :=
  decide (aclIndex x.slice x.pipe (s.memImm x % 8192) ≤ e.1 ∧
    e.1 < aclIndex x.slice x.pipe (s.memImm x % 8192) + bitsOf (s.memImm x) 26 13) && aclMatches e.2 (s.aclKey x)

/-- The first match of a lookup in its window, without an object, is the answer. -/
theorem State.aclLookup_hit {s : State} {x : Ctx} {e : Nat × List Byte} (h0 : bitsOf (s.memImm x) 26 13 ≠ 0)
    (h1 : s.inWindow x.slice x.comp (aclWindow x.pipe) 2 (s.memImm x % 8192) = true)
    (h2 : s.inWindow x.slice x.comp (aclWindow x.pipe) 2 (s.memImm x % 8192 + bitsOf (s.memImm x) 26 13 - 1) = true)
    (he : s.tbl.acl.find? (s.aclHit x) = some e) (ho : leAt e.2 80 1 = 1) :
    s.aclLookup x = (s, [1, BitVec.ofNat 8 (leAt e.2 81 1)] ++ toBE 2 (e.1 % 8192) ++ (bytesAt e.2 88 4).reverse ++
      List.replicate 8 0, true, false) := by
  obtain ⟨r, hr⟩ : ∃ r, s.tbl.acl.filter (s.aclHit x) = e :: r := by
    rw [← List.head?_filter] at he
    exact List.head?_eq_some_iff.1 he
  delta State.aclHit State.aclKey State.memKey at hr
  simp only [State.aclLookup, if_neg h0, h1, h2, Bool.and_self, Bool.true_eq_false, if_false, hr, ho]
  rfl

/-! ### Learns (R171) -/

theorem State.learnPost_queued {s : State} {x : Ctx} (hw : s.inWindow x.slice x.comp 24 2 (s.memImm x % 4096) = true)
    (hon : s.learnOn (s.memImm x % 4096) = true) (hc : s.epLine (s.memImm x % 4096) (s.memKey x) = none)
    (hq : (s.learnQ (hashShard (s.epHash1 (s.memImm x % 4096) (s.memKey x)))).length < 1024) :
    s.learnPost x = (s.setLearnQ (hashShard (s.epHash1 (s.memImm x % 4096) (s.memKey x)))
      (s.learnQ (hashShard (s.epHash1 (s.memImm x % 4096) (s.memKey x))) ++
        [⟨x.slice, x.comp, ((s.frame? x.frame).map (·.orig)).getD 0, s.memImm x % 4096, s.memKey x⟩]),
      statusAnswer 1 false) := by
  simp only [State.learnPost, hw, hon, hc, Bool.true_eq_false, if_false, Option.filter_none, if_neg (Nat.not_le.2 hq)]

theorem State.learnQ_setLearnQ (s : State) (i j : Nat) (l : List Learn) :
    (s.setLearnQ i l).learnQ j = if j = i then l else s.learnQ j := Store.read_put _ _ _ _ _

/-! ### The commands -/

theorem State.objAnswer_setCtx (s : State) (c : Nat) (y : Ctx) (i : Nat) :
    ((s.setCtx c y).objAnswer i).1 = (s.objAnswer i).1 := by
  have hb : (s.setCtx c y).objBytes i = s.objBytes i := rfl
  simp only [State.objAnswer, hb]
  split
  · rfl
  · split <;> rfl

@[simp] theorem State.memImm_use (s : State) (c k : Nat) (x : Ctx) :
    (s.setCtx c (x.use k)).memImm (x.use k) = s.memImm x := rfl
@[simp] theorem State.memKey_use (s : State) (c k : Nat) (x : Ctx) :
    (s.setCtx c (x.use k)).memKey (x.use k) = s.memKey x := rfl
@[simp] theorem State.epHash1_setCtx (s : State) (c : Nat) (y : Ctx) (p : Nat) (k : List Byte) :
    (s.setCtx c y).epHash1 p k = s.epHash1 p k := rfl
theorem State.learnQ_answered (c op slot : Nat) (x : Ctx) (r : State × List Byte × Bool × Bool) (i : Nat) :
    (State.answered c op slot x r).learnQ i = r.1.learnQ i := rfl
theorem State.bit_answered (c op slot : Nat) (x : Ctx) (r : State × List Byte × Bool × Bool) (a i : Nat) :
    (State.answered c op slot x r).bit a i = r.1.bit a i := rfl

section
variable {s : State} {c : Nat} {x : Ctx} (hx : s.ctx? c = some x)
include hx

theorem execRouteLookup_hit {b : Nat} {r : Route}
    (hm : s.mayIssue x 3 = true) (hu : x.uses 1 < 2)
    (hw : s.inWindow x.slice x.comp 28 2 (s.memImm x % 65536) = true) (hb : s.pressFor x.slice = some b)
    (h4 : (s.memImm x).testBit 16 = false)
    (hl : (s.press b).lookup 1 (s.memImm x % 65536) (beNat ((s.memKey x).take 4)) = some r) :
    ∃ t, execRouteLookup c s = .next t ∧ t.regs = s.regs ∧ t.tbl = s.tbl ∧
      (t.ctx? c).map (·.outst) = some (x.outst ++ [⟨x.nextSeq, 3, s.memSlot x,
        some ([1, BitVec.ofNat 8 r.opc, BitVec.ofNat 8 r.plen, 0, 0, 0, 0, 0] ++
          State.epAnswer.objBE (s.objAnswer r.nhop).1, true, false)⟩]) := by
  have hrun := State.routeLookup_hit (s := s.setCtx c (x.use 1)) (x := x.use 1) hw hb h4 hl
  refine ⟨_, congrArg Host.Outcome.next (State.tableNow_within hx hm (by decide) hu _), ?_⟩
  rw [hrun]
  refine ⟨State.regs_objAnswer _ _, State.tbl_objAnswer _ _, ?_⟩
  rw [State.outst_answered, State.objAnswer_setCtx]
  · rfl
  · rw [List.length_append, length_objBE]
    rfl

/-- A route lookup outside its window answers STATUS 0 with ERR and is a violation of kind TABLE (R150). -/
theorem execRouteLookup_outside (hc : x.comp < 8) (hm : s.mayIssue x 3 = true) (hu : x.uses 1 < 2)
    (hw : s.inWindow x.slice x.comp 28 2 (s.memImm x % 65536) = false) :
    ∃ t, execRouteLookup c s = .next t ∧ (t.ctx? c).map (·.outst) =
        some (x.outst ++ [⟨x.nextSeq, 3, s.memSlot x, some (List.replicate 16 0, false, true)⟩]) ∧
      t.bit (Reg.SLC_RIND_STAT x.slice) (16 + x.comp) = true := by
  have hrun := State.routeLookup_outside (s := s.setCtx c (x.use 1)) (x := x.use 1) hw
  refine ⟨_, congrArg Host.Outcome.next (State.tableNow_within hx hm (by decide) hu _), ?_⟩
  rw [hrun, State.bit_answered, State.tableAnswer, State.ctxViolate]
  refine ⟨?_, State.flag_violate _ x.slice hc 3 _ _ _⟩
  rw [State.outst_answered _ _ _ _ (statusAnswer_length _ _), statusAnswer_zero_rind]
  rfl

theorem execRouteLookup_beyond (hm : s.mayIssue x 3 = true) (hu : 2 ≤ x.uses 1) :
    ∃ t, execRouteLookup c s = .next t ∧ (t.ctx? c).map (·.outst) =
      some (x.outst ++ [⟨x.nextSeq, 3, s.memSlot x, some ([3] ++ List.replicate 15 0, false, true)⟩]) := by
  refine ⟨_, congrArg Host.Outcome.next (State.tableNow_beyond hx hm (by decide) hu _), ?_⟩
  rw [State.outst_answered _ _ _ _ (statusAnswer_length _ _), State.overLimit, statusAnswer_three]

theorem execAclLookup_hit {e : Nat × List Byte} (hm : s.mayIssue x 4 = true)
    (hkb : (s.ctxBank x).keyBusy x ((bitsOf (s.microword x) 17 16 + 1) % 4) = false) (hu : x.uses 2 < 4)
    (h0 : bitsOf (s.memImm x) 26 13 ≠ 0)
    (h1 : s.inWindow x.slice x.comp (aclWindow x.pipe) 2 (s.memImm x % 8192) = true)
    (h2 : s.inWindow x.slice x.comp (aclWindow x.pipe) 2 (s.memImm x % 8192 + bitsOf (s.memImm x) 26 13 - 1) = true)
    (he : s.tbl.acl.find? (s.aclHit x) = some e) (hv : leAt e.2 80 1 = 1) :
    ∃ t, execAclLookup c s = .next t ∧ t.regs = s.regs ∧ t.tbl = s.tbl ∧
      (t.ctx? c).map (fun y => y.outst.map (·.resp)) = some (x.outst.map (·.resp) ++
        [some ([1, BitVec.ofNat 8 (leAt e.2 81 1)] ++ toBE 2 (e.1 % 8192) ++ (bytesAt e.2 88 4).reverse ++
          List.replicate 8 0, true, false)]) := by
  have hrun := State.aclLookup_hit (s := s.setCtx c (x.use 2)) (x := x.use 2) h0 h1 h2 he hv
  have hexec : execAclLookup c s = .next (s.tableNow c 4 2 4 State.aclLookup) := by
    simp only [execAclLookup, hx, hkb, Bool.false_eq_true, if_false]
  refine ⟨_, hexec.trans (congrArg Host.Outcome.next (State.tableNow_within hx hm (by decide) hu _)), ?_⟩
  rw [hrun]
  refine ⟨rfl, rfl, ?_⟩
  have hmap (o : Option Ctx) :
      o.map (fun y => y.outst.map (·.resp)) = (o.map (·.outst)).map (fun l => l.map (·.resp)) := by
    rw [Option.map_map]
    rfl
  rw [hmap, State.outst_answered, Option.map_some, List.map_append]
  · rfl
  · simp

theorem execLearn_queued (hm : s.mayIssue x 9 = true) (hu : x.uses 3 = 0)
    (hw : s.inWindow x.slice x.comp 24 2 (s.memImm x % 4096) = true) (hon : s.learnOn (s.memImm x % 4096) = true)
    (hline : s.epLine (s.memImm x % 4096) (s.memKey x) = none)
    (hq : (s.learnQ (hashShard (s.epHash1 (s.memImm x % 4096) (s.memKey x)))).length < 1024) :
    ∃ t, execLearn c s = .next t ∧ t.regs = s.regs ∧
      t.learnQ (hashShard (s.epHash1 (s.memImm x % 4096) (s.memKey x))) =
        s.learnQ (hashShard (s.epHash1 (s.memImm x % 4096) (s.memKey x))) ++
          [⟨x.slice, x.comp, ((s.frame? x.frame).map (·.orig)).getD 0, s.memImm x % 4096, s.memKey x⟩] := by
  have hrun := State.learnPost_queued (s := s.setCtx c (x.use 3)) (x := x.use 3) hw hon hline hq
  refine ⟨_, congrArg Host.Outcome.next (State.tableNow_within hx hm (by decide) (by omega) _), ?_⟩
  rw [hrun, State.memImm_use, State.memKey_use, State.epHash1_setCtx]
  refine ⟨rfl, ?_⟩
  rw [State.learnQ_answered, State.learnQ_setLearnQ, if_pos rfl]
  rfl

end

/-- The lowest matching entry of the range is the first hit. -/
theorem State.find?_aclHit {s : State} {x : Ctx} {e : Nat × List Byte} (hr : Store.rising 0 s.tbl.acl = true)
    (he : e ∈ s.tbl.acl) (hlo : aclIndex x.slice x.pipe (s.memImm x % 8192) ≤ e.1)
    (hhi : e.1 < aclIndex x.slice x.pipe (s.memImm x % 8192) + bitsOf (s.memImm x) 26 13)
    (hk : aclMatches e.2 (s.aclKey x) = true)
    (hl : ∀ q ∈ s.tbl.acl, aclIndex x.slice x.pipe (s.memImm x % 8192) ≤ q.1 → q.1 < e.1 →
      aclMatches q.2 (s.aclKey x) = false) : s.tbl.acl.find? (s.aclHit x) = some e := by
  refine Store.find?_lowest hr he ?_ fun q hq hlt => ?_
  · simp only [State.aclHit, hk, Bool.and_true, decide_eq_true_eq]
    exact ⟨hlo, hhi⟩
  · by_cases hql : aclIndex x.slice x.pipe (s.memImm x % 8192) ≤ q.1
    · simp only [State.aclHit, hl q hq hql hlt, Bool.and_false]
    · simp only [State.aclHit, hql, false_and, decide_false, Bool.false_and]

end Sys2Proof.Machine

open Sys2Proof.Machine

/-- Settles O34: each operation at its branch, its answer 16 bytes long. -/
theorem routeAclAndLearn : Obligations.RouteAclAndLearn := by
  intro c b r e x s hx _ hc
  refine ⟨fun hm hu hw hb h4 hr haf hquar hvrf haddr hl => ?_, execRouteLookup_outside hx hc,
    execRouteLookup_beyond hx, fun hm hkb hu h0 h1 h2 hrise he hv hlo hhi hk hl => ?_, execLearn_queued hx⟩
  · exact execRouteLookup_hit hx hm hu hw hb h4 (Press.lookup_longest hr ⟨haf, hvrf, hquar, haddr⟩
      fun q hq ⟨h1, h2, h3, h5⟩ => hl q hq h1 (h2.trans hvrf.symm) h3 h5)
  · exact execAclLookup_hit hx hm hkb hu h0 h1 h2 (State.find?_aclHit hrise he hlo hhi hk hl) hv

end

section
/-!
The tables' counters and status bits, the press banks' background work, miss-read rates and the flap record (R13, R163,
R173, R180, R183).
-/

open Sys2Proof

namespace Sys2Proof.Machine

/-! ### The tables' counters and their saturation bit (R13) -/

/-- The tables' interrupt goes to the PF with a vector its table holds, so its delivery writes no register (R382). -/
theorem State.reg_deliver_tbl (s : State) (new : Word) (a : Nat) : (s.deliver 1090 new).reg a = s.reg a := by
  have hv : fieldOf (s.reg (Reg.HOST_IRT 1090)) 8 0 < 512 := fieldOf_lt _ 8 0
  have ht : s.sourceTarget 1090 = some (.inl 0) := rfl
  simp only [State.deliver, ht, Nat.reduceLeDiff, Nat.reduceLT, false_and, if_false, State.sendVector, if_true,
    if_pos hv]
  split
  · exact State.reg_sendMsix _ _ _ _
  · rfl

theorem causesAt_tblStat : causesAt Reg.TBL_STAT = [(1090, 0xF0000000)] := by decide

theorem State.reg_raiseBit_tblStat (s : State) (i : Nat) {a : Nat} (h : a ≠ Reg.TBL_STAT) :
    (s.raiseBit Reg.TBL_STAT i).reg a = s.reg a := by
  simp only [State.raiseBit, State.raise, causesAt_tblStat, List.foldl_cons, List.foldl_nil]
  split
  · exact State.reg_setReg_ne s h _
  · rw [State.reg_deliver_tbl, State.reg_setReg_ne s h]

/-- A counter of the tables: its saturation bit is theirs (R13). -/
def tblCounter (a : Nat) : Prop := satBitOf a = some (Reg.TBL_STAT, 28) ∧ a ≠ Reg.TBL_STAT

theorem tblCounter_gcnt {k : Nat} (hk : k < 8) : tblCounter (Reg.TBL_GCNT k) := by
  refine ⟨?_, ?_⟩
  · interval_cases k <;> rfl
  · simp only [Reg.TBL_GCNT, Reg.TBL_STAT]
    omega

theorem satBitOf_slice_tbl {a n o : Nat} (h : regPlace a = (.slice, n, o)) (ho : 0x1B0000 ≤ o ∧ o < 0x1C0000) :
    satBitOf a = some (Reg.TBL_STAT, 28) := by
  unfold satBitOf
  rw [h]
  exact if_pos ho

theorem tblCounter_slcTblCnt {n c k : Nat} (hn : n < 32) (hc : c < 8) (hk : k < 16) :
    tblCounter (Reg.SLC_TBL_CNT n c k) := by
  refine ⟨satBitOf_slice_tbl (regPlace_slice ?_) ?_, ?_⟩ <;> simp only [Reg.SLC_TBL_CNT, Reg.TBL_STAT] <;> omega

section
variable {a : Nat} (h : tblCounter a) (s : State)
include h

theorem State.toNat_reg_count_tbl : ((s.count a).reg a).toNat = min (2 ^ 32 - 1) ((s.reg a).toNat + 1) := by
  obtain ⟨hs, hne⟩ := h
  refine s.toNat_reg_count_of_ne (fun r i hr => ?_) ?_
  · rw [hr, Option.some.injEq, Prod.mk.injEq] at hs
    rwa [hs.1]
  · rintro rfl
    exact absurd hs (by decide)

theorem State.reg_count_tbl_ne {b : Nat} (hb : b ≠ a) (hs : b ≠ Reg.TBL_STAT) : (s.count a).reg b = s.reg b := by
  simp only [State.count, State.countFld, h.1]
  split
  · rw [State.reg_raiseBit_tblStat _ _ hs, State.reg_setFld_ne _ hb]
  · exact State.reg_setFld_ne _ hb _ _ _

end

theorem State.tbl_of_apart {s t : State} (h : t.apart = s.apart) : t.tbl = s.tbl :=
  (congrArg State.tbl h : t.apart.tbl = s.apart.tbl)

/-! ### The copies of a route (R183) -/

theorem Route.is_iff (r : Route) (af plen vrf addr : Nat) :
    r.is af plen vrf addr = true ↔ r.af = af ∧ r.plen = plen ∧ r.vrf = vrf ∧ r.addr = addr := by
  simp only [Route.is, Bool.and_eq_true, beq_iff_eq, and_assoc]

theorem Route.is_self (r : Route) : r.is r.af r.plen r.vrf r.addr = true := (r.is_iff _ _ _ _).2 ⟨rfl, rfl, rfl, rfl⟩

/-- Two routes of one family, length, VRF and address are so both ways. -/
theorem Route.is_symm {q r : Route} (h : r.is q.af q.plen q.vrf q.addr = true) :
    q.is r.af r.plen r.vrf r.addr = true := by
  obtain ⟨h1, h2, h3, h4⟩ := (r.is_iff _ _ _ _).1 h
  exact (q.is_iff _ _ _ _).2 ⟨h1.symm, h2.symm, h3.symm, h4.symm⟩

theorem seqHigher_ne {a b : Nat} (h : seqHigher a b = true) : a ≠ b := by
  rintro rfl
  simp only [seqHigher, decide_eq_true_eq] at h
  omega

theorem State.press_setPress (s : State) (b j : Nat) (x : Press) :
    (s.setPress b x).press j = if j = b then x else s.press j := Store.read_put _ _ _ _ _

theorem State.press_of_tbl {s t : State} (h : t.tbl = s.tbl) (b : Nat) : t.press b = s.press b := by
  rw [State.press, State.press, h]

/-- Copies that agree are left as they are. -/
theorem State.compareRoute_agree {s : State} {r : Route} (h : ∀ z ∈ s.routeCopies r, z = r) : s.compareRoute r = s := by
  rw [State.compareRoute]
  split
  next => rfl
  next a rest hc =>
    rw [hc, List.forall_mem_cons] at h
    refine if_pos (List.all_eq_true.2 fun z hz => ?_)
    rw [h.1, h.2 z hz, beq_self_eq_true]

/-- One copy of a route put into every press bank that is on. -/
def State.replaceRoute (s : State) (r : Route) : State :=
  s.pressOn.foldl (fun u b => u.setPress b ((u.press b).replace r)) s

/-- Two copies that differ in SEQ: the higher one goes into the banks, and the repair counts. -/
theorem State.compareRoute_higher {s : State} {q r : Route} (hc : s.routeCopies q = [q, r])
    (h : seqHigher r.seq q.seq = true) : s.compareRoute q = (s.replaceRoute r).tblGcount 2 := by
  have hne : r.seq ≠ q.seq := seqHigher_ne h
  have hrq : (r == q) = false := beq_eq_false_iff_ne.2 fun e => hne (congrArg Route.seq e)
  have hsq : (q.seq == r.seq) = false := beq_eq_false_iff_ne.2 hne.symm
  simp only [State.compareRoute, hc, List.all_cons, hrq, List.foldl_cons, List.foldl_nil, h, if_true, hsq,
    Bool.false_and, Bool.false_eq_true, if_false]
  rfl

theorem State.press_replaceRoute {s : State} (h : s.pressOn = [0, 1]) (r : Route) :
    (s.replaceRoute r).press 0 = (s.press 0).replace r ∧ (s.replaceRoute r).press 1 = (s.press 1).replace r := by
  simp only [State.replaceRoute, h, List.foldl_cons, List.foldl_nil]
  simp [State.press_setPress]

theorem State.reg_replaceRoute (s : State) (r : Route) (a : Nat) : (s.replaceRoute r).reg a = s.reg a := by
  rw [State.replaceRoute, State.reg_foldl]
  exact fun _ _ => rfl

theorem Press.routes_replace {p : Press} {q r : Route} (h : p.routes = [q])
    (hi : q.is r.af r.plen r.vrf r.addr = true) : (p.replace r).routes = [r] := by
  simp only [Press.replace, h, List.map_cons, List.map_nil, hi, if_true]

/-- The copies of a route in the first two banks. -/
theorem State.routeCopies_two {s : State} {x q r : Route} (h : s.pressOn = [0, 1]) (h0 : (s.press 0).routes = [q])
    (h1 : (s.press 1).routes = [r]) (hq : q.is x.af x.plen x.vrf x.addr = true)
    (hr : r.is x.af x.plen x.vrf x.addr = true) : s.routeCopies x = [q, r] := by
  simp only [State.routeCopies, h, List.filterMap_cons, List.filterMap_nil, h0, h1, List.find?_cons, hq, hr]

theorem State.pressOn_of_reg {s t : State}
    (h : ∀ b < 8, t.reg (Reg.PWR_DOM (132 + b)) = s.reg (Reg.PWR_DOM (132 + b))) :
    t.pressOn = s.pressOn :=
  List.filter_congr fun b hb => State.domOn_of_reg (h b (List.mem_range.1 hb))

/-- The two banks hold one copy each of a route, and the second's SEQ is higher: both end with the second's. -/
theorem execPressScrub_higher {s : State} {q r : Route} (h : s.pressOn = [0, 1]) (h0 : (s.press 0).routes = [q])
    (h1 : (s.press 1).routes = [r]) (hi : r.is q.af q.plen q.vrf q.addr = true) (hs : seqHigher r.seq q.seq = true) :
    execPressScrub s = .next ((s.replaceRoute r).tblGcount 2) ∧
      (((s.replaceRoute r).tblGcount 2).press 0).routes = [r] ∧
      (((s.replaceRoute r).tblGcount 2).press 1).routes = [r] := by
  have hb (b : Nat) : ((s.replaceRoute r).tblGcount 2).press b = (s.replaceRoute r).press b :=
    State.press_of_tbl (State.tbl_of_apart (State.apart_count _ _)) b
  obtain ⟨hp0, hp1⟩ := State.press_replaceRoute h r
  have hr0 : (((s.replaceRoute r).tblGcount 2).press 0).routes = [r] := by
    rw [hb, hp0, Press.routes_replace h0 (Route.is_symm hi)]
  have hr1 : (((s.replaceRoute r).tblGcount 2).press 1).routes = [r] := by
    rw [hb, hp1, Press.routes_replace h1 r.is_self]
  have hon : ((s.replaceRoute r).tblGcount 2).pressOn = [0, 1] := by
    refine (State.pressOn_of_reg fun b hb => ?_).trans h
    rw [State.tblGcount, State.reg_count_tbl_ne (tblCounter_gcnt (by decide)), State.reg_replaceRoute]
    all_goals
      simp only [Reg.PWR_DOM, Reg.TBL_GCNT, Reg.TBL_STAT]
      omega
  have hagree : ((s.replaceRoute r).tblGcount 2).compareRoute r = (s.replaceRoute r).tblGcount 2 := by
    refine State.compareRoute_agree fun z hz => ?_
    rw [State.routeCopies_two hon hr0 hr1 r.is_self r.is_self] at hz
    simpa using hz
  refine ⟨congrArg Host.Outcome.next ?_, hr0, hr1⟩
  simp only [h, List.flatMap_cons, List.flatMap_nil, h0, h1, List.append_nil, List.cons_append, List.nil_append,
    List.foldl_cons, List.foldl_nil]
  rw [State.compareRoute_higher (State.routeCopies_two h h0 h1 q.is_self hi) hs, hagree]

theorem execPressScrub_agree {s : State}
    (h : ∀ x ∈ s.pressOn, ∀ y ∈ (s.press x).routes, ∀ z ∈ s.routeCopies y, z = y) : execPressScrub s = .next s := by
  refine congrArg Host.Outcome.next (foldl_fixed_of_mem fun y hy => ?_)
  obtain ⟨x, hx, hy⟩ := List.mem_flatMap.1 hy
  exact State.compareRoute_agree (h x hx y hy)

/-! ### Miss-read rates (R163) -/

/-- One term of a sum replaced. -/
theorem sum_range_replace (f : Nat → Nat) (n v m : Nat) :
    ((List.range m).map fun k => if k = n then v else f k).sum =
      ((List.range m).map fun k => if k = n then 0 else f k).sum + if n < m then v else 0 := by
  induction m with
  | zero => rfl
  | succ m ih =>
    simp only [List.range_succ, List.map_append, List.sum_append, List.map_cons, List.map_nil, List.sum_singleton, ih]
    split_ifs <;> omega

/-- A write is judged by the sum it would make (R163). -/
theorem execMissRateWrite_trusted {m : Master} {n : Fin 32} {d : Word} {s : State} (hm : m.trusted = true)
    (hd : s.domOn (domainOf (Reg.TBL_MISS_RATE n)) = true) : execMissRateWrite m n d s = .next (
    if 12000 < ((List.range 32).map fun k => if k = n.val then fieldOf d 15 0 else s.fld (Reg.TBL_MISS_RATE k) 15 0).sum
    then s.raiseBit Reg.TBL_STAT 29
    else { s with tbl := { s.tbl with buckets := Store.set s.tbl.buckets n (s.missBucket n) } }.setFld
      (Reg.TBL_MISS_RATE n) 15 0 (fieldOf d 15 0)) := by
  rw [sum_range_replace, if_pos n.isLt]
  exact congrArg Host.Outcome.next (State.gated_trusted hm hd _ _)

/-! ### The flap record (R173) -/

theorem execFlapRecRead_trusted {m : Master} (hm : m.trusted = true) (s : State) : execFlapRecRead m s =
    .next (((s.answer [s.reg Reg.TBL_FLAP_REC0]).setReg Reg.TBL_FLAP_REC0 0).setReg Reg.TBL_FLAP_REC1 0) := by
  cases m with
  | vf n => cases hm
  | pf => rfl
  | me k => rfl

end Sys2Proof.Machine

open Sys2Proof.Machine

/-- Settles O46: each command at its branch; a count that saturates raises a bit of TBL_STAT alone. -/
theorem pressBanksAndRates : Obligations.PressBanksAndRates := by
  intro m n d b q r s hm
  refine ⟨execPressScrub_agree, fun h h0 h1 hi hs => ?_, fun hd => ?_, fun hd => ⟨fun hle => ?_, fun hlt => ?_⟩, ?_⟩
  · obtain ⟨hx, hr0, hr1⟩ := execPressScrub_higher h h0 h1 hi hs
    have hg : tblCounter (Reg.TBL_GCNT 2) := tblCounter_gcnt (by decide)
    refine ⟨_, hx, hr0, hr1, ?_, fun a ha hs => ?_⟩
    · rw [State.tblGcount, State.toNat_reg_count_tbl hg, State.reg_replaceRoute]
    · rw [State.tblGcount, State.reg_count_tbl_ne hg _ ha hs, State.reg_replaceRoute]
  · refine ⟨_, if_pos hd, ?_, ?_, rfl, fun j hj => ?_⟩
    · rw [State.press_setPress, if_pos rfl]
    · rw [State.press_setPress, if_pos rfl]
    · rw [State.press_setPress, if_neg hj]
  · refine ⟨_, (execMissRateWrite_trusted hm hd).trans (congrArg Host.Outcome.next (if_neg (Nat.not_lt.2 hle))), ?_,
      fun a ha => State.reg_setFld_ne _ ha _ _ _⟩
    rw [State.fld_setFld _ _ _ _ _ (by decide)]
    exact Nat.mod_eq_of_lt (fieldOf_lt d 15 0)
  · refine ⟨_, (execMissRateWrite_trusted hm hd).trans (congrArg Host.Outcome.next (if_pos hlt)),
      State.bit_raiseBit _ _ _ (by decide) (by decide), State.reg_raiseBit_tblStat _ _ ?_⟩
    simp only [Reg.TBL_MISS_RATE, Reg.TBL_STAT]
    omega
  · refine ⟨_, execFlapRecRead_trusted hm s, rfl, ?_, State.reg_setReg_self _ _ _, fun a h0 h1 => ?_⟩
    · rw [State.reg_setReg_ne _ (by decide), State.reg_setReg_self]
    · rw [State.reg_setReg_ne _ h1, State.reg_setReg_ne _ h0, State.reg_answer]

end

section
/-!
The update ports of the tables: GO and the end of a command (R152, R169, R185, R187, R445).
-/

open Sys2Proof

namespace Sys2Proof.Machine

/-! ### A port's registers -/

theorem domainOf_tuCmd (p : Fin 33) : domainOf (tuCmd p) = aonDomain := by
  revert p
  decide

theorem tuIdx_ne_tuCmd (p : Nat) : tuIdx p ≠ tuCmd p := by
  simp only [tuIdx, tuCmd, Reg.SLC_TU_IDX, Reg.SLC_TU_CMD, Reg.TBL_TU_IDX, Reg.TBL_TU_CMD]
  split <;> omega

theorem tuData_ne_tuCmd (p w : Nat) : tuData p w ≠ tuCmd p := by
  simp only [tuData, tuCmd, Reg.SLC_TU_DATA, Reg.SLC_TU_CMD, Reg.TBL_TU_DATA, Reg.TBL_TU_CMD]
  split <;> omega

theorem rindStat_ne_tuCmd {p : Nat} (h : p < 32) : Reg.SLC_RIND_STAT p ≠ tuCmd p := by
  simp only [tuCmd, if_pos h, Reg.SLC_RIND_STAT, Reg.SLC_TU_CMD]
  omega

/-! ### GO (R445) -/

/-- The word a GO with an operation writes. -/
def goWord (cmd : Word) (op : Nat) : Word := withField (cmd ||| 0x80000000) 13 12 op

theorem goWord_msb (cmd : Word) (op : Nat) : (goWord cmd op).msb = true := by
  have h : (goWord cmd op).getLsbD 31 = (cmd ||| 0x80000000).msb := by
    rw [goWord, getLsbD_withField _ _ _ _ _ (by decide), if_neg (by decide), BitVec.msb_eq_getLsbD_last]
  rw [BitVec.msb_eq_getLsbD_last]
  exact h.trans (msb_withRun cmd)

theorem goWord_op (cmd : Word) {op : Nat} (h : op < 4) : fieldOf (goWord cmd op) 13 12 = op := by
  rw [goWord, fieldOf_withField _ _ _ _ (by decide)]
  exact Nat.mod_eq_of_lt h

/-- The fields above OP are those of the word written. -/
theorem goWord_field (cmd : Word) (op : Nat) {hi lo : Nat} (hlo : 13 < lo) (hhi : hi < 31) :
    fieldOf (goWord cmd op) hi lo = fieldOf cmd hi lo := by
  rw [goWord, fieldOf_withField_ne _ _ _ _ _ _ (by decide) (.inr hlo)]
  exact fieldOf_congr fun i _ hi => getLsbD_withRun cmd (by omega)

/-- CMDREJ as a write leaves it: a 1 clears it (R10). -/
def State.clearRejected (s : State) (a : Nat) (data : Word) : State := if data.getLsbD 8 then s.setBit a 8 false else s

theorem State.reg_clearRejected_ne (s : State) {a b : Nat} (h : b ≠ a) (data : Word) :
    (s.clearRejected a data).reg b = s.reg b := by
  rw [State.clearRejected]
  split
  · exact State.reg_setBit_ne s h _ _
  · rfl

theorem State.busy_clearRejected (s : State) (a : Nat) (data : Word) :
    (s.clearRejected a data).bit a 30 = s.bit a 30 := by
  rw [State.clearRejected]
  split
  · exact State.bit_setBit_ne _ _ _ _ _ (by decide) (by decide)
  · rfl

theorem State.tbl_clearRejected (s : State) (a : Nat) (data : Word) : (s.clearRejected a data).tbl = s.tbl := by
  rw [State.clearRejected]
  split <;> rfl

/-- The bytes in a port's data words. -/
def State.tuImage (s : State) (port : Nat) : List Byte :=
  (List.range 24).flatMap fun w => toLE 4 (s.reg (tuData port w)).toNat

theorem State.leAt_tuImage (s : State) (port : Nat) {w : Nat} (h : w < 24) :
    leAt (s.tuImage port) (4 * w) 4 = (s.reg (tuData port w)).toNat := by
  have e : s.tuImage port = ((List.range 24).map fun w => s.reg (tuData port w)).flatMap fun w => toLE 4 w.toNat := by
    rw [List.flatMap_map]
    rfl
  rw [e, leAt_words, getD_map_range _ h]

/-- The port's command register while a command runs. -/
def State.tuBusy (s : State) (port : Nat) (data : Word) : State :=
  (s.setFld (tuCmd port) 25 12 (fieldOf data 25 12)).setBit (tuCmd port) 30 true

/-- A command started at a port: its fields and BUSY in the register, and its words kept (R445). -/
def State.tuStart (s : State) (port : Nat) (data : Word) : State :=
  { s.tuBusy port data with tbl := { (s.tuBusy port data).tbl with
      cmds := Store.set (s.tuBusy port data).tbl.cmds port
        ⟨data, (s.tuBusy port data).fld (tuIdx port) 24 0, (s.tuBusy port data).tuImage port⟩ } }

theorem State.reg_tuBusy_ne (s : State) {port a : Nat} (h : a ≠ tuCmd port) (data : Word) :
    (s.tuBusy port data).reg a = s.reg a := by
  rw [State.tuBusy, State.reg_setBit_ne _ h, State.reg_setFld_ne _ h]

theorem State.reg_tuStart (s : State) (port : Nat) (data : Word) (a : Nat) :
    (s.tuStart port data).reg a = (s.tuBusy port data).reg a := rfl

theorem State.busy_tuStart (s : State) (port : Nat) (data : Word) :
    (s.tuStart port data).bit (tuCmd port) 30 = true := by
  rw [State.bit_of_reg (State.reg_tuStart _ _ _ _), State.tuBusy, State.bit_setBit _ _ _ _ (by decide)]

section
variable {m : Master} {p : Fin 33} {cmd : Word} {s : State} (hm : m.trusted = true)
include hm

theorem State.tuMay_trusted (s : State) (port comp : Nat) : s.tuMay m port comp = true := by
  cases m with
  | vf n => cases hm
  | pf => rfl
  | me k => rfl

theorem State.tuWrite_go (op : Nat) : s.tuWrite m p (goWord cmd op) =
    if s.bit (tuCmd p) 30 then (s.clearRejected (tuCmd p) (goWord cmd op)).setBit (tuCmd p) 8 true
    else (s.clearRejected (tuCmd p) (goWord cmd op)).tuStart p (goWord cmd op) := by
  rw [← State.busy_clearRejected s (tuCmd p) (goWord cmd op)]
  simp only [State.tuWrite, goWord_msb, State.tuMay_trusted hm, if_true, Bool.true_eq_false, if_false]
  rfl

theorem State.tuGo_trusted (op : Nat) : s.tuGo m p op cmd = s.tuWrite m p (goWord cmd op) := by
  have hd : s.domOn (domainOf (tuCmd p)) = true := by rw [domainOf_tuCmd]; rfl
  exact State.gated_trusted hm hd _ _

end

/-- The four commands of a port, with the operation of each. -/
theorem exec_tuGo {m : Master} {p : Fin 33} {cmd : Word} {o : Nat} {ins : Instr}
    (h : (o, ins) ∈ [(0, .tuReadIndex m p cmd), (1, .tuWrite m p cmd), (2, .tuDelete m p cmd), (3, .tuReadKey m p cmd)])
    (s : State) : exec ins s = .next (s.tuGo m p o cmd) ∧ o < 4 := by
  simp only [List.mem_cons, Prod.mk.injEq, List.not_mem_nil, or_false] at h
  obtain ⟨rfl, rfl⟩ | ⟨rfl, rfl⟩ | ⟨rfl, rfl⟩ | ⟨rfl, rfl⟩ := h
  all_goals exact ⟨rfl, by decide⟩

/-- What a started command keeps of the words written with its GO. -/
theorem State.cmd_tuStart (s : State) (p : Nat) (cmd : Word) {o : Nat} (h : o < 4) :
    (Store.at? (s.tuStart p (goWord cmd o)).tbl.cmds p).map (fun x => (x.op, x.tgt, x.comp, x.idx, x.word 23)) =
      some (o, fieldOf cmd 16 14, fieldOf cmd 25 23, s.fld (tuIdx p) 24 0, (s.reg (tuData p 23)).toNat) := by
  have hi : (s.tuBusy p (goWord cmd o)).fld (tuIdx p) 24 0 = s.fld (tuIdx p) 24 0 :=
    State.fld_of_reg (s.reg_tuBusy_ne (tuIdx_ne_tuCmd p) _) _ _
  have hw := ((s.tuBusy p (goWord cmd o)).leAt_tuImage p (w := 23) (by decide)).trans
    (congrArg BitVec.toNat (s.reg_tuBusy_ne (tuData_ne_tuCmd p 23) _))
  simp only [State.tuStart, Store.at?_set, if_true, Option.map_some, UpCmd.op, UpCmd.tgt, UpCmd.comp, UpCmd.word,
    goWord_op cmd h, goWord_field cmd o (show 13 < 14 by decide) (show 16 < 31 by decide),
    goWord_field cmd o (show 13 < 23 by decide) (show 25 < 31 by decide), hi, hw]

/-! ### The end of a command (R169) -/

/-- The port without its command. -/
def State.tuTaken (s : State) (port : Nat) : State :=
  { s with tbl := { s.tbl with cmds := Store.del s.tbl.cmds port } }

/-- A command's end with its result: a WINDOW is a violation (R187), BUSY falls and RESULT is set. -/
def State.tuEnd (port : Nat) (u : UpCmd) (r : Nat × State) : State :=
  ((if r.1 = tuWindow then r.2.violate port u.comp 3 u.pipe 31 (u.idx % 65536) else r.2).setFld
    (tuCmd port) 29 26 r.1).setBit (tuCmd port) 30 false

theorem execUpdateCmdDone_run {p : Fin 33} {u : UpCmd} {s : State} (h : Store.at? s.tbl.cmds p = some u)
    (hh : s.tuHeld u = false) :
    execUpdateCmdDone p s = .next (State.tuEnd p u ((s.tuTaken p).tuRun p u)) := by
  simp only [execUpdateCmdDone, h, hh, Bool.false_eq_true, if_false, State.tuEnd, State.tuTaken]
  rfl

theorem State.tbl_countWindow (s : State) (n c : Nat) : (s.countWindow n c).tbl = s.tbl := by
  rw [State.countWindow]
  split
  · rw [State.tbl_setBit, State.tbl_setSlice]
  · rw [State.tbl_setSlice]

theorem State.tbl_violate (s : State) (n c kind pipe stage detail : Nat) :
    (s.violate n c kind pipe stage detail).tbl = s.tbl := by
  rw [State.violate_eq, State.tbl_countWindow, State.tbl_of_apart (s.apart_noteViolation n c _)]

section
variable (port : Nat) (u : UpCmd) (r : Nat × State)

theorem State.tbl_tuEnd : (State.tuEnd port u r).tbl = r.2.tbl := by
  rw [State.tuEnd, State.tbl_setBit, State.tbl_setFld]
  split
  · exact State.tbl_violate _ _ _ _ _ _ _
  · rfl

theorem State.busy_tuEnd : (State.tuEnd port u r).bit (tuCmd port) 30 = false := State.bit_setBit _ _ _ _ (by decide)

theorem State.result_tuEnd {r : Nat} (h : r < 16) (s : State) :
    (State.tuEnd port u (r, s)).fld (tuCmd port) 29 26 = r := by
  rw [State.tuEnd, State.setBit, State.fld_setFld_disjoint _ _ _ _ _ _ _ (by decide) (.inl (by decide)),
    State.fld_setFld _ _ _ _ _ (by decide)]
  exact Nat.mod_eq_of_lt h

end

theorem State.flag_tuEnd_window {port : Nat} (hp : port < 32) (u : UpCmd) (s : State) :
    (State.tuEnd port u (tuWindow, s)).bit (Reg.SLC_RIND_STAT port) (16 + u.comp) = true := by
  have hne := rindStat_ne_tuCmd hp
  have hreg : (State.tuEnd port u (tuWindow, s)).reg (Reg.SLC_RIND_STAT port) =
      (s.violate port u.comp 3 u.pipe 31 (u.idx % 65536)).reg (Reg.SLC_RIND_STAT port) := by
    rw [State.tuEnd, State.reg_setBit_ne _ hne, State.reg_setFld_ne _ hne, if_pos rfl]
  rw [State.bit_of_reg hreg]
  exact State.flag_violate _ _ (fieldOf_lt u.cmd 25 23) _ _ _ _

/-! ### Results (R445) -/

/-- An image stored at one index of an ACL memory. -/
def State.putAcl (s : State) (n pipe i : Nat) (e : List Byte) : State :=
  { s with tbl := { s.tbl with acl := Store.set s.tbl.acl (aclIndex n pipe i) e } }

section
variable {s : State} {p : Nat} {u : UpCmd}

theorem State.tuRun_acl (hp : p < 32) (ht : u.tgt = 2) : s.tuRun p u = s.tuAcl p u := by
  rw [State.tuRun, ht]
  exact if_neg (by omega)

theorem State.tuAcl_window (ho : u.op = 1) (hi : u.idx < 8192) (hw : s.tuIn p u (aclWindow u.pipe) 2 u.idx = false) :
    s.tuAcl p u = (tuWindow, s) := by
  have h1 : ¬(u.op = 3 ∨ 8192 ≤ u.idx) := by omega
  simp only [State.tuAcl, if_neg h1, hw, if_true]

theorem State.tuAcl_write (ho : u.op = 1) (hi : u.idx < 8192) (hw : s.tuIn p u (aclWindow u.pipe) 2 u.idx = true)
    (hobj : s.tuObjOk p u (aclNhop (bytesAt u.data 0 92)) = true) :
    s.tuAcl p u = (tuOk, s.putAcl p u.pipe u.idx (bytesAt u.data 0 92)) := by
  have h1 : ¬(u.op = 3 ∨ 8192 ≤ u.idx) := by omega
  have h0 : u.op ≠ 0 := by omega
  have h2 : u.op ≠ 2 := by omega
  simp only [State.tuAcl, if_neg h1, hw, Bool.true_eq_false, if_false, if_neg h0, if_neg h2, hobj]
  rfl

/-- The object a write of the global port stores. -/
def UpCmd.obj (u : UpCmd) : Obj :=
  { bytes := bytesAt u.data 0 8, owner := u.word 2 % 256, shared := bitOf (u.word 2) 8 }

/-- An object stored at an index. -/
def State.putObj (s : State) (i : Nat) (o : Obj) : State :=
  { s with tbl := { s.tbl with objects := Store.set s.tbl.objects i o } }

theorem State.tuRun_object_write (hp : p = 32) (ht : u.tgt = 4) (ho : u.op = 1) (hi : 1057 < u.idx)
    (hi' : u.idx < 262144)
    (hs : s.objState u.idx ≠ 2) : s.tuRun p u =
      (tuOk, s.putObj u.idx u.obj) := by
  have h1 : ¬(u.op = 3 ∨ 262144 ≤ u.idx ∨ (u.idx ≤ 1057 ∧ u.op ≠ 0)) := by omega
  have h0 : u.op ≠ 0 := by omega
  have hrun : s.tuRun p u = s.tuObject p u := by
    rw [State.tuRun, ht]
    exact if_neg (by omega)
  simp only [hrun, State.tuObject, if_neg h1, if_neg h0, if_pos ho, if_neg hs]
  rfl

theorem State.tuRun_badReq (h : 4 < u.tgt ∨ (u.tgt = 2 ∧ u.op = 3) ∨ (u.tgt = 4 ∧ p < 32)) :
    s.tuRun p u = (tuBadReq, s) := by
  rcases h with h | ⟨ht, ho⟩ | ⟨ht, hp⟩
  · obtain ⟨k, hk⟩ : ∃ k, u.tgt = k + 5 := ⟨u.tgt - 5, by omega⟩
    rw [State.tuRun, hk]
    rfl
  · have hacl : s.tuAcl p u = (tuBadReq, s) := if_pos (.inl ho)
    rw [State.tuRun, ht]
    exact (if_congr Iff.rfl rfl hacl).trans (ite_self _)
  · rw [State.tuRun, ht]
    exact if_pos hp

end

theorem State.objBytes_putObj (s : State) {i : Nat} (hi : 1057 < i) {o : Obj} (ho : o.retired = none) :
    (s.putObj i o).objBytes i = some o.bytes := by
  simp only [State.objBytes, if_neg (Nat.not_le.2 hi), State.putObj, Store.at?_set, if_true, ho, Option.isNone_none]

theorem State.objBytes_of_tbl {s t : State} (h : t.tbl = s.tbl) (i : Nat) : t.objBytes i = s.objBytes i := by
  rw [State.objBytes, State.objBytes, h]

theorem State.aclAt_putAcl (s : State) (n pipe i : Nat) (e : List Byte) : (s.putAcl n pipe i e).aclAt n pipe i = e := by
  simp only [State.aclAt, State.putAcl, Store.at?_set, if_true, Option.getD_some]

theorem State.aclAt_of_tbl {s t : State} (h : t.tbl = s.tbl) (n pipe i : Nat) :
    t.aclAt n pipe i = s.aclAt n pipe i := by
  rw [State.aclAt, State.aclAt, h]

end Sys2Proof.Machine

open Sys2Proof.Machine

/-- Settles O44: GO by the port's BUSY, and each command by the first result that applies to it. -/
theorem updatePortCommands : Obligations.UpdatePortCommands := by
  intro m p cmd o ins u s hm
  refine ⟨fun hrow => ?_, fun hu hh => ⟨_, execUpdateCmdDone_run hu hh, State.busy_tuEnd _ _ _, fun hp ht ho hi => ?_,
    fun hp ht ho hlo hhi hst => ?_, fun h => ?_⟩⟩
  · obtain ⟨hexec, ho⟩ := exec_tuGo hrow s
    rw [State.tuGo_trusted hm, State.tuWrite_go hm] at hexec
    have hclear {a : Nat} (ha : a ≠ tuCmd p) := s.reg_clearRejected_ne ha (goWord cmd o)
    refine ⟨fun hb => ?_, fun hb => ?_⟩
    · rw [hb, if_neg Bool.false_ne_true] at hexec
      refine ⟨_, hexec, State.busy_tuStart _ _ _, (State.cmd_tuStart _ _ _ ho).trans ?_, fun a ha => ?_⟩
      · rw [State.fld_of_reg (hclear (tuIdx_ne_tuCmd p)), hclear (tuData_ne_tuCmd p 23)]
      · rw [State.reg_tuStart, State.reg_tuBusy_ne _ ha, hclear ha]
    · rw [hb, if_pos rfl] at hexec
      refine ⟨_, hexec, State.bit_setBit _ _ _ _ (by decide), State.tbl_clearRejected _ _ _, fun a ha => ?_⟩
      rw [State.reg_setBit_ne _ ha, hclear ha]
  · rw [State.tuRun_acl hp ht]
    refine ⟨fun hw hobj => ?_, fun hw => ?_⟩
    · rw [State.tuAcl_write (s := s.tuTaken p) ho hi hw hobj]
      refine ⟨State.result_tuEnd _ _ (by decide) _, ?_, fun i hne => ?_, ?_⟩
      · rw [State.aclAt_of_tbl (State.tbl_tuEnd _ _ _), State.aclAt_putAcl]
      · rw [State.tbl_tuEnd]
        exact (Store.at?_set _ _ _ _).trans (if_neg hne)
      · rw [State.tbl_tuEnd]
        rfl
    · rw [State.tuAcl_window (s := s.tuTaken p) ho hi hw, State.tbl_tuEnd]
      exact ⟨State.result_tuEnd _ _ (by decide) _, rfl, State.flag_tuEnd_window hp u _⟩
  · rw [State.tuRun_object_write (s := s.tuTaken p) hp ht ho hlo hhi hst]
    refine ⟨State.result_tuEnd _ _ (by decide) _, ?_⟩
    rw [State.objBytes_of_tbl (State.tbl_tuEnd _ _ _), State.objBytes_putObj _ hlo rfl]
    rfl
  · rw [State.tuRun_badReq h, State.tbl_tuEnd]
    exact ⟨State.result_tuEnd _ _ (by decide) _, rfl, rfl, rfl, rfl⟩

end

section
/-!
Learns applied, aging, churn's compare-and-deletes and retired objects (R153, R166, R171 to R178).
-/

open Sys2Proof

namespace Sys2Proof.Machine

/-! ### Learns at the head of a shard's queue (R171, R172) -/

theorem execLearnApply_head {shard : Fin 16} {l : Learn} {r : List Learn} {s : State}
    (hh : s.bit Reg.TBL_HOLD shard = false) (hq : s.learnQ shard = l :: r) :
    execLearnApply shard s = .next ((s.setLearnQ shard r).learnApply l) := by
  simp only [execLearnApply, hh, hq, Bool.false_eq_true, if_false]

theorem State.learnApply_off {s : State} {l : Learn} (h : s.learnOn l.part = false) : s.learnApply l = s := if_pos h

/-- A learn for a STATIC entry is a failure that changes no entry (R172). -/
theorem State.learnApply_static {s : State} {l : Learn} {k : Nat} (h : s.learnOn l.part = true)
    (hf : s.epFind l.part l.key = some k) (hs : epStatic (s.epAt k) = true) :
    s.learnApply l = s.tblCount l.slice l.comp 7 := by
  simp only [State.learnApply, h, hf, hs, Bool.true_or, Bool.true_eq_false, if_false, if_true]

theorem State.epFind_setLearnQ (s : State) (i : Nat) (q : List Learn) (p : Nat) (k : List Byte) :
    (s.setLearnQ i q).epFind p k = s.epFind p k := rfl

theorem State.learnQ_of_tbl {s t : State} (h : t.tbl = s.tbl) (i : Nat) : t.learnQ i = s.learnQ i := by
  rw [State.learnQ, State.learnQ, h]

theorem State.tbl_tblCount (s : State) (n c k : Nat) : (s.tblCount n c k).tbl = s.tbl :=
  State.tbl_of_apart (State.apart_count _ _)

theorem State.tbl_tblGcount (s : State) (k : Nat) : (s.tblGcount k).tbl = s.tbl :=
  State.tbl_of_apart (State.apart_count _ _)

/-! ### The age tick (R175) -/

/-- The state in which a tick has been taken. -/
def State.ageTaken (s : State) : State := { s with tbl := { s.tbl with ageLast := s.time.mono } }

theorem execAgeTick_due {s : State} (h : s.tbl.ageLast + ms (max 10 (s.fld Reg.TBL_AGE 31 16)) ≤ s.time.mono) :
    execAgeTick s = .next (s.ageTaken.setFld Reg.TBL_AGE 15 0 ((s.ageNow + 1) % 65536)) := if_pos h

/-! ### Churn visits (R176, R177) -/

/-- Churn's rate is at least one visit in 1,000 ns. -/
theorem visitInterval_le (v : Nat) : (999 + oneIfZero v) / oneIfZero v ≤ 1000 := by
  have h : 1 ≤ oneIfZero v := by
    rw [oneIfZero]
    split <;> omega
  exact Nat.div_le_of_le_mul (by omega)

/-- The state in which a visit has been made. -/
def State.visited (s : State) : State :=
  { s with tbl := { s.tbl with visit := s.tbl.visit + 1, visitLast := s.time.mono } }

/-- The state in which a compare-and-delete of a slot has been asked for. -/
def State.askDelete (s : State) (slot : Nat) : State :=
  { s with tbl := { s.tbl with churned := s.tbl.churned ++ [(slot, (s.epAt slot).take 18, s.authTs (s.epAt slot))] } }

/-- A visit's end: an aged entry is asked to be deleted where churn deletes. -/
def State.visitEnd (s : State) (slot : Nat) : Out :=
  if s.epAt slot ≠ [] ∧ s.agedOut (s.epAt slot) (s.authTs (s.epAt slot)) ∧ s.churnDeletes then .next (s.askDelete slot)
  else .next s

theorem execChurnVisit_due {s : State} (hon : s.tblOn = true) (hc : s.bit Reg.TBL_CTL 29 = true)
    (hv : s.tbl.visitLast + 1000 ≤ s.time.mono) :
    execChurnVisit s = (s.visited.compareCopies (visitSlot s.tbl.visit)).visitEnd (visitSlot s.tbl.visit) := by
  have hi := visitInterval_le (s.fld Reg.TBL_CTL 23 16)
  refine if_pos ?_
  rw [hon, hc, decide_eq_true (by omega)]
  rfl

theorem execChurnVisit_aged {s : State} (hon : s.tblOn = true) (hd : s.tblDup = false)
    (hc : s.bit Reg.TBL_CTL 29 = true) (hp : s.churnDeletes = true) (hv : s.tbl.visitLast + 1000 ≤ s.time.mono)
    (ha : s.agedOut (s.epAt (visitSlot s.tbl.visit)) (s.authTs (s.epAt (visitSlot s.tbl.visit))) = true)
    (he : s.epAt (visitSlot s.tbl.visit) ≠ []) :
    execChurnVisit s = .next (s.visited.askDelete (visitSlot s.tbl.visit)) := by
  have hcmp : s.visited.compareCopies (visitSlot s.tbl.visit) = s.visited := if_pos (.inl hd)
  rw [execChurnVisit_due hon hc hv, hcmp]
  exact if_pos ⟨he, ha, hp⟩

/-! ### Compare-and-deletes (R177, R178) -/

/-- The state without the compare-and-deletes asked for a slot. -/
def State.takeChurned (s : State) (slot : Nat) : State :=
  { s with tbl := { s.tbl with churned := s.tbl.churned.filter fun x => x.1 != slot } }

section
variable {s : State} {k ts : Nat} {pk : List Byte} (hc : s.tbl.churned = [(k, pk, ts)])
include hc

theorem State.churned_takeChurned : (s.takeChurned k).tbl.churned = [] := by
  simp only [State.takeChurned, hc, List.filter_cons, bne_self_eq_false, Bool.false_eq_true, if_false, List.filter_nil]

theorem execChurnCompareDelete_asked (hh : s.bit Reg.TBL_HOLD (k / 2097152) = false) : execChurnCompareDelete k s =
    if (s.epAt k).take 18 = pk ∧ s.authTs (s.epAt k) = ts ∧ s.readOutstanding k = false then
      .next (((s.takeChurned k).epDelete k true).tblGcount 0)
    else .next ((s.takeChurned k).tblGcount 1) := by
  have hf : s.tbl.churned.find? (fun x => x.1 == k) = some (k, pk, ts) := by
    rw [hc]
    exact List.find?_cons_of_pos (beq_self_eq_true k)
  simp only [execChurnCompareDelete, hf, hh, Bool.false_eq_true, if_false]
  rfl

end

/-! ### A delete of an entry (R157, R165) -/

/-- A projection of the state that no step of a fold changes. -/
theorem State.foldl_keeps {β γ : Type} (g : State → γ) {f : State → β → State} (h : ∀ t x, g (f t x) = g t)
    (l : List β) (s : State) : g (l.foldl f s) = g s := by
  induction l generalizing s with
  | nil => rfl
  | cons x r ih => rw [List.foldl_cons, ih, h]

/-- The state apart from the stalls and the frames parked in them. -/
def State.offStalls (s : State) : State := { s with ctxs := [], tbl := { s.tbl with stalls := [] } }

theorem State.offStalls_unpark (s : State) (p : Parked) (r : List Byte × Bool × Bool) :
    (s.unpark p r).offStalls = s.offStalls := by
  rw [State.unpark]
  split <;> rfl

theorem State.offStalls_resumeAll (s : State) (i : Nat) (r : List Byte × Bool × Bool) :
    (s.resumeAll i r).offStalls = s.offStalls := by
  rw [State.resumeAll]
  split
  · rfl
  · exact State.foldl_keeps State.offStalls (fun t p => t.offStalls_unpark p r) _ _

/-- A delete resumes stalled frames and changes nothing else (R165). -/
theorem State.offStalls_resolveStalls_none (s : State) (p : Nat) (k : List Byte) :
    (s.resolveStalls p k none).offStalls = s.offStalls := by
  refine State.foldl_keeps State.offStalls (fun t st => ?_) _ _
  split
  · exact State.offStalls_resumeAll _ _ _
  · rfl

/-- The slot's tag, copies and line gone, before the stalled frames hear of it (R157). -/
def State.emptied (s : State) (slot : Nat) : State :=
  (((s.setTag slot 0).setCopy false slot []).setCopy true slot []).lineDrop (epPart (s.epAt slot)) (epKey (s.epAt slot))

theorem State.offStalls_epClear (s : State) (slot : Nat) : (s.epClear slot).offStalls = (s.emptied slot).offStalls :=
  State.offStalls_resolveStalls_none _ _ _

theorem State.regs_emptied (s : State) (slot : Nat) : (s.emptied slot).regs = s.regs := by
  simp only [State.emptied, State.lineDrop, State.setLines, State.setCopy, State.setTag]

theorem State.regs_epClear (s : State) (slot : Nat) : (s.epClear slot).regs = s.regs :=
  (congrArg State.regs (s.offStalls_epClear slot) :
    (s.epClear slot).offStalls.regs = (s.emptied slot).offStalls.regs).trans (s.regs_emptied slot)

theorem State.churned_epClear (s : State) (slot : Nat) : (s.epClear slot).tbl.churned = s.tbl.churned :=
  (congrArg (fun t => t.tbl.churned) (s.offStalls_epClear slot) :
    (s.epClear slot).offStalls.tbl.churned = (s.emptied slot).offStalls.tbl.churned)

theorem State.epAt_epClear (s : State) (slot j : Nat) (hj : j < 2 ^ 25) :
    (s.epClear slot).epAt j = if j = slot then [] else s.epAt j := by
  have h : (s.epClear slot).tbl.ep = (s.emptied slot).tbl.ep :=
    (congrArg (fun t => t.tbl.ep) (s.offStalls_epClear slot) :
      (s.epClear slot).offStalls.tbl.ep = (s.emptied slot).offStalls.tbl.ep)
  have hne : j ≠ slot + 2 ^ 25 := by omega
  have he : (s.emptied slot).tbl.ep = Store.put [] (Store.put [] s.tbl.ep slot []) (slot + 2 ^ 25) [] := rfl
  rw [State.epAt, State.epCopy, h, he, Store.read_put]
  simp only [Bool.false_eq_true, if_false, Nat.add_zero, if_neg hne, Store.read_put]
  rfl

/-- A register that a delete leaves alone: not the sequence number and none of the pair's (R182, R352). -/
def offPair (a : Nat) : Prop :=
  a ≠ Reg.TBL_SEQ ∧ a ≠ Reg.PAIR_STAT ∧ a ≠ Reg.PAIR_TERM ∧ a ≠ Reg.PAIR_CNT 9 ∧ a ≠ Reg.HOST_STAT

theorem State.tbl_resyncAsDonor (s : State) : s.resyncAsDonor.tbl = s.tbl := by
  rw [State.resyncAsDonor]
  split <;> rfl

theorem State.reg_withPair (s : State) (x : Pair) (a : Nat) : ({ s with pair := x } : State).reg a = s.reg a := rfl

theorem State.reg_resyncAsDonor {a : Nat} (h : offPair a) (s : State) : s.resyncAsDonor.reg a = s.reg a := by
  obtain ⟨-, hs, ht, -⟩ := h
  simp only [State.resyncAsDonor]
  split
  · rfl
  · rw [State.reg_withPair, State.reg_setBit_ne _ hs, State.reg_setFld_ne _ hs, State.reg_setReg_ne _ ht]

theorem State.tbl_pairNote (s : State) (r : List Byte) : (s.pairNote r).tbl = s.tbl := by
  rw [State.pairNote]
  split
  · split
    · rw [State.tbl_resyncAsDonor, State.tbl_of_apart (State.apart_raiseBit _ _ _),
        State.tbl_of_apart (State.apart_count _ _)]
    · rfl
  · rfl

theorem State.reg_pairNote {a : Nat} (h : offPair a) (s : State) (r : List Byte) : (s.pairNote r).reg a = s.reg a := by
  have hsat : satBitOf (Reg.PAIR_CNT 9) = none := by decide
  obtain ⟨-, hs, -, hc, hh⟩ := id h
  rw [State.pairNote]
  split
  · split
    · rw [State.reg_resyncAsDonor h, State.reg_raiseBit_ne _ _ _ _ hs hh, State.reg_count_ne _ hsat hc]
    · rfl
  · rfl

theorem State.tbl_epDelete (s : State) (slot : Nat) (aged : Bool) :
    (s.epDelete slot aged).tbl = (s.nextTblSeq.2.epClear slot).tbl := State.tbl_pairNote _ _

theorem State.reg_epDelete {a : Nat} (h : offPair a) (s : State) (slot : Nat) (aged : Bool) :
    (s.epDelete slot aged).reg a = s.reg a := by
  have hr : (s.nextTblSeq.2.epClear slot).reg a = s.nextTblSeq.2.reg a := by
    rw [State.reg, State.regs_epClear, State.reg]
  exact (State.reg_pairNote h _ _).trans (hr.trans (State.reg_setReg_ne _ h.1 _))

/-- A delete empties its slot alone. -/
theorem State.epAt_epDelete (s : State) (slot : Nat) (aged : Bool) {j : Nat} (hj : j < 2 ^ 25) :
    (s.epDelete slot aged).epAt j = if j = slot then [] else s.epAt j := by
  rw [State.epAt, State.epCopy, State.tbl_epDelete]
  exact State.epAt_epClear _ _ _ hj

theorem State.churned_epDelete (s : State) (slot : Nat) (aged : Bool) :
    (s.epDelete slot aged).tbl.churned = s.tbl.churned := by
  rw [State.tbl_epDelete, State.churned_epClear]
  rfl

theorem offPair_gcnt {k : Nat} (h : k < 8) : offPair (Reg.TBL_GCNT k) := by
  simp only [offPair, Reg.TBL_GCNT, Reg.TBL_SEQ, Reg.PAIR_STAT, Reg.PAIR_TERM, Reg.PAIR_CNT, Reg.HOST_STAT]
  omega

/-! ### Retired objects (R153) -/

/-- The state with nothing at an object's index. -/
def State.freeObj (s : State) (i : Nat) : State := { s with tbl := { s.tbl with objects := Store.del s.tbl.objects i } }

theorem execObjectFree_gone {s : State} {i : Fin 262144} {o : Obj} {x : Nat} (ho : Store.at? s.tbl.objects i = some o)
    (hr : o.retired = some x) (hx : ∀ y ∈ s.ctxs, x ≤ y.1) : execObjectFree i s = .next (s.freeObj i) := by
  obtain ⟨b, ow, sh, re⟩ := o
  cases hr
  have hall : (s.ctxs.all fun e => decide (x ≤ e.1)) = true := List.all_eq_true.2 fun y hy => decide_eq_true (hx y hy)
  simp only [execObjectFree, ho, hall, if_true]
  rfl

theorem State.objState_freeObj (s : State) (i : Nat) : (s.freeObj i).objState i = if i ≤ 1057 then 1 else 0 := by
  simp only [State.objState, State.freeObj, Store.at?_del, if_true]

end Sys2Proof.Machine

open Sys2Proof.Machine

/-- Settles O45: each command at its branch; a delete reads through the stalls it resumes and the pair it tells. -/
theorem learningAgingAndChurn : Obligations.LearningAgingAndChurn := by
  intro i k ts x l r pk s
  refine ⟨fun shard hh hq => ⟨fun hon => ?_, fun hon hf hs hsl hco => ?_⟩, fun hdue => ?_,
    fun hon hd hc hp hv hk ha he => ?_, fun hc hh hk => ⟨fun hpk hts hro => ?_, fun hts => ?_⟩, fun o ho hr hx => ?_⟩
  · exact (execLearnApply_head hh hq).trans (congrArg Host.Outcome.next (State.learnApply_off hon))
  · have hc : tblCounter (Reg.SLC_TBL_CNT l.slice l.comp 7) := tblCounter_slcTblCnt hsl hco (by decide)
    refine ⟨_, (execLearnApply_head hh hq).trans (congrArg Host.Outcome.next
      (State.learnApply_static hon ((s.epFind_setLearnQ shard r _ _).trans hf) hs)), ?_, ?_,
      State.toNat_reg_count_tbl hc _⟩
    · rw [State.learnQ_of_tbl (State.tbl_tblCount _ _ _ _), State.learnQ_setLearnQ, if_pos rfl]
    · rw [State.tbl_tblCount]
      rfl
  · refine ⟨_, execAgeTick_due hdue, ?_, rfl, ?_, fun a ha => State.reg_setFld_ne _ ha _ _ _⟩
    · rw [State.fld_setFld _ _ _ _ _ (by decide)]
      exact Nat.mod_mod _ _
    · exact State.fld_setFld_disjoint _ _ _ _ _ _ _ (by decide) (.inr (by decide))
  · subst hk
    exact ⟨_, execChurnVisit_aged hon hd hc hp hv ha he, rfl, rfl, rfl, rfl⟩
  · have hg : tblCounter (Reg.TBL_GCNT 0) := tblCounter_gcnt (by decide)
    have hat (j : Nat) (hj : j < 2 ^ 25) : (((s.takeChurned k).epDelete k true).tblGcount 0).epAt j =
        if j = k then [] else s.epAt j := by
      rw [State.epAt, State.epCopy, State.tbl_tblGcount]
      exact State.epAt_epDelete _ _ _ hj
    refine ⟨_, (execChurnCompareDelete_asked hc hh).trans (if_pos ⟨hpk, hts, hro⟩), ?_, ?_,
      fun j hj hne => ?_, ?_⟩
    · rw [hat k hk, if_pos rfl]
    · rw [State.tbl_tblGcount, State.churned_epDelete, State.churned_takeChurned hc]
    · rw [hat j hj, if_neg hne]
    · rw [State.tblGcount, State.toNat_reg_count_tbl hg, State.reg_epDelete (offPair_gcnt (by decide))]
      rfl
  · have hg : tblCounter (Reg.TBL_GCNT 1) := tblCounter_gcnt (by decide)
    refine ⟨_, (execChurnCompareDelete_asked hc hh).trans (if_neg fun h => hts h.2.1), ?_, ?_,
      State.toNat_reg_count_tbl hg _⟩
    · rw [State.tbl_tblGcount]
      rfl
    · rw [State.tbl_tblGcount, State.churned_takeChurned hc]
  · refine ⟨_, execObjectFree_gone ho hr hx, State.objState_freeObj _ _, rfl, fun j hj => ?_⟩
    exact (Store.at?_del _ _ _).trans (if_neg hj)

end

section
/-!
The vat's access registers: queue settings and depths (R198, R199), multicast entries (R206, R210) and the buffer mode
(R194, R196).
-/

open Sys2Proof

namespace Sys2Proof.Machine

theorem State.vat_of_apart {s t : State} (h : t.apart = s.apart) : t.vat = s.vat :=
  (congrArg State.vat h : t.apart.vat = s.apart.vat)

/-- A trusted master's access to a register of the always-on domain is carried out. -/
theorem State.gated_trusted_aon {m : Master} (hm : m.trusted = true) {a : Nat} (ha : domainOf a = aonDomain)
    (s : State) (w : Bool) (run : State → State) : s.gated m a w run = run s := by
  refine State.gated_trusted hm ?_ w run
  rw [ha]
  rfl

/-- A write leaves the bits its mask does not name. -/
theorem State.bit_setRW_unmasked (s : State) (a : Nat) {mask : Word} {i : Nat} (h : mask.getLsbD i = false) (d : Word) :
    (s.setRW a mask d).bit a i = s.bit a i := by
  rw [State.setRW, State.bit_setReg, if_pos rfl, State.bit_eq]
  simp only [BitVec.getLsbD_or, BitVec.getLsbD_and, BitVec.getLsbD_not, h, Bool.and_false, Bool.or_false,
    Bool.not_false, Bool.and_true]
  exact Bool.and_eq_left_iff_imp.2 fun hb => decide_eq_true (BitVec.lt_of_getLsbD hb)

theorem State.fld_one (s : State) (a i : Nat) : s.fld a i i = (s.bit a i).toNat := by
  rw [State.bit_eq]
  exact bitsOf_one _ _

/-! ### A queue's settings (R198, R199) -/

/-- VAT_QDATA0 to VAT_QDATA4. -/
def qdata (i : Nat) : Nat := Reg.VAT_QDATA0 + 4 * i

theorem qdata_injective : Function.Injective qdata := fun i j h => by
  simp only [qdata] at h
  omega

/-- The access to a queue's settings: VAT_QACC takes the command's QID. -/
def State.queueAccess (s : State) (acc : Word) : State := s.setRW Reg.VAT_QACC 0x7FFF acc

/-- Queue q takes the settings in VAT_QDATA0 to 2. -/
def State.takeSettings (s : State) (q : Nat) : State :=
  { s with vat := { s.vat with
      qcfg := [0, 1, 2].foldl (fun t i => Store.set t (4 * q + i) (s.reg (qdata i))) s.vat.qcfg } }

/-- VAT_QDATA0 to 4 show queue q's settings and depths. -/
def State.showQueue (s : State) (q : Nat) : State :=
  let t := s.setRegs qdata (s.qword q) [0, 1, 2]
  (t.setReg (qdata 3) (BitVec.ofNat 32 (min (2 ^ 23 - 1) (t.dep q)))).setReg (qdata 4)
    (BitVec.ofNat 32 (min (2 ^ 21 - 1) (t.res q)))

theorem State.reg_queueAccess_ne (s : State) {a : Nat} (h : a ≠ Reg.VAT_QACC) (acc : Word) :
    (s.queueAccess acc).reg a = s.reg a := s.reg_setRW_ne _ _ _ h

theorem State.dep_of_vat {s t : State} (h : t.vat = s.vat) (q : Nat) : t.dep q = s.dep q := by
  have hc : t.copyCells = s.copyCells :=
    funext fun c => by rw [State.copyCells, State.copyCells, State.frame?, State.frame?, h]
  rw [State.dep, State.dep, State.queue, State.queue, h, hc]

theorem State.qword_takeSettings (s : State) {q i : Nat} (hi : i < 3) :
    (s.takeSettings q).qword q i = s.reg (qdata i) := by
  simp only [State.qword, State.takeSettings, List.foldl, Store.at?_set]
  interval_cases i <;> simp

theorem State.qword_takeSettings_ne (s : State) {q j i : Nat} (hj : j ≠ q) (hi : i < 4) :
    (s.takeSettings q).qword j i = s.qword j i := by
  have hne {k : Nat} (hk : k < 4) : 4 * j + i ≠ 4 * q + k := by omega
  simp only [State.qword, State.takeSettings, List.foldl, Store.at?_set, hne (show 0 < 4 by decide),
    hne (show 1 < 4 by decide), hne (show 2 < 4 by decide), if_false]

theorem State.vat_showQueue (s : State) (q : Nat) : (s.showQueue q).vat = s.vat := by
  rw [State.showQueue, State.vat_setReg, State.vat_setReg, State.vat_of_apart (s.apart_setRegs _ _ _)]

theorem State.settings_showQueue (s : State) (q : Nat) {i : Nat} (hi : i < 3) :
    (s.showQueue q).reg (qdata i) = s.qword q i := by
  rw [State.showQueue, State.reg_setReg_ne _ (qdata_injective.ne (by omega)),
    State.reg_setReg_ne _ (qdata_injective.ne (by omega))]
  refine State.reg_setRegs_mem qdata _ _ _ qdata_injective ?_
  interval_cases i <;> decide

theorem State.depth_showQueue (s : State) (q : Nat) :
    (s.showQueue q).reg (qdata 3) = BitVec.ofNat 32 (min (2 ^ 23 - 1) (s.dep q)) := by
  rw [State.showQueue, State.reg_setReg_ne _ (qdata_injective.ne (by decide)), State.reg_setReg_self,
    State.dep_of_vat (State.vat_of_apart (s.apart_setRegs _ _ _))]

section
variable {m : Master} (hm : m.trusted = true) (acc : Word) (s : State)
include hm

theorem execQueueSettingsWrite_trusted (hq : fieldOf acc 14 0 < 21396) :
    execQueueSettingsWrite m acc s = .next ((s.queueAccess acc).takeSettings (fieldOf acc 14 0)) := by
  rw [execQueueSettingsWrite, State.gated_trusted_aon hm (by decide)]
  cases m with
  | vf n => cases hm
  | pf => exact congrArg Host.Outcome.next (if_neg (Nat.not_le.2 hq))
  | me k => exact congrArg Host.Outcome.next (if_neg (Nat.not_le.2 hq))

theorem execQueueRead_trusted (hq : fieldOf acc 14 0 < 21396) :
    execQueueRead m acc s = .next ((s.queueAccess acc).showQueue (fieldOf acc 14 0)) := by
  rw [execQueueRead, State.gated_trusted_aon hm (by decide)]
  cases m with
  | vf n => cases hm
  | pf => exact congrArg Host.Outcome.next (if_neg (Nat.not_le.2 hq))
  | me k => exact congrArg Host.Outcome.next (if_neg (Nat.not_le.2 hq))

end

/-! ### Multicast entries (R206, R210) -/

/-- The access to a multicast entry: VAT_MC_ACC takes the command's table and index. -/
def State.mcAccess (s : State) (acc : Word) : State := s.setRW Reg.VAT_MC_ACC 0x0807FFFF acc

/-- Target entry i written. -/
def State.putTarget (s : State) (i : Nat) (w : Word) : State :=
  { s with vat := { s.vat with targets := Store.put 0 s.vat.targets i w } }

/-- Group entry i written. -/
def State.putGroup (s : State) (i : Nat) (w : Word) : State :=
  { s with vat := { s.vat with groups := Store.put 0 s.vat.groups i w } }

theorem State.mcData_mcAccess (s : State) (acc : Word) : (s.mcAccess acc).reg Reg.VAT_MC_DATA = s.reg Reg.VAT_MC_DATA :=
  s.reg_setRW_ne _ _ _ (by decide)

/-- Whether the targets a group entry names lie within the table (R210). -/
def groupFits (w : Word) : Prop := fieldOf w 18 0 + fieldOf w 29 19 ≤ 524287

section
variable {m : Master} (hm : m.trusted = true) {acc : Word} (s : State)
include hm

theorem execMcEntryWrite_target (h : fieldOf acc 27 27 = 1) (hi : fieldOf acc 18 0 ≤ 524286) :
    execMcEntryWrite m acc s =
      .next ((s.mcAccess acc).putTarget (fieldOf acc 18 0) ((s.mcAccess acc).reg Reg.VAT_MC_DATA)) := by
  rw [execMcEntryWrite, State.gated_trusted_aon hm (by decide)]
  exact congrArg Host.Outcome.next ((if_pos h).trans (if_pos hi))

theorem execMcEntryWrite_group (h : fieldOf acc 27 27 = 0) (hi : fieldOf acc 18 0 ≤ 65535)
    (hw : groupFits (s.reg Reg.VAT_MC_DATA)) : execMcEntryWrite m acc s =
      .next (((s.mcAccess acc).putGroup (fieldOf acc 18 0) ((s.mcAccess acc).reg Reg.VAT_MC_DATA)).setBit
        Reg.VAT_MC_ACC 28 true) := by
  rw [← s.mcData_mcAccess acc] at hw
  rw [execMcEntryWrite, State.gated_trusted_aon hm (by decide)]
  refine congrArg Host.Outcome.next ((if_neg (by omega)).trans ((if_neg (Nat.not_lt.2 hi)).trans (if_neg ?_)))
  exact Nat.not_lt.2 hw

theorem execMcEntryWrite_refused (h : fieldOf acc 27 27 = 0) (hi : fieldOf acc 18 0 ≤ 65535)
    (hw : ¬ groupFits (s.reg Reg.VAT_MC_DATA)) :
    execMcEntryWrite m acc s = .next ((s.mcAccess acc).setBit Reg.VAT_MC_ACC 29 true) := by
  rw [← s.mcData_mcAccess acc] at hw
  rw [execMcEntryWrite, State.gated_trusted_aon hm (by decide)]
  refine congrArg Host.Outcome.next ((if_neg (by omega)).trans ((if_neg (Nat.not_lt.2 hi)).trans (if_pos ?_)))
  exact Nat.not_le.1 hw

theorem execMcEntryRead_trusted : execMcEntryRead m acc s = .next ((s.mcAccess acc).setReg Reg.VAT_MC_DATA
    (Store.read 0 (if fieldOf acc 27 27 = 1 then s.vat.targets else s.vat.groups) (fieldOf acc 18 0))) := by
  rw [execMcEntryRead, State.gated_trusted_aon hm (by decide)]
  rfl

end

/-! ### The buffer mode (R194, R196) -/

/-- A write of VAT_CTL but for MODE and EN. -/
def State.ctlAccess (s : State) (d : Word) : State := s.setRW Reg.VAT_CTL 0x3C00FFFF d

theorem State.mode_ctlAccess (s : State) (d : Word) :
    (s.ctlAccess d).fld Reg.VAT_CTL 30 30 = s.fld Reg.VAT_CTL 30 30 := by
  rw [State.fld_one, State.fld_one]
  exact congrArg Bool.toNat (s.bit_setRW_unmasked _ (by decide) _)

/-- A change of MODE while EN is 1 is refused with CFGERR. -/
theorem State.writeVatCtl_modeRefused {s : State} {d : Word} (h : s.bit Reg.VAT_CTL 31 = true)
    (hd : fieldOf d 30 30 ≠ s.fld Reg.VAT_CTL 30 30) (m : Master) :
    ∃ en, s.writeVatCtl m d = ((s.ctlAccess d).setFld Reg.VAT_CTL 31 31 en).raiseBit Reg.VAT_STAT 31 := by
  have hen : fieldOf (s.reg Reg.VAT_CTL) 31 31 = 1 := beq_iff_eq.1 h
  simp only [State.fld] at hd
  simp only [State.writeVatCtl, hen, hd, one_ne_zero, ne_eq, not_false_eq_true, true_and, false_and, true_or, if_true,
    if_false]
  exact ⟨_, rfl⟩

/-- While EN is 0 a write that leaves it at 0 sets MODE. -/
theorem State.writeVatCtl_mode {s : State} {d : Word} (h : s.bit Reg.VAT_CTL 31 = false) (hd : fieldOf d 31 31 = 0)
    (m : Master) : s.writeVatCtl m d =
      ((s.ctlAccess d).setFld Reg.VAT_CTL 30 30 (fieldOf d 30 30)).setFld Reg.VAT_CTL 31 31 0 := by
  have hen : fieldOf (s.reg Reg.VAT_CTL) 31 31 = 0 := State.fld_one_eq_zero h
  cases m <;> simp only [State.writeVatCtl, hen, hd, zero_ne_one, false_and, and_false, or_self, if_false] <;> rfl

theorem execVatModeWrite_trusted {m : Master} (hm : m.trusted = true) (d : Word) (s : State) :
    execVatModeWrite m d s = .next (s.writeVatCtl m d) := by
  rw [execVatModeWrite, State.gated_trusted_aon hm (by decide)]

end Sys2Proof.Machine

open Sys2Proof.Machine

/-- Settles O51: each command at its access register, and what its tables and fields read afterwards. -/
theorem vatRegisters : Obligations.VatRegisters := by
  intro m acc d q w s hm hq
  subst hq
  refine ⟨fun hlt => ⟨⟨_, execQueueSettingsWrite_trusted hm acc s hlt, ?_, fun j i hj hi => ?_, rfl, fun a ha => ?_⟩,
      ⟨_, execQueueRead_trusted hm acc s hlt, ?_, State.vat_showQueue _ _, ?_⟩⟩,
    fun hs hi => ⟨_, execMcEntryWrite_target hm s hs hi, ?_, rfl, fun j hj => ?_, fun a ha => ?_⟩,
    fun hs hi => ⟨fun hw => ⟨_, execMcEntryWrite_group hm s hs hi hw, State.bit_setBit _ _ _ _ (by decide), ?_, rfl⟩,
      fun hw => ⟨_, execMcEntryWrite_refused hm s hs hi (Nat.not_le.2 hw), State.bit_setBit _ _ _ _ (by decide), rfl⟩⟩,
    ⟨_, execMcEntryRead_trusted hm s, rfl, State.reg_setReg_self _ _ _⟩,
    ⟨_, rfl, State.bit_setBit _ _ _ _ (by decide), rfl, fun a ha => State.reg_setBit_ne _ ha _ _⟩,
    fun hen hd => ?_, fun hen hd => ⟨_, (execVatModeWrite_trusted hm d s).trans (congrArg Host.Outcome.next
      (State.writeVatCtl_mode hen hd m)), ?_, ?_, rfl, fun a ha => ?_⟩⟩
  · rw [State.qword_takeSettings _ w.isLt]
    exact s.reg_queueAccess_ne (by simp only [qdata, Reg.VAT_QDATA0, Reg.VAT_QACC]; omega) _
  · exact State.qword_takeSettings_ne _ hj hi
  · exact s.reg_queueAccess_ne ha _
  · exact State.settings_showQueue _ _ w.isLt
  · exact State.depth_showQueue _ _
  · exact (Store.read_put _ _ _ _ _).trans ((if_pos rfl).trans (s.mcData_mcAccess acc))
  · exact (Store.read_put _ _ _ _ _).trans (if_neg hj)
  · exact s.reg_setRW_ne _ _ _ ha
  · exact (Store.read_put _ _ _ _ _).trans ((if_pos rfl).trans (s.mcData_mcAccess acc))
  · obtain ⟨en, he⟩ := State.writeVatCtl_modeRefused hen hd m
    refine ⟨_, (execVatModeWrite_trusted hm d s).trans (congrArg Host.Outcome.next he), ?_,
      State.bit_raiseBit _ _ _ (by decide) (by decide), State.vat_of_apart (State.apart_raiseBit _ _ _)⟩
    rw [State.fld_of_reg (State.reg_raiseBit_ne _ _ _ _ (by decide) (by decide)),
      State.fld_setFld_disjoint _ _ _ _ _ _ _ (by decide) (.inl (by decide)), State.mode_ctlAccess]
  · rw [State.fld_setFld_disjoint _ _ _ _ _ _ _ (by decide) (.inl (by decide)), State.fld_setFld _ _ _ _ _ (by decide)]
    exact Nat.mod_eq_of_lt (fieldOf_lt d 30 30)
  · exact State.bit_setBit _ _ _ false (by decide)
  · rw [State.reg_setFld_ne _ ha, State.reg_setFld_ne _ ha]
    exact s.reg_setRW_ne _ _ _ ha

end

section
/-!
The skim engine: spills of congested queues' tails and their read-backs (R214 to R220).
-/

open Sys2Proof

namespace Sys2Proof.Machine

/-- A counter of a slice or a port is no status register. -/
theorem State.toNat_reg_count_high (s : State) {a : Nat} (h : 0x08000000 ≤ a) :
    ((s.count a).reg a).toNat = min (2 ^ 32 - 1) ((s.reg a).toNat + 1) := by
  refine s.toNat_reg_count_of_ne (fun r i hs => ?_) (by simp only [Reg.HOST_STAT]; omega)
  obtain rfl | rfl | rfl | rfl := satBitOf_reg hs
  all_goals simp only [Reg.TBL_STAT, Reg.VAT_STAT, Reg.FLOW_STAT, Reg.FLT_STAT]; omega

/-! ### Link words (R189, R197) -/

/-- The state with other link words. -/
def State.withLinks (s : State) (l : Store Word) : State := { s with vat := { s.vat with links := l } }

@[simp] theorem State.regs_withLinks (s : State) (l : Store Word) : (s.withLinks l).regs = s.regs := rfl
@[simp] theorem State.time_withLinks (s : State) (l : Store Word) : (s.withLinks l).time = s.time := rfl
@[simp] theorem State.ports_withLinks (s : State) (l : Store Word) : (s.withLinks l).ports = s.ports := rfl
@[simp] theorem State.frame?_withLinks (s : State) (l : Store Word) (f : Nat) :
    (s.withLinks l).frame? f = s.frame? f := rfl

/-- A chain of cells writes link words alone. -/
theorem State.linkChain_eq (len : Nat) (cs : List Nat) (s : State) : ∃ l, s.linkChain len cs = s.withLinks l := by
  induction cs generalizing s with
  | nil => exact ⟨_, rfl⟩
  | cons a r ih =>
    cases r with
    | nil => exact ⟨_, rfl⟩
    | cons b r => exact ih _

theorem State.vat_doubleFree (s : State) (cell : Nat) : (s.doubleFree cell).vat = s.vat := by
  rw [State.doubleFree, State.vat_reportFault, State.vat_of_apart (s.apart_raiseBit _ _)]

/-- A release of cells writes link words alone in the vat. -/
theorem State.vat_releaseCells (cs : List Nat) (s : State) :
    ∃ l, (s.releaseCells cs).vat = { s.vat with links := l } := by
  induction cs generalizing s with
  | nil => exact ⟨_, rfl⟩
  | cons a r ih =>
    rw [State.releaseCells]
    split
    · exact ih _
    · obtain ⟨l, hl⟩ := ih (s.doubleFree a)
      exact ⟨l, hl.trans (by rw [State.vat_doubleFree])⟩

theorem State.frame?_of_frames {s t : State} (h : t.vat.frames = s.vat.frames) (j : Nat) : t.frame? j = s.frame? j := by
  rw [State.frame?, State.frame?, h]

theorem State.cellsBefore_of_frames {s t : State} (h : t.vat.frames = s.vat.frames) (f : Nat) (l : List Copy) :
    t.cellsBefore f l = s.cellsBefore f l := by
  induction l with
  | nil => rfl
  | cons x r ih =>
    rw [State.cellsBefore, State.cellsBefore, ih, State.copyCells, State.copyCells, State.frame?_of_frames h]

/-! ### The start of a spill (R214 to R216) -/

/-- A candidate that stays resident, counted in SKIM_DENY. -/
def State.spillDenied (s : State) (k : Nat) (f : Frame) : State :=
  (s.count (Reg.SLC_VAT_CNT f.slice f.comp 10)).setFrame k { f with denied := true }

/-- A spill begun into slot a of stack k. -/
def State.spillBegun (s : State) (q frame k a : Nat) : State :=
  { s with vat := { s.vat with spills := s.vat.spills ++ [⟨q, frame, k, a⟩], nextStack := (k + 1) % 4 } }

section
variable {s : State} {q : Fin 20480} {x : Copy} {f : Frame} (hf : s.frame? x.frame = some f)
  (hon : s.bit Reg.VAT_SKIM_CTL 31 = true) (hq : s.qfld q 0 8 8 = 1) (hr : 16 * s.qfld q 1 15 0 < s.res q)
  (hx : (s.queue q).reverse.find? (s.candidate q) = some x)
include hf hon hq hr hx

theorem execSpillStart_begun {k a : Nat}
    (hc : s.skimUse f.slice f.comp + s.spillingOf f.slice f.comp + f.charged ≤ s.desc f.slice (1 + f.comp) 92 4)
    (hn : (s.vat.frames.countP fun e => e.2.spill.isSome) + s.vat.spills.length < 524288)
    (ha : s.nextSlot f.charged = some (k, a)) : execSpillStart q s = .next (s.spillBegun q x.frame k a) := by
  simp only [execSpillStart, hon, hq, Nat.not_le.2 hr, hx, hf, Nat.not_lt.2 hc, Nat.not_le.2 hn, ha, Bool.true_eq_false,
    one_ne_zero, or_self, if_false]
  rfl

theorem execSpillStart_denied
    (hc : s.desc f.slice (1 + f.comp) 92 4 < s.skimUse f.slice f.comp + s.spillingOf f.slice f.comp + f.charged) :
    execSpillStart q s = .next (s.spillDenied x.frame f) := by
  simp only [execSpillStart, hon, hq, Nat.not_le.2 hr, hx, hf, hc, Bool.true_eq_false, one_ne_zero, or_self, if_false,
    true_or, if_true]
  rfl

end

/-! ### The end of a spill (R217) -/

/-- The spills of a frame are over. -/
def State.spillOver (s : State) (k : Nat) : State :=
  { s with vat := { s.vat with spills := s.vat.spills.filter (·.frame != k) } }

/-- The frame is spilled and its cells are released. -/
def State.spilled (s : State) (k : Nat) (f : Frame) (o : SpillOp) : State :=
  (s.releaseCells (if f.pool = 0 then f.cells else f.cells.take 1)).setFrame k
    { f with cells := [], spill := some ⟨o.stack, o.slot, false⟩ }

theorem execSpillWriteAck_spilled {s : State} {k : Nat} {f : Frame} {o : SpillOp} (hf : s.frame? k = some f)
    (ho : s.vat.spills.find? (·.frame == k) = some o) (hr : f.refcnt = 1) (hs : (s.slice f.slice).safe = false)
    (hd : s.flt.deviceSafe = false) (hk : s.stackOk o.stack = true)
    (hq : (s.queue o.qid).all (·.frame != k) = false) (ha : s.ahead o.qid ≤ s.cellsBefore k (s.queue o.qid)) :
    execSpillWriteAck k s = .next ((s.spillOver k).spilled k f o) := by
  have hgo : ¬ (f.refcnt ≠ 1 ∨ ((s.spillOver k).slice f.slice).safe = true ∨ (s.spillOver k).flt.deviceSafe = true ∨
      (s.spillOver k).stackOk o.stack = false ∨ ((s.spillOver k).queue o.qid).all (·.frame != k) = true ∨
      (s.spillOver k).cellsBefore k ((s.spillOver k).queue o.qid) < (s.spillOver k).ahead o.qid) := by
    rw [State.cellsBefore_of_frames (s := s) (t := s.spillOver k) rfl]
    rintro (h | h | h | h | h | h)
    · exact h hr
    · exact Bool.false_ne_true (hs.symm.trans h)
    · exact Bool.false_ne_true (hd.symm.trans h)
    · exact Bool.false_ne_true (h.symm.trans hk)
    · exact Bool.false_ne_true (hq.symm.trans h)
    · exact Nat.not_lt.2 ha h
  simp only [execSpillWriteAck, ho, hf]
  exact if_neg hgo

theorem State.vat_spilled (s : State) (k : Nat) (f : Frame) (o : SpillOp) : ∃ l, (s.spilled k f o).vat = { s.vat with
    links := l
    frames := Store.set s.vat.frames k { f with cells := [], spill := some ⟨o.stack, o.slot, false⟩ } } := by
  obtain ⟨l, hl⟩ := s.vat_releaseCells (if f.pool = 0 then f.cells else f.cells.take 1)
  exact ⟨l, by rw [State.spilled, State.setFrame, hl]⟩

/-! ### Read-backs (R218, R220) -/

/-- The frame's read-back has its cells. -/
def State.readbackBegun (s : State) (k : Nat) (f : Frame) (p : Spill) (cs : List Nat) : State :=
  s.setFrame k { f with cells := cs, spill := some { p with reading := true }, back := some 0 }

section
variable {s : State} {k : Nat} {f : Frame} {p : Spill} (hf : s.frame? k = some f) (hp : f.spill = some p)
include hf hp

section
variable {q : Fin 20480} {b : Nat} (hd : s.dueIn q = some (k, b)) (hb : s.dueFirst b = true)
  (hk : s.stackOk p.stack = true)
include hd hb hk

theorem execReadbackStart_begun {cs : List Nat} (hc : s.backCells f = some cs) :
    ∃ l, execReadbackStart q s = .next ((s.readbackBegun k f p cs).withLinks l) := by
  simp only [execReadbackStart, hd, hf, hp, hb, hk, hc, Bool.true_eq_false, if_false]
  split
  · obtain ⟨l, hl⟩ := State.linkChain_eq f.bytes.length cs (s.readbackBegun k f p cs)
    exact ⟨l, congrArg Host.Outcome.next hl⟩
  · exact ⟨_, rfl⟩

theorem execReadbackStart_waits (hc : s.backCells f = none) :
    execReadbackStart q s = .next (s.raiseBit Reg.VAT_STAT 27) := by
  simp only [execReadbackStart, hd, hf, hp, hb, hk, hc, Bool.true_eq_false, if_false]

end

section
variable (hb : f.back.isSome = true) (c : Nat)
include hb

theorem execReadbackDone_resident (hc : f.charged ≤ c) :
    execReadbackDone k c true s = .next (s.setFrame k { f with spill := none, back := none }) := by
  obtain ⟨n, hn⟩ := Option.isSome_iff_exists.1 hb
  simp only [execReadbackDone, hf, hp, hn, Bool.not_true, Bool.false_eq_true, if_false, hc, if_true]

theorem execReadbackDone_error : ∃ src, execReadbackDone k c false s = .next
    (({ s with fresh := s.fresh + 1 }.setFrame k { f with skimErr := true, spill := none, back := none }).reportFault
      src .cont .memoryRow p.slot 0) := by
  obtain ⟨n, hn⟩ := Option.isSome_iff_exists.1 hb
  simp only [execReadbackDone, hf, hp, hn, Bool.not_false, if_true]
  exact ⟨_, rfl⟩

end

end

end Sys2Proof.Machine

open Sys2Proof.Machine

/-- Settles O41: each command at its branch; a release and a chain of cells write link words alone. -/
theorem skimMovesFrames : Obligations.SkimMovesFrames := by
  intro q c k a b x f p o s hf
  refine ⟨fun hon hq hr hx => ⟨fun hc hn ha => ?_, fun hc => ?_⟩, fun ho hr hs hd hk hq ha => ?_,
    fun hp => ⟨fun hd hb hk => ⟨fun y hy => ?_, fun hc => ?_⟩, fun hb => ⟨fun hc => ?_, ?_⟩⟩⟩
  · exact ⟨_, execSpillStart_begun hf hon hq hr hx hc hn ha, rfl, rfl, rfl, rfl⟩
  · refine ⟨_, execSpillStart_denied hf hon hq hr hx hc, ?_, (State.frame?_setFrame _ _ _ _).trans (if_pos rfl),
      s.toNat_reg_count_high (by simp only [Reg.SLC_VAT_CNT]; omega)⟩
    exact (congrArg Vat.spills (s.vat_count _) :)
  · obtain ⟨l, hl⟩ := (s.spillOver x.frame).vat_spilled x.frame f o
    have hfr (j : Nat) : ((s.spillOver x.frame).spilled x.frame f o).frame? j = if j = x.frame then
        some { f with cells := [], spill := some ⟨o.stack, o.slot, false⟩ } else s.frame? j := by
      rw [State.frame?, hl]
      exact Store.at?_set _ _ _ _
    exact ⟨_, execSpillWriteAck_spilled hf ho hr hs hd hk hq ha, (hfr _).trans (if_pos rfl),
      fun j hj => (hfr j).trans (if_neg hj), (congrArg Vat.queues hl :),
      (congrArg Vat.spills hl :)⟩
  · obtain ⟨l, hl⟩ := execReadbackStart_begun hf hp hd hb hk hy
    exact ⟨_, hl, rfl, rfl, (State.frame?_setFrame _ _ _ _).trans (if_pos rfl)⟩
  · exact ⟨_, execReadbackStart_waits hf hp hd hb hk hc, State.bit_raiseBit _ _ _ (by decide) (by decide),
      State.vat_of_apart (s.apart_raiseBit _ _)⟩
  · exact ⟨_, execReadbackDone_resident hf hp hb c hc, (State.frame?_setFrame _ _ _ _).trans (if_pos rfl), rfl, rfl⟩
  · obtain ⟨src, hsrc⟩ := execReadbackDone_error hf hp hb c
    exact ⟨_, hsrc, rfl, rfl, (State.frame?_setFrame _ _ _ _).trans (if_pos rfl), List.map_append⟩

end

section
/-!
Frames on their way into the vat: their first bytes, their growth and their end (R193, R195, R213, R234 to R239).
-/

open Sys2Proof

namespace Sys2Proof.Machine

theorem VatOnly.ports {s t : State} (h : VatOnly s t) : t.ports = s.ports :=
  (congrArg State.ports h.off : t.offVat.ports = s.offVat.ports)

theorem State.ports_count (s : State) (a : Nat) : (s.count a).ports = s.ports :=
  (congrArg State.ports (s.apart_count a) : (s.count a).apart.ports = s.apart.ports)

theorem State.port_of_ports {s t : State} (h : t.ports = s.ports) (p : Nat) : t.port p = s.port p := by
  rw [State.port, State.port, h]

/-- A drop counted for its compartment (Table 06.10). -/
def State.countCompDrop (s : State) (why : Reason) (f : Frame) : State :=
  match why.comp with
  | some k => if f.owned then s.count (Reg.SLC_VAT_CNT f.slice f.comp k) else s
  | none => s

theorem State.ports_countCompDrop (s : State) (why : Reason) (f : Frame) : (s.countCompDrop why f).ports = s.ports := by
  rw [State.countCompDrop]
  split
  · split
    · exact s.ports_count _
    · rfl
  · rfl

theorem State.ports_countPortDrop (s : State) (why : Reason) (dest : Nat) :
    (s.countPortDrop why dest).ports = s.ports := by
  rw [State.countPortDrop]
  split
  · split
    · exact s.ports_count _
    · rfl
  · rfl

theorem State.ports_vatDrop (s : State) (why : Reason) (f : Frame) (dest queue : Nat) :
    (s.vatDrop why f dest queue).ports = s.ports :=
  ((((s.countCompDrop why f).countPortDrop why dest).vatOnly_dropVat f dest queue why.row 0).ports.trans
    (State.ports_countPortDrop _ _ _)).trans (s.ports_countCompDrop why f)

/-- The state with what port p receives replaced. -/
def State.withRx (s : State) (p : Nat) (r : Option Rx) : State := s.setPort p { s.port p with rx := r }

@[simp] theorem State.regs_withRx (s : State) (p : Nat) (r : Option Rx) : (s.withRx p r).regs = s.regs := rfl
@[simp] theorem State.time_withRx (s : State) (p : Nat) (r : Option Rx) : (s.withRx p r).time = s.time := rfl
@[simp] theorem State.frame?_withRx (s : State) (p : Nat) (r : Option Rx) (f : Nat) :
    (s.withRx p r).frame? f = s.frame? f := rfl

theorem State.rx_withRx (s : State) (p : Nat) (r : Option Rx) : ((s.withRx p r).port p).rx = r := by
  rw [State.withRx, State.port_setPort, if_pos rfl]

/-! ### A frame in its first cell (R189, R193) -/

/-- The link word of a chain's last cell (Table 06.1). -/
def lastLink (len : Nat) : Word := BitVec.ofNat 32 (2 ^ 31 + 2 ^ 30 + (if len % 256 = 0 then 0 else len % 256) * 2 ^ 21)

theorem lastLink_msb (len : Nat) : (lastLink len).msb = true := by
  rw [lastLink, BitVec.msb_eq_decide, BitVec.toNat_ofNat, decide_eq_true_eq]
  split <;> omega

/-- A frame whose cells hold its bytes takes no cell. -/
theorem State.growCells_fits {s : State} {d : Nat} {f : Frame} (k : Nat) (hf : s.frame? d = some f)
    (h : f.bytes.length ≤ 256 * f.cells.length) : State.growCells (k + 1) s d = s := by
  rw [State.growCells, hf]
  exact if_pos (by rw [decide_eq_true h, Bool.or_true])

/-- The frame whose stored bytes are `l` since `now`. -/
def Frame.stored (f : Frame) (l : List Byte) (now : Nat) : Frame := { f with bytes := l, lastByte := now }

theorem State.storeBytes_native {s : State} {d : Nat} {f : Frame} {l : List Byte} (hf : s.frame? d = some f)
    (hd : f.dropped = false) (hp : f.pool = 0) :
    s.storeBytes d l = (State.growCells 64 (s.setFrame d (f.stored l s.time.mono)) d).linkFill d := by
  rw [State.storeBytes, hf]
  exact (if_neg (by rw [hd]; decide)).trans (if_pos hp)

/-- The bytes stored of a frame that is still arriving, if it has a descriptor. -/
def State.storeDesc (s : State) (desc : Option Nat) (l : List Byte) : State :=
  match desc with
  | some d => (s.storeBytes d l).abortDropped d
  | none => s

section
variable {s : State} {d a : Nat} {f : Frame} {l : List Byte} (hf : s.frame? d = some f) (hd : f.dropped = false)
  (hp : f.pool = 0) (hc : f.cells = [a]) (hl : l.length ≤ 256)
include hf hd hp hc hl

/-- Bytes that the one cell of a frame holds take no other cell: its link word alone is written. -/
theorem State.storeBytes_oneCell : ∃ links, (Store.read 0 links a).msb = true ∧
    s.storeBytes d l = (s.setFrame d (f.stored l s.time.mono)).withLinks links := by
  have hg : (s.setFrame d (f.stored l s.time.mono)).frame? d = some (f.stored l s.time.mono) :=
    (s.frame?_setFrame _ _ _).trans (if_pos rfl)
  have hcells : (f.stored l s.time.mono).cells = [a] := hc
  have hfill : (s.setFrame d (f.stored l s.time.mono)).linkFill d =
      (s.setFrame d (f.stored l s.time.mono)).linkChain l.length (f.stored l s.time.mono).cells := by
    rw [State.linkFill, hg]
    rfl
  refine ⟨Store.put 0 s.vat.links a (lastLink l.length), ?_, ?_⟩
  · rw [Store.read_put, if_pos rfl, lastLink_msb]
  · rw [State.storeBytes_native hf hd hp, State.growCells_fits 63 hg (by rw [hcells]; exact hl), hfill, hcells]
    rfl

theorem State.storeDesc_oneCell : ∃ links, (Store.read 0 links a).msb = true ∧
    s.storeDesc (some d) l = (s.setFrame d (f.stored l s.time.mono)).withLinks links := by
  obtain ⟨links, hmsb, hst⟩ := State.storeBytes_oneCell hf hd hp hc hl
  have hg : ((s.setFrame d (f.stored l s.time.mono)).withLinks links).frame? d = some (f.stored l s.time.mono) :=
    (s.frame?_setFrame _ _ _).trans (if_pos rfl)
  refine ⟨links, hmsb, ?_⟩
  rw [State.storeDesc, hst, State.abortDropped, hg]
  exact if_neg (by rw [Frame.stored, hd]; decide)

end

/-! ### Bytes that arrive within MAXLEN (R235, R238, R239) -/

theorem length_cut4_le (l : List Byte) (off : Nat) : (cut4 l off).length ≤ l.length := by
  simp only [cut4, List.length_append, List.length_take, List.length_drop]
  omega

theorem length_tagIn_le (op alt tpid tci : Nat) (l : List Byte) : (tagIn op alt tpid tci l).length ≤ l.length + 4 := by
  have h1 := length_cut4_le l 12
  have h2 := length_cut4_le (cut4 l 16) 12
  have h3 := length_cut4_le l 16
  have h4 : (insertTag l tpid tci).length ≤ l.length + 4 := by
    simp only [insertTag, List.length_append, List.length_take, List.length_drop, length_toBE]
    omega
  rw [tagIn.eq_def]
  repeat' split
  all_goals omega

/-- What a port has received after `l` more bytes. -/
def Rx.more (x : Rx) (l : List Byte) (now : Nat) : Rx := { x with raw := x.raw ++ l, last := now }

theorem State.portStored_of_regs {s t : State} (h : t.regs = s.regs) (p : Nat) (raw : List Byte) :
    t.portStored p raw = s.portStored p raw := by
  have hr (a : Nat) : t.reg a = s.reg a := by rw [State.reg, State.reg, h]
  rw [State.portStored, State.portStored, State.fld_of_reg (hr _), State.fld_of_reg (hr _), State.fld_of_reg (hr _),
    State.bit_of_reg (hr _)]

theorem State.rxMore_within {s : State} {p : Nat} {x : Rx} {l : List Byte} (hx : (s.port p).rx = some x)
    (hd : x.discard = false) (hm : x.raw.length + l.length ≤ x.maxlen)
    (hs : (s.portStored p (x.raw ++ l)).length ≤ 16384) : s.rxMore p l =
      (s.withRx p (some (x.more l s.time.mono))).storeDesc x.desc (s.portStored p (x.raw ++ l)) := by
  obtain ⟨raw, maxlen, desc, discard, tagLen, last⟩ := x
  obtain rfl : discard = false := hd
  have hlen : (raw ++ l).length ≤ maxlen := by
    rw [List.length_append]
    exact hm
  have hraw : (raw ++ l).take (maxlen + 1) = raw ++ l := List.take_of_length_le (Nat.le_succ_of_le hlen)
  have htake : (s.portStored p (raw ++ l)).take 16384 = s.portStored p (raw ++ l) := List.take_of_length_le hs
  simp only [State.rxMore, hx, hraw, Nat.not_lt.2 hlen, Bool.false_and, Bool.false_eq_true, if_false]
  refine Eq.trans (if_neg ?_) ?_
  · exact Nat.not_lt.2 hs
  · cases desc with
    | none => rfl
    | some d =>
      rw [← htake]
      rfl

/-- A frame without a descriptor takes more bytes at its port alone. -/
theorem State.rxMore_staged {s : State} {p : Nat} {x : Rx} {l : List Byte} (hx : (s.port p).rx = some x)
    (hd : x.discard = false) (hn : x.desc = none) (hm : x.raw.length + l.length ≤ x.maxlen)
    (hs : (s.portStored p (x.raw ++ l)).length ≤ 16384) :
    s.rxMore p l = s.withRx p (some (x.more l s.time.mono)) := by
  rw [State.rxMore_within hx hd hm hs, hn, State.storeDesc]

/-! ### The first bytes of a frame (R193, Table 07.5) -/

/-- The frame that port p receives, in cell a. -/
def State.firstFrame (s : State) (p a : Nat) : Frame := { s.portFrame p with cells := [a], charged := 1 }

/-- The state in which that frame has its descriptor d. -/
def State.frameTaken (s : State) (p d a : Nat) (links : Store Word) : State :=
  (s.bumpSeq.setFrame d (s.firstFrame p a)).withLinks links

/-- What port p has received of a frame in descriptor d before its first byte. -/
def State.firstRx (s : State) (p d : Nat) : Rx := { maxlen := s.maxlen p, last := s.time.mono, desc := some d }

section
variable (s : State) (p d a : Nat) (taken : Store Word)

theorem State.frame?_frameTaken : (s.frameTaken p d a taken).frame? d = some (s.firstFrame p a) := by
  rw [State.frameTaken, State.frame?_withLinks, State.frame?_setFrame, if_pos rfl]

theorem State.regs_frameTaken : (s.frameTaken p d a taken).regs = s.regs := by
  rw [State.frameTaken, State.regs_withLinks, State.regs_setFrame]
  rfl

theorem State.time_frameTaken : (s.frameTaken p d a taken).time = s.time := by
  rw [State.frameTaken, State.time_withLinks, State.time_setFrame]
  rfl

end

/-- The state in which port p receives that frame. -/
def State.opened (s : State) (p d a : Nat) (taken links : Store Word) : State :=
  (((s.frameTaken p d a taken).setFrame d ((s.firstFrame p a).stored [] s.time.mono)).withLinks links).withRx p
    (some (s.firstRx p d))

section
variable (s : State) (p d a : Nat) (taken links : Store Word)

theorem State.frame?_opened :
    (s.opened p d a taken links).frame? d = some ((s.firstFrame p a).stored [] s.time.mono) := by
  rw [State.opened, State.frame?_withRx, State.frame?_withLinks, State.frame?_setFrame, if_pos rfl]

theorem State.rx_opened : ((s.opened p d a taken links).port p).rx = some (s.firstRx p d) := State.rx_withRx _ _ _

theorem State.regs_opened : (s.opened p d a taken links).regs = s.regs := by
  rw [State.opened, State.regs_withRx, State.regs_withLinks, State.regs_setFrame, State.regs_frameTaken]

theorem State.time_opened : (s.opened p d a taken links).time = s.time := by
  rw [State.opened, State.time_withRx, State.time_withLinks, State.time_setFrame, State.time_frameTaken]

end

theorem State.newFrame_portFrame {s : State} {p d a : Nat}
    (hc : s.cellCheck (s.ownerOf (p / 32) (p % 32)).isSome (p / 32) ((s.ownerOf (p / 32) (p % 32)).getD 0) true = none)
    (hd : s.freeDesc = some d) (ha : s.freeCell = some a) (l : List Byte) :
    ∃ taken, s.newFrame (s.portFrame p) l = ((s.frameTaken p d a taken).storeBytes d l, some d) := by
  simp only [State.newFrame, State.portFrame, hc, hd, ha]
  exact ⟨_, rfl⟩

section
variable {s : State} {p : Nat} {l : List Byte} (hrx : (s.port p).rx = none) (ha : s.assigned p = true)
  (hd : s.domOn (4 * (p / 32) + 2) = true)
include hrx ha hd

theorem State.rxStart_up (hst : s.portState p = 2) (hp : s.pail = false) {u : State} {d : Nat}
    (hn : s.newFrame (s.portFrame p) [] = (u, some d)) :
    s.rxStart p l = (u.withRx p (some (s.firstRx p d))).rxMore p l := by
  simp only [State.rxStart, hrx, ha, hd, hst, hp, hn, Option.isSome_none, Bool.not_true, Bool.or_self,
    Bool.false_eq_true, if_false]
  rfl

theorem State.rxStart_safe (hst : s.portState p = 3) : s.rxStart p l = s.portCount p 7 := by
  simp only [State.rxStart, hrx, ha, hd, hst, Option.isSome_none, Bool.not_true, Bool.or_self, Bool.false_eq_true,
    if_false]

theorem State.rxStart_drain (hst : s.portState p = 4) : s.rxStart p l = s.count (Reg.SLC_DRAIN_DROP (p / 32)) := by
  simp only [State.rxStart, hrx, ha, hd, hst, Option.isSome_none, Bool.not_true, Bool.or_self, Bool.false_eq_true,
    if_false]

/-- A frame's first bytes, up to 60, lie in its first cell. -/
theorem State.rxStart_firstCell {d a : Nat} (hst : s.portState p = 2) (hp : s.pail = false) (hl : l.length ≤ 60)
    (hc : s.cellCheck (s.ownerOf (p / 32) (p % 32)).isSome (p / 32) ((s.ownerOf (p / 32) (p % 32)).getD 0) true = none)
    (hfd : s.freeDesc = some d) (hfc : s.freeCell = some a) : (s.rxStart p l).allocated a = true ∧
    (s.rxStart p l).frame? d = some ((s.firstFrame p a).stored (s.portStored p l) s.time.mono) ∧
    ((s.rxStart p l).port p).rx = some ((s.firstRx p d).more l s.time.mono) ∧ (s.rxStart p l).regs = s.regs := by
  have hlen : (s.portStored p l).length ≤ 64 := (length_tagIn_le _ _ _ _ _).trans (by omega)
  obtain ⟨taken, hnew⟩ := State.newFrame_portFrame hc hfd hfc []
  obtain ⟨links, -, htaken⟩ := State.storeBytes_oneCell (s.frame?_frameTaken p d a taken) rfl rfl rfl
    (l := []) (Nat.zero_le _)
  rw [State.time_frameTaken] at htaken
  have hstart : s.rxStart p l = (s.opened p d a taken links).rxMore p l :=
    State.rxStart_up hrx ha hd hst hp (hnew.trans (by rw [htaken]))
  have hstored : (s.opened p d a taken links).portStored p ((s.firstRx p d).raw ++ l) = s.portStored p l :=
    State.portStored_of_regs (s.regs_opened p d a taken links) p l
  have hfits : (s.firstRx p d).raw.length + l.length ≤ (s.firstRx p d).maxlen :=
    (Nat.zero_add _).le.trans (hl.trans (le_trans (by decide) (le_max_left 64 _)))
  have hmore := State.rxMore_within (s.rx_opened p d a taken links) rfl hfits (by rw [hstored]; omega)
  rw [hstored, State.time_opened] at hmore
  obtain ⟨links', hmsb, hdesc⟩ := State.storeDesc_oneCell
    (s := (s.opened p d a taken links).withRx p (some ((s.firstRx p d).more l s.time.mono)))
    ((State.frame?_withRx _ _ _ _).trans (s.frame?_opened p d a taken links)) rfl rfl rfl (hlen.trans (by decide))
  rw [State.time_withRx, State.time_opened] at hdesc
  rw [hstart, hmore.trans hdesc]
  refine ⟨hmsb, ?_, ?_, ?_⟩
  · rw [State.frame?_withLinks, State.frame?_setFrame, if_pos rfl]
    rfl
  · rw [State.port, State.ports_withLinks, State.ports_setFrame, ← State.port, State.rx_withRx]
  · rw [State.regs_withLinks, State.regs_setFrame, State.regs_withRx, State.regs_opened]

end

/-! ### Frames that are counted away (R235, R236) -/

theorem State.rxErr_none {s : State} {x : Rx} (h : x.desc = none) : s.rxErr x = s := by
  rw [State.rxErr, h]

theorem execRxOversize_reached {p : Fin 1024} {x : Rx} {s : State} (hx : (s.port p).rx = some x)
    (hd : x.discard = false) (ht : x.tagLen = false) (hn : x.desc = none) (hm : x.maxlen ≤ x.raw.length) :
    execRxOversize p s =
      .next ((s.portCount p 1).setPort p { s.port p with rx := some { x with discard := true } }) := by
  obtain ⟨raw, maxlen, desc, discard, tagLen, last⟩ := x
  obtain rfl : discard = false := hd
  obtain rfl : tagLen = false := ht
  have hm' : decide (raw.length < maxlen) = false := decide_eq_false (Nat.not_lt.2 hm)
  simp only [execRxOversize, hx, hm', Bool.false_and, Bool.or_self, Bool.false_eq_true, if_false, State.rxOversize,
    State.rxErr_none hn]

theorem State.rxEnd_counted {s : State} {p k : Nat} {x : Rx} {bad : Bool} (hx : (s.port p).rx = some x)
    (hd : x.discard = false) (hn : x.desc = none) (hm : x.raw.length ≤ x.maxlen)
    (hs : (s.portStored p x.raw).length ≤ 16384) (hr : rxReason (s.fld (Reg.PORT_TAG p) 15 0) x bad = some k) :
    s.rxEnd p [] bad = ((s.withRx p (some (x.more [] s.time.mono))).withRx p none).portCount p k := by
  have hmore : s.rxMore p [] = s.withRx p (some (x.more [] s.time.mono)) :=
    State.rxMore_staged hx hd hn hm (by rwa [List.append_nil])
  have hr' {t : State} (ht : t.regs = s.regs) :
      rxReason (t.fld (Reg.PORT_TAG p) 15 0) (x.more [] s.time.mono) bad = some k := by
    rw [State.fld_of_reg (t := s) (by rw [State.reg, State.reg, ht]), ← hr]
    simp only [rxReason, Rx.more, List.append_nil]
  have hd' : (x.more [] s.time.mono).discard = false := hd
  have hn' : (x.more [] s.time.mono).desc = none := hn
  simp only [State.rxEnd, hmore, State.rx_withRx, hd', Bool.false_and, Bool.false_eq_true, if_false]
  rw [hr']
  · exact congrArg (State.portCount · p k) (State.rxErr_none hn')
  · rfl

/-! ### Frames given up (R213) -/

/-- A stored frame, if it is there, has closed. -/
def State.Closed (s : State) (f : Nat) : Prop := ∀ z ∈ s.frame? f, z.isOpen = false

theorem State.closed_of_frame {s t : State} {f : Nat} (h : s.Closed f) (ht : t.frame? f = s.frame? f) : t.Closed f := by
  rw [State.Closed, ht]
  exact h

theorem State.closed_of_none {s : State} {f : Nat} (h : s.frame? f = none) : s.Closed f := by
  rw [State.Closed, h]
  intro z hz
  cases hz

theorem State.closed_setFrame (s : State) (f : Nat) {x : Frame} (h : x.isOpen = false) : (s.setFrame f x).Closed f := by
  rw [State.Closed, State.frame?_setFrame, if_pos rfl]
  rintro _ ⟨⟩
  exact h

theorem State.closed_releaseFrame (s : State) (f : Nat) : (s.releaseFrame f).Closed f :=
  State.closed_of_none ((Store.at?_del _ _ _).trans (if_pos rfl))

theorem State.closed_unref {s : State} {f : Nat} (h : s.Closed f) : (s.unref f).Closed f := by
  rw [State.unref]
  split
  next => exact h
  next x hx =>
    split
    · exact State.closed_of_frame h (State.frame?_of_frames (by rw [State.vat_doubleFree]) f)
    · split
      · exact s.closed_releaseFrame f
      · exact s.closed_setFrame f (h x hx)

theorem State.closed_settle {s : State} {f : Nat} (h : s.Closed f) : (s.settle f).Closed f := by
  rw [State.settle]
  split
  next => exact h
  next x hx =>
    split
    · exact State.closed_unref (s.closed_setFrame f (h x hx))
    · exact h

theorem State.closed_closeFrame (s : State) (f : Nat) (err : Bool) : (s.closeFrame f err).Closed f := by
  rw [State.closeFrame]
  split
  next h => exact State.closed_of_none h
  next => exact State.closed_settle (s.closed_setFrame f rfl)

theorem State.closed_endCopy {s : State} {x : Copy} (h : s.Closed x.frame) (p lo hi ctr : Nat) :
    (s.endCopy p x lo hi ctr).Closed x.frame := by
  rw [State.endCopy]
  split
  · exact h
  · refine State.closed_unref (State.closed_of_frame h ?_)
    exact State.frame?_of_frames (by rw [State.portCount, State.vat_count]; rfl) _

theorem State.closed_abortCopies {s : State} {f : Nat} (h : s.Closed f) : (s.abortCopies f).Closed f := by
  rw [State.abortCopies]
  refine List.foldlRecOn (motive := fun v : State => v.Closed f) _ _ h fun t ht e _ =>
    List.foldlRecOn (motive := fun v : State => v.Closed f) _ _ ht fun u hu x hx => ?_
  have hxf := (List.mem_filter.1 hx).2
  simp only [Bool.and_eq_true, beq_iff_eq] at hxf
  obtain ⟨⟨-, rfl⟩, -⟩ := hxf
  exact State.closed_endCopy hu _ _ _ _

theorem State.closed_closeErr (s : State) (f : Nat) : (s.closeErr f).Closed f := by
  rw [State.closeErr]
  split
  next h => exact State.closed_of_none h
  next => exact State.closed_abortCopies (State.closed_closeFrame _ _ _)

theorem execReasmTimeout_open {s : State} {f : Nat} {y : Frame} (hy : s.frame? f = some y) (hf : f < 2097152)
    (ho : y.isOpen = true) (hdue : y.lastByte + us (max 1 (s.fld Reg.VAT_CTL 15 0)) ≤ s.time.mono) :
    ∃ t : State, execReasmTimeout f s = .next (t.closeErr f) := by
  simp only [execReasmTimeout, Nat.not_le.2 hf, hy, ho, decide_eq_true hdue, Bool.and_self, if_false, if_true]
  exact ⟨_, rfl⟩

theorem execReasmTimeout_staged {s : State} {p : Nat} {x : Rx} (hx : (s.port p).rx = some x) (hp : s.pail = true)
    (hdue : x.last + us (max 1 (s.fld Reg.VAT_CTL 15 0)) ≤ s.time.mono) : execReasmTimeout (2097152 + p) s =
      .next ((s.withRx p none).vatDrop .reasmTmo (s.portFrame p) 0xFFFF 0xFF) := by
  simp only [execReasmTimeout, Nat.le_add_right, Nat.add_sub_cancel_left, hx, hp, decide_eq_true hdue, Bool.and_self,
    if_true]
  rfl

end Sys2Proof.Machine

open Sys2Proof.Machine

/-- Settles O29: the port's state decides what a first byte does, each later command is one branch, and nothing opens a
frame again once it has closed. -/
theorem framesArriveAtPorts : Obligations.FramesArriveAtPorts := by
  intro p l bad d a k f x s
  have hcnt (i : Nat) : 0x08000000 ≤ Reg.PORT_CNT p i := by
    simp only [Reg.PORT_CNT]
    omega
  refine ⟨fun hrx ha hd => ⟨fun hst hp hl hc hfd hfc => ?_, fun hst => ?_, fun hst => ?_⟩,
    fun hx hd ht hn => ⟨fun hm hs => ?_, fun hm => ?_, fun hm hs hr => ?_⟩, fun y hy hf ho hdue => ?_,
    fun hf hx hp hdue => ?_⟩
  · obtain ⟨halloc, hframe, hport, hregs⟩ := State.rxStart_firstCell hrx ha hd hst hp hl hc hfd hfc
    refine ⟨_, rfl, halloc, ?_, ?_, hregs⟩
    · rw [hframe]
      rfl
    · rw [hport]
      rfl
  · exact congrArg Host.Outcome.next (State.rxStart_safe hrx ha hd hst)
  · exact congrArg Host.Outcome.next (State.rxStart_drain hrx ha hd hst)
  · exact ⟨_, congrArg Host.Outcome.next (State.rxMore_staged hx hd hn hm hs), State.rx_withRx _ _ _, rfl, rfl⟩
  · refine ⟨_, execRxOversize_reached hx hd ht hn hm, ?_, ?_, s.vat_count _⟩
    · rw [State.port_setPort, if_pos rfl]
    · exact s.toNat_reg_count_high (hcnt 1)
  · refine ⟨_, congrArg Host.Outcome.next (State.rxEnd_counted hx hd hn hm hs hr), ?_,
      State.toNat_reg_count_high _ (hcnt k), State.vat_count _ _⟩
    rw [State.portCount, State.port_of_ports (State.ports_count _ _), State.rx_withRx]
  · obtain ⟨t, ht⟩ := execReasmTimeout_open hy hf ho hdue
    exact ⟨_, ht, t.closed_closeErr f⟩
  · subst hf
    refine ⟨_, execReasmTimeout_staged hx hp hdue, ?_⟩
    rw [State.port_of_ports (State.ports_vatDrop _ _ _ _ _), State.rx_withRx]

end

section
/-!
Front ports: their states and what moves them, the writes of their control registers, and their octets' modes (R229,
R230, R244 to R248, Table 07.5).
-/

open Sys2Proof

namespace Sys2Proof.Machine

/-! ### Addresses of a port's registers -/

theorem regPlace_port {p o : Nat} (hp : p < 1024) (ho : o < 0x800) :
    regPlace (0x0E000000 + 0x800 * p + o) = (.port, p, o) := by
  have hdiv : (0x0E000000 + 0x800 * p + o - 0x0E000000) / 0x800 = p := by omega
  have hmod : (0x0E000000 + 0x800 * p + o - 0x0E000000) % 0x800 = o := by omega
  rw [regPlace, if_neg (by omega), if_neg (by omega), if_pos (by omega), hdiv, hmod]

theorem domainOf_port {p o : Nat} (hp : p < 1024) (ho : o < 0x800) :
    domainOf (0x0E000000 + 0x800 * p + o) = 4 * (p / 32) + 2 := by
  rw [domainOf, regPlace_port hp ho]

theorem causesAt_portStat {p : Nat} (hp : p < 1024) :
    causesAt (Reg.PORT_STAT p) = [(1099 + 4 * (p / 32), 0x80000000)] := by
  rw [causesAt, Reg.PORT_STAT, regPlace_port hp (by decide)]
  rfl

theorem regReset_portStat {p : Nat} (hp : p < 1024) : regReset (Reg.PORT_STAT p) = 0 := by
  rw [regReset, regAt, Reg.PORT_STAT, regPlace_port hp (by decide)]
  rfl

theorem portStat_ne {i j : Nat} (h : i ≠ j) : Reg.PORT_STAT i ≠ Reg.PORT_STAT j := by
  simp only [Reg.PORT_STAT]
  omega

theorem portStat_ne_ctl (i j : Nat) : Reg.PORT_STAT i ≠ Reg.PORT_CTL j := by
  simp only [Reg.PORT_STAT, Reg.PORT_CTL]
  omega

theorem portCnt_high (p k : Nat) : 0x0E000000 ≤ Reg.PORT_CNT p k := by
  simp only [Reg.PORT_CNT]
  omega

/-- A register at the head of a port's block, below the port's counters. -/
def portHead (a : Nat) : Prop := 0x0E000000 ≤ a ∧ a % 0x800 < 0x100

theorem portHead_off (p : Nat) {o : Nat} (ho : o < 0x100) : portHead (0x0E000000 + 0x800 * p + o) := by
  rw [portHead]
  omega

theorem portHead_stat (p : Nat) : portHead (Reg.PORT_STAT p) := portHead_off p (by decide)
theorem portHead_ctl (p : Nat) : portHead (Reg.PORT_CTL p) := portHead_off p (by decide)

theorem portHead.ne_hostStat {a : Nat} (h : portHead a) : a ≠ Reg.HOST_STAT := by
  obtain ⟨h1, -⟩ := h
  simp only [Reg.HOST_STAT]
  omega

theorem portHead.offVat {a : Nat} (h : portHead a) : offVatReg a := offVatReg_of_le (Nat.le_trans (by decide) h.1)

theorem portHead.ne_cnt {a : Nat} (h : portHead a) (p : Nat) {k : Nat} (hk : k < 16) : a ≠ Reg.PORT_CNT p k := by
  obtain ⟨-, h2⟩ := h
  simp only [Reg.PORT_CNT]
  omega

/-! ### What a change of a port's state writes (R11, R13, R383) -/

theorem State.sourceTarget_late (s : State) {src : Nat} (h : 1088 ≤ src) : s.sourceTarget src = some (.inl 0) := by
  rw [State.sourceTarget, if_neg (by omega), if_neg (by omega), if_neg (by omega), if_neg (by omega), if_neg (by omega)]

theorem State.reg_sendVector_within (s : State) {fn vec : Nat} (h : vec < if fn = 0 then 512 else 16) (a : Nat) :
    (s.sendVector fn vec).reg a = s.reg a := by
  rw [State.sendVector, if_pos h, State.reg_sendMsix]

/-- A slice's port source goes to the PF and to its VF with vectors their tables hold, so its delivery writes no
register (R382). -/
theorem State.reg_deliver_port (s : State) (n : Nat) (new : Word) (a : Nat) :
    (s.deliver (1099 + 4 * n) new).reg a = s.reg a := by
  have hpf : fieldOf (s.reg (Reg.HOST_IRT (1099 + 4 * n))) 8 0 < 512 := fieldOf_lt _ 8 0
  have hvf : fieldOf (s.reg (Reg.HOST_IRT (1099 + 4 * n))) 29 26 < 16 := fieldOf_lt _ 29 26
  have hsrc : ¬ (1099 + 4 * n) % 4 = 1 := by omega
  have hqp : ¬ 1099 + 4 * n < 512 := by omega
  have hv (t : State) (k : Nat) : (t.sendVector (1 + k) (fieldOf (s.reg (Reg.HOST_IRT (1099 + 4 * n))) 29 26)).reg a =
      t.reg a := t.reg_sendVector_within (by rw [if_neg (by omega)]; exact hvf) a
  have hp := s.reg_sendVector_within (fn := 0) hpf a
  simp only [State.deliver, s.sourceTarget_late (show 1088 ≤ 1099 + 4 * n by omega), hsrc, hqp, if_false]
  split
  · rw [hv]
    split
    · exact hp
    · rfl
  · split
    · exact hp
    · rfl

theorem State.reg_raiseBit_portStat (s : State) {p a : Nat} (hp : p < 1024) (i : Nat) (h : a ≠ Reg.PORT_STAT p) :
    (s.raiseBit (Reg.PORT_STAT p) i).reg a = s.reg a := by
  simp only [State.raiseBit, State.raise, causesAt_portStat hp, List.foldl_cons, List.foldl_nil]
  split
  · exact s.reg_setReg_ne h _
  · rw [State.reg_deliver_port, s.reg_setReg_ne h]

theorem State.reg_portCount_ne (s : State) {p k a : Nat} (h : a ≠ Reg.PORT_CNT p k) (ha : 0x0E000000 ≤ a) :
    (s.portCount p k).reg a = s.reg a := by
  refine s.reg_countFld_ne _ _ _ _ _ h (by simp only [Reg.HOST_STAT]; omega) fun r i hs => ?_
  obtain rfl | rfl | rfl | rfl := satBitOf_reg hs
  all_goals simp only [Reg.TBL_STAT, Reg.VAT_STAT, Reg.FLOW_STAT, Reg.FLT_STAT]; omega

theorem State.reg_portCount_head (s : State) (p : Nat) {k a : Nat} (hk : k < 16) (ha : portHead a) :
    (s.portCount p k).reg a = s.reg a := s.reg_portCount_ne (ha.ne_cnt p hk) ha.1

theorem State.portState_of_reg {s t : State} {p : Nat} (h : t.reg (Reg.PORT_STAT p) = s.reg (Reg.PORT_STAT p)) :
    t.portState p = s.portState p := State.fld_of_reg h 23 20

theorem State.ports_portCount (s : State) (p k : Nat) : (s.portCount p k).ports = s.ports := s.ports_count _

/-- The state with an up port taken down: LCHG is set and LINK_DOWN counted (R246). -/
def State.linkDown (s : State) (p dst : Nat) : State :=
  ((s.setFld (Reg.PORT_STAT p) 23 20 dst).raiseBit (Reg.PORT_STAT p) 31).portCount p 11

theorem State.setPortState_up {s : State} {p dst : Nat} (h : stateUp (s.portState p) = false)
    (hd : stateUp dst = true) :
    s.setPortState p dst = (s.setFld (Reg.PORT_STAT p) 23 20 dst).raiseBit (Reg.PORT_STAT p) 31 := by
  rw [State.setPortState, h, hd]
  rfl

theorem State.setPortState_down {s : State} {p dst : Nat} (h : stateUp (s.portState p) = true)
    (hd : stateUp dst = false) : s.setPortState p dst = s.linkDown p dst := by
  rw [State.setPortState, h, hd]
  rfl

/-- What a change of a port's state writes: the state's field, then LCHG and LINK_DOWN as the port goes up or down. -/
theorem State.setPortState_cases (s : State) (p dst : Nat) :
    s.setPortState p dst = s.setFld (Reg.PORT_STAT p) 23 20 dst ∨
      s.setPortState p dst = (s.setFld (Reg.PORT_STAT p) 23 20 dst).raiseBit (Reg.PORT_STAT p) 31 ∨
      s.setPortState p dst = s.linkDown p dst := by
  simp only [State.setPortState]
  split
  · exact .inl rfl
  · split
    · exact .inr (.inr rfl)
    · exact .inr (.inl rfl)

section
variable (s : State) (p dst : Nat)

theorem State.portState_lchg : ((s.setFld (Reg.PORT_STAT p) 23 20 dst).raiseBit (Reg.PORT_STAT p) 31).portState p =
    dst % 16 := by
  rw [State.portState, State.fld_raiseBit_disjoint _ (portHead_stat p).ne_hostStat (.inr (by decide)),
    State.fld_setFld _ _ _ _ _ (by decide)]
  rfl

theorem State.portState_setPortState : (s.setPortState p dst).portState p = dst % 16 := by
  obtain h | h | h := s.setPortState_cases p dst <;> rw [h]
  · exact s.fld_setFld _ _ _ _ (by decide)
  · exact s.portState_lchg p dst
  · exact (State.portState_of_reg (State.reg_portCount_head _ _ (by decide) (portHead_stat p))).trans
      (s.portState_lchg p dst)

theorem State.reg_setPortState_ne {a : Nat} (ha : portHead a) (h : a ≠ Reg.PORT_STAT p) :
    (s.setPortState p dst).reg a = s.reg a := by
  have hl : ((s.setFld (Reg.PORT_STAT p) 23 20 dst).raiseBit (Reg.PORT_STAT p) 31).reg a = s.reg a := by
    rw [State.reg_raiseBit_ne _ _ _ _ h ha.ne_hostStat, State.reg_setFld_ne _ h]
  obtain e | e | e := s.setPortState_cases p dst <;> rw [e]
  · exact s.reg_setFld_ne h _ _ _
  · exact hl
  · exact (State.reg_portCount_head _ _ (by decide) ha).trans hl

theorem State.ports_lchg : ((s.setFld (Reg.PORT_STAT p) 23 20 dst).raiseBit (Reg.PORT_STAT p) 31).ports = s.ports :=
  (congrArg State.ports (State.apart_raiseBit _ _ _) :)

theorem State.ports_setPortState : (s.setPortState p dst).ports = s.ports := by
  obtain h | h | h := s.setPortState_cases p dst <;> rw [h]
  · rfl
  · exact s.ports_lchg p dst
  · exact (State.ports_portCount _ _ _).trans (s.ports_lchg p dst)

theorem State.lchg_linkDown : (s.linkDown p dst).bit (Reg.PORT_STAT p) 31 = true :=
  (State.bit_of_reg (State.reg_portCount_head _ _ (by decide) (portHead_stat p)) 31).trans
    (State.bit_raiseBit _ _ _ (portHead_stat p).ne_hostStat (by decide))

/-- The fault bits and ALIGNED stay as they are. -/
theorem State.bit_linkDown {i : Nat} (h : 23 < i) (h31 : i ≠ 31) :
    (s.linkDown p dst).bit (Reg.PORT_STAT p) i = s.bit (Reg.PORT_STAT p) i := by
  refine (State.bit_of_reg (State.reg_portCount_head _ _ (by decide) (portHead_stat p)) i).trans ?_
  rw [State.bit_raiseBit_ne _ _ _ _ (portHead_stat p).ne_hostStat h31,
    State.bit_setFld_disjoint _ _ _ _ _ _ (by decide) (.inr h)]

theorem State.linkDowns_linkDown : ((s.linkDown p dst).reg (Reg.PORT_CNT p 11)).toNat =
    min (2 ^ 32 - 1) ((s.reg (Reg.PORT_CNT p 11)).toNat + 1) := by
  have hne : Reg.PORT_CNT p 11 ≠ Reg.PORT_STAT p := ((portHead_stat p).ne_cnt p (by decide)).symm
  have hh : Reg.PORT_CNT p 11 ≠ Reg.HOST_STAT := by
    simp only [Reg.PORT_CNT, Reg.HOST_STAT]
    omega
  refine (State.toNat_reg_count_high _ (Nat.le_trans (by decide) (portCnt_high p 11))).trans ?_
  rw [State.reg_raiseBit_ne _ _ _ _ hne hh, State.reg_setFld_ne _ hne]

end

/-! ### A port stops sending and receiving (R237, R245) -/

section
variable (s : State) {a : Nat} (ha : portHead a)
include ha

theorem State.reg_endCopy (p : Nat) (x : Copy) (lo hi : Nat) {ctr : Nat} (hc : ctr < 16) :
    (s.endCopy p x lo hi ctr).reg a = s.reg a := by
  rw [State.endCopy]
  split
  · rfl
  · exact ((State.vatOnly_unref _ _).reg a ha.offVat).trans (State.reg_portCount_head _ _ hc ha)

theorem State.reg_abortCopies (f : Nat) : (s.abortCopies f).reg a = s.reg a := by
  rw [State.abortCopies]
  refine State.reg_foldl _ _ (fun t e => State.reg_foldl _ _ (fun u x => ?_) _ _) _ _
  exact u.reg_endCopy ha _ _ _ _ (by decide)

theorem State.reg_closeErr (f : Nat) : (s.closeErr f).reg a = s.reg a := by
  rw [State.closeErr]
  split
  · rfl
  · refine (State.reg_abortCopies _ ha f).trans ?_
    rw [State.closeFrame]
    split
    · split <;> rfl
    · refine ((State.vatOnly_settle _ f).reg a ha.offVat).trans ?_
      split <;> rfl

theorem State.reg_rxTrunc (p : Nat) : (s.rxTrunc p).reg a = s.reg a := by
  rw [State.rxTrunc]
  split
  · rfl
  next x _ =>
    split
    · rfl
    · rw [State.reg_portCount_head _ _ (by decide) ha, State.rxErr]
      split
      · exact State.reg_closeErr _ ha _
      · rfl

theorem State.reg_portStop (p : Nat) : (s.portStop p).reg a = s.reg a :=
  ((s.endSending p 9).reg_rxTrunc ha p).trans
    (s.reg_foldl _ a (fun t x => t.reg_endCopy ha p x 0 16384 (by decide)) _)

end

/-- A port that neither sends nor receives has nothing to end. -/
theorem State.portStop_idle {s : State} {p : Nat} (hrx : (s.port p).rx = none) (hout : Store.read [] s.vat.out p = []) :
    s.portStop p = s := by
  rw [State.portStop, State.endSending, hout]
  simp only [List.filter_nil, List.foldl_nil, State.rxTrunc, hrx]

/-! ### A port falls to DISABLED, SAFE or DOWN (R246 to R248) -/

/-- The state a port that is not up rests in. -/
def State.restState (s : State) (p : Nat) : Nat := if !s.portOn p then 0 else if s.portSafe p then 3 else 1

/-- The state whose port p has been aligned since `since`. -/
def State.alignedSince (s : State) (p : Nat) (since : Option Nat) : State :=
  s.setPort p { s.port p with since := since }

theorem State.since_alignedSince (s : State) (p : Nat) (since : Option Nat) :
    ((s.alignedSince p since).port p).since = since := by
  rw [State.alignedSince, State.port_setPort, if_pos rfl]

theorem State.stateUp_restState (s : State) (p : Nat) : stateUp (s.restState p) = false := by
  rw [State.restState]
  split
  · rfl
  · split <;> rfl

theorem State.restState_off {s : State} {p : Nat} (h : s.portOn p = false) : s.restState p = 0 := by
  rw [State.restState, h]
  rfl

theorem State.restState_safe {s : State} {p : Nat} (h : s.portOn p = true) (hs : s.portSafe p = true) :
    s.restState p = 3 := by
  rw [State.restState, h, hs]
  rfl

theorem State.restState_down {s : State} {p : Nat} (h : s.portOn p = true) (hs : s.portSafe p = false) :
    s.restState p = 1 := by
  rw [State.restState, h, hs]
  rfl

section
variable (s : State) (p : Nat) (since : Option Nat)

theorem State.portFall_eq : ∃ u : State, (∀ a, portHead a → u.reg a = s.reg a) ∧
    s.portFall p since = (u.alignedSince p since).setPortState p (s.restState p) := by
  by_cases h : s.portState p = s.restState p
  · refine ⟨s, fun _ _ => rfl, ?_⟩
    rw [State.portFall, ← State.restState, if_pos h]
    rfl
  · refine ⟨s.portStop p, fun a ha => s.reg_portStop ha p, ?_⟩
    rw [State.portFall, ← State.restState, if_neg h]
    rfl

theorem State.portState_portFall : (s.portFall p since).portState p = s.restState p := by
  obtain ⟨u, -, h⟩ := s.portFall_eq p since
  rw [h, State.portState_setPortState, State.restState]
  split
  · rfl
  · split <;> rfl

theorem State.reg_portFall_ne {a : Nat} (ha : portHead a) (h : a ≠ Reg.PORT_STAT p) :
    (s.portFall p since).reg a = s.reg a := by
  obtain ⟨u, hu, e⟩ := s.portFall_eq p since
  rw [e, State.reg_setPortState_ne _ _ _ ha h]
  exact hu a ha

theorem State.since_portFall : ((s.portFall p since).port p).since = since := by
  obtain ⟨u, -, h⟩ := s.portFall_eq p since
  rw [h, State.port_of_ports (State.ports_setPortState _ _ _), State.since_alignedSince]

variable {s p} in
/-- An idle port in UP goes down. -/
theorem State.portFall_idle (hst : s.portState p = 2) (hrx : (s.port p).rx = none)
    (hout : Store.read [] s.vat.out p = []) :
    s.portFall p since = (s.alignedSince p since).linkDown p (s.restState p) := by
  have hup : stateUp ((s.alignedSince p since).portState p) = true :=
    (congrArg stateUp (show (s.alignedSince p since).portState p = 2 from hst) :)
  rw [← State.setPortState_down hup (s.stateUp_restState p), State.portFall, ← State.restState,
    State.portStop_idle hrx hout, ite_self]
  rfl

end

/-! ### A port's lanes restart (R247, R253) -/

theorem State.reg_lanePrecode (s : State) (l : Nat) {a : Nat} (h : a ≠ Reg.LANE_STAT l) :
    (s.lanePrecode l).reg a = s.reg a := by
  simp only [State.lanePrecode, State.reg_setBit_ne _ h]

/-- A lane's restart writes registers of the lane alone. -/
theorem State.reg_laneRestart (s : State) {l a : Nat} (hl : l < 8192) (ha : 0x0E000000 ≤ a) :
    (s.laneRestart l).reg a = s.reg a := by
  have h1 : a ≠ Reg.LANE_STAT l := by
    simp only [Reg.LANE_STAT]
    omega
  have h2 : a ≠ Reg.LANE_EYE l := by
    simp only [Reg.LANE_EYE]
    omega
  simp only [State.laneRestart, State.reg_lanePrecode _ _ h1, State.reg_setReg_ne _ h2, State.reg_setFld_ne _ h1,
    State.reg_setBit_ne _ h1, State.reg_setLane]

theorem State.reg_lanesRestart (s : State) {l n a : Nat} (hl : l + n ≤ 8192) (ha : 0x0E000000 ≤ a) :
    (s.lanesRestart l n).reg a = s.reg a :=
  List.foldlRecOn (motive := fun t : State => t.reg a = s.reg a) _ _ rfl fun t ht i hi => by
    have := List.mem_range.1 hi
    exact (t.reg_laneRestart (by omega) ha).trans ht

theorem modeWidth_le (m : Nat) : modeWidth m ≤ 8 :=
  Nat.pow_le_pow_right (n := 2) (by decide) (show m % 4 ≤ 3 by omega)

/-- The lanes of a front port restart and no port's register changes. -/
theorem State.reg_portLanesRestart (s : State) (p : Fin 1024) (m : Nat) {a : Nat} (ha : 0x0E000000 ≤ a) :
    (s.lanesRestart p (modeWidth m)).reg a = s.reg a := by
  have := modeWidth_le m
  exact s.reg_lanesRestart (by omega) ha

/-- A port falls and its lanes restart, as they do when EN changes (R248). -/
def State.fallRestart (s : State) (p m : Nat) : State := (s.portFall p none).lanesRestart p (modeWidth m)

section
variable (s : State) (p : Fin 1024) (m : Nat)

theorem State.portState_fallRestart : (s.fallRestart p m).portState p = s.restState p :=
  (State.portState_of_reg (State.reg_portLanesRestart _ p m (portHead_stat p).1)).trans (s.portState_portFall p none)

variable {s p} in
/-- An idle port in UP that falls sets LCHG and counts LINK_DOWN (R246). -/
theorem State.linkDowns_fallRestart (hst : s.portState p = 2) (hrx : (s.port p).rx = none)
    (hout : Store.read [] s.vat.out p = []) : (s.fallRestart p m).bit (Reg.PORT_STAT p) 31 = true ∧
      ((s.fallRestart p m).reg (Reg.PORT_CNT p 11)).toNat =
        min (2 ^ 32 - 1) ((s.reg (Reg.PORT_CNT p 11)).toNat + 1) := by
  rw [State.fallRestart, State.portFall_idle none hst hrx hout, State.reg_portLanesRestart _ p m (portCnt_high p 11)]
  exact ⟨(State.bit_of_reg (State.reg_portLanesRestart _ p m (portHead_stat p).1) 31).trans
    (State.lchg_linkDown _ _ _), State.linkDowns_linkDown _ _ _⟩

end

/-! ### Writes of PORT_CTL (R247, R248) -/

/-- The state in which PORT_CTL has taken a written word. -/
def State.ctlTaken (s : State) (p : Nat) (data : Word) : State := s.setReg (Reg.PORT_CTL p) (data &&& portCtlMask)

theorem getLsbD_portCtlMask (i : Nat) :
    portCtlMask.getLsbD i = decide (i < 15 ∨ 16 ≤ i ∧ i < 24 ∨ 30 ≤ i ∧ i < 32) := by
  have hm : portCtlMask = fieldMask 14 0 ||| fieldMask 23 16 ||| fieldMask 31 30 := by decide
  rw [hm, getLsbD_or_fieldMask _ (by decide), getLsbD_or_fieldMask _ (by decide), getLsbD_fieldMask _ _ _ (by decide),
    ← Bool.decide_or, ← Bool.decide_or]
  exact decide_eq_decide.2 (by omega)

section
variable (s : State) (p : Nat) (data : Word)

theorem State.reg_ctlTaken_ne {a : Nat} (h : a ≠ Reg.PORT_CTL p) : (s.ctlTaken p data).reg a = s.reg a :=
  s.reg_setReg_ne h _

theorem State.bit_ctlTaken {i : Nat} (h : i = 30 ∨ i = 31) :
    (s.ctlTaken p data).bit (Reg.PORT_CTL p) i = data.getLsbD i := by
  have hm : portCtlMask.getLsbD i = true := by
    rw [getLsbD_portCtlMask]
    exact decide_eq_true (by omega)
  rw [State.ctlTaken, State.bit_setReg, if_pos rfl, BitVec.getLsbD_and, hm, Bool.and_true]

theorem State.portOn_ctlTaken : (s.ctlTaken p data).portOn p = data.getLsbD 31 := s.bit_ctlTaken p data (.inr rfl)

theorem State.maxlen_ctlTaken : (s.ctlTaken p data).fld (Reg.PORT_CTL p) 14 0 = fieldOf data 14 0 := by
  rw [State.fld, State.ctlTaken, State.reg_setReg_self]
  refine fieldOf_congr fun i _ hi => ?_
  rw [BitVec.getLsbD_and, getLsbD_portCtlMask, decide_eq_true (.inl (by omega)), Bool.and_true]

theorem State.portState_ctlTaken (j : Nat) : (s.ctlTaken p data).portState j = s.portState j :=
  State.portState_of_reg (s.reg_ctlTaken_ne p data (portStat_ne_ctl j p))

theorem State.portSafe_ctlTaken : (s.ctlTaken p data).portSafe p = ((s.port p).safe || data.getLsbD 30) :=
  congrArg ((s.port p).safe || ·) (s.bit_ctlTaken p data (.inl rfl))

variable {s p data}

variable (s p data) in
/-- The state in which PORT_CTL has taken EN = 0 and the port's link bits are 0. -/
def State.ctlStopped : State := (s.ctlTaken p data).setFld (Reg.PORT_STAT p) 30 28 0

theorem State.reg_ctlStopped_ne {a : Nat} (h : a ≠ Reg.PORT_STAT p) :
    (s.ctlStopped p data).reg a = (s.ctlTaken p data).reg a := State.reg_setFld_ne _ h _ _ _

theorem State.portOn_ctlStopped : (s.ctlStopped p data).portOn p = data.getLsbD 31 :=
  (State.bit_of_reg (State.reg_ctlStopped_ne (portStat_ne_ctl p p).symm) 31).trans (s.portOn_ctlTaken p data)

theorem State.portState_ctlStopped : (s.ctlStopped p data).portState p = s.portState p :=
  (State.fld_setFld_disjoint _ _ _ _ _ _ _ (by decide) (.inl (by decide))).trans (s.portState_ctlTaken p data p)

theorem State.portCtlWrite_enable (hoff : s.portOn p = false) (hd : data.getLsbD 31 = true) :
    s.portCtlWrite p data = (s.ctlTaken p data).fallRestart p ((s.ctlTaken p data).octMode p) := by
  have h : ¬ (s.ctlTaken p data).portOn p = false := by rw [State.portOn_ctlTaken, hd]; decide
  rw [State.portCtlWrite, ← State.ctlTaken, if_neg h, if_pos hoff, State.fallRestart]

theorem State.portCtlWrite_disable (hon : s.portOn p = true) (hd : data.getLsbD 31 = false) :
    s.portCtlWrite p data = (s.ctlStopped p data).fallRestart p ((s.ctlStopped p data).octMode p) := by
  have h : (s.ctlTaken p data).portOn p = false := (s.portOn_ctlTaken p data).trans hd
  have hmode : (s.ctlStopped p data).octMode p = (s.ctlTaken p data).octMode p :=
    State.fld_of_reg (State.reg_ctlStopped_ne (by simp only [Reg.PORT_STAT, Reg.PORT_OCT]; omega)) 2 0
  rw [State.portCtlWrite, ← State.ctlTaken, if_pos h, if_pos hon, State.fallRestart, hmode, State.ctlStopped]

theorem State.portCtlWrite_force (hon : s.portOn p = true) (hlf : s.bit (Reg.PORT_CTL p) 30 = false)
    (hd : data.getLsbD 31 = true) (hd' : data.getLsbD 30 = true) :
    s.portCtlWrite p data = (s.ctlTaken p data).portFall p ((s.ctlTaken p data).port p).since := by
  have h : ¬ (s.ctlTaken p data).portOn p = false := by rw [State.portOn_ctlTaken, hd]; decide
  have hon' : ¬ s.portOn p = false := by rw [hon]; decide
  have h' : ¬ (s.ctlTaken p data).bit (Reg.PORT_CTL p) 30 = s.bit (Reg.PORT_CTL p) 30 := by
    rw [State.bit_ctlTaken _ _ _ (.inl rfl), hd', hlf]
    decide
  have hlf' : ¬ s.bit (Reg.PORT_CTL p) 30 = true := by rw [hlf]; decide
  rw [State.portCtlWrite, ← State.ctlTaken, if_neg h, if_neg hon', if_neg h', if_neg hlf']

end

section
variable (s : State) (p : Fin 1024) (data : Word)

/-- At the heads of the ports' blocks a write of PORT_CTL changes that register and the port's PORT_STAT alone. -/
theorem State.reg_portCtlWrite {a : Nat} (ha : portHead a) (h : a ≠ Reg.PORT_STAT p) :
    (s.portCtlWrite p data).reg a = (s.ctlTaken p data).reg a := by
  have hfall (t : State) (since : Option Nat) : (t.portFall p since).reg a = t.reg a := t.reg_portFall_ne p since ha h
  have hlanes (t : State) (m : Nat) : (t.lanesRestart p (modeWidth m)).reg a = t.reg a :=
    t.reg_portLanesRestart p m ha.1
  rw [State.portCtlWrite, ← State.ctlTaken]
  repeat' split
  all_goals simp only [hlanes, hfall, State.reg_setFld_ne _ h]

theorem State.portOn_portCtlWrite : (s.portCtlWrite p data).portOn p = data.getLsbD 31 :=
  (State.bit_of_reg (s.reg_portCtlWrite p data (portHead_ctl p) (portStat_ne_ctl p p).symm) 31).trans
    (s.portOn_ctlTaken p data)

theorem State.portState_portCtlWrite_ne {j : Nat} (h : j ≠ p) : (s.portCtlWrite p data).portState j = s.portState j :=
  (State.portState_of_reg (s.reg_portCtlWrite p data (portHead_stat j) (portStat_ne h))).trans
    (s.portState_ctlTaken p data j)

variable {s p data}

theorem State.portState_portCtlWrite_enable (hoff : s.portOn p = false) (hsafe : (s.port p).safe = false)
    (hd : data.getLsbD 31 = true) (hd' : data.getLsbD 30 = false) : (s.portCtlWrite p data).portState p = 1 := by
  rw [State.portCtlWrite_enable hoff hd, State.portState_fallRestart]
  refine State.restState_down ((s.portOn_ctlTaken p data).trans hd) ?_
  rw [State.portSafe_ctlTaken, hsafe, hd']
  rfl

theorem State.portState_portCtlWrite_disable (hon : s.portOn p = true) (hd : data.getLsbD 31 = false) :
    (s.portCtlWrite p data).portState p = 0 := by
  rw [State.portCtlWrite_disable hon hd, State.portState_fallRestart]
  exact State.restState_off (State.portOn_ctlStopped.trans hd)

/-- The disabling of an idle port in UP sets LCHG and counts LINK_DOWN. -/
theorem State.linkDowns_portCtlWrite_disable (hon : s.portOn p = true) (hd : data.getLsbD 31 = false)
    (hst : s.portState p = 2) (hrx : (s.port p).rx = none) (hout : Store.read [] s.vat.out p = []) :
    (s.portCtlWrite p data).bit (Reg.PORT_STAT p) 31 = true ∧
      ((s.portCtlWrite p data).reg (Reg.PORT_CNT p 11)).toNat =
        min (2 ^ 32 - 1) ((s.reg (Reg.PORT_CNT p 11)).toNat + 1) := by
  have hcnt : (s.ctlStopped p data).reg (Reg.PORT_CNT p 11) = s.reg (Reg.PORT_CNT p 11) :=
    (State.reg_ctlStopped_ne ((portHead_stat p).ne_cnt p (by decide)).symm).trans
      (s.reg_ctlTaken_ne p data ((portHead_ctl p).ne_cnt p (by decide)).symm)
  rw [State.portCtlWrite_disable hon hd, ← hcnt]
  exact State.linkDowns_fallRestart _ (State.portState_ctlStopped.trans hst) hrx hout

theorem State.portState_portCtlWrite_force (hon : s.portOn p = true) (hlf : s.bit (Reg.PORT_CTL p) 30 = false)
    (hd : data.getLsbD 31 = true) (hd' : data.getLsbD 30 = true) : (s.portCtlWrite p data).portState p = 3 := by
  rw [State.portCtlWrite_force hon hlf hd hd', State.portState_portFall]
  refine State.restState_safe ((s.portOn_ctlTaken p data).trans hd) ?_
  rw [State.portSafe_ctlTaken, hd', Bool.or_true]

end

/-- A trusted master's write to a register of an assigned port in a powered slice is carried out. -/
theorem State.portWrite_reached {s : State} {m : Master} {p : Fin 1024} (hm : m.trusted = true)
    (ha : s.assigned p = true) (hd : s.domOn (4 * (p / 32) + 2) = true) {o : Nat} (ho : o < 0x800)
    (run : State → State) : s.portWrite m p (0x0E000000 + 0x800 * p + o) run = run s := by
  rw [State.portWrite, State.gated_trusted hm (by rw [domainOf_port p.isLt ho]; exact hd), if_pos ha]

section
variable {m : Master} {p : Fin 1024} {s : State} (hm : m.trusted = true) (ha : s.assigned p = true)
  (hd : s.domOn (4 * (p / 32) + 2) = true) (data : Word)
include hm ha hd

theorem execPortEnable_reached :
    execPortEnable m p data s = .next (s.portCtlWrite p (data ||| 0x80000000)) :=
  congrArg Host.Outcome.next (State.portWrite_reached hm ha hd (by decide) _)

theorem execPortDisable_reached :
    execPortDisable m p data s = .next (s.portCtlWrite p (data &&& 0x7FFFFFFF)) :=
  congrArg Host.Outcome.next (State.portWrite_reached hm ha hd (by decide) _)

theorem execForceLf_reached : execForceLf m p data s = .next (s.portCtlWrite p (data ||| 0x40000000)) :=
  congrArg Host.Outcome.next (State.portWrite_reached hm ha hd (by decide) _)

theorem execCtStepWrite_reached : execCtStepWrite m p data s = .next (s.ctWrite p data) :=
  congrArg Host.Outcome.next (State.portWrite_reached hm ha hd (by decide) _)

end

/-! ### A port's start threshold (R244) -/

section
variable (s : State) (p : Nat) (data : Word)

theorem State.step_ctWrite : (s.ctWrite p data).fld (Reg.PORT_CT p) 2 0 = fieldOf data 2 0 := by
  have hset : (s.setFld (Reg.PORT_CT p) 2 0 (fieldOf data 2 0)).fld (Reg.PORT_CT p) 2 0 = fieldOf data 2 0 := by
    rw [State.fld_setFld _ _ _ _ _ (by decide)]
    exact Nat.mod_eq_of_lt (fieldOf_lt data 2 0)
  rw [State.ctWrite]
  split
  · exact (State.fld_setFld_disjoint _ _ _ _ _ _ _ (by decide) (.inl (by decide))).trans hset
  · exact hset

theorem State.underrun_ctWrite (h : fieldOf data 31 31 = 1) : (s.ctWrite p data).bit (Reg.PORT_CT p) 31 = false := by
  have hmsb : data.msb = true := by
    rw [BitVec.msb_eq_getLsbD_last]
    exact Bool.toNat_eq_one.1 ((bitsOf_one data 31).symm.trans h)
  rw [State.ctWrite, if_pos hmsb]
  exact State.bit_setBit _ _ _ _ (by decide)

theorem State.reg_ctWrite_ne {a : Nat} (h : a ≠ Reg.PORT_CT p) : (s.ctWrite p data).reg a = s.reg a := by
  rw [State.ctWrite]
  split
  · exact (State.reg_setBit_ne _ h _ _).trans (s.reg_setFld_ne h _ _ _)
  · exact s.reg_setFld_ne h _ _ _

end

/-! ### The link's events (R245, R246) -/

/-- The state in which a port has received a fault ordered set, or else lost its alignment. -/
def State.faulted (s : State) (p : Nat) (lf rf : Bool) : State :=
  let s1 := (s.setBit (Reg.PORT_STAT p) 30 lf).setBit (Reg.PORT_STAT p) 29 rf
  if lf || rf then s1 else s1.setBit (Reg.PORT_STAT p) 28 false

section
variable (s : State) (p : Nat) (lf rf : Bool)

theorem State.reg_faulted_ne {a : Nat} (h : a ≠ Reg.PORT_STAT p) : (s.faulted p lf rf).reg a = s.reg a := by
  simp only [State.faulted]
  split <;> simp only [State.reg_setBit_ne _ h]

theorem State.portState_faulted : (s.faulted p lf rf).portState p = s.portState p := by
  have h (t : State) {i : Nat} (hi : 23 < i ∧ i < 32) (b : Bool) :
      (t.setBit (Reg.PORT_STAT p) i b).portState p = t.portState p :=
    t.fld_setFld_disjoint _ _ _ _ _ _ hi.2 (.inl hi.1)
  simp only [State.faulted]
  split
  · rw [h _ (by decide), h _ (by decide)]
  · rw [h _ (by decide), h _ (by decide), h _ (by decide)]

theorem State.port_faulted : (s.faulted p lf rf).port p = s.port p := by
  simp only [State.faulted]
  split <;> rfl

theorem State.vat_faulted : (s.faulted p lf rf).vat = s.vat := by
  simp only [State.faulted]
  split <;> rfl

variable {lf rf} in
theorem State.faults_faulted (h : (lf || rf) = true) : (s.faulted p lf rf).bit (Reg.PORT_STAT p) 30 = lf ∧
    (s.faulted p lf rf).bit (Reg.PORT_STAT p) 29 = rf := by
  rw [State.faulted, if_pos h]
  refine ⟨?_, State.bit_setBit _ _ _ _ (by decide)⟩
  rw [State.bit_setBit_ne _ _ _ _ _ (by decide) (by decide), State.bit_setBit _ _ _ _ (by decide)]

end

/-- An UP port that loses its link falls. -/
theorem execLinkFault_up {p : Fin 1024} {s : State} (ha : s.assigned p = true) (hon : s.portOn p = true)
    (hd : s.domOn (4 * (p / 32) + 2) = true) (hst : s.portState p = 2) (lf rf : Bool) :
    execLinkFault p lf rf s = .next ((s.faulted p lf rf).portFall p none) := by
  have hup : stateUp ((s.faulted p lf rf).portState p) = true := by
    rw [State.portState_faulted, hst]
    rfl
  have hlost : (s.faulted p lf rf).linkLost p = (s.faulted p lf rf).portFall p none := if_pos hup
  rw [← hlost]
  simp only [execLinkFault, ha, hon, hd, Bool.and_self, if_true, State.faulted]
  split <;> rfl

section
variable {s : State} {p : Nat} (hsafe : (s.port p).safe = false) (hlf : s.bit (Reg.PORT_CTL p) 30 = false)
  (lf rf : Bool)

include hsafe hlf in
/-- An enabled port outside the safe state rests in DOWN. -/
theorem State.restState_faulted (hon : s.portOn p = true) : (s.faulted p lf rf).restState p = 1 := by
  have hctl : (s.faulted p lf rf).reg (Reg.PORT_CTL p) = s.reg (Reg.PORT_CTL p) :=
    s.reg_faulted_ne p lf rf (portStat_ne_ctl p p).symm
  refine State.restState_down ((State.bit_of_reg hctl 31).trans hon) ?_
  rw [State.portSafe, s.port_faulted, State.bit_of_reg hctl, hsafe, hlf]
  rfl

/-- The fall of an idle port in UP keeps the fault bits that the ordered set has left. -/
theorem State.faults_portFall_faulted (hst : s.portState p = 2) (hrx : (s.port p).rx = none)
    (hout : Store.read [] s.vat.out p = []) {lf rf : Bool} (h : (lf || rf) = true) :
    ((s.faulted p lf rf).portFall p none).bit (Reg.PORT_STAT p) 30 = lf ∧
      ((s.faulted p lf rf).portFall p none).bit (Reg.PORT_STAT p) 29 = rf := by
  rw [State.portFall_idle none ((s.portState_faulted p lf rf).trans hst) (by rwa [State.port_faulted])
    (by rwa [State.vat_faulted]), State.bit_linkDown _ _ _ (by decide) (by decide),
    State.bit_linkDown _ _ _ (by decide) (by decide)]
  exact s.faults_faulted p h

end

/-- The state in which a port is aligned with no fault ordered set. -/
def State.aligned (s : State) (p : Nat) : State := s.setFld (Reg.PORT_STAT p) 30 28 1

theorem State.portState_aligned (s : State) (p : Nat) : (s.aligned p).portState p = s.portState p :=
  s.fld_setFld_disjoint _ _ _ _ _ _ (by decide) (.inl (by decide))

theorem State.aligned_aligned (s : State) (p : Nat) : (s.aligned p).bit (Reg.PORT_STAT p) 28 = true := by
  rw [State.bit_eq, State.aligned, State.setFld, State.reg_setReg_self, getLsbD_withField _ _ _ _ _ (by decide)]
  rfl

/-- Alignment of a port that is not up starts its debounce. -/
theorem execPcsAligned_down {p : Fin 1024} {s : State} (ha : s.assigned p = true) (hon : s.portOn p = true)
    (hd : s.domOn (4 * (p / 32) + 2) = true) (hl : s.lanesAllow p = true) (hst : s.portState p = 1) :
    execPcsAligned p s = .next ((s.aligned p).alignedSince p (some s.time.mono)) := by
  have hdown : stateUp (s.portState p) = false := by
    rw [hst]
    rfl
  simp only [execPcsAligned, ha, hon, hd, hl, hdown, Bool.and_self, if_true, Bool.false_eq_true, if_false]
  rfl

/-- The state a port enters at the end of its debounce. -/
def State.upState (s : State) (p : Nat) : Nat := if s.draining (p / 32) then 4 else 2

theorem State.stateUp_upState (s : State) (p : Nat) : stateUp (s.upState p) = true := by
  rw [State.upState]
  split <;> rfl

theorem execLinkupDebounce_due {p : Fin 1024} {s : State} {a : Nat} (hs : (s.port p).since = some a)
    (hst : s.portState p = 1) (hdue : a + us (10 * oneIfZero (s.fld (Reg.PORT_CTL p) 23 16)) ≤ s.time.mono) :
    execLinkupDebounce p s =
      .next ((s.setFld (Reg.PORT_STAT p) 23 20 (s.upState p)).raiseBit (Reg.PORT_STAT p) 31) := by
  have hdown : stateUp (s.portState p) = false := by
    rw [hst]
    rfl
  rw [← State.setPortState_up hdown (s.stateUp_upState p), execLinkupDebounce, hs]
  exact if_pos ⟨hst, hdue⟩

/-! ### Octets (R230) -/

/-- The registers that a change of its octet's mode gives their reset values. -/
def portRegs (p a : Nat) : Bool :=
  decide (Reg.PORT_CTL p ≤ a ∧ a < Reg.PORT_CTL p + 0x800 ∧ a ≠ Reg.PORT_OCT p)

theorem portRegs_stat (p : Nat) : portRegs p (Reg.PORT_STAT p) = true := by
  refine decide_eq_true ?_
  simp only [Reg.PORT_CTL, Reg.PORT_STAT, Reg.PORT_OCT]
  omega

theorem portRegs_oct (p q : Nat) : portRegs p (Reg.PORT_OCT q) = false := by
  refine decide_eq_false ?_
  simp only [Reg.PORT_CTL, Reg.PORT_OCT]
  omega

/-- The ports `b + i` of a changed octet, `i` from a list. -/
def State.portsFresh (s : State) (b : Nat) (l : List Nat) : State := l.foldl (fun t i => t.portFresh (b + i)) s

theorem State.reg_portsFresh (s : State) (b a : Nat) (l : List Nat) :
    (s.portsFresh b l).reg a = if l.any (fun i => portRegs (b + i) a) then regReset a else s.reg a := by
  induction l generalizing s with
  | nil => rfl
  | cons i r ih =>
    have hi : (s.portFresh (b + i)).reg a = if portRegs (b + i) a then regReset a else s.reg a :=
      s.reg_resetRegs (portRegs (b + i)) a
    rw [State.portsFresh, List.foldl_cons, ← State.portsFresh, ih, hi, List.any_cons]
    cases portRegs (b + i) a
    · rfl
    · exact ite_self _

theorem State.portState_portsFresh (s : State) {b i : Nat} {l : List Nat} (hi : i ∈ l) (hb : b + i < 1024) :
    (s.portsFresh b l).portState (b + i) = 0 := by
  have hany : l.any (fun j => portRegs (b + j) (Reg.PORT_STAT (b + i))) = true :=
    List.any_eq_true.2 ⟨i, hi, portRegs_stat _⟩
  rw [State.portState, State.fld, State.reg_portsFresh, if_pos hany, regReset_portStat hb]
  rfl

theorem State.reg_portsFresh_oct (s : State) (b q : Nat) (l : List Nat) :
    (s.portsFresh b l).reg (Reg.PORT_OCT q) = s.reg (Reg.PORT_OCT q) := by
  have hany : ¬ l.any (fun i => portRegs (b + i) (Reg.PORT_OCT q)) = true := by
    simp only [portRegs_oct, List.any_eq_true, Bool.false_eq_true, and_false, exists_false, not_false_eq_true]
  rw [State.reg_portsFresh, if_neg hany]

/-- A write of PORT_OCT clears MERR where it writes a 1 there. -/
def State.merrAck (s : State) (k : Nat) (data : Word) : State :=
  if data.msb then s.setBit (Reg.PORT_OCT (8 * k)) 31 false else s

section
variable (s : State) (k : Nat) (data : Word)

theorem State.reg_merrAck_ne {a : Nat} (h : a ≠ Reg.PORT_OCT (8 * k)) : (s.merrAck k data).reg a = s.reg a := by
  rw [State.merrAck]
  split
  · exact s.reg_setBit_ne h _ _
  · rfl

theorem State.mode_merrAck (a : Nat) : (s.merrAck k data).fld a 2 0 = s.fld a 2 0 := by
  by_cases h : a = Reg.PORT_OCT (8 * k)
  · subst h
    rw [State.merrAck]
    split
    · exact s.fld_setFld_disjoint _ _ _ _ _ _ (by decide) (.inl (by decide))
    · rfl
  · exact State.fld_of_reg (s.reg_merrAck_ne k data h) 2 0

theorem State.assigned_merrAck (p : Nat) : (s.merrAck k data).assigned p = s.assigned p := by
  simp only [State.assigned, State.octMode, State.mode_merrAck]

theorem State.portOn_merrAck (p : Nat) : (s.merrAck k data).portOn p = s.portOn p :=
  State.bit_of_reg (s.reg_merrAck_ne k data (by simp only [Reg.PORT_CTL, Reg.PORT_OCT]; omega)) 31

/-- Whether an assigned port of octet k is enabled. -/
def State.octetOn (s : State) (k : Nat) : Bool :=
  (List.range 8).any fun i => s.assigned (8 * k + i) && s.portOn (8 * k + i)

theorem State.octetOn_merrAck : (s.merrAck k data).octetOn k = s.octetOn k := by
  simp only [State.octetOn, State.assigned_merrAck, State.portOn_merrAck]

variable {s k data} in
theorem State.octetOn_of_port {i : Fin 8} (ha : s.assigned (8 * k + i) = true) (hon : s.portOn (8 * k + i) = true) :
    s.octetOn k = true := by
  rw [State.octetOn, List.any_eq_true]
  exact ⟨i, List.mem_range.2 i.isLt, by rw [ha, hon]; rfl⟩

variable {s k data} in
theorem State.octetOn_eq_false (h : ∀ i : Fin 8, s.portOn (8 * k + i) = false) : s.octetOn k = false := by
  rw [State.octetOn, List.any_eq_false]
  intro i hi
  rw [h ⟨i, List.mem_range.1 hi⟩, Bool.and_false]
  exact Bool.false_ne_true

/-- The state in which octet k has its new mode. -/
def State.octetChanged : State :=
  (((s.merrAck k data).setFld (Reg.PORT_OCT (8 * k)) 2 0 (fieldOf data 2 0)).portsFresh (8 * k)
    (List.range 8)).lanesRestart (8 * k) 8

variable {s k data}

theorem State.octetWrite_taken (hne : fieldOf data 2 0 ≠ s.fld (Reg.PORT_OCT (8 * k)) 2 0)
    (hoff : s.octetOn k = false) : s.octetWrite k data = s.octetChanged k data := by
  have hmode : fieldOf data 2 0 ≠ (s.merrAck k data).fld (Reg.PORT_OCT (8 * k)) 2 0 := by rwa [State.mode_merrAck]
  have hon : ¬ (s.merrAck k data).octetOn k = true := by
    rw [State.octetOn_merrAck, hoff]
    exact Bool.false_ne_true
  exact (if_neg hmode).trans (if_neg hon)

theorem State.octetWrite_refused (hne : fieldOf data 2 0 ≠ s.fld (Reg.PORT_OCT (8 * k)) 2 0)
    (hon : s.octetOn k = true) : s.octetWrite k data = (s.merrAck k data).raiseBit (Reg.PORT_OCT (8 * k)) 31 := by
  have hmode : fieldOf data 2 0 ≠ (s.merrAck k data).fld (Reg.PORT_OCT (8 * k)) 2 0 := by rwa [State.mode_merrAck]
  have hon' : (s.merrAck k data).octetOn k = true := by rwa [State.octetOn_merrAck]
  exact (if_neg hmode).trans (if_pos hon')

end

theorem execOctetModeWrite_powered {m : Master} {k : Fin 128} {s : State} (hm : m.trusted = true)
    (hd : s.domOn (domainOf (Reg.PORT_OCT (8 * k))) = true) (data : Word) :
    execOctetModeWrite m k data s = .next (s.octetWrite k data) :=
  congrArg Host.Outcome.next (State.gated_trusted hm hd _ _)

section
variable (s : State) (k : Fin 128) (data : Word)

theorem State.mode_octetChanged : (s.octetChanged k data).fld (Reg.PORT_OCT (8 * k)) 2 0 = fieldOf data 2 0 := by
  have hoct : 0x0E000000 ≤ Reg.PORT_OCT (8 * k) := by
    simp only [Reg.PORT_OCT]
    omega
  rw [State.octetChanged, State.fld_of_reg (State.reg_lanesRestart _ (by omega) hoct),
    State.fld_of_reg (State.reg_portsFresh_oct _ _ _ _), State.fld_setFld _ _ _ _ _ (by decide)]
  exact Nat.mod_eq_of_lt (fieldOf_lt data 2 0)

theorem State.portState_octetChanged (i : Fin 8) : (s.octetChanged k data).portState (8 * k + i) = 0 := by
  have hport : 8 * (k : Nat) + i < 1024 := by omega
  exact (State.portState_of_reg (State.reg_lanesRestart _ (by omega) (portHead_stat _).1)).trans
    (State.portState_portsFresh _ (List.mem_range.2 i.isLt) hport)

end

end Sys2Proof.Machine

open Sys2Proof.Machine

/-- Settles O52: each write and each event of the link as one change of the port's state, which writes no other port's
PORT_STAT. -/
theorem portsComeAndGo : Obligations.PortsComeAndGo := by
  intro m p k d lf rf a s hm ha hd
  have hne {j : Fin 1024} (h : j ≠ p) : (j : Nat) ≠ p := Fin.val_ne_of_ne h
  refine ⟨fun hoff hst hsafe hlf => ?_, fun hon hst hrx hout => ⟨?_, fun h31 hlf => ?_, fun hsafe hlf => ?_⟩,
    fun hon hst hl => ?_, fun hs hst hdue => ?_, ?_, fun hoct hmode => ⟨fun hoff => ?_, fun i hai hon => ?_⟩⟩
  · have h31 : (d ||| 0x80000000).getLsbD 31 = true := (BitVec.msb_eq_getLsbD_last _).symm.trans (msb_withRun d)
    have h30 : (d ||| 0x80000000).getLsbD 30 = false := by
      rw [getLsbD_withRun d (by decide), ← Bool.toNat_eq_zero, ← bitsOf_one]
      exact hlf
    refine ⟨_, execPortEnable_reached hm ha hd d, State.portState_portCtlWrite_enable hoff hsafe h31 h30,
      (s.portOn_portCtlWrite p _).trans h31, ?_, fun j hj => s.portState_portCtlWrite_ne p _ (hne hj)⟩
    rw [State.fld_of_reg (s.reg_portCtlWrite p _ (portHead_ctl p) (portStat_ne_ctl p p).symm), State.maxlen_ctlTaken]
    exact fieldOf_congr fun i _ hi => getLsbD_withRun d (by omega)
  · have h31 : (d &&& 0x7FFFFFFF).getLsbD 31 = false := (BitVec.msb_eq_getLsbD_last _).symm.trans (msb_withoutRun d)
    obtain ⟨hlchg, hcnt⟩ := State.linkDowns_portCtlWrite_disable hon h31 hst hrx hout
    exact ⟨_, execPortDisable_reached hm ha hd d, State.portState_portCtlWrite_disable hon h31,
      (s.portOn_portCtlWrite p _).trans h31, hlchg, hcnt, fun j hj => s.portState_portCtlWrite_ne p _ (hne hj)⟩
  · have hd31 : (d ||| 0x40000000).getLsbD 31 = true := by
      rw [BitVec.getLsbD_or, Bool.toNat_eq_one.1 ((bitsOf_one d 31).symm.trans h31), Bool.true_or]
    have hd30 : (d ||| 0x40000000).getLsbD 30 = true := by
      rw [BitVec.getLsbD_or]
      exact Bool.or_true _
    refine ⟨_, execForceLf_reached hm ha hd d, State.portState_portCtlWrite_force hon hlf hd31 hd30, ?_,
      fun j hj => s.portState_portCtlWrite_ne p _ (hne hj)⟩
    rw [State.bit_of_reg (s.reg_portCtlWrite p _ (portHead_ctl p) (portStat_ne_ctl p p).symm),
      State.bit_ctlTaken _ _ _ (.inl rfl), hd30]
  · exact ⟨_, execLinkFault_up ha hon hd hst lf rf,
      (State.portState_portFall _ _ _).trans (State.restState_faulted hsafe hlf lf rf hon), State.since_portFall _ _ _,
      State.faults_portFall_faulted hst hrx hout,
      fun j hj => State.portState_of_reg ((State.reg_portFall_ne _ _ _ (portHead_stat j) (portStat_ne (hne hj))).trans
        (s.reg_faulted_ne p lf rf (portStat_ne (hne hj))))⟩
  · exact ⟨_, execPcsAligned_down ha hon hd hl hst, (s.portState_aligned p).trans hst,
      State.since_alignedSince _ _ _, s.aligned_aligned p, fun j hj => s.reg_setFld_ne hj _ _ _⟩
  · refine ⟨_, execLinkupDebounce_due hs hst hdue, (s.portState_lchg p _).trans ?_,
      State.bit_raiseBit _ _ _ (portHead_stat p).ne_hostStat (by decide),
      fun j hj => (State.reg_raiseBit_portStat _ p.isLt 31 hj).trans (s.reg_setFld_ne hj _ _ _)⟩
    rw [State.upState]
    split <;> rfl
  · exact ⟨_, execCtStepWrite_reached hm ha hd d, s.step_ctWrite p d, s.underrun_ctWrite p d,
      fun j hj => s.reg_ctWrite_ne p d hj⟩
  · exact ⟨_, (execOctetModeWrite_powered hm hoct d).trans
      (congrArg _ (State.octetWrite_taken hmode (State.octetOn_eq_false hoff))), s.mode_octetChanged k d,
      s.portState_octetChanged k d⟩
  · have hh : Reg.PORT_OCT (8 * k) ≠ Reg.HOST_STAT := (portHead_off _ (by decide)).ne_hostStat
    refine ⟨_, (execOctetModeWrite_powered hm hoct d).trans
      (congrArg _ (State.octetWrite_refused hmode (State.octetOn_of_port hai hon))),
      State.bit_raiseBit _ _ _ hh (by decide), ?_⟩
    exact (State.fld_raiseBit_disjoint _ hh (.inr (by decide))).trans (s.mode_merrAck k d _)

end

section
/-!
Serial lanes: what a port's fall leaves of them, their restart and training, their functions, the pattern generator and
checker, margin scans and the reference groups (R254 to R273).
-/

open Sys2Proof

namespace Sys2Proof

/-! ### Fields of a masked word -/

theorem getLsbD_of_covers {m : Word} {hi lo i : Nat} (hh : hi < 32) (h : m &&& fieldMask hi lo = fieldMask hi lo)
    (h1 : lo ≤ i) (h2 : i ≤ hi) : m.getLsbD i = true := by
  have hi' := congrArg (BitVec.getLsbD · i) h
  simp only [BitVec.getLsbD_and, getLsbD_fieldMask _ _ _ hh, h1, h2, and_self, decide_true, Bool.and_true] at hi'
  exact hi'

/-- A mask that covers a field keeps it. -/
theorem fieldOf_and_covers (d : Word) {m : Word} {hi lo : Nat} (hh : hi < 32)
    (h : m &&& fieldMask hi lo = fieldMask hi lo) : fieldOf (d &&& m) hi lo = fieldOf d hi lo :=
  fieldOf_congr fun i h1 h2 => by rw [BitVec.getLsbD_and, getLsbD_of_covers hh h h1 h2, Bool.and_true]

/-- Bits set in a word keep a field they lie outside: their complement covers it. -/
theorem fieldOf_or_off (d : Word) {m : Word} {hi lo : Nat} (hh : hi < 32)
    (h : ~~~m &&& fieldMask hi lo = fieldMask hi lo) : fieldOf (d ||| m) hi lo = fieldOf d hi lo :=
  fieldOf_congr fun i h1 h2 => by
    have hm := getLsbD_of_covers hh h h1 h2
    rw [BitVec.getLsbD_not, Bool.and_eq_true, Bool.not_eq_true'] at hm
    rw [BitVec.getLsbD_or, hm.2, Bool.or_false]

end Sys2Proof

namespace Sys2Proof.Machine

/-! ### Addresses of a lane's registers -/

theorem regPlace_lane {l o : Nat} (hl : l < 1040) (ho : o < 0x1000) :
    regPlace (0x0C000000 + 0x1000 * l + o) = (.lane, l, o) := by
  have hdiv : (0x0C000000 + 0x1000 * l + o - 0x0C000000) / 0x1000 = l := by omega
  have hmod : (0x0C000000 + 0x1000 * l + o - 0x0C000000) % 0x1000 = o := by omega
  rw [regPlace, if_neg (by omega), if_pos (by omega), hdiv, hmod]

/-- A lane's registers lie in one domain. -/
theorem domainOf_lane {l o : Nat} (hl : l < 1040) (ho : o < 0x1000) :
    domainOf (0x0C000000 + 0x1000 * l + o) = domainOf (Reg.LANE_CTL l) := by
  rw [domainOf, Reg.LANE_CTL, regPlace_lane hl ho, domainOf, regPlace_lane hl (by decide)]

/-- A lane's counters belong to no block with a saturation bit (R13). -/
theorem satBitOf_lane {l o : Nat} (hl : l < 1040) (ho : o < 0x1000) :
    satBitOf (0x0C000000 + 0x1000 * l + o) = none := by
  rw [satBitOf, regPlace_lane hl ho]

/-- A register of the lanes. -/
def laneReg (a : Nat) : Prop := 0x0C000000 ≤ a ∧ a < 0x0E000000

theorem laneReg_of_lt {l o : Nat} (hl : l < 1040) (ho : o < 0x1000) : laneReg (0x0C000000 + 0x1000 * l + o) := by
  rw [laneReg]
  omega

theorem laneReg_ctl {l : Nat} (hl : l < 1040) : laneReg (Reg.LANE_CTL l) := laneReg_of_lt hl (by decide)
theorem laneReg_cnt {l : Nat} (hl : l < 1040) : laneReg (Reg.LANE_CNT l) := laneReg_of_lt hl (by decide)
theorem laneReg_stat {l : Nat} (hl : l < 1040) : laneReg (Reg.LANE_STAT l) := laneReg_of_lt hl (by decide)

theorem laneReg.ne_low {a b : Nat} (h : laneReg a) (hb : b < 0x0C000000) : a ≠ b := by
  obtain ⟨h1, -⟩ := h
  omega

theorem laneReg.ne_high {a b : Nat} (h : laneReg a) (hb : 0x0E000000 ≤ b) : a ≠ b := by
  obtain ⟨-, h2⟩ := h
  omega

/-! ### The release of a frame takes no fault report away -/

theorem State.reports_le_doubleFree (s : State) (cell : Nat) :
    s.flt.reports.length ≤ (s.doubleFree cell).flt.reports.length := by
  rw [State.doubleFree, State.reportFault, State.flt_raiseBit, List.length_append]
  exact Nat.le_add_right _ _

theorem State.reports_le_releaseCells (s : State) (l : List Nat) :
    s.flt.reports.length ≤ (s.releaseCells l).flt.reports.length := by
  induction l generalizing s with
  | nil => exact Nat.le_refl _
  | cons c r ih =>
    rw [State.releaseCells]
    split
    · exact ih (s.setLink c 0)
    · exact (s.reports_le_doubleFree c).trans (ih _)

theorem State.reports_le_dropCells (s : State) (f : Nat) :
    s.flt.reports.length ≤ (s.dropCells f).flt.reports.length := by
  rw [State.dropCells]
  split
  · exact Nat.le_refl _
  · exact s.reports_le_releaseCells _

theorem State.reports_le_unref (s : State) (f : Nat) : s.flt.reports.length ≤ (s.unref f).flt.reports.length := by
  rw [State.unref]
  split
  · exact Nat.le_refl _
  · split
    · exact s.reports_le_doubleFree _
    · split
      · exact s.reports_le_dropCells f
      · exact Nat.le_refl _

theorem State.reports_le_settle (s : State) (f : Nat) : s.flt.reports.length ≤ (s.settle f).flt.reports.length := by
  rw [State.settle]
  split
  · exact Nat.le_refl _
  · split
    · exact (Nat.le_of_eq rfl).trans ((s.setFrame f _).reports_le_unref f)
    · exact Nat.le_refl _

/-! ### What a port's fall leaves of the lanes (R245, R264) -/

theorem State.lane_of_lanes {s t : State} (h : t.lanes = s.lanes) (l : Nat) : t.lane l = s.lane l := by
  rw [State.lane, h, State.lane]

/-- `t` has the lanes of `s` and their registers, and no fault report is gone. -/
structure LanesKept (s t : State) : Prop where
  lanes : t.lanes = s.lanes
  reg : ∀ a, laneReg a → t.reg a = s.reg a
  reports : s.flt.reports.length ≤ t.flt.reports.length

namespace LanesKept

theorem refl (s : State) : LanesKept s s := ⟨rfl, fun _ _ => rfl, Nat.le_refl _⟩

theorem trans {s t u : State} (h : LanesKept s t) (h' : LanesKept t u) : LanesKept s u :=
  ⟨h'.lanes.trans h.lanes, fun a ha => (h'.reg a ha).trans (h.reg a ha), h.reports.trans h'.reports⟩

theorem foldl {β : Type} {f : State → β → State} (hf : ∀ t x, LanesKept t (f t x)) (l : List β) (s : State) :
    LanesKept s (l.foldl f s) :=
  List.foldlRecOn (motive := LanesKept s) l f (refl s) fun t ht x _ => ht.trans (hf t x)

theorem of_apart {s t : State} (h : t.apart = s.apart) (hr : ∀ a, laneReg a → t.reg a = s.reg a) : LanesKept s t := by
  have hflt : t.flt = s.flt := (congrArg State.flt h : t.apart.flt = s.apart.flt)
  exact ⟨(congrArg State.lanes h : t.apart.lanes = s.apart.lanes), hr, by rw [hflt]⟩

theorem of_vatOnly {s t : State} (h : VatOnly s t) (hr : s.flt.reports.length ≤ t.flt.reports.length) :
    LanesKept s t :=
  ⟨(congrArg State.lanes h.off : t.offVat.lanes = s.offVat.lanes),
    fun a ha => h.reg a (offVatReg_of_le (Nat.le_trans (by decide) ha.1)), hr⟩

variable {s t : State} (h : LanesKept s t)
include h

theorem lane (l : Nat) : t.lane l = s.lane l := State.lane_of_lanes h.lanes l

theorem bit {a : Nat} (ha : laneReg a) (i : Nat) : t.bit a i = s.bit a i := State.bit_of_reg (h.reg a ha) i

end LanesKept

theorem State.lanesKept_unref (s : State) (f : Nat) : LanesKept s (s.unref f) :=
  .of_vatOnly (s.vatOnly_unref f) (s.reports_le_unref f)

theorem State.lanesKept_settle (s : State) (f : Nat) : LanesKept s (s.settle f) :=
  .of_vatOnly (s.vatOnly_settle f) (s.reports_le_settle f)

theorem State.lanesKept_portCount (s : State) (p k : Nat) : LanesKept s (s.portCount p k) := by
  refine .of_apart (s.apart_count _) fun a ha => s.reg_countFld_ne _ _ _ _ _ ?_ (ha.ne_low (by decide)) fun r i hs => ?_
  · exact ha.ne_high (portCnt_high p k)
  · obtain rfl | rfl | rfl | rfl := satBitOf_reg hs
    all_goals exact ha.ne_low (by decide)

/-- A write to a port's status register is none of a lane's. -/
theorem State.lanesKept_setPortStat (s : State) (p hi lo v : Nat) : LanesKept s (s.setFld (Reg.PORT_STAT p) hi lo v) :=
  .of_apart rfl fun _ ha => s.reg_setFld_ne (ha.ne_high (portHead_stat p).1) _ _ _

theorem State.lanesKept_raisePortStat (s : State) (p i : Nat) : LanesKept s (s.raiseBit (Reg.PORT_STAT p) i) :=
  .of_apart (s.apart_raiseBit _ _) fun _ ha =>
    s.reg_raiseBit_ne _ _ _ (ha.ne_high (portHead_stat p).1) (ha.ne_low (by decide))

theorem State.lanesKept_setPortState (s : State) (p dst : Nat) : LanesKept s (s.setPortState p dst) := by
  have hset := s.lanesKept_setPortStat p 23 20 dst
  have hraise := hset.trans (State.lanesKept_raisePortStat _ p 31)
  obtain e | e | e := s.setPortState_cases p dst <;> rw [e]
  · exact hset
  · exact hraise
  · exact hraise.trans (State.lanesKept_portCount _ p 11)

section
variable (s : State) (p : Nat)

theorem State.lanesKept_setPort (x : Port) : LanesKept s (s.setPort p x) := ⟨rfl, fun _ _ => rfl, Nat.le_refl _⟩

theorem State.lanesKept_setFrame (f : Nat) (x : Frame) : LanesKept s (s.setFrame f x) :=
  ⟨rfl, fun _ _ => rfl, Nat.le_refl _⟩

theorem State.lanesKept_endCopy (x : Copy) (lo hi ctr : Nat) : LanesKept s (s.endCopy p x lo hi ctr) := by
  rw [State.endCopy]
  split
  · exact ⟨rfl, fun _ _ => rfl, Nat.le_refl _⟩
  · refine LanesKept.trans (LanesKept.trans ?_ (State.lanesKept_portCount _ p ctr)) (State.lanesKept_unref _ _)
    exact ⟨rfl, fun _ _ => rfl, Nat.le_refl _⟩

theorem State.lanesKept_closeFrame (f : Nat) (err : Bool) : LanesKept s (s.closeFrame f err) := by
  rw [State.closeFrame]
  split
  · exact .refl s
  · exact (s.lanesKept_setFrame f _).trans (State.lanesKept_settle _ f)

theorem State.lanesKept_closeErr (f : Nat) : LanesKept s (s.closeErr f) := by
  have habort (t : State) : LanesKept t (t.abortCopies f) :=
    .foldl (fun u e => .foldl (fun v x => v.lanesKept_endCopy _ x _ _ _) _ u) _ t
  rw [State.closeErr]
  split
  · exact .refl s
  · refine LanesKept.trans (LanesKept.trans ?_ (State.lanesKept_closeFrame _ f true)) (habort _)
    split
    · exact s.lanesKept_setFrame f _
    · exact .refl s

theorem State.lanesKept_rxTrunc : LanesKept s (s.rxTrunc p) := by
  rw [State.rxTrunc]
  split
  · exact .refl s
  next x _ =>
    refine (s.lanesKept_setPort p { s.port p with rx := none }).trans ?_
    split
    · exact .refl _
    · refine LanesKept.trans ?_ (State.lanesKept_portCount _ p 4)
      rw [State.rxErr]
      split
      · exact State.lanesKept_closeErr _ _
      · exact .refl _

theorem State.lanesKept_portStop : LanesKept s (s.portStop p) :=
  (LanesKept.foldl (fun t x => t.lanesKept_endCopy p x 0 16384 9) _ s).trans (State.lanesKept_rxTrunc _ p)

theorem State.lanesKept_portFall (since : Option Nat) : LanesKept s (s.portFall p since) := by
  have hstop (c : Prop) [Decidable c] : LanesKept s (if c then s else s.portStop p) := by
    split
    · exact .refl s
    · exact s.lanesKept_portStop p
  exact ((hstop _).trans (State.lanesKept_setPort _ p _)).trans (State.lanesKept_setPortState _ p _)

theorem State.lanesKept_alignLost : LanesKept s (s.alignLost p) := by
  refine (s.lanesKept_setPortStat p 28 28 0).trans ?_
  unfold State.alignLost State.linkLost
  split
  · exact State.lanesKept_portFall _ p none
  · exact State.lanesKept_setPort _ p _

end

/-- The port on a lane that loses its alignment leaves the lanes as they are. -/
theorem State.lanesKept_lanePortLost (s : State) (l : Nat) : LanesKept s (s.lanePortLost l) := by
  rw [State.lanePortLost]
  split
  · exact s.lanesKept_alignLost _
  · exact .refl s

/-! ### Registers of one lane are distinct -/

theorem laneStat_ne {i j : Nat} (h : i ≠ j) : Reg.LANE_STAT i ≠ Reg.LANE_STAT j := by
  simp only [Reg.LANE_STAT]
  omega

theorem laneStat_ne_eye (i j : Nat) : Reg.LANE_STAT i ≠ Reg.LANE_EYE j := by
  simp only [Reg.LANE_STAT, Reg.LANE_EYE]
  omega

theorem laneStat_ne_pat (i j : Nat) : Reg.LANE_STAT i ≠ Reg.LANE_PAT j := by
  simp only [Reg.LANE_STAT, Reg.LANE_PAT]
  omega

theorem laneStat_ne_ctl (i j : Nat) : Reg.LANE_STAT i ≠ Reg.LANE_CTL j := by
  simp only [Reg.LANE_STAT, Reg.LANE_CTL]
  omega

theorem laneStat_ne_cnt (i j : Nat) : Reg.LANE_STAT i ≠ Reg.LANE_CNT j := by
  simp only [Reg.LANE_STAT, Reg.LANE_CNT]
  omega

theorem laneCnt_ne_eye (i j : Nat) : Reg.LANE_CNT i ≠ Reg.LANE_EYE j := by
  simp only [Reg.LANE_CNT, Reg.LANE_EYE]
  omega

theorem laneCtl_ne_eye (i j : Nat) : Reg.LANE_CTL i ≠ Reg.LANE_EYE j := by
  simp only [Reg.LANE_CTL, Reg.LANE_EYE]
  omega

theorem laneCtl_ne_pat (i j : Nat) : Reg.LANE_CTL i ≠ Reg.LANE_PAT j := by
  simp only [Reg.LANE_CTL, Reg.LANE_PAT]
  omega

/-! ### A lane's precoding and restart (R253, R256) -/

/-- The fields of LANE_STAT above the precoding bits stay. -/
theorem State.fld_lanePrecode (s : State) (l hi : Nat) {lo : Nat} (h : 21 < lo) :
    (s.lanePrecode l).fld (Reg.LANE_STAT l) hi lo = s.fld (Reg.LANE_STAT l) hi lo := by
  simp only [State.lanePrecode, State.setBit]
  rw [State.fld_setFld_disjoint _ _ _ _ _ _ _ (by decide) (.inr (by omega)),
    State.fld_setFld_disjoint _ _ _ _ _ _ _ (by decide) (.inr h)]

theorem State.laneState_of_reg {s t : State} {l : Nat} (h : t.reg (Reg.LANE_STAT l) = s.reg (Reg.LANE_STAT l)) :
    t.laneState l = s.laneState l := State.fld_of_reg h 27 24

/-- A bit of LANE_STAT outside STATE leaves the state. -/
theorem State.laneState_setBit (s : State) (l : Nat) {i : Nat} (b : Bool) (hi : i < 32) (h : i < 24 ∨ 27 < i) :
    (s.setBit (Reg.LANE_STAT l) i b).laneState l = s.laneState l :=
  s.fld_setFld_disjoint _ _ _ _ _ _ hi (by omega)

theorem State.laneState_setState (s : State) (l : Nat) {v : Nat} (hv : v < 16) :
    (s.setFld (Reg.LANE_STAT l) 27 24 v).laneState l = v :=
  (s.fld_setFld _ _ _ _ (by decide)).trans (Nat.mod_eq_of_lt hv)

theorem State.laneStart_lt (s : State) (l : Nat) : s.laneStart l < 16 := by
  rw [State.laneStart]
  repeat' split
  all_goals decide

theorem State.laneStart_stopped {s : State} {l : Nat} (h : (s.lane l).noClock = true) : s.laneStart l = 0 := if_pos h

theorem State.laneStart_pattern {s : State} {l : Nat} (hc : (s.lane l).noClock = false) (hp : s.lanePattern l = true) :
    s.laneStart l = if s.bit (Reg.LANE_PAT l) 31 then 4 else 0 := by
  rw [State.laneStart, hc, if_neg Bool.false_ne_true, if_pos hp]

/-- The state a lane begins in comes from its clock, LANE_CTL, LANE_PAT and the enables of what it carries. -/
theorem State.laneStart_congr {s t : State} {l : Nat} (hc : (t.lane l).noClock = (s.lane l).noClock)
    (hr : ∀ a, a ≠ Reg.LANE_STAT l → a ≠ Reg.LANE_CNT l → t.reg a = s.reg a) : t.laneStart l = s.laneStart l := by
  have hctl : t.reg (Reg.LANE_CTL l) = s.reg (Reg.LANE_CTL l) :=
    hr _ (laneStat_ne_ctl l l).symm (by simp only [Reg.LANE_CTL, Reg.LANE_CNT]; omega)
  have hpat : t.reg (Reg.LANE_PAT l) = s.reg (Reg.LANE_PAT l) :=
    hr _ (laneStat_ne_pat l l).symm (by simp only [Reg.LANE_PAT, Reg.LANE_CNT]; omega)
  have hpair : t.reg Reg.PAIR_CTL = s.reg Reg.PAIR_CTL :=
    hr _ (by simp only [Reg.PAIR_CTL, Reg.LANE_STAT]; omega) (by simp only [Reg.PAIR_CTL, Reg.LANE_CNT]; omega)
  have hused : t.laneUsed l = s.laneUsed l := by
    rw [State.laneUsed, State.laneUsed, State.bit_of_reg hpair]
    split
    next hl =>
      have hoct : t.octMode l = s.octMode l :=
        State.fld_of_reg (hr _ (by simp only [Reg.PORT_OCT, Reg.LANE_STAT]; omega)
          (by simp only [Reg.PORT_OCT, Reg.LANE_CNT]; omega)) 2 0
      have hport : t.lanePort l = s.lanePort l := by rw [State.lanePort, State.lanePort, hoct]
      rw [hport]
      exact State.bit_of_reg (hr _ (by simp only [Reg.PORT_CTL, Reg.LANE_STAT]; omega)
        (by simp only [Reg.PORT_CTL, Reg.LANE_CNT]; omega)) 31
    next => rfl
  have hfunc : t.lanePattern l = s.lanePattern l := by rw [State.lanePattern, State.fld_of_reg hctl, State.lanePattern]
  have hloop : t.laneLoop l = s.laneLoop l := State.fld_of_reg hctl 29 28
  rw [State.laneStart, hc, hfunc, hused, hloop, State.bit_of_reg hpat, State.laneStart]

/-- The state in which a lane has forgotten its training. -/
def State.laneCleared (s : State) (l : Nat) : State :=
  s.setLane l { s.lane l with trainAt := none, quietUntil := none, partnerPre := false, ownPre := false }

theorem State.noClock_laneCleared (s : State) (l j : Nat) :
    ((s.laneCleared l).lane j).noClock = (s.lane j).noClock := by
  rw [State.laneCleared, State.lane_setLane]
  split
  next hj => rw [hj]
  next => rfl

theorem State.laneStart_laneCleared (s : State) (l : Nat) : (s.laneCleared l).laneStart l = s.laneStart l :=
  State.laneStart_congr (s.noClock_laneCleared l l) fun _ _ _ => rfl

/-- A restart clears the lock and the eye and puts the lane in the state it begins in. -/
theorem State.laneRestart_eq (s : State) (l : Nat) : s.laneRestart l =
    ((((s.laneCleared l).setBit (Reg.LANE_STAT l) 22 false).setFld (Reg.LANE_STAT l) 27 24 (s.laneStart l)).setReg
      (Reg.LANE_EYE l) 0).lanePrecode l := by
  rw [← State.laneStart_laneCleared]
  rfl

section
variable (s : State) (l : Nat)

theorem State.lanes_lanePrecode : (s.lanePrecode l).lanes = s.lanes := rfl

/-- A restart keeps whether each lane has its clock. -/
theorem State.noClock_laneRestart (j : Nat) : ((s.laneRestart l).lane j).noClock = (s.lane j).noClock := by
  rw [← s.noClock_laneCleared l, State.laneRestart_eq, State.lane_of_lanes (State.lanes_lanePrecode _ l),
    State.lane_of_lanes (State.lanes_setReg _ _ _), State.lane_of_lanes (State.lanes_setFld _ _ _ _ _),
    State.lane_of_lanes (State.lanes_setBit _ _ _ _)]

theorem State.reg_laneRestart_ne {a : Nat} (h : a ≠ Reg.LANE_STAT l) (he : a ≠ Reg.LANE_EYE l) :
    (s.laneRestart l).reg a = s.reg a := by
  rw [State.laneRestart_eq, State.reg_lanePrecode _ _ h, State.reg_setReg_ne _ he, State.reg_setFld_ne _ h,
    State.reg_setBit_ne _ h, State.laneCleared, State.reg_setLane]

theorem State.laneState_laneRestart : (s.laneRestart l).laneState l = s.laneStart l := by
  rw [State.laneRestart_eq, State.laneState, State.fld_lanePrecode _ _ _ (by decide),
    State.fld_setReg_ne _ (laneStat_ne_eye l l)]
  exact State.laneState_setState _ l (s.laneStart_lt l)

theorem State.laneLocked_laneRestart : (s.laneRestart l).laneLocked l = false := by
  rw [State.laneRestart_eq, State.laneLocked, State.bit, State.fld_lanePrecode _ _ _ (by decide),
    State.fld_setReg_ne _ (laneStat_ne_eye l l), ← State.bit, State.bit_setFld_disjoint _ _ _ _ _ _ (by decide)
    (.inl (by decide)), State.bit_setBit _ _ _ _ (by decide)]

theorem State.flt_lanePrecode : (s.lanePrecode l).flt = s.flt := rfl

theorem State.flt_laneRestart : (s.laneRestart l).flt = s.flt := by
  rw [State.laneRestart_eq, State.flt_lanePrecode, State.flt_setReg, State.flt_setFld, State.flt_setBit]
  rfl

end

/-! ### A lane that restarts and whose port loses alignment (R254, R264, R265) -/

/-- A lane's restart with the loss of alignment of its port. -/
def State.laneRelink (s : State) (l : Nat) : State := (s.laneRestart l).lanePortLost l

section
variable (s : State) {l : Nat} (hl : l < 1040)
include hl

theorem State.laneState_laneRelink : (s.laneRelink l).laneState l = s.laneStart l :=
  (State.laneState_of_reg ((State.lanesKept_lanePortLost _ l).reg _ (laneReg_stat hl))).trans
    (s.laneState_laneRestart l)

theorem State.laneLocked_laneRelink : (s.laneRelink l).laneLocked l = false :=
  ((State.lanesKept_lanePortLost _ l).bit (laneReg_stat hl) 22).trans (s.laneLocked_laneRestart l)

omit hl in
theorem State.reg_laneRelink_ne {a : Nat} (ha : laneReg a) (h : a ≠ Reg.LANE_STAT l) (he : a ≠ Reg.LANE_EYE l) :
    (s.laneRelink l).reg a = s.reg a :=
  ((State.lanesKept_lanePortLost _ l).reg a ha).trans (s.reg_laneRestart_ne l h he)

end

theorem State.noClock_laneRelink (s : State) (l j : Nat) : ((s.laneRelink l).lane j).noClock = (s.lane j).noClock := by
  rw [State.laneRelink, (State.lanesKept_lanePortLost _ l).lane, State.noClock_laneRestart]

/-! ### A lane's registers are reached (R275) -/

theorem State.domOn_of_laneAlive {s : State} {l : Nat} (h : s.laneAlive l = true) :
    s.domOn (domainOf (Reg.LANE_CTL l)) = true := (Bool.and_eq_true_iff.1 h).1

theorem State.noClock_of_laneAlive {s : State} {l : Nat} (h : s.laneAlive l = true) : (s.lane l).noClock = false :=
  Bool.not_eq_true' _ ▸ (Bool.and_eq_true_iff.1 h).2

/-- A trusted master's write to a register of a powered lane is carried out. -/
theorem State.gated_lane {s : State} {m : Master} {l : Fin 1040} (hm : m.trusted = true) (ha : s.laneAlive l = true)
    {o : Nat} (ho : o < 0x1000) (run : State → State) :
    s.gated m (0x0C000000 + 0x1000 * l + o) true run = run s :=
  State.gated_trusted hm (by rw [domainOf_lane l.isLt ho]; exact State.domOn_of_laneAlive ha) _ _

section
variable {m : Master} {l : Fin 1040} {s : State} (hm : m.trusted = true) (ha : s.laneAlive l = true) (d : Word)
include hm ha

theorem execLaneTxfirWrite_reached : execLaneTxfirWrite m l d s = .next (s.txfirWrite l d) :=
  congrArg Host.Outcome.next (State.gated_lane hm ha (by decide) _)

theorem execLaneCtlWrite_reached : execLaneCtlWrite m l d s = .next (s.laneCtlWrite l d) :=
  congrArg Host.Outcome.next (State.gated_lane hm ha (by decide) _)

theorem execPatternWrite_reached : execPatternWrite m l d s = .next (s.lanePatWrite l (d &&& 0xFFFDFFFF)) :=
  congrArg Host.Outcome.next (State.gated_lane hm ha (by decide) _)

theorem execInjOne_reached : execInjOne m l d s = .next (s.lanePatWrite l (d ||| 0x20000)) :=
  congrArg Host.Outcome.next (State.gated_lane hm ha (by decide) _)

theorem execMarginScanStart_reached : execMarginScanStart m l d s = .next (s.margWrite l (d ||| 0x80000000)) :=
  congrArg Host.Outcome.next (State.gated_lane hm ha (by decide) _)

end

/-! ### Taps (R258, R260, R262) -/

theorem firTaps_masked (d : Word) : firTaps (d &&& 0x071F7F1F) = firTaps d := by
  simp only [firTaps]
  rw [fieldOf_and_covers d (by decide) (by decide), fieldOf_and_covers d (by decide) (by decide),
    fieldOf_and_covers d (by decide) (by decide)]

section
variable {s : State} {l : Nat} {d : Word}

theorem State.txfirWrite_training (h : s.laneState l = 2) : s.txfirWrite l d = s.setBit (Reg.LANE_STAT l) 31 true :=
  if_pos h

theorem State.txfirWrite_taken (h : s.laneState l ≠ 2) (hd : tapsOk (firTaps d) = true) :
    s.txfirWrite l d = s.setReg (Reg.LANE_TXFIR l) (d &&& 0x071F7F1F) := (if_neg h).trans (if_pos hd)

theorem State.txfirWrite_outside (h : s.laneState l ≠ 2) (hd : tapsOk (firTaps d) = false) :
    s.txfirWrite l d = s.setBit (Reg.LANE_STAT l) 28 true :=
  (if_neg h).trans (if_neg (by rw [hd]; exact Bool.false_ne_true))

end

/-- LANE_TXFIR is not LANE_STAT, where a refused write sets its flag. -/
theorem State.txfir_setStat (s : State) (l i : Nat) (b : Bool) :
    (s.setBit (Reg.LANE_STAT l) i b).reg (Reg.LANE_TXFIR l) = s.reg (Reg.LANE_TXFIR l) :=
  s.reg_setBit_ne (by simp only [Reg.LANE_TXFIR, Reg.LANE_STAT]; omega) _ _

theorem State.reg_setTaps_ne (s : State) {l a : Nat} (h : a ≠ Reg.LANE_TXFIR l) (t : Nat × Nat × Nat) :
    (s.setTaps l t).reg a = s.reg a := by
  rw [State.setTaps, State.reg_setFld_ne _ h, State.reg_setFld_ne _ h, State.reg_setFld_ne _ h]

/-- The taps read back, each cut to its field. -/
theorem State.firTaps_setTaps (s : State) (l : Nat) (t : Nat × Nat × Nat) :
    firTaps ((s.setTaps l t).reg (Reg.LANE_TXFIR l)) = (t.1 % 2 ^ 5, t.2.1 % 2 ^ 7, t.2.2 % 2 ^ 5) := by
  have hpre : (s.setTaps l t).fld (Reg.LANE_TXFIR l) 20 16 = t.1 % 2 ^ (20 + 1 - 16) := by
    rw [State.setTaps, State.fld_setFld_disjoint _ _ _ _ _ _ _ (by decide) (.inr (by decide)),
      State.fld_setFld_disjoint _ _ _ _ _ _ _ (by decide) (.inr (by decide)), State.fld_setFld _ _ _ _ _ (by decide)]
  have hmain : (s.setTaps l t).fld (Reg.LANE_TXFIR l) 14 8 = t.2.1 % 2 ^ (14 + 1 - 8) := by
    rw [State.setTaps, State.fld_setFld_disjoint _ _ _ _ _ _ _ (by decide) (.inr (by decide)),
      State.fld_setFld _ _ _ _ _ (by decide)]
  have hpost : (s.setTaps l t).fld (Reg.LANE_TXFIR l) 4 0 = t.2.2 % 2 ^ (4 + 1 - 0) := by
    rw [State.setTaps, State.fld_setFld _ _ _ _ _ (by decide)]
  exact congrArg₂ Prod.mk hpre (congrArg₂ Prod.mk hmain hpost)

/-- A valid training frame is answered while the lane trains. -/
theorem execTrainingFrameRx_training {s : State} {l : Fin 1040} (ha : s.laneAlive l = true) (h : s.laneState l = 2)
    (req : TrainReq) : execTrainingFrameRx l true req s = .next (s.trainAnswer l req) := by
  rw [execTrainingFrameRx, ha, h]
  rfl

/-! ### Training, lock and its loss (R259, R261, R264) -/

/-- A field of LANE_CNT counts and stops at all ones. -/
theorem State.countFld_laneCnt (s : State) {l : Nat} (hl : l < 1040) (hi lo n : Nat) :
    s.countFld (Reg.LANE_CNT l) hi lo n =
      s.setFld (Reg.LANE_CNT l) hi lo (min (2 ^ (hi + 1 - lo) - 1) (s.fld (Reg.LANE_CNT l) hi lo + n)) := by
  have hsat : satBitOf (Reg.LANE_CNT l) = none := satBitOf_lane hl (by decide)
  simp only [State.countFld, hsat, ite_self]

theorem State.fld_countFld_laneCnt (s : State) {l : Nat} (hl : l < 1040) {hi : Nat} (hh : hi < 32) (lo n : Nat) :
    (s.countFld (Reg.LANE_CNT l) hi lo n).fld (Reg.LANE_CNT l) hi lo =
      min (2 ^ (hi + 1 - lo) - 1) (s.fld (Reg.LANE_CNT l) hi lo + n) := by
  rw [s.countFld_laneCnt hl, State.fld_setFld _ _ _ _ _ hh]
  have := Nat.two_pow_pos (hi + 1 - lo)
  exact Nat.mod_eq_of_lt (by omega)

theorem State.reg_countFld_laneCnt_ne (s : State) {l a : Nat} (hl : l < 1040) (h : a ≠ Reg.LANE_CNT l) (hi lo n : Nat) :
    (s.countFld (Reg.LANE_CNT l) hi lo n).reg a = s.reg a := by
  rw [s.countFld_laneCnt hl, State.reg_setFld_ne _ h]

section
variable {s : State} {l : Fin 1040}

theorem execTrainingDone_training (h : s.laneState l = 2) (pre : Bool) :
    ∃ t, execTrainingDone l pre s = .next t ∧ t.laneState l = 3 ∧
      t.fld (Reg.LANE_CNT l) 31 16 = min 65535 (s.fld (Reg.LANE_CNT l) 31 16 + 1) := by
  have hne : Reg.LANE_CNT l ≠ Reg.LANE_STAT l := (laneStat_ne_cnt l l).symm
  refine ⟨_, if_pos h, ?_, ?_⟩
  · refine (State.laneState_of_reg (State.reg_countFld_laneCnt_ne _ l.isLt hne.symm 31 16 1)).trans ?_
    exact (State.fld_lanePrecode _ l 27 (by decide)).trans (State.laneState_setState _ l (by decide))
  · refine (State.fld_countFld_laneCnt _ l.isLt (by decide) 16 1).trans ?_
    rw [State.fld_of_reg ((State.reg_lanePrecode _ _ hne).trans (State.reg_setFld_ne _ hne _ _ _))]
    rfl

theorem execTrainingTimeout_due {a : Nat} (h : s.laneState l = 2) (hat : (s.lane l).trainAt = some a)
    (hdue : a + ms (oneIfZero (s.fld (Reg.LANE_CTL l) 15 0)) ≤ s.time.mono) :
    ∃ t, execTrainingTimeout l s = .next t ∧ t.laneState l = 0 ∧ t.bit (Reg.LANE_STAT l) 30 = true ∧
      (t.lane l).quietUntil = some (s.time.mono + ms 10) ∧
      t.fld (Reg.LANE_CNT l) 15 8 = min 255 (s.fld (Reg.LANE_CNT l) 15 8 + 1) := by
  have hne : Reg.LANE_CNT l ≠ Reg.LANE_STAT l := (laneStat_ne_cnt l l).symm
  rw [execTrainingTimeout, hat]
  refine ⟨_, if_pos ⟨h, hdue⟩, State.laneState_setState _ l (by decide), ?_, ?_, ?_⟩
  · rw [State.bit_setFld_disjoint _ _ _ _ _ _ (by decide) (.inr (by decide)),
      State.bit_of_reg (State.reg_countFld_laneCnt_ne _ l.isLt hne.symm 15 8 1), State.bit_setBit _ _ _ _ (by decide)]
  · rw [State.lane_of_lanes (State.lanes_setFld _ _ _ _ _), State.countFld_laneCnt _ l.isLt,
      State.lane_of_lanes (State.lanes_setFld _ _ _ _ _), State.lane_of_lanes (State.lanes_setBit _ _ _ _),
      State.lane_setLane, if_pos rfl]
  · rw [State.fld_setFld_ne _ hne, State.fld_countFld_laneCnt _ l.isLt (by decide),
      State.fld_of_reg (State.reg_setBit_ne _ hne _ _)]
    rfl

theorem execTrainingRestart_due {a : Nat} (hq : (s.lane l).quietUntil = some a) (hdue : a ≤ s.time.mono)
    (hlock : s.laneLocked l = false) :
    ∃ t, execTrainingRestart l s = .next t ∧ t.laneState l = s.laneStart l ∧ (t.lane l).quietUntil = none := by
  rw [execTrainingRestart, hq]
  have hlock' (x : Lane) : ¬ ((s.setLane l x).setFld (Reg.LANE_STAT l) 27 24 (s.laneStart l)).laneLocked l = true := by
    rw [State.laneLocked, State.bit_setFld_disjoint _ _ _ _ _ _ (by decide) (.inl (by decide)),
      State.bit_of_reg (State.reg_setLane _ _ _ _), ← State.laneLocked, hlock]
    exact Bool.false_ne_true
  refine ⟨_, (if_pos hdue).trans (congrArg _ (if_neg (hlock' _))), State.laneState_setState _ l (s.laneStart_lt l), ?_⟩
  rw [State.lane_of_lanes (State.lanes_setFld _ _ _ _ _), State.lane_setLane, if_pos rfl]

theorem execSignalLock_awaiting (ha : s.laneAlive l = true) (h : s.laneState l = 1)
    (hlt : s.bit (Reg.LANE_CTL l) 24 = true) : ∃ t, execSignalLock l s = .next t ∧ t.laneState l = 2 ∧
      t.laneLocked l = true ∧ (t.lane l).trainAt = some s.time.mono := by
  have hst : ((s.setBit (Reg.LANE_STAT l) 23 true).setBit (Reg.LANE_STAT l) 22 true).laneState l = 1 := by
    rw [State.laneState_setBit _ _ _ (by decide) (.inl (by decide)),
      State.laneState_setBit _ _ _ (by decide) (.inl (by decide)), h]
  have hctl :
      ((s.setBit (Reg.LANE_STAT l) 23 true).setBit (Reg.LANE_STAT l) 22 true).bit (Reg.LANE_CTL l) 24 = true := by
    have hne := (laneStat_ne_ctl l l).symm
    rw [State.bit_of_reg ((State.reg_setBit_ne _ hne _ _).trans (State.reg_setBit_ne _ hne _ _)), hlt]
  refine ⟨_, congrArg Host.Outcome.next ((if_pos ha).trans ((if_pos hst).trans (if_pos hctl))),
    State.laneState_setState _ l (by decide), ?_, ?_⟩
  · rw [State.laneLocked, State.bit_setFld_disjoint _ _ _ _ _ _ (by decide) (.inl (by decide)),
      State.bit_of_reg (State.reg_setLane _ _ _ _), State.bit_setBit _ _ _ _ (by decide)]
  · rw [State.lane_of_lanes (State.lanes_setFld _ _ _ _ _), State.lane_setLane, if_pos rfl]
    rfl

theorem execCdrLoss_data (h : s.laneState l = 3) : ∃ t, execCdrLoss l s = .next t ∧ t.laneLocked l = false ∧
    t.laneState l = s.laneStart l ∧
    t.fld (Reg.LANE_CNT l) 7 0 = min 255 (s.fld (Reg.LANE_CNT l) 7 0 + 1) := by
  have hne : Reg.LANE_CNT l ≠ Reg.LANE_STAT l := (laneStat_ne_cnt l l).symm
  refine ⟨((s.setBit (Reg.LANE_STAT l) 29 true).countFld (Reg.LANE_CNT l) 7 0 1).laneRelink l, if_pos h,
    State.laneLocked_laneRelink _ l.isLt, (State.laneState_laneRelink _ l.isLt).trans ?_, ?_⟩
  · refine State.laneStart_congr ?_ fun a hs hc => (State.reg_countFld_laneCnt_ne _ l.isLt hc 7 0 1).trans
      (s.reg_setBit_ne hs _ _)
    rw [State.countFld_laneCnt _ l.isLt, State.lane_of_lanes (State.lanes_setFld _ _ _ _ _),
      State.lane_of_lanes (State.lanes_setBit _ _ _ _)]
  · rw [State.fld_of_reg (State.reg_laneRelink_ne _ (laneReg_cnt l.isLt) hne (laneCnt_ne_eye l l)),
      State.fld_countFld_laneCnt _ l.isLt (by decide), State.fld_of_reg (State.reg_setBit_ne _ hne _ _)]
    rfl

end

/-! ### Function (R265) -/

/-- A lane that becomes a pattern lane restarts as one. -/
theorem execLaneCtlWrite_pattern {m : Master} {l : Fin 1040} {s : State} {d : Word} (hm : m.trusted = true)
    (ha : s.laneAlive l = true) (hd : fieldOf d 31 30 = 1) (h : s.lanePattern l = false) :
    ∃ t, execLaneCtlWrite m l d s = .next t ∧ t.reg (Reg.LANE_CTL l) = d &&& 0xFFE0FFFF ∧ t.laneLocked l = false ∧
      t.laneState l = if s.bit (Reg.LANE_PAT l) 31 then 4 else 0 := by
  have hpat : (s.setReg (Reg.LANE_CTL l) (d &&& 0xFFE0FFFF)).lanePattern l = true := by
    rw [State.lanePattern, State.fld, State.reg_setReg_self, fieldOf_and_covers d (by decide) (by decide), hd]
    rfl
  have hwrite : s.laneCtlWrite l d = (s.setReg (Reg.LANE_CTL l) (d &&& 0xFFE0FFFF)).laneRelink l := by
    rw [State.laneCtlWrite, hpat, h]
    exact if_neg fun he => Bool.false_ne_true (congrArg Prod.fst he)
  refine ⟨_, (execLaneCtlWrite_reached hm ha d).trans (congrArg _ hwrite), ?_, State.laneLocked_laneRelink _ l.isLt, ?_⟩
  · rw [State.reg_laneRelink_ne _ (laneReg_ctl l.isLt) (laneStat_ne_ctl l l).symm (laneCtl_ne_eye l l),
      State.reg_setReg_self]
  · have hclk : ((s.setReg (Reg.LANE_CTL l) (d &&& 0xFFE0FFFF)).lane l).noClock = false := by
      rw [State.lane_of_lanes (State.lanes_setReg _ _ _), State.noClock_of_laneAlive ha]
    rw [State.laneState_laneRelink _ l.isLt, State.laneStart_pattern hclk hpat,
      State.bit_of_reg (State.reg_setReg_ne _ (laneCtl_ne_pat l l).symm _)]

/-! ### Pattern generator (R269, R271) -/

/-- The word LANE_PAT takes: the written bits beside LOCK, and LOCKLOSS unless it is written 1. -/
def State.patWord (s : State) (l : Nat) (data : Word) : Word :=
  (data &&& 0xCFFC0000) ||| (s.reg (Reg.LANE_PAT l) &&& 0x30000000 &&& ~~~(data &&& 0x10000000))

/-- GEN_EN, CHK_EN, PATTERN and INJ_EXP read as written. -/
theorem State.getLsbD_patWord (s : State) (l : Nat) (data : Word) {i : Nat} (h : 18 ≤ i ∧ i ≤ 27 ∨ 30 ≤ i ∧ i ≤ 31) :
    (s.patWord l data).getLsbD i = data.getLsbD i := by
  have hw : (0xCFFC0000 : Word) = fieldMask 31 30 ||| fieldMask 27 18 := by decide
  have hlock : (0x30000000 : Word) = fieldMask 29 28 := by decide
  have hin : (fieldMask 31 30 ||| fieldMask 27 18).getLsbD i = true := by
    rw [getLsbD_or_fieldMask _ (by decide), getLsbD_fieldMask _ _ _ (by decide), ← Bool.decide_or]
    exact decide_eq_true (by omega)
  have hout : (fieldMask 29 28).getLsbD i = false := by
    rw [getLsbD_fieldMask _ _ _ (by decide)]
    exact decide_eq_false (by omega)
  rw [State.patWord, hw, hlock, BitVec.getLsbD_or, BitVec.getLsbD_and, BitVec.getLsbD_and, BitVec.getLsbD_and, hin,
    hout, Bool.and_false, Bool.false_and, Bool.and_true, Bool.or_false]

/-- LANE_PAT written; a checker that is turned off loses LOCK. -/
def State.patTaken (s : State) (l : Nat) (data : Word) : State :=
  let t := s.setReg (Reg.LANE_PAT l) (s.patWord l data)
  if fieldOf data 30 30 = 0 then t.setBit (Reg.LANE_PAT l) 29 false else t

/-- A lane whose generator starts as a written GEN_EN gives. -/
def Lane.seeded (x : Lane) (data : Word) (now at_ : Nat) : Lane :=
  { x with gen := if fieldOf data 31 31 = 1 then some now else none, injAt := at_ }

/-- The state in which a write of LANE_PAT has started or stopped the generator. -/
def State.patSeeded (s : State) (l : Nat) (data : Word) : State :=
  let t := s.patTaken l data
  t.setLane l ((t.lane l).seeded data t.time.mono (t.time.mono * t.laneRate l))

/-- The state in which the lane follows its generator. -/
def State.patStarted (s : State) (l : Nat) (data : Word) : State :=
  let t := s.patSeeded l data
  if t.lanePattern l then t.setFld (Reg.LANE_STAT l) 27 24 (t.laneStart l) else t

theorem State.lanePatWrite_eq (s : State) (l : Nat) (data : Word) : s.lanePatWrite l data =
    if fieldOf data 17 17 = 1 && (s.patStarted l data).laneSends l then (s.patStarted l data).injectBit l
    else s.patStarted l data := rfl

section
variable (s : State) (l : Nat) (data : Word)

theorem State.lanes_patTaken : (s.patTaken l data).lanes = s.lanes := by
  simp only [State.patTaken]
  split <;> rfl

theorem State.time_patTaken : (s.patTaken l data).time = s.time := by
  simp only [State.patTaken]
  split <;> rfl

theorem State.reg_patTaken_ne {a : Nat} (h : a ≠ Reg.LANE_PAT l) : (s.patTaken l data).reg a = s.reg a := by
  simp only [State.patTaken]
  split
  · rw [State.reg_setBit_ne _ h, State.reg_setReg_ne _ h]
  · exact s.reg_setReg_ne h _

/-- The written fields of LANE_PAT read back. -/
theorem State.fld_patTaken {hi lo : Nat} (h : 18 ≤ lo ∧ hi ≤ 27 ∨ 30 ≤ lo ∧ hi ≤ 31) :
    (s.patTaken l data).fld (Reg.LANE_PAT l) hi lo = fieldOf data hi lo := by
  have hset : (s.setReg (Reg.LANE_PAT l) (s.patWord l data)).fld (Reg.LANE_PAT l) hi lo = fieldOf data hi lo := by
    rw [State.fld, State.reg_setReg_self]
    exact fieldOf_congr fun i _ _ => s.getLsbD_patWord l data (by omega)
  simp only [State.patTaken]
  split
  · exact (State.fld_setFld_disjoint _ _ _ _ _ _ _ (by decide) (by omega)).trans hset
  · exact hset

theorem State.lane_patSeeded : (s.patSeeded l data).lane l =
    (s.lane l).seeded data s.time.mono (s.time.mono * (s.patTaken l data).laneRate l) := by
  simp only [State.patSeeded]
  rw [State.lane_setLane, if_pos rfl, State.lane_of_lanes (s.lanes_patTaken l data), State.time_patTaken]

theorem State.lane_patStarted : (s.patStarted l data).lane l = (s.patSeeded l data).lane l := by
  simp only [State.patStarted]
  split <;> rfl

/-- The generator's start writes LANE_STAT alone. -/
theorem State.reg_patStarted_ne {a : Nat} (h : a ≠ Reg.LANE_STAT l) :
    (s.patStarted l data).reg a = (s.patTaken l data).reg a := by
  simp only [State.patStarted]
  split
  · exact State.reg_setFld_ne _ h _ _ _
  · rfl

variable {s l data}

/-- A pattern lane with its clock sends once GEN_EN is written 1. -/
theorem State.laneSends_patStarted (hc : (s.lane l).noClock = false) (hp : s.lanePattern l = true)
    (hd : fieldOf data 31 31 = 1) : (s.patStarted l data).laneSends l = true := by
  have hgen : (s.patTaken l data).bit (Reg.LANE_PAT l) 31 = true := by
    rw [State.bit, State.fld_patTaken _ _ _ (.inr ⟨by decide, by decide⟩), hd]
    rfl
  have hpat : (s.patSeeded l data).lanePattern l = true := by
    rw [← hp]
    exact congrArg (· == 1) (State.fld_of_reg (s.reg_patTaken_ne l data (laneCtl_ne_pat l l)) 31 30)
  have hclk : ((s.patSeeded l data).lane l).noClock = false := by
    rw [State.lane_patSeeded]
    exact hc
  have hstart : (s.patSeeded l data).laneStart l = 4 := (State.laneStart_pattern hclk hpat).trans (if_pos hgen)
  have hst : (s.patStarted l data).laneState l = 4 := by
    simp only [State.patStarted, hpat, if_true, hstart]
    exact State.laneState_setState _ l (by decide)
  rw [State.laneSends, hst, State.bit_of_reg (s.reg_patStarted_ne l data (laneStat_ne_pat l l).symm), hgen]
  rfl

end

/-- An injected bit is one more inverted bit. -/
theorem State.lane_injectBit (s : State) (l : Nat) :
    (s.injectBit l).lane l = { s.lane l with inverted := (s.lane l).inverted + 1 } := by
  simp only [State.injectBit]
  split
  all_goals exact (s.lane_setLane l l _).trans (if_pos rfl)

section
variable {m : Master} {l : Fin 1040} {s : State} {d : Word}

theorem execPatternWrite_taken (hm : m.trusted = true) (ha : s.laneAlive l = true) :
    ∃ t, execPatternWrite m l d s = .next t ∧ t.fld (Reg.LANE_PAT l) 27 18 = fieldOf d 27 18 ∧
      (t.lane l).gen = (if fieldOf d 31 31 = 1 then some s.time.mono else none) ∧
      (t.lane l).inverted = (s.lane l).inverted := by
  have hone : fieldOf (d &&& 0xFFFDFFFF) 17 17 = 0 := by
    have h17 : (0xFFFDFFFF : Word).getLsbD 17 = false := by decide
    rw [bitsOf_one, BitVec.getLsbD_and, h17, Bool.and_false]
    rfl
  have hwrite : s.lanePatWrite l (d &&& 0xFFFDFFFF) = s.patStarted l (d &&& 0xFFFDFFFF) := by
    rw [State.lanePatWrite_eq, hone]
    rfl
  refine ⟨_, (execPatternWrite_reached hm ha d).trans (congrArg _ hwrite), ?_, ?_, ?_⟩
  · rw [State.fld_of_reg (s.reg_patStarted_ne l _ (laneStat_ne_pat l l).symm),
      State.fld_patTaken _ _ _ (.inl ⟨by decide, by decide⟩), fieldOf_and_covers d (by decide) (by decide)]
  · rw [State.lane_patStarted, State.lane_patSeeded, Lane.seeded, fieldOf_and_covers d (by decide) (by decide)]
  · rw [State.lane_patStarted, State.lane_patSeeded, Lane.seeded]

theorem execInjOne_sends (hm : m.trusted = true) (ha : s.laneAlive l = true) (hp : s.lanePattern l = true)
    (hd : fieldOf d 31 31 = 1) :
    ∃ t, execInjOne m l d s = .next t ∧ (t.lane l).inverted = (s.lane l).inverted + 1 := by
  have hone : fieldOf (d ||| 0x20000) 17 17 = 1 := by
    have h17 : (0x20000 : Word).getLsbD 17 = true := by decide
    rw [bitsOf_one, BitVec.getLsbD_or, h17, Bool.or_true]
    rfl
  have hsends : (s.patStarted l (d ||| 0x20000)).laneSends l = true :=
    State.laneSends_patStarted (State.noClock_of_laneAlive ha) hp
      ((fieldOf_or_off d (by decide) (by decide)).trans hd)
  have hwrite : s.lanePatWrite l (d ||| 0x20000) = (s.patStarted l (d ||| 0x20000)).injectBit l := by
    rw [State.lanePatWrite_eq, hone, hsends]
    rfl
  refine ⟨_, (execInjOne_reached hm ha d).trans (congrArg _ hwrite), ?_⟩
  rw [State.lane_injectBit, State.lane_patStarted, State.lane_patSeeded, Lane.seeded]

theorem execInjectPeriodic_due {e : Nat} (hs : s.laneSends l = true)
    (he : injExp (s.fld (Reg.LANE_PAT l) 23 18) = some e)
    (hdue : (s.lane l).injAt + 4 * 2 ^ e ≤ s.time.mono * s.laneRate l) :
    ∃ t, execInjectPeriodic l s = .next t ∧ (t.lane l).inverted = (s.lane l).inverted + 1 ∧
      (t.lane l).injAt = (s.lane l).injAt + 4 * 2 ^ e := by
  have hcond : (s.laneSends l && decide ((s.lane l).injAt + 4 * 2 ^ e ≤ s.time.mono * s.laneRate l)) = true := by
    rw [hs, decide_eq_true hdue]
    rfl
  rw [execInjectPeriodic, he]
  refine ⟨_, if_pos hcond, ?_⟩
  rw [State.lane_injectBit, State.lane_setLane, if_pos rfl]
  exact ⟨rfl, rfl⟩

/-! ### Pattern checker (R270) -/

theorem execCheckerLock_runs (h : s.laneChecks l = true) : ∃ t, execCheckerLock l s = .next t ∧
    t.bit (Reg.LANE_PAT l) 29 = true ∧ ∀ b, b ≠ Reg.LANE_PAT l → t.reg b = s.reg b :=
  ⟨_, congrArg Host.Outcome.next (if_pos h), s.bit_setBit _ 29 true (by decide), fun _ hb => s.reg_setBit_ne hb _ _⟩

/-- A 64-bit counter of two registers: what is counted, stopping at all ones (R13). -/
theorem State.toNat_countWide (s : State) {lo hi : Nat} (h : lo ≠ hi) (n : Nat) :
    ((s.countWide lo hi n).reg lo).toNat + 2 ^ 32 * ((s.countWide lo hi n).reg hi).toNat =
      min (2 ^ 64 - 1) ((s.reg lo).toNat + 2 ^ 32 * (s.reg hi).toNat + n) := by
  simp only [State.countWide]
  rw [State.reg_setReg_self, State.reg_setReg_ne _ h, State.reg_setReg_self, BitVec.toNat_ofNat, BitVec.toNat_ofNat]
  omega

theorem execCheckerLockLoss_locked (er : Nat) (h : s.laneChecks l = true) (hl : s.bit (Reg.LANE_PAT l) 29 = true) :
    ∃ t, execCheckerLockLoss l er s = .next t ∧ t.bit (Reg.LANE_PAT l) 29 = false ∧
      t.bit (Reg.LANE_PAT l) 28 = true ∧
      (t.reg (Reg.LANE_PCNT l 1)).toNat + 2 ^ 32 * (t.reg (Reg.LANE_PCNT_HI l 1)).toNat = min (2 ^ 64 - 1)
        ((s.reg (Reg.LANE_PCNT l 1)).toNat + 2 ^ 32 * (s.reg (Reg.LANE_PCNT_HI l 1)).toNat + er) := by
  have hlo : Reg.LANE_PCNT l 1 ≠ Reg.LANE_PAT l := by
    simp only [Reg.LANE_PCNT, Reg.LANE_PAT]
    omega
  have hhi : Reg.LANE_PCNT_HI l 1 ≠ Reg.LANE_PAT l := by
    simp only [Reg.LANE_PCNT_HI, Reg.LANE_PAT]
    omega
  have hcond : (s.laneChecks l && s.bit (Reg.LANE_PAT l) 29) = true := by rw [h, hl]; rfl
  refine ⟨_, if_pos hcond, ?_, State.bit_setBit _ _ _ _ (by decide), ?_⟩
  · rw [State.bit_setBit_ne _ _ _ _ _ (by decide) (by decide), State.bit_setBit _ _ _ _ (by decide)]
  · rw [State.reg_setBit_ne _ hlo, State.reg_setBit_ne _ hlo, State.reg_setBit_ne _ hhi, State.reg_setBit_ne _ hhi]
    exact s.toNat_countWide (by simp only [Reg.LANE_PCNT, Reg.LANE_PCNT_HI]; omega) er

/-! ### Margin scans and the eye (R272, R273) -/

/-- LANE_MARG written: the written fields beside BUSY, and MERR unless it is written 1. -/
def State.margTaken (s : State) (l : Nat) (data : Word) : State :=
  s.setReg (Reg.LANE_MARG l)
    ((data &&& 0x1FC0FF00) ||| (s.reg (Reg.LANE_MARG l) &&& 0x60000000 &&& ~~~(data &&& 0x20000000)))

theorem State.margWrite_start {data : Word} (hd : fieldOf data 31 31 = 1) (l : Nat) : s.margWrite l data =
    if (s.margTaken l data).bit (Reg.LANE_MARG l) 30 || (s.margTaken l data).laneState l == 2 ||
        !(s.margTaken l data).laneLocked l then (s.margTaken l data).setBit (Reg.LANE_MARG l) 29 true
    else (s.margTaken l data).setBit (Reg.LANE_MARG l) 30 true :=
  if_neg (by rw [hd]; decide)

/-- A write leaves BUSY. -/
theorem State.busy_margTaken (s : State) (l : Nat) (data : Word) :
    (s.margTaken l data).bit (Reg.LANE_MARG l) 30 = s.bit (Reg.LANE_MARG l) 30 := by
  have hw : (0x1FC0FF00 : Word).getLsbD 30 = false := by decide
  have hkept : (0x60000000 : Word).getLsbD 30 = true := by decide
  have hack : (0x20000000 : Word).getLsbD 30 = false := by decide
  rw [State.margTaken, State.bit_setReg, if_pos rfl, State.bit_eq, BitVec.getLsbD_or, BitVec.getLsbD_and,
    BitVec.getLsbD_and, BitVec.getLsbD_and, BitVec.getLsbD_not, BitVec.getLsbD_and, hw, hkept, hack, Bool.and_false,
    Bool.false_or, Bool.and_true]
  exact Bool.and_true _

theorem State.laneStat_margTaken (s : State) (l : Nat) (data : Word) :
    (s.margTaken l data).reg (Reg.LANE_STAT l) = s.reg (Reg.LANE_STAT l) :=
  s.reg_setReg_ne (by simp only [Reg.LANE_STAT, Reg.LANE_MARG]; omega) _

theorem startBit_set (d : Word) : fieldOf (d ||| 0x80000000) 31 31 = 1 := by
  rw [bitsOf_one, ← BitVec.msb_eq_getLsbD_last, msb_withRun]
  rfl

theorem execMarginScanStart_locked (hm : m.trusted = true) (ha : s.laneAlive l = true)
    (hb : s.bit (Reg.LANE_MARG l) 30 = false) (hst : s.laneState l = 3) (hl : s.laneLocked l = true) :
    ∃ t, execMarginScanStart m l d s = .next t ∧ t.bit (Reg.LANE_MARG l) 30 = true ∧
      ∀ b, b ≠ Reg.LANE_MARG l → t.reg b = s.reg b := by
  have hstat := s.laneStat_margTaken l (d ||| 0x80000000)
  have hwrite : s.margWrite l (d ||| 0x80000000) =
      (s.margTaken l (d ||| 0x80000000)).setBit (Reg.LANE_MARG l) 30 true := by
    rw [State.margWrite_start (startBit_set d), State.busy_margTaken, hb, State.laneState_of_reg hstat, hst,
      State.laneLocked, State.bit_of_reg hstat, ← State.laneLocked, hl]
    rfl
  exact ⟨_, (execMarginScanStart_reached hm ha d).trans (congrArg _ hwrite), State.bit_setBit _ _ _ _ (by decide),
    fun b hb => (State.reg_setBit_ne _ hb _ _).trans (s.reg_setReg_ne hb _)⟩

theorem execMarginScanStart_unlocked (hm : m.trusted = true) (ha : s.laneAlive l = true)
    (hl : s.laneLocked l = false) :
    ∃ t, execMarginScanStart m l d s = .next t ∧ t.bit (Reg.LANE_MARG l) 29 = true := by
  have hwrite : s.margWrite l (d ||| 0x80000000) =
      (s.margTaken l (d ||| 0x80000000)).setBit (Reg.LANE_MARG l) 29 true := by
    rw [State.margWrite_start (startBit_set d), State.laneLocked, State.bit_of_reg (s.laneStat_margTaken l _),
      ← State.laneLocked, hl, Bool.not_false, Bool.or_true, if_pos rfl]
  exact ⟨_, (execMarginScanStart_reached hm ha d).trans (congrArg _ hwrite), State.bit_setBit _ _ _ _ (by decide)⟩

theorem execMarginScanDone_busy (h : s.bit (Reg.LANE_MARG l) 30 = true) : ∃ t, execMarginScanDone l d s = .next t ∧
    t.reg (Reg.LANE_MARG_RES l) = d ∧ t.bit (Reg.LANE_MARG l) 30 = false ∧
    ∀ b, b ≠ Reg.LANE_MARG l → b ≠ Reg.LANE_MARG_RES l → t.reg b = s.reg b := by
  have hne : Reg.LANE_MARG_RES l ≠ Reg.LANE_MARG l := by
    simp only [Reg.LANE_MARG_RES, Reg.LANE_MARG]
    omega
  exact ⟨_, if_pos h, (State.reg_setBit_ne _ hne _ _).trans (s.reg_setReg_self _ d),
    State.bit_setBit _ _ _ _ (by decide), fun b hb hr => (State.reg_setBit_ne _ hb _ _).trans (s.reg_setReg_ne hr d)⟩

theorem execEyeRefresh_data (hl : s.laneLocked l = true) (hst : s.laneState l = 3) :
    ∃ t, execEyeRefresh l d s = .next t ∧ t.reg (Reg.LANE_EYE l) = d ∧
      ∀ b, b ≠ Reg.LANE_EYE l → t.reg b = s.reg b := by
  have hcond : (s.laneLocked l && (s.laneState l == 3 || s.lanePattern l)) = true := by rw [hl, hst]; rfl
  exact ⟨_, congrArg Host.Outcome.next (if_pos hcond), s.reg_setReg_self _ d, fun b hb => s.reg_setReg_ne hb d⟩

end

/-! ### Reference groups (R254) -/

/-- A lane that has no clock is squelched. -/
structure LaneStopped (l : Nat) (s : State) : Prop where
  noClock : (s.lane l).noClock = true
  squelched : s.laneState l = 0

theorem State.laneStop_eq (s : State) (j : Nat) :
    s.laneStop j = (s.setLane j { s.lane j with noClock := true }).laneRelink j := rfl

theorem State.laneStopped_laneStop (s : State) {l : Nat} (hl : l < 1040) : LaneStopped l (s.laneStop l) := by
  have hclk : ((s.setLane l { s.lane l with noClock := true }).lane l).noClock = true := by
    rw [State.lane_setLane, if_pos rfl]
  exact ⟨(State.noClock_laneRelink _ l l).trans hclk,
    (State.laneState_laneRelink _ hl).trans (State.laneStart_stopped hclk)⟩

/-- The stop of another lane leaves a stopped lane so. -/
theorem LaneStopped.laneStop {s : State} {l : Nat} (hl : l < 1040) (h : LaneStopped l s) {j : Nat} (hj : l ≠ j) :
    LaneStopped l (s.laneStop j) := by
  refine ⟨?_, ?_⟩
  · rw [State.laneStop_eq, State.noClock_laneRelink, State.lane_setLane, if_neg hj, h.noClock]
  · rw [State.laneStop_eq, State.laneState_of_reg (State.reg_laneRelink_ne _ (laneReg_stat hl) (laneStat_ne hj)
      (laneStat_ne_eye l j)), State.laneState_of_reg (State.reg_setLane _ _ _ _), h.squelched]

theorem State.reports_le_laneStop (s : State) (j : Nat) : s.flt.reports.length ≤ (s.laneStop j).flt.reports.length := by
  have h := (State.lanesKept_lanePortLost ((s.setLane j { s.lane j with noClock := true }).laneRestart j) j).reports
  rw [State.flt_laneRestart, State.flt_setLane] at h
  exact h

/-- The lanes `l`, … of a group stop. -/
def State.lanesStop (s : State) (l n : Nat) : State := (List.range n).foldl (fun t i => t.laneStop (l + i)) s

theorem State.laneStopped_lanesStop (s : State) {l n : Nat} (hl : l < 1040) :
    LaneStopped l (s.lanesStop l (n + 1)) := by
  rw [State.lanesStop, List.range_succ_eq_map, List.foldl_cons, Nat.add_zero]
  refine List.foldlRecOn (motive := LaneStopped l) _ _ (s.laneStopped_laneStop hl) fun t ht i hi => ?_
  obtain ⟨k, -, rfl⟩ := List.mem_map.1 hi
  exact ht.laneStop hl (by omega)

theorem State.reports_le_lanesStop (s : State) (l n : Nat) :
    s.flt.reports.length ≤ (s.lanesStop l n).flt.reports.length :=
  List.foldlRecOn (motive := fun t : State => s.flt.reports.length ≤ t.flt.reports.length) _ _ (Nat.le_refl _)
    fun t ht _ _ => ht.trans (t.reports_le_laneStop _)

/-- The lanes `l`, … of a group have their clock again and restart. -/
def State.lanesClocked (s : State) (l n : Nat) : State :=
  (List.range n).foldl (fun t i => (t.setLane (l + i) { t.lane (l + i) with noClock := false }).laneRestart (l + i)) s

theorem State.releaseScope_lanes (s : State) (l n : Nat) : s.releaseScope (.lanes l n) = s.lanesClocked l n := rfl

theorem State.flt_lanesClocked (s : State) (l n : Nat) : (s.lanesClocked l n).flt = s.flt :=
  List.foldlRecOn (motive := fun t : State => t.flt = s.flt) _ _ rfl fun t ht i _ => by
    rw [State.flt_laneRestart, State.flt_setLane, ht]

theorem State.clock_lanesClocked (s : State) (l n : Nat) : ((s.lanesClocked l (n + 1)).lane l).noClock = false := by
  rw [State.lanesClocked, List.range_succ_eq_map, List.foldl_cons, Nat.add_zero]
  refine List.foldlRecOn (motive := fun t : State => (t.lane l).noClock = false) _ _ ?_ fun t ht i hi => ?_
  · rw [State.noClock_laneRestart, State.lane_setLane, if_pos rfl]
  · obtain ⟨k, -, rfl⟩ := List.mem_map.1 hi
    rw [State.noClock_laneRestart, State.lane_setLane, if_neg (by omega), ht]

/-- A group has a first lane, which is one of the part's. -/
theorem groupLanes_first (g : Fin 33) : (groupLanes g).1 < 1040 ∧ ∃ n, (groupLanes g).2 = n + 1 := by
  rw [groupLanes]
  split
  · exact ⟨by omega, 31, rfl⟩
  · exact ⟨by decide, 15, rfl⟩

section
variable {g : Fin 33} {s : State} (hd : s.domOn (domainOf (Reg.LANE_CTL (groupLanes g).1)) = true)
include hd

theorem execRefclkLost_powered : ∃ t, execRefclkLost g s = .next t ∧ (t.lane (groupLanes g).1).noClock = true ∧
    t.laneState (groupLanes g).1 = 0 ∧ s.flt.reports.length < t.flt.reports.length := by
  obtain ⟨hl, n, hn⟩ := groupLanes_first g
  have hstop : LaneStopped (groupLanes g).1 (s.lanesStop (groupLanes g).1 (groupLanes g).2) := by
    rw [hn]
    exact s.laneStopped_lanesStop hl
  refine ⟨(s.lanesStop (groupLanes g).1 (groupLanes g).2).reportFault (srcId 21 (1040 + g.val)) .cont .logic 0 0,
    if_pos hd, hstop.noClock, hstop.squelched, ?_⟩
  rw [State.reportFault, List.length_append]
  exact Nat.lt_succ_of_le (s.reports_le_lanesStop _ _)

theorem execPllLock_noRecord (hr : s.flt.recs = []) : ∃ t, execPllLock g s = .next t ∧
    (t.lane (groupLanes g).1).noClock = false ∧ t.flt = s.flt := by
  obtain ⟨-, n, hn⟩ := groupLanes_first g
  have hflt := s.flt_lanesClocked (groupLanes g).1 (groupLanes g).2
  have hclk : ((s.lanesClocked (groupLanes g).1 (groupLanes g).2).lane (groupLanes g).1).noClock = false := by
    rw [hn]
    exact s.clock_lanesClocked _ n
  have hfind (p : FltRec → Bool) : (s.lanesClocked (groupLanes g).1 (groupLanes g).2).findRec p = none := by
    rw [State.findRec, hflt, hr]
    rfl
  refine ⟨_, ?_, hclk, hflt⟩
  simp only [execPllLock, hd, if_true, State.releaseScope_lanes, hfind]

end

end Sys2Proof.Machine

open Sys2Proof.Machine

/-- Settles O53: each command at its branch; a lane's restart is read through its port's loss of alignment, which leaves
the lanes and their registers alone. -/
theorem lanesTrainAndTest : Obligations.LanesTrainAndTest := by
  intro m l g d e a er s hm ha
  refine ⟨fun hst hd => ?_, fun hst hd => ?_, fun hst => ⟨?_, ?_, execTrainingDone_training hst false,
    execTrainingTimeout_due hst⟩, execTrainingRestart_due, execSignalLock_awaiting ha, execCdrLoss_data,
    execLaneCtlWrite_pattern hm ha, execPatternWrite_taken hm ha, fun _ => execInjOne_sends hm ha,
    execInjectPeriodic_due, fun h => ⟨execCheckerLock_runs h, execCheckerLockLoss_locked er h⟩,
    execMarginScanStart_locked hm ha, execMarginScanStart_unlocked hm ha, execMarginScanDone_busy, execEyeRefresh_data,
    fun hd => ⟨execRefclkLost_powered hd, execPllLock_noRecord hd⟩⟩
  · refine ⟨_, (execLaneTxfirWrite_reached hm ha d).trans (congrArg _ (State.txfirWrite_taken hst hd)), ?_,
      fun b hb => s.reg_setReg_ne hb _⟩
    rw [State.reg_setReg_self, firTaps_masked]
  · exact ⟨_, (execLaneTxfirWrite_reached hm ha d).trans (congrArg _ (State.txfirWrite_outside hst hd)),
      s.bit_setBit _ _ _ (by decide), s.txfir_setStat l 28 true⟩
  · exact ⟨_, (execLaneTxfirWrite_reached hm ha d).trans (congrArg _ (State.txfirWrite_training hst)),
      s.bit_setBit _ _ _ (by decide), s.txfir_setStat l 31 true⟩
  · exact ⟨_, execTrainingFrameRx_training ha hst (.preset 2), s.firTaps_setTaps l (4, 52, 8), rfl,
      fun b hb => s.reg_setTaps_ne hb (4, 52, 8)⟩

end

section
/-!
Flow contexts where they are held, software's access to them, the clear and the rates (R276 to R278, R281).
-/

open Sys2Proof

namespace Sys2Proof

/-- A byte of an overlaid string: the new one where the overlay reaches within the string. -/
theorem getD_overlay (l new : List Byte) (off j : Nat) : (overlay l off new).getD j 0 =
    if off ≤ j ∧ j < off + new.length ∧ j < l.length then new.getD (j - off) 0 else l.getD j 0 := by
  simp only [overlay, List.getD_eq_getElem?_getD]
  grind

@[simp] theorem length_overlay (l new : List Byte) (off : Nat) : (overlay l off new).length = l.length := by
  simp only [overlay, List.length_append, List.length_take, List.length_drop]
  omega

end Sys2Proof

namespace Sys2Proof.Machine

/-! ### The bytes of a context -/

/-- PEER lies in byte 0; every other byte stays (R350). -/
theorem getD_clearPeer (b : List Byte) {j : Nat} (h : j ≠ 0) : (clearPeer b).getD j 0 = b.getD j 0 := by
  rw [clearPeer, getD_overlay, if_neg]
  simp only [List.length_singleton]
  omega

/-- A word above the first reads the same without PEER. -/
theorem leAt_clearPeer (b : List Byte) {w : Nat} (h : w ≠ 0) : leAt (clearPeer b) (4 * w) 4 = leAt b (4 * w) 4 := by
  rw [leAt, leAt, bytesAt_eq, bytesAt_eq]
  exact congrArg leNat (List.map_congr_left fun j _ => getD_clearPeer b (by omega))

/-! ### A context in its cache line or in HBM (R277) -/

/-- A line found for a context is listed under its number and holds that context. -/
theorem State.flowLine_some {s : State} {i k : Nat} {l : FlowLine} (h : s.flowLine i = some (k, l)) :
    Store.at? s.flow.cache k = some l ∧ l.index = i := by
  obtain ⟨k', -, hk⟩ := List.exists_of_findSome?_eq_some h
  split at hk
  · split at hk
    · cases hk
      exact ⟨‹_›, ‹_›⟩
    · cases hk
  · cases hk

theorem State.flowGet_of_line {s : State} {i k : Nat} {l : FlowLine} (h : s.flowLine i = some (k, l)) :
    s.flowGet i = l.bytes := by
  rw [State.flowGet, h]

theorem State.flowGet_of_none {s : State} {i : Nat} (h : s.flowLine i = none) : s.flowGet i = s.flowHbm i := by
  rw [State.flowGet, h]

theorem State.flowLine_of_flow {s t : State} (h : t.flow.cache = s.flow.cache) (i : Nat) :
    t.flowLine i = s.flowLine i := by
  rw [State.flowLine, h, State.flowLine]

theorem State.flowGet_of_flow {s t : State} (h : t.flow = s.flow) (i : Nat) : t.flowGet i = s.flowGet i := by
  rw [State.flowGet, State.flowHbm, State.flowLine_of_flow (congrArg Flow.cache h), h, State.flowGet, State.flowHbm]

/-- A line replaced by one of the same context is found where it was. -/
theorem State.flowLine_setFlowLine {s : State} {k : Nat} {l l' : FlowLine} (hl : Store.at? s.flow.cache k = some l)
    (hi : l'.index = l.index) (j : Nat) : (s.setFlowLine k l').flowLine j =
      (s.flowLine j).map fun e => if e.1 = k then (k, { l' with used := s.flow.nextUse }) else e := by
  rw [State.flowLine, State.flowLine, List.map_findSome?]
  refine congrArg (List.findSome? · _) (funext fun k' => ?_)
  simp only [Function.comp_apply, State.setFlowLine, Store.at?_set]
  by_cases hk : k' = k
  · subst hk
    simp only [if_true, hl, hi]
    split <;> simp_all
  · simp only [if_neg hk]
    split
    · split <;> simp [hk]
    · rfl

/-- A line rewritten: its context reads the new bytes, every other context as before. -/
theorem State.flowGet_setFlowLine {s : State} {i k : Nat} {l l' : FlowLine} (h : s.flowLine i = some (k, l))
    (hi : l'.index = i) (j : Nat) : (s.setFlowLine k l').flowGet j = if j = i then l'.bytes else s.flowGet j := by
  obtain ⟨hk, hl⟩ := State.flowLine_some h
  have hline := State.flowLine_setFlowLine hk (hi.trans hl.symm) j
  by_cases hj : j = i
  · subst hj
    rw [h, Option.map_some, if_pos rfl] at hline
    rw [State.flowGet_of_line hline, if_pos rfl]
  · rw [if_neg hj]
    cases hjl : s.flowLine j with
    | none =>
      rw [hjl] at hline
      rw [State.flowGet_of_none hline, State.flowGet_of_none hjl]
      rfl
    | some e =>
      obtain ⟨k', l₂⟩ := e
      obtain ⟨hk', hl₂⟩ := State.flowLine_some hjl
      have hne : k' ≠ k := by
        rintro rfl
        rw [hk, Option.some.injEq] at hk'
        exact hj (by rw [← hl₂, ← hk', hl])
      rw [hjl, Option.map_some, if_neg hne] at hline
      rw [State.flowGet_of_line hline, State.flowGet_of_line hjl]

theorem State.flowGet_setFlowHbm {s : State} {i : Nat} (h : s.flowLine i = none) (b : List Byte) (j : Nat) :
    (s.setFlowHbm i b).flowGet j = if j = i then b else s.flowGet j := by
  have hline : (s.setFlowHbm i b).flowLine j = s.flowLine j := State.flowLine_of_flow rfl j
  have hhbm : (s.setFlowHbm i b).flowHbm j = if j = i then b else s.flowHbm j := Store.read_put _ _ _ _ _
  by_cases hj : j = i
  · subst hj
    rw [State.flowGet_of_none (hline.trans h), hhbm, if_pos rfl, if_pos rfl]
  · rw [if_neg hj, State.flowGet, hline, hhbm, if_neg hj, State.flowGet]

/-- A context written where it is held reads what was written; the others stay. -/
theorem State.flowGet_flowStore (s : State) (i : Nat) (b : List Byte) (j : Nat) :
    (s.flowStore i b).flowGet j = if j = i then b else s.flowGet j := by
  rw [State.flowStore]
  split
  · rename_i k l h
    exact State.flowGet_setFlowLine (l' := { l with bytes := b, dirty := true }) h (State.flowLine_some h).2 j
  · rename_i h
    exact State.flowGet_setFlowHbm h b j

theorem State.flow_flowChanged (s : State) (i : Nat) : (s.flowChanged i).flow = s.flow := by
  rw [State.flowChanged]
  split <;> rfl

theorem State.flowGet_flowPut (s : State) (i : Nat) (b : List Byte) (j : Nat) :
    (s.flowPut i b).flowGet j = if j = i then clearPeer b else s.flowGet j := by
  rw [State.flowPut, State.flowGet_of_flow (State.flow_flowChanged _ _), State.flowGet_flowStore]

/-! What a write of a context leaves alone. -/

theorem State.regs_flowPut (s : State) (i : Nat) (b : List Byte) : (s.flowPut i b).regs = s.regs := by
  have hstore : (s.flowStore i (clearPeer b)).regs = s.regs := by
    rw [State.flowStore]
    split <;> rfl
  rw [State.flowPut, State.flowChanged]
  split <;> exact hstore

theorem State.stalls_flowPut (s : State) (i : Nat) (b : List Byte) : (s.flowPut i b).flow.stalls = s.flow.stalls := by
  rw [State.flowPut, State.flow_flowChanged, State.flowStore]
  split <;> rfl

/-- No stall waits for the context, so its write resumes nobody (R281). -/
theorem State.resolveFlow_quiet {s : State} {i : Nat} (h : ∀ e ∈ s.flow.stalls, e.2.index ≠ i) :
    s.resolveFlow i = s :=
  foldl_fixed_of_mem fun e he => if_neg (h e he)

/-! ### Software's access (R281) -/

/-- The access to a context: FLOW_ACC takes its index. -/
def State.flowIndexed (s : State) (acc : Word) : State := s.setFld Reg.FLOW_ACC 19 0 (fieldOf acc 19 0)

theorem State.flowAccReg_trusted {s : State} {m : Master} (hm : m.trusted = true)
    (hd : s.domOn (domainOf Reg.FLOW_ACC) = true) (acc : Word) (run : Nat → State → State) :
    s.flowAccReg m acc run = run (fieldOf acc 19 0) (s.flowIndexed acc) := by
  rw [State.flowAccReg, State.gated_trusted hm hd]
  cases m with
  | vf n => cases hm
  | pf => rfl
  | me k => rfl

/-- The bytes in FLOW_DATA. -/
def State.flowData (s : State) : List Byte := (List.range 16).flatMap fun w => toLE 4 (s.reg (Reg.FLOW_DATA w)).toNat

theorem State.leAt_flowData (s : State) {w : Nat} (h : w < 16) :
    leAt s.flowData (4 * w) 4 = (s.reg (Reg.FLOW_DATA w)).toNat := by
  have e : s.flowData = ((List.range 16).map fun w => s.reg (Reg.FLOW_DATA w)).flatMap fun w => toLE 4 w.toNat := by
    rw [List.flatMap_map]
    rfl
  rw [e, leAt_words, getD_map_range _ h]

theorem flowData_injective : Function.Injective Reg.FLOW_DATA := fun i j h => by
  simp only [Reg.FLOW_DATA] at h
  omega

theorem flowData_ne_flowAcc (w : Nat) : Reg.FLOW_DATA w ≠ Reg.FLOW_ACC := by
  simp only [Reg.FLOW_DATA, Reg.FLOW_ACC]
  omega

theorem State.flowAccWrite_quiet {s : State} (h : s.flow.stalls = []) (i : Nat) :
    s.flowAccWrite i = s.flowPut i s.flowData :=
  State.resolveFlow_quiet (by rw [State.stalls_flowPut, h]; nofun)

section
variable {m : Master} {s : State} (hm : m.trusted = true)
include hm

/-- FLOW_ACC.WR: the context takes FLOW_DATA, its first word but for PEER. -/
theorem execFlowAccWrite_trusted (hd : s.domOn (domainOf Reg.FLOW_ACC) = true) (hst : s.flow.stalls = []) (acc : Word) :
    ∃ t, execFlowAccWrite m acc s = .next t ∧
      (∀ w : Fin 16, w.val ≠ 0 → leAt (t.flowGet (fieldOf acc 19 0)) (4 * w) 4 = (s.reg (Reg.FLOW_DATA w)).toNat) ∧
      (∀ j, j ≠ fieldOf acc 19 0 → t.flowGet j = s.flowGet j) ∧ ∀ a, a ≠ Reg.FLOW_ACC → t.reg a = s.reg a := by
  have hrun := (State.flowAccReg_trusted hm hd acc fun i s => s.flowAccWrite i).trans
    (State.flowAccWrite_quiet (s := s.flowIndexed acc) hst _)
  refine ⟨_, congrArg Host.Outcome.next hrun, fun w hw => ?_, fun j hj => ?_, fun a ha => ?_⟩
  · rw [State.flowGet_flowPut, if_pos rfl, leAt_clearPeer _ hw, State.leAt_flowData _ w.isLt]
    exact congrArg BitVec.toNat (State.reg_setFld_ne _ (flowData_ne_flowAcc w) _ _ _)
  · rw [State.flowGet_flowPut, if_neg hj]
    exact State.flowGet_of_flow rfl j
  · rw [State.reg, State.regs_flowPut]
    exact State.reg_setFld_ne _ ha _ _ _

/-- FLOW_ACC.RD: FLOW_DATA takes the context. -/
theorem execFlowAccRead_trusted (hd : s.domOn (domainOf Reg.FLOW_ACC) = true) (acc : Word) :
    execFlowAccRead m acc s = .next ((s.flowIndexed acc).setRegs Reg.FLOW_DATA
      (fun w => BitVec.ofNat 32 (leAt (s.flowGet (fieldOf acc 19 0)) (4 * w) 4)) (List.range 16)) := by
  have hget : (s.flowIndexed acc).flowGet (fieldOf acc 19 0) = s.flowGet (fieldOf acc 19 0) :=
    State.flowGet_of_flow rfl _
  rw [← hget]
  exact congrArg Host.Outcome.next (State.flowAccReg_trusted hm hd acc _)

end

theorem State.flow_of_apart {s t : State} (h : t.apart = s.apart) : t.flow = s.flow :=
  (congrArg State.flow h : t.apart.flow = s.apart.flow)

/-! ### The clear and the rates (R276, R278) -/

/-- Every context and the cache emptied. -/
def State.flowEmptied (s : State) : State := { s with flow := { s.flow with hbm := [], cache := [] } }

theorem State.flowLine_of_empty {s : State} (h : s.flow.cache = []) (i : Nat) : s.flowLine i = none := by
  rw [State.flowLine, h]
  exact List.findSome?_eq_none_iff.2 fun _ _ => rfl

/-- The PF's write of CLR with EN at 0. -/
theorem execFlowClear_pf {s : State} (hd : s.domOn (domainOf Reg.FLOW_CTL) = true)
    (hen : s.bit Reg.FLOW_CTL 31 = false) : execFlowClear .pf 0 s =
      .next ((s.setBit Reg.FLOW_CTL 31 false).flowEmptied.setBit Reg.FLOW_CTL 29 true) := by
  rw [execFlowClear, State.gated_trusted rfl hd]
  exact congrArg Host.Outcome.next (if_pos ⟨by decide, hen⟩)

/-- A write is judged by the sum it would make (R278). -/
theorem execFlowRateWrite_pf {n : Fin 32} {d : Word} {s : State} (hd : s.domOn (domainOf (Reg.FLOW_RATE n)) = true) :
    execFlowRateWrite .pf n d s = .next (
    if 8000 < ((List.range 32).map fun k => if k = n.val then fieldOf d 15 0 else s.fld (Reg.FLOW_RATE k) 15 0).sum
    then s.raiseBit Reg.FLOW_STAT 31
    else { s with flow := { s.flow with buckets := Store.set s.flow.buckets n (s.flowBucket n) } }.setFld
      (Reg.FLOW_RATE n) 15 0 (fieldOf d 15 0)) := by
  rw [sum_range_replace, if_pos n.isLt]
  exact congrArg Host.Outcome.next (State.gated_trusted rfl hd _ _)

end Sys2Proof.Machine

open Sys2Proof.Machine

/-- Settles O37: each command at its branch; a context reads what was last written where it is held. -/
theorem flowRegisters : Obligations.FlowRegisters := by
  intro m n acc d s hm
  refine ⟨fun hd hst => ⟨execFlowAccWrite_trusted hm hd hst acc, _, execFlowAccRead_trusted hm hd acc,
    State.flow_of_apart (State.apart_setRegs _ _ _ _), fun w => ?_, fun a ha hw => ?_⟩, fun hd hen => ?_, ?_,
    fun hd => ⟨fun hle => ?_, fun hlt => ?_⟩⟩
  · exact State.reg_setRegs_mem _ _ _ _ flowData_injective (List.mem_range.2 w.isLt)
  · rw [State.reg_setRegs_ne _ _ _ _ fun w hr => hw ⟨w, List.mem_range.1 hr⟩]
    exact State.reg_setFld_ne _ ha _ _ _
  · refine ⟨_, execFlowClear_pf hd hen, State.bit_setBit _ _ _ _ (by decide), fun j => ?_, fun a ha => ?_⟩
    · rw [State.flowGet_of_none (State.flowLine_of_empty rfl j)]
      rfl
    · rw [State.reg_setBit_ne _ ha]
      exact State.reg_setBit_ne _ ha _ _
  · exact ⟨_, rfl, State.bit_setBit _ _ _ _ (by decide), rfl, fun a ha => State.reg_setBit_ne _ ha _ _⟩
  · refine ⟨_, (execFlowRateWrite_pf hd).trans (congrArg Host.Outcome.next (if_neg (Nat.not_lt.2 hle))), ?_,
      fun a ha => State.reg_setFld_ne _ ha _ _ _⟩
    rw [State.fld_setFld _ _ _ _ _ (by decide)]
    exact Nat.mod_eq_of_lt (fieldOf_lt d 15 0)
  · refine ⟨_, (execFlowRateWrite_pf hd).trans (congrArg Host.Outcome.next (if_pos hlt)),
      State.bit_raiseBit _ _ _ (by decide) (by decide), State.reg_raiseBit_ne _ _ _ _ ?_ ?_⟩ <;>
    · simp only [Reg.FLOW_RATE, Reg.FLOW_STAT, Reg.HOST_STAT]
      omega

end

section
/-!
A microword's accesses to flow contexts, the misses they wait for and the end of a wait (R277, R279 to R281, R283, R285).
-/

open Sys2Proof

namespace Sys2Proof.Machine

/-! ### A context read where it is cached (R281) -/

theorem State.flowTouch_of_line {s : State} {i k : Nat} {l : FlowLine} (h : s.flowLine i = some (k, l)) :
    s.flowTouch i = s.setFlowLine k l := by
  rw [State.flowTouch, h]

section
variable (s : State) (i : Nat)

theorem State.flowTouch_cases :
    s.flowTouch i = s ∨ ∃ k l, s.flowLine i = some (k, l) ∧ s.flowTouch i = s.setFlowLine k l := by
  cases h : s.flowLine i with
  | none => exact .inl (by rw [State.flowTouch, h])
  | some e => exact .inr ⟨e.1, e.2, rfl, State.flowTouch_of_line h⟩

/-- A use of a line changes no context. -/
theorem State.flowGet_flowTouch (j : Nat) : (s.flowTouch i).flowGet j = s.flowGet j := by
  obtain h | ⟨k, l, hl, h⟩ := s.flowTouch_cases i
  · rw [h]
  · rw [h, State.flowGet_setFlowLine hl (State.flowLine_some hl).2]
    split
    · rw [‹j = i›, State.flowGet_of_line hl]
    · rfl

theorem State.isSome_flowLine_flowTouch (j : Nat) : ((s.flowTouch i).flowLine j).isSome = (s.flowLine j).isSome := by
  obtain h | ⟨k, l, hl, h⟩ := s.flowTouch_cases i
  · rw [h]
  · rw [h, State.flowLine_setFlowLine (State.flowLine_some hl).1 rfl, Option.isSome_map]

theorem State.regs_flowTouch : (s.flowTouch i).regs = s.regs := by
  obtain h | ⟨k, l, -, h⟩ := s.flowTouch_cases i <;> rw [h]
  rfl

theorem State.stalls_flowTouch : (s.flowTouch i).flow.stalls = s.flow.stalls := by
  obtain h | ⟨k, l, -, h⟩ := s.flowTouch_cases i <;> rw [h]
  rfl

end

/-! ### One access (R283, R285) -/

/-- A context with the masked bytes of one quarter replaced (R283). -/
def quarterWritten (b data : List Byte) (imm : Nat) : List Byte :=
  overlay b (16 * (imm % 4)) ((List.range 16).map fun j =>
    if bitsOf imm 31 16 = 0 ∨ (bitsOf imm 31 16).testBit j then data.getD j 0 else b.getD (16 * (imm % 4) + j) 0)

theorem getD_quarterWritten {b : List Byte} (hb : b.length = 64) (data : List Byte) (imm : Nat) {j : Nat} (hj : j < 64) :
    (quarterWritten b data imm).getD j 0 =
      if j / 16 = imm % 4 ∧ (bitsOf imm 31 16 = 0 ∨ (bitsOf imm 31 16).testBit (j % 16) = true)
      then data.getD (j % 16) 0 else b.getD j 0 := by
  rw [quarterWritten, getD_overlay, List.length_map, List.length_range, hb]
  by_cases hq : j / 16 = imm % 4
  · have hoff : j - 16 * (imm % 4) = j % 16 := by omega
    have hback : 16 * (imm % 4) + j % 16 = j := by omega
    have hlt : j % 16 < 16 := Nat.mod_lt _ (by decide)
    rw [if_pos (by omega), hoff]
    simp only [List.getD_eq_getElem?_getD, List.getElem?_map, List.getElem?_range hlt, Option.map_some,
      Option.getD_some, hback, hq, true_and]
  · rw [if_neg (by omega), if_neg (fun h => hq h.1)]

section
variable (s : State) (x : Ctx) (i imm : Nat) (data : List Byte)

theorem State.flowPerform_read : s.flowPerform x 5 i imm data =
    (s.flowTouch i, bytesAt (s.flowGet i) (16 * (imm % 4)) 16, true, false) := rfl

theorem State.flowPerform_write : s.flowPerform x 6 i imm data =
    (s.flowPut i (quarterWritten (s.flowGet i) data imm), statusAnswer 1 false) := rfl

/-- Without a valid context and without CREATE nothing is measured (R285). -/
theorem State.flowPerform_invalid (hv : leAt (s.flowGet i) 0 1 % 2 = 0) (hi : imm % 2 = 0) :
    s.flowPerform x 10 i imm data = (s.flowTouch i, statusAnswer 0 false) := by
  have hvalid : (FlowCtx.of (s.flowGet i)).valid = false := by
    simp only [FlowCtx.valid, FlowCtx.of, Nat.testBit_zero, hv, zero_ne_one, decide_false]
  have hnone : s.flowUpdate i imm (s.flowGet i) x.flowFrame = none := if_pos ⟨hvalid, hi⟩
  rw [State.flowPerform, if_neg (by decide), if_neg (by decide), hnone]

end

/-! ### An access granted (R279, R280) -/

section
variable {s : State} {c op : Nat} {x : Ctx} (hx : s.ctx? c = some x) (hm : s.mayIssue x op = true)
  (hb : s.flowBusy x op = false) (hu : x.uses 4 < 2)
  (hw : s.inWindow x.slice x.comp 40 4 (s.flowArgs x).1 = true) (hen : s.bit Reg.FLOW_CTL 31 = true)

section
variable (hst : ∀ e ∈ s.flow.stalls, e.2.index ≠ (s.flowArgs x).1)
include hst

theorem State.find?_streamFlows_quiet :
    ((s.streamFlows x).find? fun e => e.2.index == (s.flowArgs x).1) = none :=
  List.find?_eq_none.2 fun e he => by
    simpa only [beq_iff_eq] using hst e (List.mem_filter.1 he).1

include hx hm hb hu hw hen

/-- With its context cached an access is performed and answered at once. -/
theorem State.flowOp_cached {e : Nat × FlowLine} (hl : s.flowLine (s.flowArgs x).1 = some e)
    {r : State × List Byte × Bool × Bool}
    (hr : s.flowPerform x op (s.flowArgs x).1 (s.memImm x) (s.flowArgs x).2.2 = r)
    (hrs : r.1.flow.stalls = s.flow.stalls) :
    s.flowOp c op = r.1.setCtx c ((x.use 4).issue op (s.memSlot x) (some r.2)) := by
  have hres : (s.flowNow c op (x.use 4) r).resolveFlow (s.flowArgs x).1 = s.flowNow c op (x.use 4) r :=
    State.resolveFlow_quiet (by rwa [← hrs] at hst)
  subst hr
  simp only [State.flowOp, hx, hm, hb, Bool.not_false, Bool.and_self, if_true]
  simp only [State.flowAccess, if_neg (Nat.not_le.2 hu), hw, hen, Bool.true_eq_false, if_false,
    State.find?_streamFlows_quiet hst, hl]
  exact (if_congr Iff.rfl hres rfl).trans (ite_self _)

end

/-- The state in which a miss read of slice x.slice has been granted: its bucket pays and the miss counts (R277, R278). -/
def State.missRead (s : State) (x : Ctx) : State :=
  let t := (s.takeFlow x.slice).flowCount x.slice x.comp 0
  { t with flow := { t.flow with nextStall := s.flow.nextStall + 1 } }

include hx hm hb hu hw hen

/-- With its context not cached, no stall of its stream and tokens left, an access waits in a stall of its own (R280). -/
theorem State.flowOp_miss (hsf : s.streamFlows x = []) (hl : s.flowLine (s.flowArgs x).1 = none)
    (hbk : (s.flowBucket x.slice).short < 4096000) :
    ∃ st : FlowStall, st.index = (s.flowArgs x).1 ∧ st.frames = [] ∧
      s.flowOp c op = (s.missRead x).flowPark c op (x.use 4) s.flow.nextStall st := by
  simp only [State.flowOp, hx, hm, hb, Bool.not_false, Bool.and_self, if_true]
  simp only [State.flowAccess, if_neg (Nat.not_le.2 hu), hw, hen, hsf, hl, Bool.true_eq_false, if_false,
    List.find?_nil, List.map_nil, List.sum_nil, List.length_nil, Nat.not_le.2 hbk, Nat.reduceLeDiff, or_self]
  exact ⟨_, rfl, rfl, rfl⟩

end

theorem State.memSlot_of_slices {s t : State} (h : t.slices = s.slices) (x : Ctx) : t.memSlot x = s.memSlot x := by
  have hbank : t.ctxBank x = s.ctxBank x := by rw [State.ctxBank, State.slice_of_slices h, State.ctxBank]
  rw [State.memSlot, State.microword, hbank, State.memSlot, State.microword]

theorem State.slices_missRead (s : State) (x : Ctx) : (s.missRead x).slices = s.slices :=
  (congrArg State.slices (State.apart_count (s.takeFlow x.slice) (Reg.SLC_FLOW_CNT x.slice x.comp 0)) :)

/-! ### The accesses with their contexts cached (R283, R285) -/

theorem State.outst_issued (s : State) (c op slot : Nat) (x : Ctx) (r : Option (List Byte × Bool × Bool)) :
    ((s.setCtx c (x.issue op slot r)).ctx? c).map (·.outst) = some (x.outst ++ [⟨x.nextSeq, op, slot, r⟩]) := by
  rw [State.ctx?_setCtx_self]
  rfl

section
variable {s : State} {c : Nat} {x : Ctx} (hx : s.ctx? c = some x) (hu : x.uses 4 < 2)
  (hw : s.inWindow x.slice x.comp 40 4 (s.flowArgs x).1 = true) (hen : s.bit Reg.FLOW_CTL 31 = true)
include hx hu hw hen

/-- A miss of MEMOP 5 parks the frame in a new stall of its context. -/
theorem execFlowContextRead_miss (hsf : s.streamFlows x = []) (hl : s.flowLine (s.flowArgs x).1 = none)
    (hbk : (s.flowBucket x.slice).short < 4096000) (hm : s.mayIssue x 5 = true) :
    ∃ t, execFlowContextRead c s = .next t ∧
      (t.ctx? c).map (·.outst) = some (x.outst ++ [⟨x.nextSeq, 5, s.memSlot x, none⟩]) ∧
      (Store.at? t.flow.stalls s.flow.nextStall).map (fun y => (y.index, y.frames.length)) =
        some ((s.flowArgs x).1, 1) := by
  obtain ⟨st, hi, hf, hop⟩ := State.flowOp_miss hx hm rfl hu hw hen hsf hl hbk
  refine ⟨_, congrArg Host.Outcome.next hop, ?_, ?_⟩
  · rw [State.flowPark, State.outst_issued, State.memSlot_of_slices (State.slices_missRead s x)]
    rfl
  · simp only [State.flowPark, State.flow_setCtx, Store.at?_set, if_true, Option.map_some, hi, hf, List.nil_append,
      List.length_singleton]

variable (hst : ∀ e ∈ s.flow.stalls, e.2.index ≠ (s.flowArgs x).1)
  {k : Nat} {fl : FlowLine} (hl : s.flowLine (s.flowArgs x).1 = some (k, fl))
include hst hl

theorem execFlowContextRead_cached (hm : s.mayIssue x 5 = true) :
    ∃ t, execFlowContextRead c s = .next t ∧ t.regs = s.regs ∧ (∀ j, t.flowGet j = s.flowGet j) ∧
      (t.ctx? c).map (·.outst) = some (x.outst ++ [⟨x.nextSeq, 5, s.memSlot x,
        some (bytesAt fl.bytes (16 * (s.memImm x % 4)) 16, true, false)⟩]) := by
  have hop := State.flowOp_cached hx hm rfl hu hw hen hst hl (s.flowPerform_read x _ _ _) (s.stalls_flowTouch _)
  rw [State.flowGet_of_line hl] at hop
  exact ⟨_, congrArg Host.Outcome.next hop, s.regs_flowTouch _, s.flowGet_flowTouch _, State.outst_issued _ _ _ _ _ _⟩

theorem execFlowContextWrite_cached (hm : s.mayIssue x 6 = true) (hb : s.flowBusy x 6 = false)
    (hlen : fl.bytes.length = 64) :
    ∃ t, execFlowContextWrite c s = .next t ∧ t.regs = s.regs ∧
      (∀ j, j ≠ (s.flowArgs x).1 → t.flowGet j = s.flowGet j) ∧
      (∀ b : Fin 64, b.val ≠ 0 → (t.flowGet (s.flowArgs x).1).getD b 0 =
        if b.val / 16 = s.memImm x % 4 ∧
          (bitsOf (s.memImm x) 31 16 = 0 ∨ (bitsOf (s.memImm x) 31 16).testBit (b.val % 16) = true)
        then (s.flowArgs x).2.2.getD (b.val % 16) 0 else fl.bytes.getD b 0) ∧
      (t.ctx? c).map (·.outst) = some (x.outst ++ [⟨x.nextSeq, 6, s.memSlot x, some (statusAnswer 1 false)⟩]) := by
  have hop := State.flowOp_cached hx hm hb hu hw hen hst hl (s.flowPerform_write x _ _ _) (s.stalls_flowPut _ _)
  rw [State.flowGet_of_line hl] at hop
  refine ⟨_, congrArg Host.Outcome.next hop, s.regs_flowPut _ _, fun j hj => ?_, fun b hb0 => ?_,
    State.outst_issued _ _ _ _ _ _⟩
  · exact (s.flowGet_flowPut _ _ j).trans (if_neg hj)
  · have hget := (s.flowGet_flowPut (s.flowArgs x).1 (quarterWritten fl.bytes (s.flowArgs x).2.2 (s.memImm x))
      (s.flowArgs x).1).trans (if_pos rfl)
    exact (congrArg (·.getD b 0) hget).trans ((getD_clearPeer _ hb0).trans (getD_quarterWritten hlen _ _ b.isLt))

theorem execFlowStateUpdate_invalid (hm : s.mayIssue x 10 = true) (hv : leAt fl.bytes 0 1 % 2 = 0)
    (hi : s.memImm x % 2 = 0) :
    ∃ t, execFlowStateUpdate c s = .next t ∧ t.regs = s.regs ∧ (∀ j, t.flowGet j = s.flowGet j) ∧
      (t.ctx? c).map (·.outst) =
        some (x.outst ++ [⟨x.nextSeq, 10, s.memSlot x, some (List.replicate 16 0, false, false)⟩]) := by
  rw [← State.flowGet_of_line hl] at hv
  have hop := State.flowOp_cached hx hm rfl hu hw hen hst hl (s.flowPerform_invalid x _ _ _ hv hi) (s.stalls_flowTouch _)
  exact ⟨_, congrArg Host.Outcome.next hop, s.regs_flowTouch _, s.flowGet_flowTouch _, State.outst_issued _ _ _ _ _ _⟩

end

/-! ### A parked frame resumes (R162, R280) -/

section
variable (s : State) (p : Parked) (r : List Byte × Bool × Bool)

theorem State.regs_unpark : (s.unpark p r).regs = s.regs := by
  rw [State.unpark]
  split <;> rfl

theorem State.flow_unpark : (s.unpark p r).flow = s.flow := by
  rw [State.unpark]
  split <;> rfl

/-- The operation that waited has its answer. -/
theorem State.resp_unpark {y : Ctx} (hy : y ∈ (s.unpark p r).ctx? p.ctx) {o : Outst} (ho : o ∈ y.outst)
    (hs : o.seq = p.seq) : o.resp = some r := by
  cases hx : s.ctx? p.ctx with
  | none =>
    rw [State.unpark, hx] at hy
    exact absurd (hx ▸ hy) (Option.not_mem_none y)
  | some x =>
    simp only [State.unpark, hx, State.ctx?_setCtx_self, Option.mem_some_iff] at hy
    subst hy
    obtain ⟨o', -, rfl⟩ := List.mem_map.1 ho
    split at hs
    · rw [if_pos ‹_›]
    · exact absurd hs ‹_›

end

/-! ### A miss read returns into an empty cache (R277, R280) -/

/-- The only line of a cache, at the first place of its set, is its context's. -/
theorem State.flowLine_single {s : State} {l : FlowLine} (h : s.flow.cache = [(l.index % 16384 * 8, l)]) (j : Nat) :
    s.flowLine j = if j = l.index then some (l.index % 16384 * 8, l) else none := by
  split
  · subst j
    simp [State.flowLine, h, List.range_succ_eq_map, Store.at?]
  · cases hjl : s.flowLine j with
    | none => rfl
    | some e =>
      obtain ⟨hk, hi⟩ := State.flowLine_some hjl
      simp only [h, Store.at?] at hk
      split at hk
      · cases hk
        exact absurd hi.symm ‹_›
      · cases hk

/-- A fill of an empty cache takes the first line of the context's set. -/
theorem State.flowFill_empty {s : State} (h : s.flow.cache = []) (n i : Nat) (b : List Byte) :
    s.flowFill n i b = s.setFlowLine (i % 16384 * 8) { index := i, bytes := b } := by
  have hv : s.flowVictim i = i % 16384 * 8 := by
    simp [State.flowVictim, h, Store.at?, List.range_succ_eq_map]
  rw [State.flowFill, hv]
  simp only [h, Store.at?]

section
variable {s : State} (h : s.flow.cache = []) (n i : Nat)
include h

/-- The context just filled is cached. -/
theorem State.flowLine_flowFill_empty (b : List Byte) (j : Nat) : ((s.flowFill n i b).flowLine j).map (·.2.bytes) =
    if j = i then some b else none := by
  rw [State.flowFill_empty h, State.flowLine_single
    (l := { index := i, bytes := b, used := s.flow.nextUse }) (by rw [State.setFlowLine, h]; rfl)]
  split <;> rfl

/-- A fill with a context's own bytes changes no context. -/
theorem State.flowGet_flowFill_empty (j : Nat) : (s.flowFill n i (s.flowGet i)).flowGet j = s.flowGet j := by
  have hline := State.flowLine_flowFill_empty h n i (s.flowGet i) j
  by_cases hj : j = i
  · subst hj
    rw [if_pos rfl] at hline
    obtain ⟨⟨k, l⟩, hl, hb⟩ := Option.map_eq_some_iff.1 hline
    exact (State.flowGet_of_line hl).trans hb
  · rw [if_neg hj] at hline
    rw [State.flowGet_of_none (Option.map_eq_none_iff.1 hline), State.flowGet_of_none (State.flowLine_of_empty h j),
      State.flowFill_empty h]
    rfl

end

/-- The cache filled by the read of stall k, which is over (R277, R280). -/
def State.missFilled (s : State) (k : Nat) (st : FlowStall) : State :=
  (s.dropFlowStall k).flowFill st.slice st.index ((s.dropFlowStall k).flowGet st.index)

section
variable {s : State} (h : s.flow.cache = []) (k : Nat) (st : FlowStall)
include h

theorem State.missFilled_eq : s.missFilled k st = (s.dropFlowStall k).setFlowLine (st.index % 16384 * 8)
    { index := st.index, bytes := (s.dropFlowStall k).flowGet st.index } :=
  State.flowFill_empty (s := s.dropFlowStall k) h _ _ _

theorem State.flowGet_missFilled (j : Nat) : (s.missFilled k st).flowGet j = s.flowGet j :=
  State.flowGet_flowFill_empty (s := s.dropFlowStall k) h st.slice st.index j

theorem State.isSome_flowLine_missFilled : ((s.missFilled k st).flowLine st.index).isSome = true := by
  have hline := State.flowLine_flowFill_empty (s := s.dropFlowStall k) h st.slice st.index
    ((s.dropFlowStall k).flowGet st.index) st.index
  rw [if_pos rfl] at hline
  rw [State.missFilled, ← Option.isSome_map, hline]
  rfl

end

/-- A parked read of a context is performed and answered. -/
theorem State.flowResume_read {s : State} {q : Parked} {x : Ctx} (hx : s.ctx? q.ctx = some x) (hop : q.op = 5) (i : Nat) :
    s.flowResume i [q] =
      (s.flowTouch i).unpark q (bytesAt (s.flowGet i) (16 * (q.imm % 4)) 16, true, false) := by
  simp only [State.flowResume, List.foldl_cons, List.foldl_nil, hx, hop, State.flowPerform_read]

section
variable {s : State} {k : Nat} {st : FlowStall} {q : Parked} {x : Ctx} (hx : s.ctx? q.ctx = some x)
  (hk : Store.at? s.flow.stalls k = some st) (hf : st.frames = [q]) (hop : q.op = 5)
include hx hk hf hop

/-- The read's return fills the cache and answers the frame that waits. -/
theorem execFlowMissReturn_read (hc : s.flow.cache = []) (ch : Fin 16) :
    ∃ t, execFlowMissReturn k true ch s = .next t ∧ Store.at? t.flow.stalls k = none ∧ t.regs = s.regs ∧
      (t.flowLine st.index).isSome = true ∧ (∀ j, t.flowGet j = s.flowGet j) ∧
      ∀ y ∈ t.ctx? q.ctx, ∀ o ∈ y.outst, o.seq = q.seq →
        o.resp = some (bytesAt (s.flowGet st.index) (16 * (q.imm % 4)) 16, true, false) := by
  have hfx : (s.missFilled k st).ctx? q.ctx = some x := by
    rw [State.missFilled_eq hc]
    exact hx
  have hexec : execFlowMissReturn k true ch s = .next (((s.missFilled k st).flowTouch st.index).unpark q
      (bytesAt (s.flowGet st.index) (16 * (q.imm % 4)) 16, true, false)) := by
    rw [← State.flowGet_missFilled hc k st, ← State.flowResume_read hfx hop]
    simp only [execFlowMissReturn, hk, hf, List.any_cons, List.any_nil, hop, bne_self_eq_false, Bool.or_self,
      Bool.false_eq_true, if_true, if_false]
    rfl
  refine ⟨_, hexec, ?_, ?_, ?_, fun j => ?_, fun y hy o ho hs => State.resp_unpark _ _ _ hy ho hs⟩
  · rw [State.flow_unpark, State.stalls_flowTouch, State.missFilled_eq hc]
    exact (Store.at?_del _ _ _).trans (if_pos rfl)
  · rw [State.regs_unpark, State.regs_flowTouch, State.missFilled_eq hc]
    rfl
  · rw [State.flowLine_of_flow (congrArg Flow.cache (State.flow_unpark _ _ _)), State.isSome_flowLine_flowTouch,
      State.isSome_flowLine_missFilled hc]
  · rw [State.flowGet_of_flow (State.flow_unpark _ _ _), State.flowGet_flowTouch, State.flowGet_missFilled hc]

/-- A stall that lasts its timeout answers its frame as unresolved (R280). -/
theorem execFlowStallTimeout_due
    (hd : st.since + stallTmo (s.fld (Reg.SLC_FLOW_CFG st.slice) 5 0) ≤ s.time.mono) :
    ∃ t, execFlowStallTimeout k s = .next t ∧ Store.at? t.flow.stalls k = none ∧
      ∀ y ∈ t.ctx? q.ctx, ∀ o ∈ y.outst, o.seq = q.seq → o.resp = some (List.replicate 16 0, false, true) := by
  have hover : s.stallOver (stallTmo (s.fld (Reg.SLC_FLOW_CFG st.slice) 5 0)) st.since [q] = true := by
    rw [State.stallOver, decide_eq_true hd, Bool.true_or]
  have hdx : (s.dropFlowStall k).ctx? q.ctx = some x := hx
  have hexec : execFlowStallTimeout k s = .next (((s.dropFlowStall k).flowCount x.slice x.comp 2).unpark q
      (List.replicate 16 0, false, true)) := by
    simp only [execFlowStallTimeout, hk, hf, hover, if_true, State.flowRefuseAll, List.foldl_cons, List.foldl_nil, hdx,
      hop]
    rfl
  refine ⟨_, hexec, ?_, fun y hy o ho hs => State.resp_unpark _ _ _ hy ho hs⟩
  have hflow : ((s.dropFlowStall k).flowCount x.slice x.comp 2).flow = (s.dropFlowStall k).flow :=
    State.flow_of_apart (State.apart_count _ _)
  rw [State.flow_unpark, hflow]
  exact (Store.at?_del _ _ _).trans (if_pos rfl)

end

end Sys2Proof.Machine

open Sys2Proof.Machine

/-- Settles O35: a cached context is served at its line; a miss waits in a stall, which its read or its timeout ends. -/
theorem flowContextAccesses : Obligations.FlowContextAccesses := by
  intro c i k fl st q x s hx _ _
  refine ⟨?_, ?_⟩
  · rintro rfl hu hw hen hall
    have hst : ∀ e ∈ s.flow.stalls, e.2.index ≠ (s.flowArgs x).1 := fun e he =>
      bne_iff_ne.1 (List.all_eq_true.1 hall e he)
    exact ⟨fun hl => ⟨execFlowContextRead_cached hx hu hw hen hst hl,
      fun hm hb hlen _ => execFlowContextWrite_cached hx hu hw hen hst hl hm hb hlen,
      execFlowStateUpdate_invalid hx hu hw hen hst hl⟩, fun hl hsf => execFlowContextRead_miss hx hu hw hen hsf hl⟩
  · rintro hk hf rfl hop
    exact ⟨fun _ hc => execFlowMissReturn_read hx hk hf hop hc 0, execFlowStallTimeout_due hx hk hf hop⟩

end

section
/-!
Meters and counters of a slice's pool: the microwords that use them and software's access to them (R291 to R293, R446,
R447).
-/

open Sys2Proof

namespace Sys2Proof.Machine

/-! ### The microwords (R291, R446) -/

section
variable {s : State} {c : Nat} {x : Ctx} (hx : s.ctx? c = some x)
include hx

/-- A meter that is colour-blind colours the frame by its buckets and takes the tokens. -/
theorem execMeter_blind (hm : s.mayIssue x 8 = true) (hu : x.uses 6 < 4)
    (hw : s.inWindow x.slice x.comp 56 4 (beNat ((s.memKey x).take 4) % 65536) = true) (hb : s.memImm x % 2 = 0)
    {k : Nat} (hk : k = meterKey x.slice (beNat ((s.memKey x).take 4) % 65536)) {col : Nat × Meter}
    (hcol : col = meterColour (s.meterWord k 0 / 2 ^ 30) (s.meterFill k) (x.mdBE 4 2) 0) :
    execMeter c s = .next ((s.setMeter k col.2).setCtx c ((x.use 6).issue 8 (s.memSlot x)
      (some ([1, BitVec.ofNat 8 col.1] ++ List.replicate 14 0, true, false)))) := by
  have hop : s.meterOp x = (s.setMeter k col.2, bytesAt [1, BitVec.ofNat 8 col.1] 0 16, true, false) := by
    subst hcol hk
    simp only [State.meterOp, if_neg (Nat.not_le.2 hu), hw, hb, Bool.true_eq_false, zero_ne_one, if_false]
  simp only [execMeter, hx, hm, hop, if_pos hu, if_true]
  rfl

/-- A counter gains 1 and LEN. -/
theorem execCounterAdd_counts (hm : s.mayIssue x 7 = true) (hu : x.uses 5 < 4)
    (hw : s.inWindow x.slice x.comp 48 4 (beNat ((s.memKey x).take 4) % 131072) = true)
    {k : Nat} (hk : k = counterKey x.slice (beNat ((s.memKey x).take 4) % 131072)) {v : Nat × Nat}
    (hv : v = Store.read (0, 0) s.tele.counters k) :
    execCounterAdd c s = .next ((s.setCounter k (min (2 ^ 64 - 1) (v.1 + 1), min (2 ^ 64 - 1) (v.2 + x.mdBE 4 2))).setCtx c
      ((x.use 5).issue 7 (s.memSlot x) (some (statusAnswer 1 false)))) := by
  have hop : s.counterOp x = (s.setCounter k (min (2 ^ 64 - 1) (v.1 + 1), min (2 ^ 64 - 1) (v.2 + x.mdBE 4 2)),
      statusAnswer 1 false) := by
    subst hv hk
    simp only [State.counterOp, if_neg (Nat.not_le.2 hu), hw, Bool.true_eq_false, if_false]
  simp only [execCounterAdd, hx, hm, hop, if_pos hu, if_true]

end

theorem State.read_counters_setCounter (s : State) (k j : Nat) (v : Nat × Nat) :
    Store.read (0, 0) (s.setCounter k v).tele.counters j =
      if j = k then v else Store.read (0, 0) s.tele.counters j := Store.read_put _ _ _ _ _

/-! ### Software's access (R293, R447) -/

theorem State.poolAcc_trusted {s : State} {m : Master} (hm : m.trusted = true) {a : Nat}
    (hd : s.domOn (domainOf a) = true) (n off : Nat) (keep acc : Word) (i : Nat) (run : State → State) :
    s.poolAcc m n a off keep acc i run = run (s.setReg a (acc &&& keep)) := by
  rw [State.poolAcc, State.gated_trusted hm hd]
  exact if_pos (State.windowMay_trusted hm _ _ _ _ _)

/-- The access to a meter: SLC_MTR_ACC takes its index. -/
def State.mtrAccess (s : State) (n : Nat) (acc : Word) : State := s.setReg (Reg.SLC_MTR_ACC n) (acc &&& 0xFFFF)

/-- The access to a counter: SLC_CTR_ACC takes its index and CLR. -/
def State.ctrAccess (s : State) (n : Nat) (acc : Word) : State := s.setReg (Reg.SLC_CTR_ACC n) (acc &&& 0x2001FFFF)

theorem mtrData_ne_mtrAcc (n w : Nat) : Reg.SLC_MTR_DATA n w ≠ Reg.SLC_MTR_ACC n := by
  simp only [Reg.SLC_MTR_DATA, Reg.SLC_MTR_ACC]
  omega

theorem ctrData_ne_ctrAcc (n w : Nat) : Reg.SLC_CTR_DATA n w ≠ Reg.SLC_CTR_ACC n := by
  simp only [Reg.SLC_CTR_DATA, Reg.SLC_CTR_ACC]
  omega

theorem mtrData_injective (n : Nat) : Function.Injective (Reg.SLC_MTR_DATA n) := fun i j h => by
  simp only [Reg.SLC_MTR_DATA] at h
  omega

theorem ctrData_injective (n : Nat) : Function.Injective (Reg.SLC_CTR_DATA n) := fun i j h => by
  simp only [Reg.SLC_CTR_DATA] at h
  omega

theorem State.mtrData_mtrAccess (s : State) (n w : Nat) (acc : Word) :
    (s.mtrAccess n acc).reg (Reg.SLC_MTR_DATA n w) = s.reg (Reg.SLC_MTR_DATA n w) :=
  State.reg_setReg_ne s (mtrData_ne_mtrAcc n w) _

theorem State.ctrData_ctrAccess (s : State) (n w : Nat) (acc : Word) :
    (s.ctrAccess n acc).reg (Reg.SLC_CTR_DATA n w) = s.reg (Reg.SLC_CTR_DATA n w) :=
  State.reg_setReg_ne s (ctrData_ne_ctrAcc n w) _

theorem State.meterWord_mtrAccess (s : State) (n k w : Nat) (acc : Word) :
    (s.mtrAccess n acc).meterWord k w = s.meterWord k w := by
  rw [State.meterWord, State.mtrAccess, State.flow_setReg, State.meterWord]

theorem State.regs_meterWrite (s : State) (n i : Nat) : (s.meterWrite n i).regs = s.regs := rfl

theorem State.regs_counterWrite (s : State) (n i : Nat) : (s.counterWrite n i).regs = s.regs := rfl

/-- The configuration words of a meter are the data words, also where all of them are 0 and none is listed. -/
theorem State.meterWord_meterWrite (s : State) (n i : Nat) {w : Nat} (hw : w < 4) :
    (s.meterWrite n i).meterWord (meterKey n i) w = (s.reg (Reg.SLC_MTR_DATA n w)).toNat := by
  simp only [State.meterWord, State.meterWrite, State.setMeter, Store.read_put, if_true]
  split
  · rename_i hz
    have h0 : s.reg (Reg.SLC_MTR_DATA n w) = 0 := beq_iff_eq.1
      (List.all_eq_true.1 hz _ (List.mem_map_of_mem (List.mem_range.2 hw)))
    rw [h0]
    rfl
  · rw [getD_map_range _ hw]

/-- A configuration write fills both buckets to what it configures (R293). -/
theorem State.meter_meterWrite (s : State) (n i : Nat) :
    Store.at? (s.meterWrite n i).flow.meters (meterKey n i) = some
      { c := 8000 * ((s.reg (Reg.SLC_MTR_DATA n 2)).toNat % 2 ^ 24),
        e := 8000 * ((s.reg (Reg.SLC_MTR_DATA n 3)).toNat % 2 ^ 24), last := s.time.mono } := by
  rw [← s.meterWord_meterWrite n i (w := 2) (by decide), ← s.meterWord_meterWrite n i (w := 3) (by decide)]
  exact (Store.at?_set _ _ _ _).trans (if_pos rfl)

/-- The bits of each configuration word that Table 09.7 lists. -/
def mtrMask (w : Nat) : Word := if w = 0 then 0xC01FFFFF else if w = 1 then 0x001FFFFF else 0x00FFFFFF

theorem mtrMask_zero : mtrMask 0 = 0xC01FFFFF := rfl

theorem mtrMask_two : mtrMask 2 = 0x00FFFFFF := rfl

/-- The four words of a counter: PKTS and BYTES, low word first. -/
def ctrWord (v : Nat × Nat) (w : Nat) : Word :=
  BitVec.ofNat 32 ([v.1, v.1 / 2 ^ 32, v.2, v.2 / 2 ^ 32].getD w 0)

theorem State.meterRead_eq (s : State) (n i : Nat) : s.meterRead n i = s.setRegs (Reg.SLC_MTR_DATA n)
    (fun w => BitVec.ofNat 32 (s.meterWord (meterKey n i) w) &&& mtrMask w) (List.range 4) := rfl

theorem State.reg_meterRead (s : State) (n i : Nat) {w : Nat} (hw : w < 4) :
    (s.meterRead n i).reg (Reg.SLC_MTR_DATA n w) = BitVec.ofNat 32 (s.meterWord (meterKey n i) w) &&& mtrMask w :=
  State.reg_setRegs_mem _ _ _ _ (mtrData_injective n) (List.mem_range.2 hw)

theorem State.flow_meterRead (s : State) (n i : Nat) : (s.meterRead n i).flow = s.flow := by
  rw [State.meterRead_eq, State.flow_of_apart (State.apart_setRegs _ _ _ _)]

theorem ctrWord_zero (v : Nat × Nat) : ctrWord v 0 = BitVec.ofNat 32 v.1 := rfl

theorem ctrWord_three (v : Nat × Nat) : ctrWord v 3 = BitVec.ofNat 32 (v.2 / 2 ^ 32) := by
  simp only [ctrWord, List.getD_cons_succ, List.getD_cons_zero]

/-- The data words show a counter. -/
def State.showCounter (s : State) (n i : Nat) : State :=
  s.setRegs (Reg.SLC_CTR_DATA n) (ctrWord (Store.read (0, 0) s.tele.counters (counterKey n i))) (List.range 4)

theorem State.counterRead_eq (s : State) (n i : Nat) (clr : Bool) : s.counterRead n i clr =
    if clr then (s.showCounter n i).setCounter (counterKey n i) (0, 0) else s.showCounter n i := by
  simp only [State.counterRead, State.showCounter, State.setRegs, ctrWord, List.range_succ_eq_map, List.range_zero,
    List.map_cons, List.map_nil, List.foldl_cons, List.foldl_nil, List.zipIdx_cons, List.zipIdx_nil, Nat.reduceAdd,
    Nat.succ_eq_add_one, List.getD_cons_zero, List.getD_cons_succ]

theorem State.reg_showCounter (s : State) (n i : Nat) {w : Nat} (hw : w < 4) :
    (s.showCounter n i).reg (Reg.SLC_CTR_DATA n w) =
      ctrWord (Store.read (0, 0) s.tele.counters (counterKey n i)) w :=
  State.reg_setRegs_mem _ _ _ _ (ctrData_injective n) (List.mem_range.2 hw)

theorem State.regs_setCounter (s : State) (k : Nat) (v : Nat × Nat) : (s.setCounter k v).regs = s.regs := rfl

/-- The data words take the counter, whether or not it is cleared. -/
theorem State.reg_counterRead (s : State) (n i : Nat) (clr : Bool) {w : Nat} (hw : w < 4) :
    (s.counterRead n i clr).reg (Reg.SLC_CTR_DATA n w) =
      ctrWord (Store.read (0, 0) s.tele.counters (counterKey n i)) w := by
  rw [State.counterRead_eq, ← s.reg_showCounter n i hw]
  split
  · rw [State.reg, State.regs_setCounter, State.reg]
  · rfl

theorem State.tele_of_apart {s t : State} (h : t.apart = s.apart) : t.tele = s.tele :=
  (congrArg State.tele h : t.apart.tele = s.apart.tele)

theorem State.tele_showCounter (s : State) (n i : Nat) : (s.showCounter n i).tele = s.tele := by
  rw [State.showCounter, State.tele_of_apart (State.apart_setRegs _ _ _ _)]

section
variable {m : Master} {n : Fin 32} {s : State} (hm : m.trusted = true)
include hm

section
variable (hd : s.domOn (domainOf (Reg.SLC_MTR_ACC n)) = true) (acc : Word)
include hd

theorem execMeterConfigWrite_trusted :
    execMeterConfigWrite m n acc s = .next ((s.mtrAccess n acc).meterWrite n (fieldOf acc 15 0)) :=
  congrArg Host.Outcome.next (State.poolAcc_trusted hm hd n 56 0xFFFF acc _ _)

theorem execMeterConfigRead_trusted :
    execMeterConfigRead m n acc s = .next ((s.mtrAccess n acc).meterRead n (fieldOf acc 15 0)) :=
  congrArg Host.Outcome.next (State.poolAcc_trusted hm hd n 56 0xFFFF acc _ _)

end

section
variable (hd : s.domOn (domainOf (Reg.SLC_CTR_ACC n)) = true) (acc : Word)
include hd

theorem execCounterWrite_trusted :
    execCounterWrite m n acc s = .next ((s.ctrAccess n acc).counterWrite n (fieldOf acc 16 0)) :=
  congrArg Host.Outcome.next (State.poolAcc_trusted hm hd n 48 0x2001FFFF acc _ _)

theorem execCounterRead_trusted : execCounterRead m n acc s =
    .next ((s.ctrAccess n acc).counterRead n (fieldOf acc 16 0) (fieldOf acc 29 29 = 1)) :=
  congrArg Host.Outcome.next (State.poolAcc_trusted hm hd n 48 0x2001FFFF acc _ _)

end

end

end Sys2Proof.Machine

open Sys2Proof.Machine

/-- Settles O36: each command at its branch, and what its meter or counter and the data words read afterwards. -/
theorem metersAndCounters : Obligations.MetersAndCounters := by
  intro c i n m acc x s hx _ _
  refine ⟨?_, ?_, fun hm hd => ⟨?_, ?_⟩, fun hm hd => ⟨?_, ?_⟩⟩
  · rintro hm hu rfl hw hb
    exact ⟨_, execMeter_blind hx hm hu hw hb rfl rfl, rfl, (Store.at?_set _ _ _ _).trans (if_pos rfl),
      fun j hj => (Store.at?_set _ _ _ _).trans (if_neg hj), State.outst_issued _ _ _ _ _ _⟩
  · rintro hm hu rfl hw
    exact ⟨_, execCounterAdd_counts hx hm hu hw rfl rfl, rfl,
      (State.read_counters_setCounter _ _ _ _).trans (if_pos rfl),
      fun j hj => (State.read_counters_setCounter _ _ _ _).trans (if_neg hj), State.outst_issued _ _ _ _ _ _⟩
  · refine ⟨_, execMeterConfigWrite_trusted hm hd acc, fun w => ?_, ?_, fun a ha => ?_⟩
    · rw [State.meterWord_meterWrite _ _ _ w.isLt, State.mtrData_mtrAccess]
    · rw [State.meter_meterWrite, State.mtrData_mtrAccess, State.mtrData_mtrAccess, State.mtrAccess, State.time_setReg]
    · rw [State.reg, State.regs_meterWrite]
      exact State.reg_setReg_ne s ha _
  · refine ⟨_, execMeterConfigRead_trusted hm hd acc, ?_, ?_, ?_⟩
    · rw [State.flow_meterRead, State.mtrAccess, State.flow_setReg]
    · rw [State.reg_meterRead _ _ _ (by decide), mtrMask_zero, State.meterWord_mtrAccess]
    · rw [State.reg_meterRead _ _ _ (by decide), mtrMask_two, State.meterWord_mtrAccess]
  · refine ⟨_, execCounterWrite_trusted hm hd acc, ?_, fun a ha => ?_⟩
    · simp only [State.counterWrite, State.read_counters_setCounter, if_true, State.ctrData_ctrAccess]
    · rw [State.reg, State.regs_counterWrite]
      exact State.reg_setReg_ne s ha _
  · refine ⟨_, execCounterRead_trusted hm hd acc, ?_, ?_, fun hc => ?_, fun hc => ?_⟩
    · rw [State.reg_counterRead _ _ _ _ (by decide), ctrWord_zero, State.ctrAccess, State.tele_setReg]
    · rw [State.reg_counterRead _ _ _ _ (by decide), ctrWord_three, State.ctrAccess, State.tele_setReg]
    · rw [State.counterRead_eq, if_pos (decide_eq_true hc), State.read_counters_setCounter, if_pos rfl]
    · rw [State.counterRead_eq, if_neg (by rw [hc]; decide), State.tele_showCounter, State.ctrAccess, State.tele_setReg]

end

section
/-!
The time base is never stepped (O8): all commands but three keep it by their law in Laws/; of these three one writes
fuses alone (R411 to R414), and two are the resets at which MONO begins at 0 again (R295, R400, R404).
-/

open Sys2Proof

namespace Sys2Proof

/-- The commands that may move what `State.kept` holds: the one that may write fuses, and the resets of the always-on
domain. -/
def Instr.movesKept : Instr → Bool
  | .bootVerifyDone _ | .powerOnReset | .aonSupplyLoss => true
  | _ => false

end Sys2Proof

namespace Sys2Proof.Machine

theorem State.pending_of_kept {s t : State} (h : t.kept = s.kept) : t.pending = s.pending := congrArg Kept.pending h

theorem State.mono_of_kept {s t : State} (h : t.kept = s.kept) : t.time.mono = s.time.mono := congrArg Kept.mono h

/-- A command's outcome leaves the queue and MONO as they are in `s`. -/
def Out.keepsTimeBase (o : Out) (s : State) : Prop :=
  ∀ t, o = .next t → t.pending = s.pending ∧ t.time.mono = s.time.mono

theorem keepsTimeBase_next {s t : State} (hp : t.pending = s.pending) (hm : t.time.mono = s.time.mono) :
    Out.keepsTimeBase (.next t) s := by
  intro u hu
  cases hu
  exact ⟨hp, hm⟩

theorem keepsTimeBase_next_of_kept {s t : State} (h : t.kept = s.kept) : Out.keepsTimeBase (.next t) s :=
  keepsTimeBase_next (State.pending_of_kept h) (State.mono_of_kept h)

theorem keepsTimeBase_ite {c : Prop} [Decidable c] {o o' : Out} {s : State} (h : o.keepsTimeBase s)
    (h' : o'.keepsTimeBase s) : Out.keepsTimeBase (if c then o else o') s := by
  split
  · exact h
  · exact h'

theorem Out.keeps.timeBase {o : Out} {s : State} (h : o.keeps s.kept) : o.keepsTimeBase s := by
  intro t ht
  rw [ht] at h
  exact keepsTimeBase_next_of_kept h t rfl

/-- A request writes fuses and the key store, and nothing of the time base (R413). -/
theorem timeBase_reqApply (s : State) (b : List Byte) :
    (s.reqApply b).pending = s.pending ∧ (s.reqApply b).time.mono = s.time.mono := by
  rw [State.reqApply]
  split <;> exact ⟨rfl, rfl⟩

theorem timeBase_request (s : State) (b : List Byte) (ok : Bool) :
    (s.request b ok).1.pending = s.pending ∧ (s.request b ok).1.time.mono = s.time.mono := by
  rw [State.request]
  split
  · exact ⟨rfl, rfl⟩
  · split
    · exact timeBase_reqApply s b
    · exact ⟨rfl, rfl⟩

/-- A verification ends in a failure, in the next phase, in a request (BOOT_CMD code 2) or in a code; only the request
may write fuses (R409, R413). -/
theorem execBootVerifyDone_keepsTimeBase (ok : Bool) (s : State) : (execBootVerifyDone ok s).keepsTimeBase s := by
  simp only [execBootVerifyDone]
  split
  next => exact keepsTimeBase_next rfl rfl
  next o _ =>
    refine keepsTimeBase_ite (keepsTimeBase_next rfl rfl)
      (keepsTimeBase_ite (keepsTimeBase_next_of_kept (State.bootFail_kept _ _ _)) ?_)
    split
    next _slot _ => exact keepsTimeBase_next_of_kept (State.bootPhase_kept _ _ _ _)
    next _cmd _arg _ =>
      split
      next =>
        exact keepsTimeBase_ite (keepsTimeBase_next_of_kept (State.bootFail_kept _ _ _))
          (keepsTimeBase_next_of_kept (State.bootPhase_kept _ _ _ _))
      next =>
        have hk := State.bootEnd_kept (s.request o.bytes ok).1 (s.request o.bytes ok).2
        obtain ⟨hp, hm⟩ := timeBase_request s o.bytes ok
        exact keepsTimeBase_next ((State.pending_of_kept hk).trans hp) ((State.mono_of_kept hk).trans hm)
      next => exact keepsTimeBase_next_of_kept (State.bootPhase_kept _ _ _ _)
      next => exact keepsTimeBase_next_of_kept (State.bootEnd_kept _ _)

/-- Every other command keeps the queue, MONO and the fuses, each by its law. -/
theorem exec_keeps {c : Instr} (h : c.movesKept = false) (s : State) : Out.keeps (exec c s) s.kept := by
  cases c
  case bootVerifyDone | powerOnReset | aonSupplyLoss => cases h
  all_goals simp only [exec]
  all_goals simp

theorem State.pending_cutWrite (s : State) : s.cutWrite.pending = s.pending :=
  State.pending_of_kept s.cutWrite_kept

theorem State.pending_aonLost (s : State) : s.aonLost.pending = s.pending := s.pending_cutWrite

/-- The part once VDD_AON is up: the ledger's counts go on, and MONO begins at 0 (R295, R404). -/
def State.aonUp (s : State) : State :=
  let t := (if s.pwr.aonValid then s.aonLost else s).restoreCounts
  { t with pwr := { t.pwr with aonValid := true }, time := {} }

theorem State.mono_aonUp (s : State) : s.aonUp.time.mono = 0 := rfl

theorem State.pending_aonUp (s : State) : s.aonUp.pending = s.pending := by
  simp only [State.aonUp]
  rw [State.pending_of_kept (State.restoreCounts_kept _)]
  split
  · exact s.pending_aonLost
  · rfl

/-- After the power-on the ledger notes it, and BOOT_NONCE is drawn: both keep the time base. -/
theorem execPowerOnReset_eq (s : State) :
    execPowerOnReset s = .next (((s.aonUp.sumCount 16 1).ledgerEvent false 4 0 0 0 0 0 0).newNonce) := rfl

end Sys2Proof.Machine

open Sys2Proof.Machine

/-- Settles O8: every command by what it keeps; the two resets leave MONO at 0, and an always-on supply that is already
lost loses nothing again. -/
theorem timeBaseIsNeverStepped : Obligations.TimeBaseIsNeverStepped := by
  intro c s t h
  have keep (hk : Out.keepsTimeBase (exec c s) s) : t.pending = s.pending ∧ (t.time.mono = s.time.mono ∨
      ((c = .powerOnReset ∨ c = .aonSupplyLoss) ∧ t.time.mono = 0)) := (hk t h).imp_right .inl
  cases hc : c.movesKept with
  | false => exact keep (exec_keeps hc s).timeBase
  | true =>
    cases c
    case bootVerifyDone ok => exact keep (execBootVerifyDone_keepsTimeBase ok s)
    case powerOnReset =>
      have hk : t.kept = s.aonUp.kept := by
        rw [← Host.Outcome.next.inj ((execPowerOnReset_eq s).symm.trans h)]
        simp
      exact ⟨(State.pending_of_kept hk).trans s.pending_aonUp,
        .inr ⟨.inl rfl, (State.mono_of_kept hk).trans s.mono_aonUp⟩⟩
    case aonSupplyLoss =>
      cases h
      split
      · exact ⟨s.pending_aonLost, .inr ⟨.inr rfl, rfl⟩⟩
      · exact ⟨rfl, .inl rfl⟩
    all_goals cases hc

end

section
/-!
One nanosecond of the time base (R295), and the part right after the power-on reset.
-/

open Sys2Proof

namespace Sys2Proof.Machine

/-- After it has counted, a nanosecond keeps the time base: checkers and the ledger's seconds touch neither MONO nor
the queue. -/
theorem State.kept_tick (s : State) : s.tick.kept = s.countTime.kept := by
  simp only [State.tick]
  have hf : (s.countTime.lockedLanes.foldl (fun t l => if t.laneChecks l then t.checkBits l else t) s.countTime).kept =
      s.countTime.kept := foldl_kept _ (fun t l => by split <;> simp) _ _
  split
  · rw [State.secondPowered_kept, hf]
  · exact hf

theorem step_of_empty {s : State} (h : s.pending = []) : step s = .next s.tick := by
  simp only [step, h]

end Sys2Proof.Machine

open Sys2Proof.Machine

/-- Settles O2: MONO counts, and all that follows in the step keeps it. -/
theorem emptyQueueCountsTime : Obligations.EmptyQueueCountsTime := by
  intro s h
  exact ⟨_, step_of_empty h, State.mono_of_kept s.kept_tick, (State.pending_of_kept s.kept_tick).trans h⟩

/-- Settles O3: nothing is listed after reset, so that each register reads its reset value. -/
theorem resetLeaves : Obligations.ResetLeaves :=
  ⟨rfl, rfl, rfl, fun _ => rfl, by decide, by decide, rfl, fun _ => rfl⟩

end

section
/-!
The lifetime ledger's writes (O54): what the arbiter starts when nothing runs, how a write ends, and the two access
registers (R316 to R318).
-/

open Sys2Proof

namespace Sys2Proof.Machine

theorem domainOf_ledgCtl : domainOf Reg.LEDG_CTL = aonDomain := by decide

/-! ### The start of a summary (R316) -/

/-- The write of a summary: the copy that the next GEN names, and the counts as they stand (Table 10.6). -/
def State.summaryWrite (s : State) (cause : Nat) : LedWrite :=
  { summary := true, addr := if s.ledger.gen % 2 = 0 then 8192 else 16384, bytes := s.summaryBytes cause,
    cause := cause }

/-- A summary write under way. -/
def State.startSummary (s : State) (cause : Nat) : State :=
  { s with ledger := { s.ledger with busy := some (s.summaryWrite cause), wantSummary := none, gen := s.ledger.gen + 1,
                                     lastSummary := s.time.mono } }.setBit Reg.LEDG_STAT 31 true

theorem State.ledgerSummary_idle {s : State} (hb : s.ledger.busy = none) (cause : Nat) :
    s.ledgerSummary cause = s.startSummary cause := by
  simp only [State.ledgerSummary, State.ledgerNext, hb]
  rfl

section
variable (s : State) (cause : Nat)

theorem State.busy_startSummary : (s.startSummary cause).ledger.busy = some (s.summaryWrite cause) := rfl
theorem State.gen_startSummary : (s.startSummary cause).ledger.gen = s.ledger.gen + 1 := rfl
theorem State.mem_startSummary : (s.startSummary cause).ledger.mem = s.ledger.mem := rfl
theorem State.flushTokens_startSummary : (s.startSummary cause).ledger.flushTokens = s.ledger.flushTokens := rfl

theorem State.writes_startSummary : (s.startSummary cause).bit Reg.LEDG_STAT 31 = true :=
  State.bit_setBit _ _ _ _ (by decide)

theorem State.reg_startSummary_ne {a : Nat} (h : a ≠ Reg.LEDG_STAT) : (s.startSummary cause).reg a = s.reg a :=
  State.reg_setBit_ne _ h _ _

end

theorem execSummaryHourly_due {s : State} (hb : s.ledger.busy = none) (hw : s.ledger.wantSummary = none)
    (hd : s.ledger.lastSummary + 3600 * 10 ^ 9 ≤ s.time.mono) : execSummaryHourly s = .next (s.startSummary 1) := by
  rw [execSummaryHourly, if_pos ⟨hd, by rw [hw]; rfl⟩, State.ledgerSummary_idle hb]

/-! ### FLUSH (R316) -/

/-- The state after FLUSH took a token. -/
def State.tokenTaken (s : State) : State :=
  { s with ledger := { s.ledger with flushTokens := s.ledger.flushTokens - 1 } }

theorem State.summaryRuns_idle {s : State} (hb : s.ledger.busy = none) (hw : s.ledger.wantSummary = none) :
    s.summaryRuns = false := by
  rw [State.summaryRuns, hb, hw]
  rfl

theorem execFlush_trusted {m : Master} (hm : m.trusted = true) (s : State) : execFlush m s = .next s.ledgerFlush :=
  congrArg Host.Outcome.next (State.gated_trusted_aon hm domainOf_ledgCtl s _ _)

theorem State.ledgerFlush_token {s : State} (hb : s.ledger.busy = none) (hw : s.ledger.wantSummary = none)
    (ht : 0 < s.ledger.flushTokens) : s.ledgerFlush = s.tokenTaken.startSummary 3 := by
  rw [State.ledgerFlush, if_neg]
  · exact State.ledgerSummary_idle (s := s.tokenTaken) hb 3
  · rw [State.summaryRuns_idle hb hw]
    simp only [Bool.false_eq_true, or_false]
    omega

theorem State.ledgerFlush_rejected {s : State} (ht : s.ledger.flushTokens = 0) :
    s.ledgerFlush = s.setBit Reg.LEDG_STAT 30 true := by
  rw [State.ledgerFlush, if_pos (.inl ht)]

/-! ### The end of a write (R316, R317) -/

theorem State.ledgerNext_nothing {s : State} (hb : s.ledger.busy = none) (hw : s.ledger.wantSummary = none)
    (hq : s.ledger.queue = []) : s.ledgerNext = s.setBit Reg.LEDG_STAT 31 false := by
  simp only [State.ledgerNext, hb, hw, hq]

section
variable {s : State} {w : LedWrite}

theorem execLedgerSummaryDone_busy (hb : s.ledger.busy = some w) (hw : w.summary = true) (ok : Bool) :
    execLedgerSummaryDone ok s = .next (s.ledgerDone w ok) := by
  simp only [execLedgerSummaryDone, hb, hw, if_true]

theorem execLedgerRecordDone_busy (hb : s.ledger.busy = some w) (hw : w.summary = false) (ok : Bool) :
    execLedgerRecordDone ok s = .next (s.ledgerDone w ok) := by
  simp only [execLedgerRecordDone, hb, hw, Bool.false_eq_true, if_false]

/-- The end of the write under way, whichever it is. -/
theorem exec_ledgerDone (hb : s.ledger.busy = some w) (ok : Bool) :
    (if w.summary then exec (.ledgerSummaryDone ok) s else exec (.ledgerRecordDone ok) s) =
      .next (s.ledgerDone w ok) := by
  split
  next h => exact execLedgerSummaryDone_busy hb h ok
  next h => exact execLedgerRecordDone_busy hb (Bool.eq_false_iff.2 h) ok

theorem State.ledgerDone_retry (h : w.retried = false) : s.ledgerDone w false =
    { s with ledger := { s.ledger with busy := some { w with retried := true } } } := by
  simp only [State.ledgerDone, h, Bool.false_eq_true, if_false]

theorem State.ledgerDone_stored (hw : s.ledger.wantSummary = none) (hq : s.ledger.queue = []) :
    s.ledgerDone w true = (s.ledgerStored w).setBit Reg.LEDG_STAT 31 false := by
  simp only [State.ledgerDone, if_true]
  exact State.ledgerNext_nothing rfl hw hq

theorem State.ledgerDone_failed (hw : s.ledger.wantSummary = none) (hq : s.ledger.queue = []) (h : w.retried = true) :
    s.ledgerDone w false = (s.ledgerFailed w).setBit Reg.LEDG_STAT 31 false := by
  simp only [State.ledgerDone, h, Bool.false_eq_true, if_false, if_true]
  exact State.ledgerNext_nothing rfl hw hq

theorem State.mem_ledgerDone_stored (hw : s.ledger.wantSummary = none) (hq : s.ledger.queue = []) :
    (s.ledgerDone w true).ledger.mem = putBytes s.ledger.mem w.addr w.bytes := by
  rw [State.ledgerDone_stored hw hq]
  rfl

theorem State.busy_ledgerDone_stored (hw : s.ledger.wantSummary = none) (hq : s.ledger.queue = []) :
    (s.ledgerDone w true).ledger.busy = none := by
  rw [State.ledgerDone_stored hw hq]
  rfl

theorem State.writes_ledgerDone_stored (hw : s.ledger.wantSummary = none) (hq : s.ledger.queue = []) :
    (s.ledgerDone w true).bit Reg.LEDG_STAT 31 = false := by
  rw [State.ledgerDone_stored hw hq]
  exact State.bit_setBit _ _ _ _ (by decide)

/-- What a verified write leaves: its bytes at its address, every other byte of the ledger, and the canonical form. -/
theorem State.ledgerDone_verified (hw : s.ledger.wantSummary = none) (hq : s.ledger.queue = []) :
    (Memory.wf s.ledger.mem = true → Memory.wf (s.ledgerDone w true).ledger.mem = true) ∧
      getBytes (s.ledgerDone w true).ledger.mem w.addr w.bytes.length = w.bytes ∧
      (s.ledgerDone w true).ledger.busy = none ∧ (s.ledgerDone w true).bit Reg.LEDG_STAT 31 = false ∧
      ∀ b, b < w.addr ∨ w.addr + w.bytes.length ≤ b →
        getBytes (s.ledgerDone w true).ledger.mem b 1 = getBytes s.ledger.mem b 1 := by
  rw [State.mem_ledgerDone_stored hw hq]
  exact ⟨fun h => Memory.wf_putBytes h _ _, getBytes_putBytes _ _ _, State.busy_ledgerDone_stored hw hq,
    State.writes_ledgerDone_stored hw hq, fun b hb => getBytes_putBytes_ne _ (by omega)⟩

end

/-- The part once a write has failed twice: what its location holds is not given (R317). -/
def State.spoilt (s : State) (w : LedWrite) : State :=
  { s with fresh := s.fresh + w.bytes.length
           ledger := { s.ledger with
             mem := putBytes s.ledger.mem w.addr
               ((List.range w.bytes.length).map fun i => Config.freeByte (s.fresh + i))
             busy := none } }

section
variable (s : State) (w : LedWrite)

theorem State.ledgerFailed_eq : s.ledgerFailed w =
    ((s.spoilt w).setBit Reg.LEDG_STAT 27 true).reportFault (srcId 8 0) .corr .logic 0 0 := rfl

theorem State.busy_ledgerFailed : (s.ledgerFailed w).ledger.busy = none := by
  rw [State.ledgerFailed_eq, State.ledger_reportFault, State.ledger_setBit, State.spoilt]

theorem State.nvmErr_ledgerFailed : (s.ledgerFailed w).bit Reg.LEDG_STAT 27 = true := by
  rw [State.ledgerFailed_eq, State.bit_of_reg (State.reg_reportFault _ _ _ _ _ _ _)]
  exact State.bit_setBit _ _ _ _ (by decide)

theorem State.reports_ledgerFailed : (s.ledgerFailed w).flt.reports.length = s.flt.reports.length + 1 :=
  List.length_append

/-- No byte but those of the location that failed changes. -/
theorem State.mem_ledgerFailed {b : Nat} (h : b < w.addr ∨ w.addr + w.bytes.length ≤ b) :
    getBytes (s.ledgerFailed w).ledger.mem b 1 = getBytes s.ledger.mem b 1 := by
  rw [State.ledgerFailed_eq, State.ledger_reportFault, State.ledger_setBit, State.spoilt]
  refine getBytes_putBytes_ne _ ?_
  simp only [List.length_map, List.length_range]
  omega

end

/-! ### LEDG_DATA (R318) -/

theorem execLedgerDataRead_trusted {m : Master} (hm : m.trusted = true) (s : State) :
    execLedgerDataRead m s = .next s.ledgerRead := by
  cases m with
  | vf n => cases hm
  | pf | me k => rfl

/-- A VF's read of LEDG_DATA is a violation and returns 0. -/
theorem execLedgerDataRead_vf (n : Fin 32) (s : State) :
    execLedgerDataRead (.vf n) s = .next ((s.vfViolation n 12 Reg.LEDG_DATA).answer [0]) := rfl

theorem State.addr_ledgerRead (s : State) :
    s.ledgerRead.fld Reg.LEDG_ADDR 18 2 = (s.fld Reg.LEDG_ADDR 18 2 + 1) % 131072 := by
  have h : s.ledgerRead.fld Reg.LEDG_ADDR 18 2 =
      (s.setFld Reg.LEDG_ADDR 18 2 ((s.fld Reg.LEDG_ADDR 18 2 + 1) % 131072)).fld Reg.LEDG_ADDR 18 2 := rfl
  rw [h, State.fld_setFld _ _ _ _ _ (by decide)]
  exact Nat.mod_mod _ _

theorem State.ledger_of_apart {s t : State} (h : t.apart = s.apart) : t.ledger = s.ledger :=
  (congrArg State.ledger h : t.apart.ledger = s.apart.ledger)

theorem State.ledger_countWindow (s : State) (n c : Nat) : (s.countWindow n c).ledger = s.ledger := by
  rw [State.countWindow]
  split
  · rw [State.ledger_setBit, State.ledger_setSlice]
  · rw [State.ledger_setSlice]

theorem State.ledger_violate (s : State) (n c kind pipe stage detail : Nat) :
    (s.violate n c kind pipe stage detail).ledger = s.ledger := by
  rw [State.violate_eq, State.ledger_countWindow, State.ledger_of_apart (s.apart_noteViolation n c _)]

end Sys2Proof.Machine

open Sys2Proof.Machine

/-- Settles O54: a summary starts when none runs, a write ends verified, retried or failed, and LEDG_DATA moves its
address alone. -/
theorem ledgerWrites : Obligations.LedgerWrites := by
  intro m n w s hm
  refine ⟨fun hb hw => ⟨fun hd => ?_, fun ht => ?_, fun ht => ?_⟩, fun hb hw hq => ⟨fun hs => ?_, fun hs => ?_,
    fun hr => ?_, fun hr => ?_⟩, fun hd => if_pos hd, fun hd => if_pos hd, ?_, ?_⟩
  · refine ⟨_, execSummaryHourly_due hb hw hd, ?_, s.gen_startSummary 1, s.mem_startSummary 1,
      s.writes_startSummary 1, fun b => s.reg_startSummary_ne 1⟩
    rw [s.busy_startSummary 1]
    rfl
  · have he := execFlush_trusted hm s
    rw [State.ledgerFlush_token hb hw ht] at he
    refine ⟨_, he, s.tokenTaken.flushTokens_startSummary 3, ?_, s.tokenTaken.mem_startSummary 3⟩
    rw [s.tokenTaken.busy_startSummary 3]
    rfl
  · have he := execFlush_trusted hm s
    rw [State.ledgerFlush_rejected ht] at he
    exact ⟨_, he, State.ledger_setBit _ _ _ _, State.bit_setBit _ _ _ _ (by decide),
      fun b hb => State.reg_setBit_ne s hb _ _⟩
  · exact ⟨_, execLedgerSummaryDone_busy hb hs true, State.ledgerDone_verified hw hq⟩
  · exact ⟨_, execLedgerRecordDone_busy hb hs true, State.ledgerDone_verified hw hq⟩
  · have he := exec_ledgerDone hb false
    rw [State.ledgerDone_retry hr] at he
    exact ⟨_, he, rfl, rfl⟩
  · have he := exec_ledgerDone hb false
    rw [State.ledgerDone_failed hw hq hr] at he
    refine ⟨_, he, ?_, ?_⟩
    · rw [State.bit_setBit_ne _ _ _ _ _ (by decide) (by decide), s.nvmErr_ledgerFailed w]
    · rw [State.ledger_setBit, State.flt_setBit]
      exact ⟨s.busy_ledgerFailed w, s.reports_ledgerFailed w, fun b => s.mem_ledgerFailed w⟩
  · exact ⟨_, execLedgerDataRead_trusted hm s, rfl, rfl, s.addr_ledgerRead⟩
  · refine ⟨_, execLedgerDataRead_vf n s, rfl, ?_⟩
    rw [State.ledger_answer, State.vfViolation, State.ledger_violate]

end

section
/-!
Writes by the access codes of R10, and the fields of a word with one bit set over it.
-/

open Sys2Proof

namespace Sys2Proof

theorem fieldOf_or_bit (d : Word) {i : Nat} (h : i < 32) : fieldOf (d ||| fieldMask i i) i i = 1 := by
  rw [bitsOf_one, getLsbD_or_fieldMask _ h, decide_eq_true ⟨Nat.le_refl i, Nat.le_refl i⟩, Bool.or_true]
  rfl

theorem fieldOf_or_bit_ne (d : Word) {i hi lo : Nat} (h : i < 32) (hd : i < lo ∨ hi < i) :
    fieldOf (d ||| fieldMask i i) hi lo = fieldOf d hi lo := by
  refine fieldOf_congr fun j h1 h2 => ?_
  rw [getLsbD_or_fieldMask _ h, decide_eq_false (by omega), Bool.or_false]

end Sys2Proof

namespace Sys2Proof.Machine

section
variable (s : State) (a : Nat) (d : Word)

@[simp] theorem State.apart_plainWrite : (s.plainWrite a d).apart = s.apart := by
  rw [State.plainWrite]
  split
  · rfl
  · exact State.apart_setReg _ _ _

theorem State.reg_plainWrite_ne {b : Nat} (h : b ≠ a) : (s.plainWrite a d).reg b = s.reg b := by
  rw [State.plainWrite]
  split
  · rfl
  · exact State.reg_setReg_ne s h _

theorem State.time_plainWrite : (s.plainWrite a d).time = s.time :=
  (congrArg State.time (s.apart_plainWrite a d) :)

theorem State.ports_plainWrite : (s.plainWrite a d).ports = s.ports :=
  (congrArg State.ports (s.apart_plainWrite a d) :)

/-- A field all of whose bits are RW takes the value written (R10). -/
theorem State.fld_plainWrite_rw {l : RegDesc} {hi lo : Nat} (hr : regAt a = some l) (hhi : hi < 32)
    (hrw : fieldMask hi lo &&& BitVec.ofNat 32 l.rw = fieldMask hi lo)
    (hw1c : fieldMask hi lo &&& BitVec.ofNat 32 l.w1c = 0) : (s.plainWrite a d).fld a hi lo = fieldOf d hi lo := by
  simp only [State.plainWrite, hr, State.fld, State.reg_setReg_self]
  refine fieldOf_congr fun i h1 h2 => ?_
  have h3 := congrArg (BitVec.getLsbD · i) hrw
  have h4 := congrArg (BitVec.getLsbD · i) hw1c
  simp only [BitVec.getLsbD_and, getLsbD_fieldMask _ _ _ hhi, h1, h2, and_self, decide_true, Bool.true_and,
    BitVec.ofNat_eq_ofNat, BitVec.getLsbD_zero] at h3 h4
  simp only [BitVec.getLsbD_and, BitVec.getLsbD_or, BitVec.getLsbD_not, h3, h4, BitVec.lt_of_getLsbD h3]
  simp

end

end Sys2Proof.Machine
end

section
/-!
CLOCK (O42): its moves, its reads with the seconds of the same moment, and the two-step queue (R296, R297, R303).
-/

open Sys2Proof

namespace Sys2Proof.Machine

/-! ### Moves of CLOCK (R296) -/

theorem execClockStep_trusted {m : Master} (hm : m.trusted = true) (d : Word) (s : State) :
    execClockStep m d s = .next (s.clockStep d) :=
  congrArg Host.Outcome.next (State.gated_trusted_aon hm (by decide) s _ _)

theorem clkAdd_eq_max (clk : Nat) (d : Int) : (clkAdd clk d : Int) = max 0 (clk + d * 10 ^ 12) := by
  rw [clkAdd, Int.toNat_eq_max, max_comm]

/-- CLOCK as TIME_SET0 to TIME_SET2 give it. -/
def State.clkSet (s : State) : Nat :=
  (((s.reg Reg.TIME_SET1).toNat + 2 ^ 32 * s.fld Reg.TIME_SET2 15 0) * 10 ^ 9 + s.fld Reg.TIME_SET0 29 0) * 10 ^ 12

/-- CLOCK set, and LOADED raised. -/
def State.clkLoaded (s : State) (c : Nat) : State :=
  { s with time := { s.time with clk := c } }.setBit Reg.TIME_CTL 30 true

section
variable (s : State) (c : Nat)

theorem State.clk_clkLoaded : (s.clkLoaded c).time.clk = c := rfl
theorem State.mono_clkLoaded : (s.clkLoaded c).time.mono = s.time.mono := rfl

theorem State.loaded_clkLoaded : (s.clkLoaded c).bit Reg.TIME_CTL 30 = true := State.bit_setBit _ _ _ _ (by decide)

theorem State.reg_clkLoaded_ne {a : Nat} (h : a ≠ Reg.TIME_CTL) : (s.clkLoaded c).reg a = s.reg a :=
  State.reg_setBit_ne _ h _ _

end

theorem State.clockLoad_valid {s : State} (h : s.fld Reg.TIME_SET0 29 0 < 10 ^ 9) :
    s.clockLoad = s.clkLoaded s.clkSet := by
  have hd : decide (10 ^ 9 ≤ s.fld Reg.TIME_SET0 29 0) = false := decide_eq_false (Nat.not_le.2 h)
  simp only [State.clockLoad, hd, Bool.false_eq_true, if_false]
  rfl

theorem execClockLoad_trusted {m : Master} (hm : m.trusted = true) (d : Word) (s : State) :
    execClockLoad m d s = .next (s.plainWrite Reg.TIME_CTL (d ||| 0x80000000)).clockLoad := by
  have hl : fieldOf (d ||| 0x80000000) 31 31 = 1 := fieldOf_or_bit d (i := 31) (by decide)
  have hg : execClockLoad m d s = .next (s.timeCtlWrite (d ||| 0x80000000)) :=
    congrArg Host.Outcome.next (State.gated_trusted_aon hm (by decide) s _ _)
  rw [hg, State.timeCtlWrite, if_pos hl]

/-- A write of TIME_CTL leaves TIME_SET0 to TIME_SET2. -/
theorem State.clkSet_plainWrite (s : State) (d : Word) :
    (s.plainWrite Reg.TIME_CTL d).clkSet = s.clkSet := by
  have hr {b : Nat} (hb : b ≠ Reg.TIME_CTL) := s.reg_plainWrite_ne Reg.TIME_CTL d hb
  rw [State.clkSet, State.clkSet, hr (by decide), State.fld_of_reg (hr (by decide)), State.fld_of_reg (hr (by decide))]

/-! ### Holding copies (R30, R297) -/

theorem State.at?_holds_hold (s : State) (m : Master) (a b : Nat) (w : Word) :
    Store.at? (s.hold m a w).holds (holdKey m b) = if b = a then some w else Store.at? s.holds (holdKey m b) := by
  have hk : holdKey m b = holdKey m a ↔ b = a := by simp only [holdKey]; omega
  simp only [State.hold, Store.at?_set, hk]

/-- The word a master holds is what it reads, and the read uses it up. -/
theorem State.readWord_held {s : State} {m : Master} {a : Nat} {l : RegDesc} {w : Word} (hr : regAt a = some l)
    (hw : isWideLow a = false) (h : Store.at? s.holds (holdKey m a) = some w) :
    s.readWord m a = (w, { s with holds := Store.del s.holds (holdKey m a) }) := by
  simp only [State.readWord, hr, hw, State.takeHold, h, Option.map_some]
  rfl

/-- A high word of a register of the time base: read plainly, through its line. -/
def plainTime (a : Nat) : Prop := a = Reg.TIME_CLK1 ∨ a = Reg.TIME_PPSIN1

theorem State.busRead_plainTime {a : Nat} (ha : plainTime a) (s : State) (m : Master) :
    s.busRead m a = (s.answer [0]).gated m a false fun t => t.readAnswer m a := by
  rcases ha with rfl | rfl <;> rfl

theorem execClearOnRead_held {m : Master} (hm : m.trusted = true) {a : Nat} (ha : plainTime a) {s : State} {w : Word}
    (h : Store.at? s.holds (holdKey m a) = some w) :
    execClearOnRead m a s = .next ({ s with holds := Store.del s.holds (holdKey m a) }.answer [w]) := by
  have e : execClearOnRead m a s = .next (s.busRead m a) := by rcases ha with rfl | rfl <;> rfl
  have hd : domainOf a = aonDomain := by rcases ha with rfl | rfl <;> decide
  have hw : isWideLow a = false := by rcases ha with rfl | rfl <;> decide
  obtain ⟨l, hr⟩ : ∃ l, regAt a = some l :=
    Option.isSome_iff_exists.1 (by rcases ha with rfl | rfl <;> decide)
  rw [e, State.busRead_plainTime ha, State.gated_trusted_aon hm hd, State.readAnswer,
    State.readWord_held (s := s.answer [0]) hr hw h]
  rfl

theorem execClockRead_trusted {m : Master} (hm : m.trusted = true) (s : State) :
    execClockRead m s = .next (((s.answer [0]).clockRead m).2.answer [BitVec.ofNat 32 s.clkNs]) :=
  congrArg Host.Outcome.next (State.gated_trusted_aon hm (by decide) (s.answer [0]) _ _)

theorem execPpsinRead_trusted {m : Master} (hm : m.trusted = true) (s : State) :
    execPpsinRead m s = .next (((s.answer [0]).ppsinRead m).2.answer [s.reg Reg.TIME_PPSIN0]) :=
  congrArg Host.Outcome.next (State.gated_trusted_aon hm (by decide) (s.answer [0]) _ _)

theorem State.clk1_clockRead (s : State) (m : Master) :
    Store.at? (s.clockRead m).2.holds (holdKey m Reg.TIME_CLK1) = some (BitVec.ofNat 32 s.clkSec) := by
  rw [State.clockRead, State.at?_holds_hold, if_neg (by decide), State.at?_holds_hold, if_pos rfl]

theorem State.ppsin1_ppsinRead (s : State) (m : Master) :
    Store.at? (s.ppsinRead m).2.holds (holdKey m Reg.TIME_PPSIN1) = some (s.reg Reg.TIME_PPSIN1) := by
  rw [State.ppsinRead, State.at?_holds_hold, if_neg (by decide), State.at?_holds_hold, if_pos rfl]

/-! ### The two-step queue (R303) -/

theorem execTsqPop_trusted {m : Master} (hm : m.trusted = true) {p : Fin 1024} {s : State}
    (hd : s.domOn (domainOf (Reg.PORT_TSQ0 p)) = true) (d : Word) : execTsqPop m p d s =
      .next ((s.plainWrite (Reg.PORT_TSQ0 p) (d ||| 0x20000000)).setPort p
        { s.port p with tsq := (s.port p).tsq.drop 1 }) := by
  have hp : fieldOf (d ||| 0x20000000) 29 29 = 1 := fieldOf_or_bit d (i := 29) (by decide)
  have hg : execTsqPop m p d s = .next (s.tsqWrite p (d ||| 0x20000000)) :=
    congrArg Host.Outcome.next (State.gated_trusted hm hd _ _)
  rw [hg, State.tsqWrite, if_pos hp, State.port_of_ports (s.ports_plainWrite _ _)]

end Sys2Proof.Machine

open Sys2Proof.Machine

/-- Settles O42: each command at its access register; a read captures the seconds under the reader's own key. -/
theorem settingAndReadingClock : Obligations.SettingAndReadingClock := by
  intro m p d now s hm
  refine ⟨⟨_, execClockStep_trusted hm d s, clkAdd_eq_max _ _, rfl, rfl⟩, fun hns => ?_, ?_, ?_, fun hd => ?_⟩
  · have hw {b : Nat} (hb : b ≠ Reg.TIME_CTL) := s.reg_plainWrite_ne Reg.TIME_CTL (d ||| 0x80000000) hb
    have he := execClockLoad_trusted hm d s
    rw [State.clockLoad_valid (by rw [State.fld_of_reg (hw (by decide))]; exact hns), State.clkSet_plainWrite] at he
    refine ⟨_, he, State.clk_clkLoaded _ _, State.loaded_clkLoaded _ _, ?_, fun a ha => ?_⟩
    · rw [State.mono_clkLoaded, State.time_plainWrite]
    · rw [State.reg_clkLoaded_ne _ _ ha, hw ha]
  · exact ⟨_, execClockRead_trusted hm s, rfl, rfl, rfl, _,
      execClearOnRead_held hm (.inl rfl) ((s.answer [0]).clk1_clockRead m), rfl⟩
  · exact ⟨_, execPpsinRead_trusted hm s, rfl, rfl, _,
      execClearOnRead_held hm (.inr rfl) ((s.answer [0]).ppsin1_ppsinRead m), rfl⟩
  · refine ⟨_, execTsqPop_trusted hm hd d, ?_, fun j hj => ?_, fun a ha => ?_⟩
    · rw [State.port_setPort, if_pos rfl]
    · rw [State.port_setPort, if_neg hj, State.port_of_ports (s.ports_plainWrite _ _)]
    · rw [State.reg_setPort, s.reg_plainWrite_ne _ _ ha]

end

section
/-!
Pulses per second, snapshots of the histogram and the flush of collectors (O43; R299, R300, R309, R312).
-/

open Sys2Proof

namespace Sys2Proof.Machine

/-! ### Pulses per second (R299, R300) -/

/-- PPS_OUT has risen: it falls PPS_W milliseconds from now. -/
def State.ppsRaised (s : State) : State :=
  { s with time := { s.time with
      wrapped := false, ppsEnd := some (s.time.mono + ms (oneIfZero (s.fld Reg.TIME_CTL 7 0))) } }.emit (.pps true)

theorem execPpsOutPulse_wrapped {s : State} (hw : s.time.wrapped = true) (he : s.time.ppsEnd = none) :
    execPpsOutPulse s = .next s.ppsRaised := by
  simp only [execPpsOutPulse, hw, he, if_true, Option.isSome_none, Bool.false_eq_true, if_false]
  rfl

/-- PPS_OUT has fallen. -/
def State.ppsFallen (s : State) : State :=
  { s with time := { s.time with ppsEnd := none } }.emit (.pps false)

theorem execPpsOutEnd_due {s : State} {e : Nat} (he : s.time.ppsEnd = some e) (hd : e ≤ s.time.mono) :
    execPpsOutEnd s = .next s.ppsFallen := by
  simp only [execPpsOutEnd, he, hd, if_true]
  rfl

/-- CLOCK captured by an edge on PPS_IN. -/
def State.ppsHeld (s : State) : State :=
  let t := { s with time := { s.time with ppsIn := some s.time.mono } }
  ((t.setReg Reg.TIME_PPSIN0 (BitVec.ofNat 32 t.clkNs)).setReg Reg.TIME_PPSIN1 (BitVec.ofNat 32 t.clkSec)).setReg
    Reg.TIME_PPSIN2 (BitVec.ofNat 32 (t.clkSec / 2 ^ 32))

/-- The capture, with PPSI_OVF set where one was held. -/
def State.ppsCaptured (s : State) : State :=
  if s.ppsHeld.bit Reg.TIME_CTL 27 then s.ppsHeld.setBit Reg.TIME_CTL 26 true else s.ppsHeld

theorem execPpsInEdge_first {s : State} (hn : s.time.ppsIn = none) (hen : s.bit Reg.TIME_CTL 28 = true) :
    execPpsInEdge s = .next (s.ppsCaptured.raiseBit Reg.TIME_CTL 27) := by
  have hen' : State.bit { s with time := { s.time with ppsIn := some s.time.mono } } Reg.TIME_CTL 28 = true := hen
  simp only [execPpsInEdge, hn, hen', Bool.false_eq_true, if_true, if_false]
  rfl

section
variable (s : State)

theorem State.ppsIn0_ppsHeld : s.ppsHeld.reg Reg.TIME_PPSIN0 = BitVec.ofNat 32 s.clkNs := by
  rw [State.ppsHeld, State.reg_setReg_ne _ (by decide), State.reg_setReg_ne _ (by decide), State.reg_setReg_self]
  rfl

theorem State.ppsIn1_ppsHeld : s.ppsHeld.reg Reg.TIME_PPSIN1 = BitVec.ofNat 32 s.clkSec := by
  rw [State.ppsHeld, State.reg_setReg_ne _ (by decide), State.reg_setReg_self]
  rfl

theorem State.ppsIn2_ppsHeld : s.ppsHeld.reg Reg.TIME_PPSIN2 = BitVec.ofNat 32 (s.clkSec / 2 ^ 32) := by
  rw [State.ppsHeld, State.reg_setReg_self]
  rfl

theorem State.timeCtl_ppsHeld (i : Nat) : s.ppsHeld.bit Reg.TIME_CTL i = s.bit Reg.TIME_CTL i := by
  refine State.bit_of_reg ?_ i
  rw [State.ppsHeld, State.reg_setReg_ne _ (by decide), State.reg_setReg_ne _ (by decide),
    State.reg_setReg_ne _ (by decide)]
  rfl

theorem State.reg_ppsCaptured_ne {a : Nat} (h : a ≠ Reg.TIME_CTL) : s.ppsCaptured.reg a = s.ppsHeld.reg a := by
  rw [State.ppsCaptured]
  split
  · exact State.reg_setBit_ne _ h _ _
  · rfl

theorem State.ovf_ppsCaptured :
    s.ppsCaptured.bit Reg.TIME_CTL 26 = (s.bit Reg.TIME_CTL 26 || s.bit Reg.TIME_CTL 27) := by
  rw [State.ppsCaptured, State.timeCtl_ppsHeld]
  split
  next h => rw [State.bit_setBit _ _ _ _ (by decide), h, Bool.or_true]
  next h => rw [State.timeCtl_ppsHeld, Bool.eq_false_iff.2 h, Bool.or_false]

theorem State.clk_ppsCaptured : s.ppsCaptured.time.clk = s.time.clk := by
  rw [State.ppsCaptured]
  split
  · rw [State.time_setBit]
    rfl
  · rfl

end

/-! ### The window of a snapshot (R312) -/

theorem State.ports_of_apart {s t : State} (h : t.apart = s.apart) : t.ports = s.ports :=
  (congrArg State.ports h : t.apart.ports = s.apart.ports)

/-- The live bins `l` of a histogram shown in the window. -/
def State.showBins (s : State) (h : Store Nat) (l : List Nat) : State :=
  l.foldl (fun t b => t.setBin b (Store.read 0 h b)) s

section
variable (s : State) (b v : Nat)

theorem State.reg_setBin_ne {a : Nat} (h : a ≠ Reg.TELE_HBIN b) (h' : a ≠ Reg.TELE_HBIN_HI b) :
    (s.setBin b v).reg a = s.reg a := by
  rw [State.setBin, State.reg_setReg_ne _ h', State.reg_setReg_ne _ h]

theorem State.lo_setBin : (s.setBin b v).reg (Reg.TELE_HBIN b) = BitVec.ofNat 32 v := by
  rw [State.setBin, State.reg_setReg_ne _ (by simp only [Reg.TELE_HBIN, Reg.TELE_HBIN_HI]; omega),
    State.reg_setReg_self]

theorem State.hi_setBin : (s.setBin b v).reg (Reg.TELE_HBIN_HI b) = BitVec.ofNat 32 (v / 2 ^ 32) := by
  rw [State.setBin, State.reg_setReg_self]

/-- A bin as the window shows it: its low 64 bits. -/
def State.shownBin (s : State) (b : Nat) : Nat :=
  (s.reg (Reg.TELE_HBIN b)).toNat + 2 ^ 32 * (s.reg (Reg.TELE_HBIN_HI b)).toNat

theorem State.shownBin_setBin (c : Nat) : (s.setBin c v).shownBin b = if b = c then v % 2 ^ 64 else s.shownBin b := by
  split
  next h =>
    rw [h, State.shownBin, State.lo_setBin, State.hi_setBin, BitVec.toNat_ofNat, BitVec.toNat_ofNat]
    omega
  next h =>
    have h1 : Reg.TELE_HBIN b ≠ Reg.TELE_HBIN c := by simp only [Reg.TELE_HBIN]; omega
    have h2 : Reg.TELE_HBIN b ≠ Reg.TELE_HBIN_HI c := by simp only [Reg.TELE_HBIN, Reg.TELE_HBIN_HI]; omega
    have h3 : Reg.TELE_HBIN_HI b ≠ Reg.TELE_HBIN c := by simp only [Reg.TELE_HBIN, Reg.TELE_HBIN_HI]; omega
    have h4 : Reg.TELE_HBIN_HI b ≠ Reg.TELE_HBIN_HI c := by simp only [Reg.TELE_HBIN_HI]; omega
    rw [State.shownBin, State.reg_setBin_ne _ _ _ h1 h2, State.reg_setBin_ne _ _ _ h3 h4, State.shownBin]

variable (h : Store Nat) (l : List Nat)

theorem State.shownBin_showBins :
    (s.showBins h l).shownBin b = if b ∈ l then Store.read 0 h b % 2 ^ 64 else s.shownBin b := by
  induction l generalizing s with
  | nil => rfl
  | cons c r ih =>
    have e : s.showBins h (c :: r) = (s.setBin c (Store.read 0 h c)).showBins h r := rfl
    rw [e, ih, State.shownBin_setBin]
    by_cases hr : b ∈ r
    · rw [if_pos hr, if_pos (List.mem_cons_of_mem c hr)]
    · by_cases hc : b = c <;> simp [hr, hc]

theorem State.apart_showBins : (s.showBins h l).apart = s.apart := by
  rw [State.showBins]
  refine State.apart_foldl _ ?_ l s
  exact fun _ _ => rfl

theorem State.cmd_showBins : (s.showBins h l).reg Reg.TELE_HIST_CMD = s.reg Reg.TELE_HIST_CMD :=
  State.reg_foldl _ _ (fun t c => t.reg_setBin_ne c _ (by simp only [Reg.TELE_HIST_CMD, Reg.TELE_HBIN]; omega)
    (by simp only [Reg.TELE_HIST_CMD, Reg.TELE_HBIN_HI]; omega)) l s

end

/-! ### A snapshot (R312) -/

/-- The register line of TELE_HIST_CMD. -/
def histCmdLine : RegDesc :=
  { name := "TELE_HIST_CMD", space := .global, off := 0x5000004, reset := 0x20000000, ro := 0x40000000,
    rw := 0x200003FF, own := 0x80000000 }

theorem regAt_histCmd : regAt Reg.TELE_HIST_CMD = some histCmdLine := by decide

/-- The port the command names. -/
def State.histPort (s : State) : Nat := s.fld Reg.TELE_HIST_CMD 9 0

/-- The named port's bins shown in the window. -/
def State.histShown (s : State) : State := s.showBins (s.port s.histPort).hist (List.range 64)

/-- The named port's live bins cleared where CLR is 1. -/
def State.histCleared (s : State) (p : Nat) : State :=
  if s.bit Reg.TELE_HIST_CMD 29 then s.setPort p { s.port p with hist := [] } else s

theorem State.histSnap_eq (s : State) :
    s.histSnap = (s.histShown.histCleared s.histPort).setBit Reg.TELE_HIST_CMD 30 true := rfl

section
variable (s : State)

theorem State.port_histShown (j : Nat) : s.histShown.port j = s.port j :=
  State.port_of_ports (State.ports_of_apart (s.apart_showBins _ _)) j

theorem State.clr_histShown : s.histShown.bit Reg.TELE_HIST_CMD 29 = s.bit Reg.TELE_HIST_CMD 29 :=
  State.bit_of_reg (s.cmd_showBins _ _) 29

theorem State.reg_histCleared (p a : Nat) : (s.histCleared p).reg a = s.reg a := by
  rw [State.histCleared]
  split <;> rfl

theorem State.port_histCleared (p j : Nat) : (s.histCleared p).port j =
    if j = p ∧ s.bit Reg.TELE_HIST_CMD 29 = true then { s.port p with hist := [] } else s.port j := by
  rw [State.histCleared]
  split
  next h => simp only [State.port_setPort, h, and_true]
  next h => rw [if_neg fun hj => h hj.2]

theorem State.busy_histSnap : s.histSnap.bit Reg.TELE_HIST_CMD 30 = true := by
  rw [State.histSnap_eq]
  exact State.bit_setBit _ _ _ _ (by decide)

theorem State.shownBin_histSnap {b : Nat} (hb : b < 64) :
    s.histSnap.shownBin b = Store.read 0 (s.port s.histPort).hist b % 2 ^ 64 := by
  have hr {a : Nat} (ha : a ≠ Reg.TELE_HIST_CMD) : s.histSnap.reg a = s.histShown.reg a := by
    rw [State.histSnap_eq, State.reg_setBit_ne _ ha, State.reg_histCleared]
  rw [State.shownBin, hr (by simp only [Reg.TELE_HIST_CMD, Reg.TELE_HBIN]; omega),
    hr (by simp only [Reg.TELE_HIST_CMD, Reg.TELE_HBIN_HI]; omega)]
  exact (s.shownBin_showBins b _ _).trans (if_pos (List.mem_range.2 hb))

theorem State.port_histSnap (j : Nat) : s.histSnap.port j =
    if j = s.histPort ∧ s.bit Reg.TELE_HIST_CMD 29 = true then { s.port s.histPort with hist := [] }
    else s.port j := by
  have e : s.histSnap.port j = (s.histShown.histCleared s.histPort).port j := by
    rw [State.histSnap_eq]
    exact State.port_of_ports (State.ports_setBit _ _ _ _) j
  rw [e, State.port_histCleared, State.port_histShown, State.port_histShown, State.clr_histShown]

end

/-- TELE_HIST_CMD as the snapshot finds it written: GO set. -/
def State.histCmd (s : State) (d : Word) : State := s.plainWrite Reg.TELE_HIST_CMD (d ||| 0x80000000)

theorem execHistSnapshot_trusted {m : Master} (hm : m.trusted = true) {s : State}
    (hd : s.domOn (domainOf Reg.TELE_HIST_CMD) = true) (d : Word) :
    execHistSnapshot m d s = .next (s.histCmd d).histSnap := by
  have hg : execHistSnapshot m d s = .next (s.histWrite (d ||| 0x80000000)) :=
    congrArg Host.Outcome.next (State.gated_trusted hm hd _ _)
  have hgo : fieldOf (d ||| 0x80000000) 31 31 = 1 := fieldOf_or_bit d (i := 31) (by decide)
  rw [hg, State.histWrite, if_pos hgo, State.histCmd]

section
variable (s : State) (d : Word)

theorem State.port_histCmd (j : Nat) : (s.histCmd d).port j = s.port j :=
  State.port_of_ports (s.ports_plainWrite _ _) j

theorem State.histPort_histCmd : (s.histCmd d).histPort = fieldOf d 9 0 := by
  rw [State.histPort, State.histCmd, State.fld_plainWrite_rw _ _ _ regAt_histCmd (by decide) (by decide) (by decide)]
  exact fieldOf_or_bit_ne d (i := 31) (by decide) (by decide)

theorem State.clr_histCmd : (s.histCmd d).bit Reg.TELE_HIST_CMD 29 = true ↔ fieldOf d 29 29 = 1 := by
  rw [State.bit, State.histCmd, State.fld_plainWrite_rw _ _ _ regAt_histCmd (by decide) (by decide) (by decide),
    beq_iff_eq]
  exact iff_of_eq (congrArg (· = 1) (fieldOf_or_bit_ne d (i := 31) (by decide) (by decide)))

end

/-! ### Collectors (R309) -/

/-- Collector j once its frame is sent: no record held, and the next sequence number. -/
def PostCol.sent (x : PostCol) : PostCol := { x with recs := [], seq := (x.seq + 1) % 2 ^ 32 }

theorem State.sendCollector_some {s : State} {j : Nat} (h : (s.col j).recs ≠ []) :
    ∃ f, s.sendCollector j = ((s.setCol j (s.col j).sent).queueToStore 2048 f).teleCount 7 1 := by
  rw [State.sendCollector]
  extract_lets
  rw [if_neg (by rwa [List.isEmpty_iff])]
  exact ⟨_, rfl⟩

theorem execCollectorFlushTimeout_due {j : Fin 8} {s : State} (h : (s.col j).recs ≠ [])
    (hd : (s.col j).since + us (oneIfZero (s.winLE (colBase j) 6 2)) ≤ s.time.mono) :
    execCollectorFlushTimeout j s = .next (s.sendCollector j) := if_pos ⟨h, hd⟩

section
variable (s : State) (j : Nat) (f : Frame) (x : PostCol)

theorem State.col_setCol (i : Nat) : (s.setCol j x).col i = if i = j then x else s.col i := Store.read_put _ _ _ _ _

theorem State.apart_teleCount (k n : Nat) : (s.teleCount k n).apart = s.apart := s.apart_countFld _ _ _ _

theorem State.col_queued_counted (src k n i : Nat) : ((s.queueToStore src f).teleCount k n).col i = s.col i := by
  rw [State.col, State.tele_of_apart (State.apart_teleCount _ _ _)]
  rfl

theorem State.length_toStore_queued_counted (src k n : Nat) :
    (Store.read [] ((s.queueToStore src f).teleCount k n).vat.toStore src).length =
      (Store.read [] s.vat.toStore src).length + 1 := by
  rw [State.vat_of_apart (State.apart_teleCount _ _ _), State.queueToStore, Store.read_set, if_pos rfl,
    List.length_append, List.length_singleton]

theorem State.toNat_teleCnt {k : Nat} (hk : k < 16) : ((s.teleCount k 1).reg (Reg.TELE_CNT k)).toNat =
    min (2 ^ 32 - 1) ((s.reg (Reg.TELE_CNT k)).toNat + 1) :=
  s.toNat_reg_count (satBitOf_teleCnt hk)

end

end Sys2Proof.Machine

open Sys2Proof.Machine

/-- Settles O43: each command at its branch, and what the window, the ports and the collectors read afterwards. -/
theorem pulsesSnapshotsAndCollectors : Obligations.PulsesSnapshotsAndCollectors := by
  intro m j b p e d s hm
  refine ⟨fun hw he => ⟨_, execPpsOutPulse_wrapped hw he, rfl, rfl, rfl, rfl⟩,
    fun he hd => ⟨_, execPpsOutEnd_due he hd, rfl, rfl, rfl⟩, fun hn hen => ?_, fun hd hp hb => ?_, ?_,
    fun hr hd => ?_⟩
  · have hne {a : Nat} (h : a ≠ Reg.TIME_CTL) (h' : a ≠ Reg.HOST_STAT) :=
      s.ppsCaptured.reg_raiseBit_ne Reg.TIME_CTL 27 a h h'
    refine ⟨_, execPpsInEdge_first hn hen, ?_, ?_, ?_, State.bit_raiseBit _ _ _ (by decide) (by decide), ?_, ?_⟩
    · rw [hne (by decide) (by decide), State.reg_ppsCaptured_ne _ (by decide), State.ppsIn0_ppsHeld]
    · rw [hne (by decide) (by decide), State.reg_ppsCaptured_ne _ (by decide), State.ppsIn1_ppsHeld]
    · rw [hne (by decide) (by decide), State.reg_ppsCaptured_ne _ (by decide), State.ppsIn2_ppsHeld]
    · rw [State.bit_raiseBit_ne _ _ _ _ (by decide) (by decide), State.ovf_ppsCaptured]
    · rw [State.time_raiseBit, State.clk_ppsCaptured]
  · have hport (i : Nat) : (s.histCmd d).histSnap.port i =
        if i = p ∧ fieldOf d 29 29 = 1 then { s.port p with hist := [] } else s.port i := by
      simp only [State.port_histSnap, State.port_histCmd, State.histPort_histCmd, State.clr_histCmd, ← hp]
    refine ⟨_, execHistSnapshot_trusted hm hd d, ?_, ?_, State.busy_histSnap _, fun i hi => ?_⟩
    · have hs := (s.histCmd d).shownBin_histSnap hb
      rwa [State.histPort_histCmd, ← hp, State.port_histCmd] at hs
    · rw [hport]
      simp only [true_and]
      split <;> rfl
    · rw [hport, if_neg fun h => hi h.1]
  · exact ⟨_, rfl, State.bit_setBit _ _ _ _ (by decide), fun a ha => State.reg_setBit_ne s ha _ _⟩
  · have he := execCollectorFlushTimeout_due hr hd
    obtain ⟨f, hf⟩ := State.sendCollector_some hr
    rw [hf] at he
    refine ⟨_, he, ?_, ?_, fun i hi => ?_, State.length_toStore_queued_counted _ _ _ _ _,
      State.toNat_teleCnt _ (by decide)⟩
    · rw [State.col_queued_counted, State.col_setCol, if_pos rfl, PostCol.sent]
    · rw [State.col_queued_counted, State.col_setCol, if_pos rfl, PostCol.sent]
    · rw [State.col_queued_counted, State.col_setCol, if_neg hi]

end

section
/-!
The course of a fault record (O19): a self-test's end, a spare repair and the record commands (R326, R335 to R339). The
ledger's event records leave the collector and every register but LEDG_STAT alone, so that each command is its write of
the record.
-/

open Sys2Proof

namespace Sys2Proof.Machine

/-! ### What the ledger's event records leave alone (R315, R316) -/

/-- What an event record leaves alone of what a fault record's course reads: the collector, and the registers but
LEDG_STAT. -/
def State.besideLedger (s : State) : Collector × (Nat → Word) :=
  (s.flt, fun a => if a = Reg.LEDG_STAT then 0 else s.reg a)

theorem State.besideLedger_congr {s t : State} (hf : t.flt = s.flt)
    (hr : ∀ a, a ≠ Reg.LEDG_STAT → t.reg a = s.reg a) : t.besideLedger = s.besideLedger :=
  Prod.ext hf (funext fun a => by
    simp only [State.besideLedger]
    split
    · rfl
    next h => exact hr a h)

theorem State.flt_of_besideLedger {s t : State} (h : t.besideLedger = s.besideLedger) : t.flt = s.flt :=
  congrArg Prod.fst h

theorem State.reg_of_besideLedger {s t : State} (h : t.besideLedger = s.besideLedger) {a : Nat}
    (ha : a ≠ Reg.LEDG_STAT) : t.reg a = s.reg a := by
  have := congrFun (congrArg Prod.snd h) a
  simpa only [State.besideLedger, if_neg ha] using this

@[simp] theorem State.besideLedger_setLedgStat (s : State) (i : Nat) (b : Bool) :
    (s.setBit Reg.LEDG_STAT i b).besideLedger = s.besideLedger :=
  State.besideLedger_congr rfl fun _ ha => State.reg_setBit_ne s ha i b

theorem State.besideLedger_withLedger (s : State) (l : Ledger) :
    ({ s with ledger := l } : State).besideLedger = s.besideLedger := rfl

@[simp] theorem State.besideLedger_sumCount (s : State) (o n : Nat) :
    (s.sumCount o n).besideLedger = s.besideLedger := rfl

@[simp] theorem State.besideLedger_ledgerCritFull (s : State) : s.ledgerCritFull.besideLedger = s.besideLedger :=
  State.besideLedger_setLedgStat (s.setSum 5900 1) 29 true

@[simp] theorem State.besideLedger_ledgerNext (s : State) : s.ledgerNext.besideLedger = s.besideLedger := by
  rw [State.ledgerNext]
  split
  · rfl
  · split
    · rw [State.besideLedger_setLedgStat, State.besideLedger_withLedger]
    · split
      · rw [State.besideLedger_setLedgStat]
      · extract_lets toCrit _ _ _ _ t
        have ht : t.besideLedger = s.besideLedger := by
          simp only [t]
          split
          · rw [State.besideLedger_ledgerCritFull]
          · rfl
        rw [State.besideLedger_setLedgStat, State.besideLedger_withLedger, ht]

@[simp] theorem State.besideLedger_ledgerPut (s : State) (e : LedEvent) :
    (s.ledgerPut e).besideLedger = s.besideLedger := by
  rw [State.ledgerPut]
  split
  · rw [State.besideLedger_setLedgStat, State.besideLedger_sumCount]
  · rw [State.besideLedger_ledgerNext, State.besideLedger_withLedger]

@[simp] theorem State.besideLedger_ledgerEvent (s : State) (c : Bool) (type cls src merge result tile detail : Nat) :
    (s.ledgerEvent c type cls src merge result tile detail).besideLedger = s.besideLedger := by
  rw [State.ledgerEvent]
  split
  · rw [State.besideLedger_sumCount]
  · rw [State.besideLedger_ledgerPut, State.besideLedger_withLedger]

/-! ### Spares (R337) -/

theorem spareRow_lt {src i : Nat} (h : spareRow src = some i) : i < 4096 := by
  have hi : srcInst src < 2048 := Nat.mod_lt _ (by decide)
  rw [spareRow] at h
  split at h <;> cases h <;> omega

/-- The ledger counts no spare. -/
theorem State.spareLeft_of_besideLedger {s t : State} (h : t.besideLedger = s.besideLedger) (x : FltRec) :
    t.spareLeft x = s.spareLeft x := by
  have htile : Reg.SLC_STG_STAT (srcSlice x.src) ≠ Reg.LEDG_STAT := by
    simp only [Reg.SLC_STG_STAT, Reg.LEDG_STAT]
    omega
  simp only [State.spareLeft, State.fld_of_reg (State.reg_of_besideLedger h htile), State.flt_of_besideLedger h]
  cases hrow : spareRow x.src with
  | none => rfl
  | some i =>
    have hi := spareRow_lt hrow
    have hrowReg : Reg.FLT_SPROW i ≠ Reg.LEDG_STAT := by
      simp only [Reg.FLT_SPROW, Reg.LEDG_STAT]
      omega
    simp only [State.fld_of_reg (State.reg_of_besideLedger h hrowReg)]

theorem State.recs_setRec (s : State) (i : Nat) (x : FltRec) : (s.setRec i x).flt.recs = Store.set s.flt.recs i x := rfl

/-- A spare taken for a record writes that record alone. -/
theorem State.recs_takeSpare (s : State) (i : Nat) (x : FltRec) :
    (s.takeSpare i x).flt.recs = Store.set s.flt.recs i { x with state := .repair, spareUsed := true } := by
  rw [State.takeSpare, State.flt_of_besideLedger (State.besideLedger_ledgerEvent ..), State.recs_setRec]
  congr 1
  split
  · rw [State.flt_sumCount, State.flt_setFld]
  · split
    · rw [State.flt_sumCount, State.flt_setFld, State.flt_setFld]
    · rfl

/-! ### One record written or freed -/

theorem State.rec?_of_recs_set {s t : State} {r : Nat} {x : FltRec} (h : t.flt.recs = Store.set s.flt.recs r x) :
    t.rec? r = some x ∧ ∀ j, j ≠ r → t.rec? j = s.rec? j := by
  have hj (j : Nat) : t.rec? j = if j = r then some x else s.rec? j := by
    rw [State.rec?, h, Store.at?_set, State.rec?]
  exact ⟨(hj r).trans (if_pos rfl), fun j hne => (hj j).trans (if_neg hne)⟩

theorem State.rec?_delRec (s : State) (r j : Nat) : (s.delRec r).rec? j = if j = r then none else s.rec? j :=
  Store.at?_del _ _ _

theorem State.rec?_recResult (s : State) (v j : Nat) : (s.recResult v).rec? j = s.rec? j := rfl

theorem State.result_recResult_ok (s : State) : (s.recResult 0).fld Reg.FLT_REC_CMD 28 26 = 0 :=
  State.fld_setFld _ _ _ _ _ (by decide)

/-- A record that waits for nothing and holds no outputs is DONE once its handling ends. -/
theorem State.recServed_done {x : FltRec} (hl : x.needLoad = false) (hc : x.needCommit = []) (hs : x.scope = .none)
    (r : Fin 64) (s : State) : s.recServed r x = s.setRec r { x with state := .done } := by
  rw [State.recServed, if_neg (by simp [hl, hc]), if_pos r.isLt, hs]
  rfl

/-! ### A lasting fault (R337, R339) -/

/-- Whatever follows a lasting fault, its record is written and no other. -/
theorem State.recs_recLasting (s : State) (i : Nat) (x : FltRec) :
    ∃ y, (s.recLasting i x).flt.recs = Store.set s.flt.recs i y := by
  rw [State.recLasting]
  split
  · exact ⟨_, State.recs_setRec _ _ _⟩
  · split
    · exact ⟨_, State.recs_takeSpare _ _ _⟩
    · rw [State.recs_setRec]
      split
      · exact ⟨_, rfl⟩
      · exact ⟨_, rfl⟩

theorem State.recLasting_held {s : State} (h : s.bit Reg.FLT_CTL 29 = false) (i : Nat) (x : FltRec) :
    s.recLasting i x = s.setRec i { x with state := .held, lasting := true } := if_pos h

theorem State.recLasting_repair {s : State} (h : s.bit Reg.FLT_CTL 29 = true) {x : FltRec}
    (hs : s.spareLeft x = true) (i : Nat) : s.recLasting i x = s.takeSpare i { x with lasting := true } :=
  (if_neg (by simp [h])).trans (if_pos hs)

theorem State.recLasting_noSpare {s : State} (h : s.bit Reg.FLT_CTL 29 = true) {x : FltRec} (ht : x.isTile = false)
    (hs : s.spareLeft x = false) (i : Nat) :
    s.recLasting i x = (s.setBit Reg.FLT_STAT 28 true).setRec i { x with state := .held, lasting := true } := by
  have htile : FltRec.isTile { x with lasting := true } = false := ht
  have hspare : s.spareLeft { x with lasting := true } = false := hs
  simp only [State.recLasting, h, hspare, htile, Bool.true_eq_false, Bool.false_eq_true, if_false]

/-! ### The end of a self-test (R335, R336) -/

/-- A passed self-test noted: the transient result, its count and its event record. -/
def State.passNoted (s : State) (x : FltRec) : State :=
  ({ s with flt := { s.flt with history := s.flt.history ++ [(x.src, x.detail, s.time.mono)] } }.sumCount
    (704 + 8 * srcCls x.src) 1).ledgerEvent false 2 x.cls.code x.src x.merge 1 x.tile x.detail

/-- A failed self-test noted: its count and its event record. -/
def State.failNoted (s : State) (x : FltRec) : State := (s.sumCount (708 + 8 * srcCls x.src) 1).ledgerLasting x

theorem State.flt_passNoted (s : State) (x : FltRec) :
    (s.passNoted x).flt = { s.flt with history := s.flt.history ++ [(x.src, x.detail, s.time.mono)] } :=
  State.flt_of_besideLedger (State.besideLedger_ledgerEvent ..)

theorem State.besideLedger_failNoted (s : State) (x : FltRec) : (s.failNoted x).besideLedger = s.besideLedger :=
  State.besideLedger_ledgerEvent ..

/-- A self-test failed: noted, and its fault lasting. -/
def State.failedTest (s : State) (r : Nat) (x : FltRec) : State := (s.failNoted x).recLasting r x

section
variable (s : State) (r : Nat) (x : FltRec)

theorem State.recs_failNoted : (s.failNoted x).flt.recs = s.flt.recs :=
  congrArg Collector.recs (State.flt_of_besideLedger (s.besideLedger_failNoted x))

theorem State.autoSpare_failNoted : (s.failNoted x).bit Reg.FLT_CTL 29 = s.bit Reg.FLT_CTL 29 :=
  State.bit_of_reg (State.reg_of_besideLedger (s.besideLedger_failNoted x) (by decide)) 29

theorem State.spareLeft_failNoted : (s.failNoted x).spareLeft x = s.spareLeft x :=
  State.spareLeft_of_besideLedger (s.besideLedger_failNoted x) x

theorem State.recs_failedTest : ∃ y, (s.failedTest r x).flt.recs = Store.set s.flt.recs r y := by
  obtain ⟨y, hy⟩ := (s.failNoted x).recs_recLasting r x
  exact ⟨y, by rw [State.failedTest, hy, State.recs_failNoted]⟩

theorem State.rec?_failedTest_ne (j : Nat) (hj : j ≠ r) : (s.failedTest r x).rec? j = s.rec? j :=
  have ⟨_, h⟩ := s.recs_failedTest r x
  (State.rec?_of_recs_set h).2 j hj

theorem State.failedTest_held (h : s.bit Reg.FLT_CTL 29 = false) :
    (s.failedTest r x).rec? r = some { x with state := .held, lasting := true } := by
  rw [State.failedTest, State.recLasting_held ((s.autoSpare_failNoted x).trans h), State.rec?_setRec, if_pos rfl]

variable {x}

theorem State.failedTest_repair (h : s.bit Reg.FLT_CTL 29 = true) (hs : s.spareLeft x = true) :
    (s.failedTest r x).rec? r = some { x with state := .repair, lasting := true, spareUsed := true } := by
  rw [State.failedTest, State.recLasting_repair ((s.autoSpare_failNoted x).trans h)
    ((s.spareLeft_failNoted x).trans hs)]
  exact (State.rec?_of_recs_set (State.recs_takeSpare ..)).1

theorem State.failedTest_noSpare (ht : x.isTile = false) (h : s.bit Reg.FLT_CTL 29 = true)
    (hs : s.spareLeft x = false) :
    (s.failedTest r x).rec? r = some { x with state := .held, lasting := true } ∧
      (s.failedTest r x).bit Reg.FLT_STAT 28 = true := by
  rw [State.failedTest, State.recLasting_noSpare ((s.autoSpare_failNoted x).trans h) ht
    ((s.spareLeft_failNoted x).trans hs)]
  refine ⟨(State.rec?_setRec _ _ _ _).trans (if_pos rfl), ?_⟩
  exact (State.bit_of_reg (State.reg_setRec _ _ _ _) 28).trans (State.bit_setBit _ _ _ _ (by decide))

end

section
variable {r : Fin 64} {x : FltRec} {s : State} (hx : s.rec? r = some x)
include hx

theorem execSelftestDone_pass (hst : x.state = .selftest) :
    execSelftestDone r true s = .next ((s.passNoted x).recServed r x) := by
  simp [execSelftestDone, hx, hst, State.passNoted]

theorem execSelftestDone_fail (hst : x.state = .selftest) :
    execSelftestDone r false s = .next (s.failedTest r x) := by
  simp [execSelftestDone, hx, hst, State.failedTest, State.failNoted]

/-! ### A repair's end and the record commands (R326, R337, R339) -/

theorem execSpareRepairDone_repair (hst : x.state = .repair) (ht : x.isTile = false) :
    execSpareRepairDone r s = .next (s.recServed r x) := by
  simp [execSpareRepairDone, hx, hst, ht]

theorem State.recClose_done (hst : x.state = .done) : s.recClose r = (s.delRec r).recResult 0 := by
  simp only [State.recClose, hx, hst]

theorem State.recRelease_held (hst : x.state = .held) (hl : x.needLoad = false) (hc : x.needCommit = [])
    (ht : x.isTile = false) : s.recRelease r = (s.recServed r x).recResult 0 := by
  simp [State.recRelease, hx, hst, hl, hc, ht]

theorem State.recRepair_held (hst : x.state = .held) (hl : x.lasting = true) (hu : x.spareUsed = false)
    (hs : s.spareLeft x = true) : s.recRepair r = (s.takeSpare r x).recResult 0 := by
  simp [State.recRepair, hx, hst, hl, hu, hs]

end

/-- A trusted master's record command is carried out. -/
theorem State.gated_recCmd {m : Master} (hm : m.trusted = true) (s : State) (run : State → State) :
    s.gated m Reg.FLT_REC_CMD true run = run s :=
  State.gated_trusted_aon hm (by decide) s true run

/-- A record command that writes its record and answers OK. -/
theorem State.recCmd_ok {m : Master} (hm : m.trusted = true) {s t : State} {run : State → State} {r : Nat} {y : FltRec}
    (hrun : run s = t.recResult 0) (ht : t.flt.recs = Store.set s.flt.recs r y) :
    (s.gated m Reg.FLT_REC_CMD true run).rec? r = some y ∧
      (s.gated m Reg.FLT_REC_CMD true run).fld Reg.FLT_REC_CMD 28 26 = 0 ∧
      ∀ j, j ≠ r → (s.gated m Reg.FLT_REC_CMD true run).rec? j = s.rec? j := by
  rw [State.gated_recCmd hm, hrun]
  have ⟨hself, hother⟩ := State.rec?_of_recs_set ht
  exact ⟨hself, State.result_recResult_ok _, hother⟩

end Sys2Proof.Machine

open Sys2Proof.Machine

/-- Settles O19: each command at its branch, where it writes or frees its own record and no other. -/
theorem courseOfARecord : Obligations.CourseOfARecord := by
  intro r x m s hx hm hl hc hs ht
  have hserved := State.recServed_done hl hc hs r
  refine ⟨fun hst => ⟨?_, ?_⟩, fun hst => ?_, fun hst => ?_, fun hst => ⟨?_, fun hla hu hsp => ?_⟩⟩
  · have hflt := s.flt_passNoted x
    have ⟨hself, hother⟩ := State.rec?_of_recs_set (s := s) (r := r) (x := { x with state := .done })
      (t := (s.passNoted x).setRec r { x with state := .done }) (by rw [State.recs_setRec, hflt])
    exact ⟨_, (execSelftestDone_pass hx hst).trans (by rw [hserved]), hself, congrArg Collector.history hflt, hother⟩
  · exact ⟨_, execSelftestDone_fail hx hst, s.rec?_failedTest_ne r x, s.failedTest_held r x, s.failedTest_repair r,
      s.failedTest_noSpare r ht⟩
  · exact (execSpareRepairDone_repair hx hst ht).trans (by rw [hserved])
  · refine ⟨_, congrArg Host.Outcome.next ((State.gated_recCmd hm s _).trans (State.recClose_done hx hst)), ?_,
      State.result_recResult_ok _, fun j hj => ?_⟩
    · rw [State.rec?_recResult, State.rec?_delRec, if_pos rfl]
    · rw [State.rec?_recResult, State.rec?_delRec, if_neg hj]
  · have hrun := (State.recRelease_held hx hst hl hc ht).trans (by rw [hserved])
    exact ⟨_, rfl, State.recCmd_ok hm hrun (s.recs_setRec r { x with state := .done })⟩
  · exact ⟨_, rfl, State.recCmd_ok hm (State.recRepair_held hx hst hla hu hsp) (s.recs_takeSpare r x)⟩

end

section
/-!
The registers of the pair, and what its changes of state write (R360 to R365, Tables 12.4 and 12.5).
-/

open Sys2Proof

namespace Sys2Proof.Machine

theorem State.pair_of_apart {s t : State} (h : t.apart = s.apart) : t.pair = s.pair :=
  (congrArg State.pair h : t.apart.pair = s.apart.pair)

/-! ### Counters and fields -/

/-- The pair's counters belong to no block with a saturation bit (R13). -/
theorem satBitOf_pairCnt {k : Nat} (hk : k < 16) : satBitOf (Reg.PAIR_CNT k) = none := by
  interval_cases k <;> rfl

section
variable (s : State) {k : Nat} (hk : k < 16)
include hk

theorem State.reg_pairCount_ne {a : Nat} (h : a ≠ Reg.PAIR_CNT k) : (s.pairCount k 1).reg a = s.reg a :=
  s.reg_count_ne (satBitOf_pairCnt hk) h

theorem State.toNat_pairCnt : ((s.pairCount k 1).reg (Reg.PAIR_CNT k)).toNat =
    min (2 ^ 32 - 1) ((s.reg (Reg.PAIR_CNT k)).toNat + 1) :=
  s.toNat_reg_count (satBitOf_pairCnt hk)

end

theorem State.pair_pairCount (s : State) (k n : Nat) : (s.pairCount k n).pair = s.pair :=
  State.pair_of_apart (s.apart_countFld _ _ _ _)

theorem State.pairState_of_reg {s t : State} (h : t.reg Reg.PAIR_STAT = s.reg Reg.PAIR_STAT) :
    t.pairState = s.pairState := State.fld_of_reg h 22 20

theorem State.term_of_reg {s t : State} (h : t.reg Reg.PAIR_TERM = s.reg Reg.PAIR_TERM) : t.term = s.term :=
  congrArg BitVec.toNat h

theorem State.term_lt (s : State) : s.term < 2 ^ 32 := (s.reg Reg.PAIR_TERM).isLt

/-- A sequence number written to its register reads back. -/
theorem State.toNat_reg_setReg_self (s : State) (a : Nat) {n : Nat} (h : n < 2 ^ 32) :
    ((s.setReg a (BitVec.ofNat 32 n)).reg a).toNat = n := by
  rw [State.reg_setReg_self, BitVec.toNat_ofNat, Nat.mod_eq_of_lt h]

theorem State.pairState_setPairState (s : State) {v : Nat} (h : v < 8) : (s.setPairState v).pairState = v :=
  (s.fld_setFld _ _ _ _ (by decide)).trans (Nat.mod_eq_of_lt h)

/-- A bit of PAIR_STAT outside STATE leaves the state. -/
theorem State.pairState_setBit (s : State) {i : Nat} (b : Bool) (hi : i < 32) (h : i < 20 ∨ 22 < i) :
    (s.setBit Reg.PAIR_STAT i b).pairState = s.pairState := s.fld_setFld_disjoint _ _ _ _ _ _ hi (by omega)

theorem State.pairState_raiseBit (s : State) {i : Nat} (h : i < 20 ∨ 22 < i) :
    (s.raiseBit Reg.PAIR_STAT i).pairState = s.pairState := s.fld_raiseBit_disjoint (by decide) h

/-! ### ALONE (Table 12.4, steps 3 and 4) -/

section
variable (s : State) (n : Nat)

/-- The registers as ALONE leaves them. -/
def State.aloneRegs (s : State) (n : Nat) : State :=
  ((s.setPairState 1).setReg Reg.PAIR_TERM (BitVec.ofNat 32 n)).setFld Reg.PAIR_STAT 19 18 2

theorem State.reg_enterAlone (a : Nat) : (s.enterAlone n).reg a = (s.aloneRegs n).reg a := rfl

theorem State.reg_enterAlone_ne {a : Nat} (h : a ≠ Reg.PAIR_STAT) (ht : a ≠ Reg.PAIR_TERM) :
    (s.enterAlone n).reg a = s.reg a := by
  rw [State.reg_enterAlone, State.aloneRegs, State.reg_setFld_ne _ h, State.reg_setReg_ne _ ht, State.setPairState,
    State.reg_setFld_ne _ h]

theorem State.pairState_enterAlone : (s.enterAlone n).pairState = 1 := by
  rw [State.pairState_of_reg (s.reg_enterAlone n _), State.aloneRegs, State.pairState,
    State.fld_setFld_disjoint _ _ _ _ _ _ _ (by decide) (.inr (by decide)), State.fld_setReg_ne _ (by decide)]
  exact s.pairState_setPairState (by decide)

variable {n} in
theorem State.term_enterAlone (h : n < 2 ^ 32) : (s.enterAlone n).term = n := by
  rw [State.term_of_reg (s.reg_enterAlone n _), State.aloneRegs, State.term, State.reg_setFld_ne _ (by decide),
    State.toNat_reg_setReg_self _ _ h]

end

/-! ### Takeover (R360) -/

section
variable (s : State)

theorem State.pairState_takeOver : s.takeOver.pairState = 1 :=
  (State.pairState_raiseBit _ (.inr (by decide))).trans (s.pairState_enterAlone _)

theorem State.term_takeOver : s.takeOver.term = (s.term + 1) % 2 ^ 32 :=
  (State.term_of_reg (State.reg_raiseBit_ne _ _ _ _ (by decide) (by decide))).trans
    (s.term_enterAlone (Nat.mod_lt _ (by decide)))

theorem State.flag_takeOver : s.takeOver.bit Reg.PAIR_STAT 31 = true :=
  State.bit_raiseBit _ _ _ (by decide) (by decide)

theorem State.missed_takeOver : s.takeOver.pair.missed = 0 :=
  congrArg Pair.missed (State.pair_of_apart (State.apart_raiseBit _ _ _))

end

/-! ### SYNC (R362 to R364) -/

section
variable (s : State) (n : Nat) (donor partner : Bool) (rx : Nat)

/-- STATE, TERM, DONOR and ACTIVE as SYNC writes them, before the sequence numbers. -/
def State.syncRegs (s : State) (n : Nat) (donor active : Bool) : State :=
  (((s.setPairState 3).setReg Reg.PAIR_TERM (BitVec.ofNat 32 n)).setBit Reg.PAIR_STAT 18 donor).setBit Reg.PAIR_STAT 19
    active

theorem State.reg_enterSync {a : Nat} (hr : a ≠ Reg.PAIR_RXSEQ) (ha : a ≠ Reg.PAIR_ACKSEQ) :
    ∃ active, (s.enterSync n donor partner rx).reg a = (s.syncRegs n donor active).reg a := by
  rw [State.enterSync, State.reg_withPair, State.reg_setReg_ne _ ha, State.reg_setReg_ne _ hr]
  exact ⟨_, rfl⟩

theorem State.pairState_syncRegs (active : Bool) : (s.syncRegs n donor active).pairState = 3 := by
  rw [State.syncRegs, State.pairState_setBit _ _ (by decide) (.inl (by decide)),
    State.pairState_setBit _ _ (by decide) (.inl (by decide)), State.pairState, State.fld_setReg_ne _ (by decide)]
  exact s.pairState_setPairState (by decide)

theorem State.pairState_enterSync : (s.enterSync n donor partner rx).pairState = 3 := by
  obtain ⟨active, h⟩ := s.reg_enterSync n donor partner rx (a := Reg.PAIR_STAT) (by decide) (by decide)
  rw [State.pairState_of_reg h, State.pairState_syncRegs]

theorem State.donor_enterSync : (s.enterSync n donor partner rx).bit Reg.PAIR_STAT 18 = donor := by
  obtain ⟨active, h⟩ := s.reg_enterSync n donor partner rx (a := Reg.PAIR_STAT) (by decide) (by decide)
  rw [State.bit_of_reg h, State.syncRegs, State.bit_setBit_ne _ _ _ _ _ (by decide) (by decide),
    State.bit_setBit _ _ _ _ (by decide)]

variable {n} in
theorem State.term_enterSync (hn : n < 2 ^ 32) : (s.enterSync n donor partner rx).term = n := by
  obtain ⟨active, h⟩ := s.reg_enterSync n donor partner rx (a := Reg.PAIR_TERM) (by decide) (by decide)
  rw [State.term_of_reg h, State.syncRegs, State.term, State.reg_setBit_ne _ (by decide),
    State.reg_setBit_ne _ (by decide), State.toNat_reg_setReg_self _ _ hn]

end

section
variable {s : State} (h : s.pairState = 4)
include h

/-- The resync of a device in PAIRED raises its TERM and makes it a donor in SYNC (R355, R364). -/
theorem State.reg_resyncAsDonor_paired (a : Nat) : s.resyncAsDonor.reg a =
    (((s.setReg Reg.PAIR_TERM (s.reg Reg.PAIR_TERM + 1)).setPairState 3).setBit Reg.PAIR_STAT 18 true).reg a := by
  rw [State.resyncAsDonor, if_neg (fun hn => hn h)]
  rfl

theorem State.pairState_resyncAsDonor : s.resyncAsDonor.pairState = 3 := by
  rw [State.pairState_of_reg (State.reg_resyncAsDonor_paired h _),
    State.pairState_setBit _ _ (by decide) (.inl (by decide)), State.pairState_setPairState _ (by decide)]

theorem State.donor_resyncAsDonor : s.resyncAsDonor.bit Reg.PAIR_STAT 18 = true := by
  rw [State.bit_of_reg (State.reg_resyncAsDonor_paired h _), State.bit_setBit _ _ _ _ (by decide)]

end

/-! ### MISMATCH (R349) -/

/-- The state in which nothing of a mirrored partner waits. -/
def State.unmirrored (s : State) : State :=
  { s with pair := { s.pair with rsAt := none, made := [], events := [], unacked := [], again := none } }

section
variable {s : State} (h : s.pairState ≠ 6)
include h

theorem State.enterMismatch_eq : s.enterMismatch = (s.unmirrored.setPairState 6).raiseBit Reg.PAIR_STAT 28 := if_neg h

theorem State.pairState_enterMismatch : s.enterMismatch.pairState = 6 := by
  rw [State.enterMismatch_eq h, State.pairState_raiseBit _ (.inr (by decide)),
    State.pairState_setPairState _ (by decide)]

theorem State.flag_enterMismatch : s.enterMismatch.bit Reg.PAIR_STAT 28 = true := by
  rw [State.enterMismatch_eq h]
  exact State.bit_raiseBit _ _ _ (by decide) (by decide)

theorem State.reg_enterMismatch_ne {a : Nat} (ha : a ≠ Reg.PAIR_STAT) (hh : a ≠ Reg.HOST_STAT) :
    s.enterMismatch.reg a = s.reg a := by
  rw [State.enterMismatch_eq h, State.reg_raiseBit_ne _ _ _ _ ha hh, State.setPairState, State.reg_setFld_ne _ ha]
  rfl

end

end Sys2Proof.Machine
end

section
/-!
The commands of the pair: heartbeats and their windows (R346, R360), frames received (R344, R345), records, ACKs and
NAKs (R352 to R355), the counter sweep (R353), data (R347), rails and software's commands (R344, R349, R352, R360, R364).
-/

open Sys2Proof

namespace Sys2Proof

theorem bytesAt_drop (l : List Byte) (k off n : Nat) : bytesAt (l.drop k) off n = bytesAt l (k + off) n := by
  simp only [bytesAt, List.drop_drop]

theorem leAt_drop (l : List Byte) (k off n : Nat) : leAt (l.drop k) off n = leAt l (k + off) n :=
  congrArg leNat (bytesAt_drop l k off n)

end Sys2Proof

namespace Sys2Proof.Machine

/-! ### Frames of the Solyen link -/

theorem State.anyRail_rail0 {s : State} (h : s.railUp 0 = true) : s.anyRail = some 0 := if_pos h

theorem State.sendSolyen_rail0 {s : State} (h : s.railUp 0 = true) (type seq count : Nat) (payload : List Byte) :
    s.sendSolyen type seq count payload = s.emit (.solyen 0 (s.solyenFrame type seq 0 count payload)) := by
  rw [State.sendSolyen, State.anyRail_rail0 h]

theorem State.pairSends_of {s : State} (hon : s.pairOn = true) (hsafe : s.pair.safe = false)
    (hdev : s.flt.deviceSafe = false) (hdom : s.domOn 144 = true) : s.pairSends = true := by
  rw [State.pairSends, hon, hsafe, hdev, hdom]
  rfl

/-- A device that takes the frames of a rail (R344). -/
structure State.Hears (s : State) (rail : Nat) : Prop where
  on : s.pairOn = true
  up : s.railUp rail = true
  dom : s.domOn 144 = true

/-- A frame that Table 12.6 finds no fault with. -/
structure GoodFrame (l : List Byte) : Prop where
  long : 64 ≤ l.length
  short : l.length ≤ 16400
  fcs : tailOf l = fcsOf (dataOf l)
  ver : beAt l 0 1 = 1
  fits : 20 + beAt l 12 2 ≤ l.length

/-- What a frame says. -/
def rxOf (l : List Byte) : SolyenRx where
  pairId := beAt l 2 2
  term := beAt l 4 4
  seq := beAt l 8 4
  count := beAt l 15 1
  payload := bytesAt l 16 (beAt l 12 2)

/-- A good frame is handled by its type (R345). -/
theorem State.solyenRx_good {s : State} {rail : Nat} {l : List Byte} {type : Nat} (hs : s.Hears rail) (hl : GoodFrame l)
    (ht : beAt l 1 1 = type) (h0 : type ≠ 0) (h5 : type ≤ 5) (run : State → SolyenRx → State) :
    s.solyenRx rail l type run = run s (rxOf l) := by
  obtain ⟨hon, hup, hdom⟩ := hs
  obtain ⟨hlong, hshort, hfcs, hver, hfits⟩ := hl
  have hbad : ¬ (l.length < 64 ∨ 16400 < l.length ∨ tailOf l ≠ fcsOf (dataOf l) ∨ beAt l 0 1 ≠ 1 ∨ type = 0 ∨
      5 < type ∨ l.length < 20 + beAt l 12 2) := by
    simp only [hfcs, hver, ne_eq, not_true_eq_false, false_or]
    omega
  simp only [State.solyenRx, hon, hup, hdom, ht, hbad, Bool.true_eq_false, or_self, ne_eq, not_true_eq_false, if_false]
  rfl

/-! ### Heartbeats (R346, R360) -/

/-- The state whose last heartbeat has just gone out. -/
def State.beaten (s : State) : State := { s with pair := { s.pair with hbLast := s.time.mono } }

theorem execHeartbeatSend_rail0 {s : State} (hs : s.pairSends = true) (h0 : s.railUp 0 = true)
    (h1 : s.railUp 1 = false) (hd : s.pair.hbLast + us 5 ≤ s.time.mono) : execHeartbeatSend s =
      .next (s.beaten.emit (.solyen 0 (s.solyenFrame 1 0 0 0 s.heartbeat))) := by
  have h0' : s.beaten.railUp 0 = true := h0
  have h1' : s.beaten.railUp 1 = false := h1
  rw [execHeartbeatSend, hs, decide_eq_true hd, if_pos (Bool.and_self true)]
  refine congrArg Host.Outcome.next ?_
  rw [← State.beaten, List.foldl_cons, List.foldl_cons, List.foldl_nil, if_pos h0', h1',
    if_neg Bool.false_ne_true]
  rfl

/-- The state after a window without a heartbeat. -/
def State.windowMissed (s : State) : State :=
  { s with pair := { s.pair with winStart := s.time.mono, hbSeen := false, missed := s.pair.missed + 1 } }.pairCount 0 1

theorem State.reg_windowMissed_ne (s : State) {a : Nat} (h : a ≠ Reg.PAIR_CNT 0) : s.windowMissed.reg a = s.reg a :=
  State.reg_pairCount_ne _ (by decide) h

theorem State.pair_windowMissed (s : State) : s.windowMissed.pair =
    { s.pair with winStart := s.time.mono, hbSeen := false, missed := s.pair.missed + 1 } := State.pair_pairCount _ _ _

theorem State.pairState_windowMissed (s : State) : s.windowMissed.pairState = s.pairState :=
  State.pairState_of_reg (s.reg_windowMissed_ne (by decide))

theorem State.missCnt_windowMissed (s : State) : (s.windowMissed.reg (Reg.PAIR_CNT 0)).toNat =
    min (2 ^ 32 - 1) ((s.reg (Reg.PAIR_CNT 0)).toNat + 1) := State.toNat_pairCnt _ (by decide)

section
variable {s : State} (hon : s.pairOn = true) (hw : s.pair.winStart + us 5 ≤ s.time.mono) (hseen : s.pair.hbSeen = false)
include hon hw hseen

/-- A missed window counts, and enough of them in a row with a partner end in SUSPECT or a takeover. -/
theorem execHeartbeatWindowEnd_missed : execHeartbeatWindowEnd s =
    if (s.pairState = 3 ∨ s.pairState = 4) ∧ s.pair.safe = false ∧
        max 2 (s.fld Reg.PAIR_CTL 24 20) ≤ s.pair.missed + 1 then
      if s.bit Reg.PAIR_CTL 28 && s.windowMissed.linkSilent then .next (s.windowMissed.setPairState 5)
      else .next s.windowMissed.takeOver
    else .next s.windowMissed := by
  have hctl : s.windowMissed.reg Reg.PAIR_CTL = s.reg Reg.PAIR_CTL := s.reg_windowMissed_ne (by decide)
  have hsafe : s.windowMissed.pair.safe = s.pair.safe := (congrArg Pair.safe s.pair_windowMissed :)
  rw [← s.pairState_windowMissed, ← hsafe, ← State.fld_of_reg hctl, ← State.bit_of_reg hctl, execHeartbeatWindowEnd,
    hon, decide_eq_true hw, if_pos (Bool.and_self true), hseen]
  rfl

theorem execHeartbeatWindowEnd_few (hk : s.pair.missed + 1 < max 2 (s.fld Reg.PAIR_CTL 24 20)) :
    execHeartbeatWindowEnd s = .next s.windowMissed := by
  rw [execHeartbeatWindowEnd_missed hon hw hseen, if_neg fun h => Nat.not_le.2 hk h.2.2]

theorem execHeartbeatWindowEnd_takeOver (hsafe : s.pair.safe = false)
    (hk : max 2 (s.fld Reg.PAIR_CTL 24 20) ≤ s.pair.missed + 1) (hst : s.pairState = 4)
    (hb : s.bit Reg.PAIR_CTL 28 = false) : execHeartbeatWindowEnd s = .next s.windowMissed.takeOver := by
  rw [execHeartbeatWindowEnd_missed hon hw hseen, if_pos ⟨.inr hst, hsafe, hk⟩, hb, Bool.false_and,
    if_neg Bool.false_ne_true]

end

/-- What a heartbeat tells. -/
def beatOf (l : List Byte) : Beat where
  state := beAt (rxOf l).payload 0 1
  donor := (beAt (rxOf l).payload 3 1).testBit 1
  term := (rxOf l).term
  txSeq := beAt (rxOf l).payload 8 4

section
variable {s : State} {rail : Fin 2} {l : List Byte} (hs : s.Hears rail) (hl : GoodFrame l)
include hs hl

/-- A heartbeat of another pair is a mismatch, and counted (R349). -/
theorem execHeartbeatRx_mismatch (ht : beAt l 1 1 = 1) (hid : beAt l 2 2 ≠ s.fld Reg.PAIR_CTL 15 0)
    (hst : s.pairState ≠ 6) :
    ∃ t, execHeartbeatRx rail l s = .next t ∧ t.pairState = 6 ∧ t.bit Reg.PAIR_STAT 28 = true ∧
      (t.reg (Reg.PAIR_CNT 12)).toNat = min (2 ^ 32 - 1) ((s.reg (Reg.PAIR_CNT 12)).toNat + 1) := by
  have hrx : execHeartbeatRx rail l s = .next (s.enterMismatch.pairCount 12 1) := by
    rw [execHeartbeatRx, State.solyenRx_good hs hl ht (by decide) (by decide)]
    exact congrArg Host.Outcome.next (if_pos (.inl hid))
  have hstat := s.enterMismatch.reg_pairCount_ne (k := 12) (a := Reg.PAIR_STAT) (by decide) (by decide)
  refine ⟨_, hrx, (State.pairState_of_reg hstat).trans (State.pairState_enterMismatch hst),
    (State.bit_of_reg hstat _).trans (State.flag_enterMismatch hst), ?_⟩
  rw [State.toNat_pairCnt _ (by decide), State.reg_enterMismatch_ne hst (by decide) (by decide)]

theorem execHeartbeatRx_good (ht : beAt l 1 1 = 1) (hid : beAt l 2 2 = s.fld Reg.PAIR_CTL 15 0)
    (hmode : beAt (rxOf l).payload 1 1 = s.pairAA.toNat)
    (hside : beAt (rxOf l).payload 2 1 + s.fld Reg.PAIR_CTL 29 29 = 1) :
    execHeartbeatRx rail l s = .next (s.goodBeat (beatOf l)) := by
  rw [execHeartbeatRx, State.solyenRx_good hs hl ht (by decide) (by decide)]
  refine congrArg Host.Outcome.next (if_neg ?_)
  rw [not_or, not_or]
  exact ⟨not_not_intro hid, not_not_intro hmode, not_not_intro hside⟩

end

/-- Two devices that are alone meet, this one with the higher TERM: SYNC with it as the only donor (R362). -/
theorem State.goodBeat_lowerTerm {s : State} {b : Beat} (hsafe : s.pair.safe = false) (hst : s.pairState = 1)
    (hn : s.pair.neverDonor = false) (hb : b.state = 1) (ht : b.term < s.term) :
    s.goodBeat b = s.enterSync s.term true false b.txSeq := by
  have hrej : s.rejoins b = true := by
    rw [State.rejoins, hst]
    rfl
  have hdon : s.donors b = (true, false, false) := by
    simp only [State.donors, hn, hb, hst, ht, if_true, beq_self_eq_true, Bool.false_eq_true, if_false]
  rw [State.goodBeat, if_neg (Nat.not_le.2 ht)]
  simp only [hsafe, hrej, hdon, and_self, if_true, Bool.false_eq_true, if_false, Nat.max_eq_left (Nat.le_of_lt ht)]

/-! ### Records, ACKs and NAKs (R352 to R355) -/

/-- One record that is the next in order and of the length of its kind is applied. -/
theorem State.applyAll_one {s : State} {seq : Nat} {r : List Byte} (hseq : seq = (s.rxSeq + 1) % 2 ^ 32)
    (hu : recordUnits (leAt r 0 1) = some (leAt r 1 1)) (hl : r.length = 16 * leAt r 1 1) :
    s.applyAll 1 seq r = (s.setReg Reg.PAIR_RXSEQ (BitVec.ofNat 32 seq)).applyRecord r := by
  have hbad : ¬ (seq ≠ (s.rxSeq + 1) % 2 ^ 32 ∨ recordUnits (leAt r 0 1) ≠ some (leAt r 1 1) ∨
      r.length < 16 * leAt r 1 1) := by
    rw [not_or, not_or]
    exact ⟨not_not_intro hseq, not_not_intro hu, Nat.not_lt.2 (Nat.le_of_eq hl.symm)⟩
  simp only [State.applyAll, if_neg hbad]
  rw [← hl, List.take_length]

/-- The state with counter k replaced. -/
def State.withCounter (s : State) (k : Nat) (v : Nat × Nat) : State :=
  { s with tele := { s.tele with counters := Store.put (0, 0) s.tele.counters k v } }

theorem State.read_withCounter (s : State) (k : Nat) (v : Nat × Nat) :
    Store.read (0, 0) (s.withCounter k v).tele.counters k = v := (Store.read_put _ _ _ _ _).trans (if_pos rfl)

/-- A counter's record gives the counter its two values (Table 12.3). -/
theorem State.applyRecord_counter (s : State) {r : List Byte} (hk : leAt r 0 1 = 5) : s.applyRecord r =
    s.withCounter (counterKey (leAt r 3 1 % 32) (leAt r 4 4 % 131072)) (leAt r 16 8, leAt r 24 8) := by
  simp only [State.applyRecord, hk, leAt_drop]
  rfl

section
variable {s : State} {rail : Fin 2} {l : List Byte} (hs : s.Hears rail) (hl : GoodFrame l) (hst : s.pairState = 4)
  (hsafe : s.pair.safe = false)
include hs hl hst hsafe

theorem execRecordsRx_one (ht : beAt l 1 1 = 2) (hdev : s.flt.deviceSafe = false) (hterm : beAt l 4 4 = s.term)
    (hn : beAt l 15 1 = 1) :
    execRecordsRx rail l s = .next (s.applyAll 1 (beAt l 8 4) (bytesAt l 16 (beAt l 12 2))) := by
  have hlt : ¬ beAt l 4 4 < s.term := Nat.not_lt.2 (Nat.le_of_eq hterm.symm)
  rw [execRecordsRx, State.solyenRx_good hs hl ht (by decide) (by decide)]
  simp only [rxOf, hst, hsafe, hdev, hlt, hn, Bool.false_eq_true, Nat.reduceEqDiff, Nat.reduceLT, or_self, if_false,
    Nat.one_ne_zero]

/-- A counter's record that is the next in order moves PAIR_RXSEQ and gives the counter its values (R355, R357). -/
theorem execRecordsRx_counter (ht : beAt l 1 1 = 2) (hdev : s.flt.deviceSafe = false) (hterm : beAt l 4 4 = s.term)
    (hn : beAt l 15 1 = 1) (hseq : beAt l 8 4 = (s.rxSeq + 1) % 2 ^ 32) (hlen : beAt l 12 2 = 32) {p : List Byte}
    (hp : p = bytesAt l 16 (beAt l 12 2)) (hk : leAt p 0 1 = 5) (hu : leAt p 1 1 = 2) :
    ∃ t, execRecordsRx rail l s = .next t ∧ t.rxSeq = beAt l 8 4 ∧ Store.read (0, 0) t.tele.counters
      (counterKey (leAt p 3 1 % 32) (leAt p 4 4 % 131072)) = (leAt p 16 8, leAt p 24 8) := by
  have hplen : p.length = 16 * leAt p 1 1 := by rw [hu, hp, length_bytesAt, hlen]
  have hlt : beAt l 8 4 < 2 ^ 32 := hseq ▸ Nat.mod_lt _ (by decide)
  refine ⟨_, execRecordsRx_one hs hl hst hsafe ht hdev hterm hn, ?_⟩
  rw [← hp, State.applyAll_one hseq (by rw [hk, hu]; rfl) hplen, State.applyRecord_counter _ hk]
  exact ⟨State.toNat_reg_setReg_self _ _ hlt, State.read_withCounter _ _ _⟩

theorem execAckRx_paired (ht : beAt l 1 1 = 3) (hsq : seqAfter (beAt l 8 4) s.txSeq = false) : execAckRx rail l s =
    .next ({ s with pair := { s.pair with unacked := s.pair.unacked.filter fun e => seqAfter e.1 (beAt l 8 4) } }.setReg
      Reg.PAIR_ACKSEQ (BitVec.ofNat 32 (beAt l 8 4))) := by
  rw [execAckRx, State.solyenRx_good hs hl ht (by decide) (by decide)]
  simp only [rxOf, hst, hsafe, hsq, Bool.false_eq_true, Nat.reduceEqDiff, Nat.reduceLT, or_self, if_false]

theorem execNakRx_held (ht : beAt l 1 1 = 4) (hu : (s.pair.unacked.any fun e => e.1 == beAt l 8 4) = true) :
    execNakRx rail l s = .next { s with pair := { s.pair with again := some (beAt l 8 4) } } := by
  rw [execNakRx, State.solyenRx_good hs hl ht (by decide) (by decide)]
  simp only [rxOf, hst, hsafe, hu, Bool.false_eq_true, Nat.reduceEqDiff, Nat.reduceLT, or_self, if_false, if_true]

end

theorem execAckSend_due {s : State} (hs : s.pairSends = true) (h0 : s.railUp 0 = true) (hst : s.pairState = 4)
    (hq : s.rxSeq ≠ s.pair.acked) : execAckSend s = .next ({ s with pair := { s.pair with acked := s.rxSeq } }.emit
      (.solyen 0 (s.solyenFrame 3 s.rxSeq 0 0 []))) := by
  have hrail : s.anyRail.isSome = true := congrArg Option.isSome (State.anyRail_rail0 h0)
  have h0' : State.railUp { s with pair := { s.pair with acked := s.rxSeq } } 0 = true := h0
  rw [execAckSend, hs, hst, hrail, bne_iff_ne.2 hq, if_pos (by decide), State.sendSolyen_rail0 h0']
  rfl

/-- A single record that fits a frame is packed into it. -/
theorem packRecords_single {k room : Nat} {r : List Byte} (hk : k ≠ 0) (h : r.length ≤ room) :
    packRecords k room [r] = [r] := by
  obtain ⟨k, rfl⟩ := Nat.exists_eq_succ_of_ne_zero hk
  rw [packRecords, if_pos h]
  cases k <;> rfl

/-- The state in which a single event's record has been numbered and waits for its ACK. -/
def State.eventSent (s : State) (r : List Byte) : State :=
  { s with pair := { s.pair with events := [], made := [], unacked := [((s.txSeq + 1) % 2 ^ 32, r)] } }.setReg
    Reg.PAIR_TXSEQ (BitVec.ofNat 32 (s.txSeq + 1))

theorem State.txSeq_eventSent (s : State) (r : List Byte) : (s.eventSent r).txSeq = (s.txSeq + 1) % 2 ^ 32 := by
  rw [State.txSeq, State.eventSent, State.reg_setReg_self, BitVec.toNat_ofNat]

theorem execRecordSend_event {s : State} {r : List Byte} (hs : s.pairSends = true) (h0 : s.railUp 0 = true)
    (hst : s.pairState = 4) (ha : s.pair.again = none) (hu : s.pair.unacked = []) (he : s.pair.events = [r])
    (hm : s.pair.made = []) (hl : r.length ≤ 16380) : execRecordSend s = .next ((s.eventSent r).emit
      (.solyen 0 ((s.eventSent r).solyenFrame 2 ((s.txSeq + 1) % 2 ^ 32) 0 1 r))) := by
  have hrail : s.anyRail.isSome = true := congrArg Option.isSome (State.anyRail_rail0 h0)
  have h0' : (s.eventSent r).railUp 0 = true :=
    (State.bit_of_reg (State.reg_setReg_ne _ (by decide) _) _).trans h0
  have hp : packRecords (min 255 (65536 - List.length ([] : List (Nat × List Byte)))) 16380 ([r] ++ []) = [r] :=
    packRecords_single (by decide) hl
  have hsend := State.sendSolyen_rail0 h0' 2 ((s.txSeq + 1) % 2 ^ 32) 1 r
  rw [← hsend]
  simp only [execRecordSend, hs, hst, hrail, ha, hu, he, hm, hp]
  simp [State.eventSent, State.sendRecords, ha]

/-! ### The counter sweep (R353) -/

theorem State.counterVisit_dirty {s : State} {k : Nat} (hat : s.pair.ctrAt = k) (hk : k < 4194303)
    (hd : s.pair.ctrDirty = [k]) : ∃ r, s.counterVisit =
      { s with pair := { s.pair with ctrAt := k + 1, ctrDirty := [], made := s.pair.made ++ [r] } } := by
  have hdrop : NatSet.drop [k] k = [] := by simp [NatSet.drop]
  have hc : [k].contains k = true := by simp
  simp only [State.counterVisit, hat, hd, hc, if_true, hdrop, Nat.mod_eq_of_lt (show k + 1 < 4194304 by omega)]
  exact ⟨_, rfl⟩

theorem execSweepVisit_counter {s : State} (hs : s.pairSends = true) (hst : s.pairState = 4)
    (hb : s.bit Reg.PAIR_CTL 25 = true) (haa : s.pairAA = false) (hact : s.pairActive = true) :
    execSweepVisit 3 s = .next s.counterVisit := by
  simp only [execSweepVisit, hs, hst, hb, haa, hact]
  rfl

/-! ### Data and rails (R344, R347) -/

section
variable {s : State} {rail : Fin 2} {l : List Byte} (hs : s.Hears rail) (hl : GoodFrame l) (ht : beAt l 1 1 = 5)
  (hst : s.pairState ≠ 6) (hsafe : s.pair.safe = false)
include hs hl ht hst hsafe

theorem execDataRx_dropped (hb : s.bit Reg.PAIR_DCFG 31 = false) : execDataRx rail l s = .next (s.pairCount 11 1) := by
  rw [execDataRx, State.solyenRx_good hs hl ht (by decide) (by decide)]
  simp only [hst, hsafe, hb, Bool.false_eq_true, if_false, if_true]

theorem execDataRx_delivered (hb : s.bit Reg.PAIR_DCFG 31 = true) :
    ∃ f, execDataRx rail l s = .next (s.queueToStore 2048 f) := by
  rw [execDataRx, State.solyenRx_good hs hl ht (by decide) (by decide)]
  simp only [hst, hsafe, hb, Bool.false_eq_true, Bool.true_eq_false, if_false]
  exact ⟨_, rfl⟩

end

theorem State.length_toStore_queueToStore (s : State) (src : Nat) (f : Frame) :
    (Store.read [] (s.queueToStore src f).vat.toStore src).length = (Store.read [] s.vat.toStore src).length + 1 := by
  rw [State.queueToStore, Store.read_set, if_pos rfl, List.length_append, List.length_singleton]

/-- A rail's bit follows what its PCS tells; only the pair's own record of it changes beside. -/
theorem execRailChange_eq (rail : Fin 2) (aligned lf rf : Bool) (s : State) :
    ∃ x : Pair, execRailChange rail aligned lf rf s =
      .next ({ s with pair := x }.setBit Reg.PAIR_STAT (16 + rail) (aligned && !lf && !rf)) := ⟨_, rfl⟩

/-! ### Enable and disable (R349) -/

/-- A restart of lanes writes registers of the lanes alone. -/
theorem State.reg_lanesRestart_low (s : State) (l n : Nat) {a : Nat} (ha : a < 0x0C000000) :
    (s.lanesRestart l n).reg a = s.reg a := by
  refine State.reg_foldl _ a (fun t i => t.reg_laneRestart_ne _ ?_ ?_) _ s
  · simp only [Reg.LANE_STAT]
    omega
  · simp only [Reg.LANE_EYE]
    omega

theorem State.gated_pair {s : State} {m : Master} (hm : m.trusted = true) (hd : s.domOn 144 = true) {a : Nat}
    (ha : domainOf a = 144) (run : State → State) : s.gated m a true run = run s :=
  State.gated_trusted hm (ha.symm ▸ hd) true run

/-- The state in which an enabled pair begins: ALONE with TERM 0, its windows and heartbeats from now on. -/
def State.pairBegun (s : State) (w : Word) : State :=
  let t := (s.setReg Reg.PAIR_CTL w).enterAlone 0
  { t with pair := { t.pair with winStart := s.time.mono, hbLast := s.time.mono, neverDonor := false } }

/-- The state in which a disabled pair is OFF and its rails are down. -/
def State.pairEnded (s : State) (w : Word) : State :=
  let t := (((s.setReg Reg.PAIR_CTL w).enterAlone 0).setPairState 0).setFld Reg.PAIR_STAT 19 16 0
  { t with pair := { t.pair with aligned := [], localFault := [], remoteFault := [] } }

theorem State.pairOn_setCtl (s : State) (w : Word) : (s.setReg Reg.PAIR_CTL w).pairOn = w.getLsbD 31 :=
  (s.bit_setReg _ _ _ _).trans (if_pos rfl)

/-- What PAIR_CTL takes while EN is 0, EN written with 1. -/
def pairEnableWord (d : Word) : Word := (d ||| 0x80000000) &&& 0xFFF0FFFF

/-- What PAIR_CTL takes while EN is 1, EN written with 0: MODE, SIDE and PAIR_ID stay. -/
def pairDisableWord (old d : Word) : Word := (old &&& 0x6000FFFF) ||| ((d &&& 0x7FFFFFFF) &&& 0x9FF00000)

theorem en_pairEnableWord (d : Word) : (pairEnableWord d).getLsbD 31 = true := by
  rw [pairEnableWord, BitVec.getLsbD_and, BitVec.getLsbD_or, show (0x80000000 : Word).getLsbD 31 = true from rfl,
    show (0xFFF0FFFF : Word).getLsbD 31 = true from rfl, Bool.or_true, Bool.and_true]

theorem en_pairDisableWord (old d : Word) : (pairDisableWord old d).getLsbD 31 = false := by
  rw [pairDisableWord, BitVec.getLsbD_or, BitVec.getLsbD_and, BitVec.getLsbD_and, BitVec.getLsbD_and,
    show (0x6000FFFF : Word).getLsbD 31 = false from rfl, show (0x7FFFFFFF : Word).getLsbD 31 = false from rfl,
    Bool.and_false, Bool.and_false, Bool.false_and, Bool.or_false]

theorem State.pairCtlWrite_begin {s : State} (hoff : s.pairOn = false) (d : Word) :
    s.pairCtlWrite (d ||| 0x80000000) = (s.pairBegun (pairEnableWord d)).lanesRestart 1024 16 := by
  have hon := (s.pairOn_setCtl (pairEnableWord d)).trans (en_pairEnableWord d)
  rw [pairEnableWord] at hon
  simp only [State.pairCtlWrite, hoff, hon, Bool.false_eq_true, Bool.true_eq_false, if_false]
  rfl

theorem State.pairCtlWrite_end {s : State} (hon : s.pairOn = true) (d : Word) :
    s.pairCtlWrite (d &&& 0x7FFFFFFF) =
      (s.pairEnded (pairDisableWord (s.reg Reg.PAIR_CTL) d)).lanesRestart 1024 16 := by
  have hoff := (s.pairOn_setCtl (pairDisableWord (s.reg Reg.PAIR_CTL) d)).trans (en_pairDisableWord _ d)
  rw [pairDisableWord] at hoff
  simp only [State.pairCtlWrite, hon, hoff, Bool.false_eq_true, if_false, if_true]
  rfl

section
variable (s : State) (w : Word)

theorem State.reg_pairBegun (a : Nat) :
    (s.pairBegun w).reg a = ((s.setReg Reg.PAIR_CTL w).enterAlone 0).reg a := by
  rw [State.pairBegun, State.reg_withPair]

theorem State.pairState_pairBegun : (s.pairBegun w).pairState = 1 :=
  (State.pairState_of_reg (s.reg_pairBegun w _)).trans (State.pairState_enterAlone _ _)

theorem State.term_pairBegun : (s.pairBegun w).term = 0 :=
  (State.term_of_reg (s.reg_pairBegun w _)).trans (State.term_enterAlone _ (by decide))

theorem State.pairOn_pairBegun : (s.pairBegun w).pairOn = w.getLsbD 31 :=
  ((State.bit_of_reg (s.reg_pairBegun w _) _).trans
    (State.bit_of_reg (State.reg_enterAlone_ne _ _ (by decide) (by decide)) _)).trans (s.pairOn_setCtl w)

theorem State.reg_pairEnded (a : Nat) : (s.pairEnded w).reg a =
    ((((s.setReg Reg.PAIR_CTL w).enterAlone 0).setPairState 0).setFld Reg.PAIR_STAT 19 16 0).reg a := by
  rw [State.pairEnded, State.reg_withPair]

theorem State.pairState_pairEnded : (s.pairEnded w).pairState = 0 := by
  rw [State.pairState_of_reg (s.reg_pairEnded w _), State.pairState,
    State.fld_setFld_disjoint _ _ _ _ _ _ _ (by decide) (.inr (by decide))]
  exact State.pairState_setPairState _ (by decide)

theorem State.pairOn_pairEnded : (s.pairEnded w).pairOn = w.getLsbD 31 := by
  rw [← s.pairOn_setCtl w]
  refine State.bit_of_reg ?_ 31
  rw [State.reg_pairEnded, State.reg_setFld_ne _ (by decide), State.setPairState, State.reg_setFld_ne _ (by decide),
    State.reg_enterAlone_ne _ _ (by decide) (by decide)]

/-- A bit of a field that has been cleared. -/
theorem State.bit_setFld_zero (s : State) (a : Nat) {hi lo i : Nat} (h : hi < 32) (hl : lo ≤ i) (hi' : i ≤ hi) :
    (s.setFld a hi lo 0).bit a i = false := by
  rw [State.bit_eq, State.setFld, State.reg_setReg_self, getLsbD_withField _ _ _ _ _ h, if_pos ⟨hl, hi'⟩,
    Nat.zero_testBit]

theorem State.railUp_pairEnded {r : Nat} (h : r < 2) : (s.pairEnded w).railUp r = false :=
  (State.bit_of_reg (s.reg_pairEnded w _) _).trans (State.bit_setFld_zero _ _ (by decide) (by omega) (by omega))

end

section
variable {m : Master} (hm : m.trusted = true) {s : State} (hd : s.domOn 144 = true) (d : Word)
include hm hd

theorem execPairEnable_trusted : execPairEnable m d s = .next (s.pairCtlWrite (d ||| 0x80000000)) :=
  congrArg Host.Outcome.next (State.gated_pair hm hd (by decide) _)

theorem execPairDisable_trusted : execPairDisable m d s = .next (s.pairCtlWrite (d &&& 0x7FFFFFFF)) :=
  congrArg Host.Outcome.next (State.gated_pair hm hd (by decide) _)

/-- Enabling a pair that is OFF puts it in ALONE with TERM 0. -/
theorem execPairEnable_off (hoff : s.pairOn = false) :
    ∃ t, execPairEnable m d s = .next t ∧ t.pairState = 1 ∧ t.term = 0 ∧ t.pairOn = true := by
  have hlow {a : Nat} (ha : a < 0x0C000000) := (s.pairBegun (pairEnableWord d)).reg_lanesRestart_low 1024 16 ha
  refine ⟨_, (execPairEnable_trusted hm hd d).trans (congrArg _ (State.pairCtlWrite_begin hoff d)), ?_, ?_, ?_⟩
  · rw [State.pairState_of_reg (hlow (by decide)), State.pairState_pairBegun]
  · rw [State.term_of_reg (hlow (by decide)), State.term_pairBegun]
  · rw [State.pairOn, State.bit_of_reg (hlow (by decide)), ← State.pairOn, State.pairOn_pairBegun, en_pairEnableWord]

/-- Disabling an enabled pair puts it in OFF with its rails down. -/
theorem execPairDisable_on (hon : s.pairOn = true) : ∃ t, execPairDisable m d s = .next t ∧ t.pairState = 0 ∧
    t.pairOn = false ∧ t.railUp 0 = false ∧ t.railUp 1 = false := by
  have hlow {a : Nat} (ha : a < 0x0C000000) :=
    (s.pairEnded (pairDisableWord (s.reg Reg.PAIR_CTL) d)).reg_lanesRestart_low 1024 16 ha
  refine ⟨_, (execPairDisable_trusted hm hd d).trans (congrArg _ (State.pairCtlWrite_end hon d)), ?_, ?_, ?_, ?_⟩
  · rw [State.pairState_of_reg (hlow (by decide)), State.pairState_pairEnded]
  · rw [State.pairOn, State.bit_of_reg (hlow (by decide)), ← State.pairOn, State.pairOn_pairEnded, en_pairDisableWord]
  · rw [State.railUp, State.bit_of_reg (hlow (by decide)), ← State.railUp, State.railUp_pairEnded _ _ (by decide)]
  · rw [State.railUp, State.bit_of_reg (hlow (by decide)), ← State.railUp, State.railUp_pairEnded _ _ (by decide)]

end

/-! ### TAKEOVER, RESYNC and the rates (R352, R360, R364) -/

theorem State.reg_pairResult_ne (s : State) (v : Nat) {a : Nat} (h : a ≠ Reg.PAIR_CMD) :
    (s.setFld Reg.PAIR_CMD 29 27 v).reg a = s.reg a := s.reg_setFld_ne h _ _ _

theorem State.fld_pairResult (s : State) {v : Nat} (h : v < 8) :
    (s.setFld Reg.PAIR_CMD 29 27 v).fld Reg.PAIR_CMD 29 27 = v :=
  (s.fld_setFld _ _ _ _ (by decide)).trans (Nat.mod_eq_of_lt h)

/-- A command that is refused writes its result and nothing else. -/
theorem State.pairCmd_refused (s : State) : (s.setFld Reg.PAIR_CMD 29 27 1).fld Reg.PAIR_CMD 29 27 = 1 ∧
    (s.setFld Reg.PAIR_CMD 29 27 1).pair = s.pair ∧
      ∀ b, b ≠ Reg.PAIR_CMD → (s.setFld Reg.PAIR_CMD 29 27 1).reg b = s.reg b :=
  ⟨s.fld_pairResult (by decide), rfl, fun _ hb => s.reg_pairResult_ne 1 hb⟩

theorem State.pairTakeover_suspect {s : State} (h : s.pairState = 5) : s.pairTakeover.pairState = 1 ∧
    s.pairTakeover.term = (s.term + 1) % 2 ^ 32 ∧ s.pairTakeover.fld Reg.PAIR_CMD 29 27 = 0 := by
  rw [State.pairTakeover, if_pos h, State.pairState_of_reg (State.reg_pairResult_ne _ 0 (by decide)),
    State.term_of_reg (State.reg_pairResult_ne _ 0 (by decide))]
  exact ⟨s.pairState_takeOver, s.term_takeOver, State.fld_pairResult _ (by decide)⟩

theorem State.pairResync_paired {s : State} (h : s.pairState = 4) : s.pairResync.pairState = 3 ∧
    s.pairResync.bit Reg.PAIR_STAT 18 = true ∧ s.pairResync.fld Reg.PAIR_CMD 29 27 = 0 := by
  rw [State.pairResync, if_pos h, State.pairState_of_reg (State.reg_pairResult_ne _ 0 (by decide)),
    State.bit_of_reg (State.reg_pairResult_ne _ 0 (by decide))]
  exact ⟨State.pairState_resyncAsDonor h, State.donor_resyncAsDonor h, State.fld_pairResult _ (by decide)⟩

section
variable {m : Master} (hm : m.trusted = true) {s : State} (hd : s.domOn 144 = true)
include hm hd

theorem execPairTakeover_trusted : execPairTakeover m s = .next s.pairTakeover :=
  congrArg Host.Outcome.next (State.gated_pair hm hd (by decide) _)

theorem execResync_trusted : execResync m s = .next s.pairResync :=
  congrArg Host.Outcome.next (State.gated_pair hm hd (by decide) _)

theorem execPairRateWrite_first (d : Word) : execPairRateWrite m 0 d s = .next (s.pairRateWrite 0 d) :=
  congrArg Host.Outcome.next (State.gated_pair hm hd (by decide) _)

end

section
variable {s : State} {d : Word}

theorem State.pairRateWrite_accepted
    (hsum : 256 + fieldOf d 31 16 + fieldOf d 15 0 + s.fld Reg.PAIR_MCFG1 31 16 +
      oneIfZero (s.fld Reg.PAIR_MCFG1 15 0) ≤ 2000)
    (hev : fieldOf d 31 16 ≤ 1024) (hrs : oneIfZero (s.fld Reg.PAIR_MCFG1 15 0) ≤ 512) :
    s.pairRateWrite 0 d = s.setReg Reg.PAIR_MCFG0 d := by
  refine if_neg ?_
  rw [not_or, not_or]
  exact ⟨Nat.not_lt.2 hsum, Nat.not_lt.2 hev, Nat.not_lt.2 hrs⟩

theorem State.pairRateWrite_refused (hev : 1024 < fieldOf d 31 16) :
    s.pairRateWrite 0 d = s.raiseBit Reg.PAIR_STAT 27 := if_pos (.inr (.inl hev))

end

end Sys2Proof.Machine

open Sys2Proof.Machine

/-- Settles O55: each command at its branch, and what the registers and the pair read afterwards. -/
theorem pairOfDevices : Obligations.PairOfDevices := by
  intro m rl d l p r1 sq s hm hd
  refine ⟨fun hon h0 hsafe hdev => ?_, fun al lf rf => ?_, execPairEnable_off hm hd d,
    execPairDisable_on hm hd d, ?_, ?_, fun hsum hev hrs => ?_, fun hev => ?_⟩
  · have hsends := State.pairSends_of hon hsafe hdev hd
    refine ⟨fun h1 hdue => ⟨_, execHeartbeatSend_rail0 hsends h0 h1 hdue, rfl, rfl, rfl⟩,
      fun hw hseen => ⟨fun hk => ?_, fun hk hst hb => ?_⟩, fun hup hlong hshort hfcs hver hfits hp hsq => ?_,
      fun hst => ⟨fun hq => ⟨_, execAckSend_due hsends h0 hst hq, rfl, rfl, rfl⟩,
        fun ha hu he hmade hr =>
          ⟨_, execRecordSend_event hsends h0 hst ha hu he hmade hr, s.txSeq_eventSent r1, rfl, rfl, rfl⟩,
        fun hb haa hact hat hk hdirty => ?_⟩⟩
    · exact ⟨_, execHeartbeatWindowEnd_few hon hw hseen hk, s.pairState_windowMissed,
        congrArg Pair.missed s.pair_windowMissed, s.missCnt_windowMissed⟩
    · refine ⟨_, execHeartbeatWindowEnd_takeOver hon hw hseen hsafe hk hst hb, State.pairState_takeOver _, ?_,
        State.flag_takeOver _, State.missed_takeOver _⟩
      rw [State.term_takeOver, State.term_of_reg (s.reg_windowMissed_ne (by decide))]
    · have hears : s.Hears rl := ⟨hon, hup, hd⟩
      have good : GoodFrame l := ⟨hlong, hshort, hfcs, hver, hfits⟩
      subst hsq
      refine ⟨execHeartbeatRx_mismatch hears good, fun ht hid hmode hside hb hst hn hterm => ?_,
        fun ht hst hterm hc hseq hlen => execRecordsRx_counter hears good hst hsafe ht hdev hterm hc hseq hlen hp,
        fun ht hst hsq => ⟨_, execAckRx_paired hears good hst hsafe ht hsq, State.reg_setReg_self _ _ _, rfl,
          fun b hb => State.reg_setReg_ne _ hb _⟩,
        fun ht hst hu => ⟨_, execNakRx_held hears good hst hsafe ht hu, rfl, rfl⟩,
        fun ht hst => ⟨fun hb => ?_, fun hb => ?_⟩⟩
      · subst hp
        refine ⟨_, execHeartbeatRx_good hears good ht hid hmode hside, ?_⟩
        rw [State.goodBeat_lowerTerm hsafe hst hn hb hterm]
        exact ⟨State.pairState_enterSync _ _ _ _ _, State.term_enterSync _ _ _ _ s.term_lt,
          State.donor_enterSync _ _ _ _ _, rfl⟩
      · exact ⟨_, execDataRx_dropped hears good ht hst hsafe hb, State.toNat_pairCnt _ (by decide),
          State.vat_of_apart (State.apart_countFld _ _ _ _ _)⟩
      · obtain ⟨f, hf⟩ := execDataRx_delivered hears good ht hst hsafe hb
        exact ⟨_, hf, rfl, State.length_toStore_queueToStore _ _ _⟩
    · obtain ⟨r, hr⟩ := State.counterVisit_dirty hat hk hdirty
      refine ⟨_, execSweepVisit_counter hsends hst hb haa hact, ?_⟩
      rw [hr]
      exact ⟨rfl, rfl, List.length_append, rfl, rfl⟩
  · obtain ⟨x, hx⟩ := execRailChange_eq rl al lf rf s
    exact ⟨_, hx, State.bit_setBit _ _ _ _ (by omega), fun b hb => State.reg_setBit_ne _ hb _ _⟩
  · refine ⟨_, execPairTakeover_trusted hm hd, State.pairTakeover_suspect, fun h => ?_⟩
    rw [State.pairTakeover, if_neg h]
    exact s.pairCmd_refused
  · refine ⟨_, execResync_trusted hm hd, State.pairResync_paired, fun h => ?_⟩
    rw [State.pairResync, if_neg h]
    exact s.pairCmd_refused
  · refine ⟨_, execPairRateWrite_first hm hd d, ?_⟩
    rw [State.pairRateWrite_accepted hsum hev hrs]
    exact ⟨s.reg_setReg_self _ _, fun b hb => s.reg_setReg_ne hb _⟩
  · refine ⟨_, execPairRateWrite_first hm hd d, ?_⟩
    rw [State.pairRateWrite_refused hev]
    exact ⟨State.bit_raiseBit _ _ _ (by decide) (by decide), State.reg_raiseBit_ne _ _ _ _ (by decide) (by decide)⟩

end

section
/-!
The fuses (R411, R413, R414, Table 14.8): every command keeps them but the end of a REQUEST container's verification,
and a request that passes its checks leaves them legal and FLOOR no lower.
-/

open Sys2Proof

namespace Sys2Proof

theorem Store.mem_set {α : Type} {m : Store α} {k : Nat} {v : α} {e : Nat × α} (h : e ∈ Store.set m k v) :
    e = (k, v) ∨ e ∈ m := by
  induction m with
  | nil => simpa [Store.set] using h
  | cons x r ih =>
    simp only [Store.set] at h
    split at h
    · simpa using h
    · split at h <;> simp only [List.mem_cons] at h ⊢ <;> tauto

end Sys2Proof

namespace Sys2Proof.Machine

/-- The fuses, and the note that an operator slot has ever been fused. -/
def State.fused (s : State) : (Store (List Byte) × NatSet × Nat) × Bool := (s.fuses, s.boot.everFused)

/-- A boot operation verifies the container of a BOOT_CMD REQUEST. -/
def BootOp.verifiesRequest (o : BootOp) : Prop := (∃ arg, o.by_ = .command 2 arg) ∧ o.phase = .verify

theorem State.fused_of_kept {s t : State} (h : t.kept = s.kept) : t.fused = s.fused :=
  (congrArg (fun k : Kept => ((k.hashes, k.revoked, k.floor), k.everFused)) h :)

theorem State.fuses_of_fused {s t : State} (h : t.fused = s.fused) : t.fuses = s.fuses := congrArg Prod.fst h

theorem State.floor_of_fused {s t : State} (h : t.fused = s.fused) : t.boot.floor = s.boot.floor :=
  congrArg (fun x => x.1.2.2) h

/-- Whether the fuses are legal is a matter of the fuses alone. -/
theorem State.fusesOk_of_fused {s t : State} (h : t.fused = s.fused) (hs : s.fusesOk) : t.fusesOk := by
  have hh : t.boot.hashes = s.boot.hashes := congrArg (fun x => x.1.1) h
  have hr : t.boot.revoked = s.boot.revoked := congrArg (fun x => x.1.2.1) h
  have he : t.boot.everFused = s.boot.everFused := congrArg Prod.snd h
  have hlive (k : Nat) : t.slotLive k = s.slotLive k := by simp only [State.slotLive, hh, hr]
  simpa only [State.fusesOk, hh, hr, he, hlive, State.floor_of_fused h] using hs

theorem State.fused_aonLost (s : State) : s.aonLost.fused = s.fused :=
  (State.fused_of_kept s.cutWrite_kept :)

theorem State.fused_aonUp (s : State) : s.aonUp.fused = s.fused := by
  have hk (u : State) (p : Power) (t : Time) : State.fused { u with pwr := p, time := t } = u.fused := rfl
  rw [State.aonUp, hk, State.fused_of_kept (State.restoreCounts_kept _)]
  split
  · exact s.fused_aonLost
  · rfl

/-- A request leaves the fuses, or its checks have passed and it takes effect (R413). -/
theorem State.fused_request (s : State) (b : List Byte) (ok : Bool) :
    (s.request b ok).1.fused = s.fused ∨ s.requestCheck b = 0 ∧ (s.request b ok).1 = s.reqApply b := by
  simp only [State.request]
  by_cases hc : s.requestCheck b = 0
  · cases ok
    · simp [hc]
    · simp [hc]
  · simp [hc]

/-- The end of a verification leaves the fuses, or applies a REQUEST container whose checks have passed (R409, R413). -/
theorem execBootVerifyDone_fused {ok : Bool} {s t : State} (h : execBootVerifyDone ok s = .next t) :
    t.fused = s.fused ∨ ∃ o, s.boot.op = some o ∧ o.verifiesRequest ∧ s.requestCheck o.bytes = 0 ∧
      t.fused = (s.reqApply o.bytes).fused := by
  simp only [execBootVerifyDone] at h
  cases hop : s.boot.op with
  | none =>
    rw [hop] at h
    exact .inl (by cases h; rfl)
  | some o =>
    simp only [hop] at h
    split at h
    next => exact .inl (by cases h; rfl)
    next hph =>
      split at h
      next =>
        cases h
        exact .inl (State.fused_of_kept (State.bootFail_kept _ _ _))
      next =>
        split at h
        next _slot _ =>
          cases h
          exact .inl (State.fused_of_kept (State.bootPhase_kept _ _ _ _))
        next cmd arg hby =>
          split at h
          next =>
            split at h <;> cases h
            · exact .inl (State.fused_of_kept (State.bootFail_kept _ _ _))
            · exact .inl (State.fused_of_kept (State.bootPhase_kept _ _ _ _))
          next =>
            cases h
            have hend := State.fused_of_kept (State.bootEnd_kept (s.request o.bytes ok).1 (s.request o.bytes ok).2)
            rcases s.fused_request o.bytes ok with hr | ⟨hc, hr⟩
            · exact .inl (hend.trans hr)
            · exact .inr ⟨o, rfl, ⟨⟨arg, hby⟩, not_not.1 hph⟩, hc, hend.trans (congrArg State.fused hr)⟩
          next =>
            cases h
            exact .inl (State.fused_of_kept (State.bootPhase_kept _ _ _ _))
          next =>
            cases h
            exact .inl (State.fused_of_kept (State.bootEnd_kept _ _))

/-- What a command can do to the fuses: leave them, or apply a REQUEST container whose checks have passed. -/
theorem exec_fused {c : Instr} {s t : State} (h : exec c s = .next t) :
    t.fused = s.fused ∨ (∃ ok, c = .bootVerifyDone ok) ∧ ∃ o, s.boot.op = some o ∧ o.verifiesRequest ∧
      s.requestCheck o.bytes = 0 ∧ t.fused = (s.reqApply o.bytes).fused := by
  cases hc : c.movesKept with
  | false =>
    have hk := exec_keeps hc s
    rw [h] at hk
    exact .inl (State.fused_of_kept hk)
  | true =>
    cases c
    case bootVerifyDone ok => exact (execBootVerifyDone_fused h).imp_right fun hr => ⟨⟨ok, rfl⟩, hr⟩
    case powerOnReset =>
      have hk : t.kept = s.aonUp.kept := by
        rw [← Host.Outcome.next.inj ((execPowerOnReset_eq s).symm.trans h)]
        simp
      exact .inl ((State.fused_of_kept hk).trans s.fused_aonUp)
    case aonSupplyLoss =>
      cases h
      split
      · exact .inl s.fused_aonLost
      · exact .inl rfl
    all_goals cases hc

/-- What a step can do to the fuses: `u` is the state with its front command taken from the queue. -/
theorem step_fused {s t : State} (h : step s = .next t) :
    t.fused = s.fused ∨
      ∃ u b, State.fused u = s.fused ∧ u.requestCheck b = 0 ∧ t.fused = (u.reqApply b).fused := by
  simp only [step] at h
  split at h
  next =>
    cases h
    exact .inl (State.fused_of_kept (s := s.countTime) s.kept_tick)
  next c rest _ =>
    exact (exec_fused h).imp_right fun ⟨_, o, _, _, hc, ht⟩ => ⟨{ s with pending := rest }, o.bytes, rfl, hc, ht⟩

/-! ### A request that passes its checks (Table 14.8) -/

theorem State.reqCheck_of_requestCheck {s : State} {b : List Byte} (h : s.requestCheck b = 0) : s.reqCheck b = 0 := by
  simp only [State.requestCheck] at h
  split at h
  · cases h
  · exact h

/-- FUSE_KEY names an empty operator slot and a hash that is not zero. -/
theorem State.fuseKey_of_reqCheck {s : State} {b : List Byte} (ht : fwTarget b = 1) (h : s.reqCheck b = 0) :
    1 ≤ reqSlot b ∧ reqSlot b ≤ 4 ∧ allZero (reqHash b) = false := by
  simp only [State.reqCheck, ht] at h
  split at h
  · cases h
  · split at h
    · cases h
    · next hn =>
      push Not at hn
      obtain ⟨h0, h4, -, -, hz⟩ := hn
      exact ⟨Nat.one_le_iff_ne_zero.2 h0, h4, by simpa using hz⟩

/-- REVOKE names one of the five slots, and leaves another that is neither EMPTY nor REVOKED. -/
theorem State.revoke_of_reqCheck {s : State} {b : List Byte} (ht : fwTarget b = 2) (h : s.reqCheck b = 0) :
    reqSlot b ≤ 4 ∧ ∃ k, k ≤ 4 ∧ k ≠ reqSlot b ∧ s.slotLive k = true := by
  simp only [State.reqCheck, ht] at h
  split at h
  · cases h
  · split at h
    · cases h
    · next hn =>
      rw [not_or, Bool.not_eq_true, List.all_eq_false] at hn
      obtain ⟨h4, k, hk, hlive⟩ := hn
      refine ⟨Nat.le_of_not_lt h4, k, Nat.le_of_lt_succ (List.mem_range.1 hk), ?_⟩
      simpa using hlive

/-- SET_FLOOR raises FLOOR, to at most 64. -/
theorem State.setFloor_of_reqCheck {s : State} {b : List Byte} (h1 : fwTarget b ≠ 1) (h2 : fwTarget b ≠ 2)
    (h : s.reqCheck b = 0) : reqCount b ≤ 64 ∧ s.boot.floor < reqCount b := by
  simp only [State.reqCheck] at h
  split at h
  next => cases h
  next => omega

theorem State.fusesOk_reqApply {s : State} {b : List Byte} (hs : s.fusesOk) (h : s.reqCheck b = 0) :
    (s.reqApply b).fusesOk := by
  obtain ⟨hrise, hhash, hrev, hfloor, hever, k, hk, hlive⟩ := hs
  rw [State.reqApply]
  split
  next ht =>
    obtain ⟨h1, h4, hz⟩ := State.fuseKey_of_reqCheck ht h
    refine ⟨Store.rising_set h1 _ hrise, fun e he => ?_, hrev, hfloor, fun _ => rfl, k, hk, ?_⟩
    · rcases Store.mem_set he with rfl | he
      · exact ⟨h4, hz⟩
      · exact hhash e he
    · simp only [State.slotLive, Store.at?_set, Bool.and_eq_true, Bool.or_eq_true] at hlive ⊢
      refine ⟨hlive.1.imp_right fun hsome => ?_, hlive.2⟩
      split
      · rfl
      · exact hsome
  next ht =>
    obtain ⟨h4, j, hj, hne, hjlive⟩ := State.revoke_of_reqCheck ht h
    refine ⟨hrise, hhash, fun x hx => ?_, hfloor, hever, j, hj, ?_⟩
    · rcases (NatSet.mem_add _ _ _).1 hx with rfl | hx
      · exact h4
      · exact hrev x hx
    · simpa [State.slotLive, hne] using hjlive
  next h1 h2 =>
    exact ⟨hrise, hhash, hrev, (State.setFloor_of_reqCheck h1 h2 h).1, hever, k, hk, hlive⟩

theorem State.floor_reqApply {s : State} {b : List Byte} (h : s.reqCheck b = 0) :
    s.boot.floor ≤ (s.reqApply b).boot.floor := by
  rw [State.reqApply]
  split
  next => exact Nat.le_refl _
  next => exact Nat.le_refl _
  next h1 h2 => exact (State.setFloor_of_reqCheck h1 h2 h).2.le

/-! ### Right after reset -/

/-- The empty state has no frame in hand. -/
theorem pipesOk_reset : State.reset.pipesOk := by
  refine ⟨?_, ?_, ?_, ?_, ?_⟩ <;> intro e h <;> exact absurd h List.not_mem_nil

/-- Right after reset no fuse is blown, and slot 0 is live. -/
theorem fusesOk_reset : State.reset.fusesOk :=
  ⟨rfl, fun _ h => absurd h List.not_mem_nil, fun _ h => absurd h List.not_mem_nil, Nat.zero_le _,
    fun h => absurd rfl h, 0, Nat.zero_le _, rfl⟩

end Sys2Proof.Machine

open Sys2Proof.Machine

/-- Settles O7: what a command can do to the fuses, with the note that a slot was fused left out. -/
theorem fusesChangeOnlyByRequests : Obligations.FusesChangeOnlyByRequests := by
  intro c s t h
  refine (exec_fused h).imp State.fuses_of_fused ?_
  rintro ⟨hc, o, hop, ⟨⟨arg, hby⟩, hph⟩, -⟩
  exact ⟨hc, o, arg, hop, hby, hph⟩

/-- Settles O4: a step leaves the fuses, or applies a request that has passed its checks. -/
theorem fusesStayLegal : Obligations.FusesStayLegal := by
  refine ⟨fun s t hs h => ?_, fun s t h => ?_⟩
  · rcases step_fused h with ht | ⟨u, b, hu, hc, ht⟩
    · exact State.fusesOk_of_fused ht hs
    · exact State.fusesOk_of_fused ht
        (State.fusesOk_reqApply (State.fusesOk_of_fused hu hs) (State.reqCheck_of_requestCheck hc))
  · rcases step_fused h with ht | ⟨u, b, hu, hc, ht⟩
    · exact (State.floor_of_fused ht).ge
    · calc s.boot.floor = u.boot.floor := (State.floor_of_fused hu).symm
        _ ≤ (u.reqApply b).boot.floor := State.floor_reqApply (State.reqCheck_of_requestCheck hc)
        _ = t.boot.floor := (State.floor_of_fused ht).symm

/-- Settles O6: no fuse is blown and nothing is listed. -/
theorem invariantsHoldAtReset : Obligations.InvariantsHoldAtReset := ⟨fusesOk_reset, pipesOk_reset⟩

end

section
/-!
Accesses that no register answers (R371, R372).
-/

open Sys2Proof

namespace Sys2Proof.Machine

theorem execUnmappedAccess_unmapped {a : Nat} (h : mapped a = false) (m : Master) (w : Bool) (s : State) :
    execUnmappedAccess m a w s = .next (if w then s.unmapped m a else (s.unmapped m a).answer [0]) := by
  rw [execUnmappedAccess, if_neg (by rw [h]; decide)]

theorem State.unmapped_vf (s : State) (n : Fin 32) (a : Nat) : s.unmapped (.vf n) a = s.vfViolation n 12 a := by
  rw [State.unmapped]

theorem execUnmappedAccess_vf_write {a : Nat} (h : mapped a = false) (n : Fin 32) (s : State) :
    execUnmappedAccess (.vf n) a true s = .next (s.vfViolation n 12 a) := by
  rw [execUnmappedAccess_unmapped h, if_pos rfl, State.unmapped_vf]

theorem execBadShapeRequest_pf (w : Bool) (dwords : Nat) (s : State) : execBadShapeRequest .pf w dwords s =
    .next (if w then s.raiseHostStat 30 else (s.raiseHostStat 30).answer (List.replicate dwords 0)) := rfl

theorem State.reg_ite_answer (w : Bool) (s : State) (l : List Word) (a : Nat) :
    (if w then s else s.answer l).reg a = s.reg a := by
  cases w <;> rfl

theorem State.reply_ite_answer {w : Bool} (h : w = false) (s : State) (l : List Word) :
    (if w then s else s.answer l).reply = l := by
  rw [h]
  rfl

/-- HOST_UNMAP takes the offset, unless an earlier one is still held there (R372). -/
def State.captureUnmapped (s : State) (a : Nat) : State :=
  if s.bit Reg.HOST_STAT 31 then s else s.setReg Reg.HOST_UNMAP (BitVec.ofNat 32 (a % 2 ^ 28))

theorem State.unmapped_pf (s : State) (a : Nat) : s.unmapped .pf a = (s.captureUnmapped a).raiseHostStat 31 := rfl

theorem State.reg_captureUnmapped_ne (s : State) (a : Nat) {b : Nat} (h : b ≠ Reg.HOST_UNMAP) :
    (s.captureUnmapped a).reg b = s.reg b := by
  rw [State.captureUnmapped]
  split
  · rfl
  · exact State.reg_setReg_ne s h _

end Sys2Proof.Machine

open Sys2Proof.Machine

/-- Settles O14: the PF's access sets a bit of HOST_STAT after HOST_UNMAP has taken the offset, a VF's is a violation. -/
theorem accessErrors : Obligations.AccessErrors := by
  intro a dwords w n s h
  have hu (t : State) : (t.raiseHostStat 31).reg Reg.HOST_UNMAP = t.reg Reg.HOST_UNMAP :=
    t.reg_raiseHostStat _ _ (by decide)
  refine ⟨⟨_, execUnmappedAccess_unmapped h .pf w s, ?_, fun h0 => ?_, fun h1 => ?_,
      fun hw => State.reply_ite_answer hw _ _, fun b hb hb' => ?_⟩,
    ⟨_, execBadShapeRequest_pf w dwords s, ?_, fun hw => State.reply_ite_answer hw _ _, fun b hb => ?_⟩, execUnmappedAccess_vf_write h n s⟩
  · rw [State.bit_of_reg (State.reg_ite_answer _ _ _ _), State.unmapped_pf]
    exact State.bit_raiseHostStat _ _ (by decide)
  · rw [State.reg_ite_answer, State.unmapped_pf, hu, State.captureUnmapped, if_neg (by rw [h0]; decide)]
    exact s.reg_setReg_self _ _
  · rw [State.reg_ite_answer, State.unmapped_pf, hu, State.captureUnmapped, if_pos h1]
  · rw [State.reg_ite_answer, State.unmapped_pf, State.reg_raiseHostStat _ _ _ hb, State.reg_captureUnmapped_ne _ _ hb']
  · rw [State.bit_of_reg (State.reg_ite_answer _ _ _ _)]
    exact State.bit_raiseHostStat _ _ (by decide)
  · rw [State.reg_ite_answer, State.reg_raiseHostStat _ _ _ hb]

end

section
/-!
Supplies, references, temperatures and the boundary-scan port (R429, R431, R436, R437).
-/

open Sys2Proof

namespace Sys2Proof.Machine

/-! ### The hottest junction in the ledger (Table 10.6) -/

/-- The ledger's peak temperature touches the ledger alone. -/
theorem State.ledgerTj_eq (s : State) (tj : Nat) : s.ledgerTj tj = { s with ledger := (s.ledgerTj tj).ledger } := by
  rw [State.ledgerTj]
  split <;> rfl

theorem State.reg_ledgerTj (s : State) (tj a : Nat) : (s.ledgerTj tj).reg a = s.reg a := by
  rw [State.ledgerTj_eq]
  rfl

theorem State.out_ledgerTj (s : State) (tj : Nat) : (s.ledgerTj tj).out = s.out := by rw [State.ledgerTj_eq]
theorem State.flt_ledgerTj (s : State) (tj : Nat) : (s.ledgerTj tj).flt = s.flt := by rw [State.ledgerTj_eq]

/-! ### Supplies (R429) -/

section
variable {s : State} {rail : Fin 7} (ha : s.pwr.aonValid = true) (hr : rail.val < 2)
include ha hr

/-- VDD_AON and VDDIO are watched while the always-on supply is valid. -/
theorem execSupplyExcursion_watched (dur : Nat) : execSupplyExcursion rail dur s =
    .next (if 2000 < dur then s.reportFault (srcId 2 0) .fatal .logic 0 0 else s) := by
  simp only [execSupplyExcursion, ha, hr, decide_true, Bool.true_or, Bool.and_self, true_and]
  rfl

end

theorem State.reports_reportFault (s : State) (src : Nat) (c : FaultClass) (e : Element) (d t : Nat) :
    (s.reportFault src c e d t).flt.reports.map (fun x => (x.src, x.cls)) =
      s.flt.reports.map (fun x => (x.src, x.cls)) ++ [(src, c)] := List.map_append

/-! ### Temperatures (R437) -/

/-- The first trip of the part: TRIPPED, the ledger's peak and THERMTRIP_N. -/
def State.tripped (s : State) (tj : BitVec 12) : State :=
  ((s.setBit Reg.DEV_THERM 31 true).ledgerTj tj.toNat).emit .thermTrip

theorem execThermalTrip_first {s : State} {tj : BitVec 12} (ht : 1150 ≤ tj.toInt) (h : s.bit Reg.DEV_THERM 31 = false)
    (hb : BitVec 12) : execThermalTrip tj hb s = .next (s.tripped tj) := by
  rw [execThermalTrip, if_pos (.inl ht), h]
  rfl

/-- DEV_THERM with both temperatures and the refresh bit of the stacks. -/
def State.thermShown (s : State) (tj hb : BitVec 12) (hot : Bool) : State :=
  ((s.setFld Reg.DEV_THERM 27 16 tj.toNat).setFld Reg.DEV_THERM 11 0 hb.toNat).setBit Reg.DEV_THERM 30 hot

theorem execThermalRefresh_eq (tj hb : BitVec 12) (s : State) : ∃ hot, execThermalRefresh tj hb s =
    .next ((s.thermShown tj (if s.hbmOn then hb else 0) hot).ledgerTj tj.toNat) := ⟨_, rfl⟩

section
variable (s : State) (tj hb : BitVec 12) (hot : Bool)

theorem State.tj_thermShown : (s.thermShown tj hb hot).fld Reg.DEV_THERM 27 16 = tj.toNat := by
  rw [State.thermShown, State.setBit, State.fld_setFld_disjoint _ _ _ _ _ _ _ (by decide) (by decide),
    State.fld_setFld_disjoint _ _ _ _ _ _ _ (by decide) (by decide), State.fld_setFld _ _ _ _ _ (by decide)]
  exact Nat.mod_eq_of_lt tj.isLt

theorem State.hbm_thermShown : (s.thermShown tj hb hot).fld Reg.DEV_THERM 11 0 = hb.toNat := by
  rw [State.thermShown, State.setBit, State.fld_setFld_disjoint _ _ _ _ _ _ _ (by decide) (by decide),
    State.fld_setFld _ _ _ _ _ (by decide)]
  exact Nat.mod_eq_of_lt hb.isLt

theorem State.trip_thermShown : (s.thermShown tj hb hot).bit Reg.DEV_THERM 31 = s.bit Reg.DEV_THERM 31 := by
  rw [State.thermShown, State.bit_setBit_ne _ _ _ _ _ (by decide) (by decide),
    State.bit_setFld_disjoint _ _ _ _ _ _ (by decide) (by decide),
    State.bit_setFld_disjoint _ _ _ _ _ _ (by decide) (by decide)]

theorem State.reg_thermShown_ne {a : Nat} (h : a ≠ Reg.DEV_THERM) : (s.thermShown tj hb hot).reg a = s.reg a := by
  rw [State.thermShown, State.reg_setBit_ne _ h, State.reg_setFld_ne _ h, State.reg_setFld_ne _ h]

end

/-! ### EXTEST (R436) -/

/-- What a pin carries under EXTEST: an output the boundary register's bit, an input its own level. -/
def Package.driven? (x : Package) (i : Nat) : Bool :=
  if scanOutputs.contains i then x.boundary.getD i false else x.pins.getD i false

/-- The package while EXTEST drives it. -/
def Package.extested (x : Package) : Package :=
  { x with ir := 4, pins := (List.range 17).map x.driven?, driven := true }

theorem execExtest_eq (s : State) : execExtest s = .next { s with pkg := s.pkg.extested } := rfl

theorem Package.pins_extested (x : Package) (i : Fin 17) : x.extested.pins.getD i false = x.driven? i := by
  simp [Package.extested]

end Sys2Proof.Machine

open Sys2Proof.Machine

/-- Settles O60: each command is one branch; those of the test port are the definitions themselves. -/
theorem packageAndBoundaryScan : Obligations.PackageAndBoundaryScan := by
  intro rail dur tj hb l s
  refine ⟨fun ha hr => ⟨fun hd => ?_, fun hd => ?_⟩, ⟨_, rfl, rfl, State.reports_reportFault _ _ _ _ _ _⟩,
    fun ht h => ?_, ?_, ⟨_, rfl, rfl, rfl⟩, ⟨_, rfl, rfl, rfl⟩, ⟨_, rfl, rfl, rfl, rfl⟩, ⟨_, rfl, rfl, rfl, rfl⟩,
    ⟨_, execExtest_eq s, rfl, rfl, rfl, s.pkg.pins_extested⟩⟩
  · have he := execSupplyExcursion_watched ha hr dur
    rw [if_pos hd] at he
    exact ⟨_, he, rfl, State.reports_reportFault _ _ _ _ _ _⟩
  · have he := execSupplyExcursion_watched ha hr dur
    rwa [if_neg (Nat.not_lt.2 hd)] at he
  · refine ⟨_, execThermalTrip_first ht h hb, ?_, ?_, State.flt_ledgerTj _ _, fun a ha => ?_⟩
    · exact (State.bit_of_reg (State.reg_ledgerTj _ _ _) _).trans (s.bit_setBit _ _ _ (by decide))
    · exact congrArg (Output.thermTrip :: ·) (State.out_ledgerTj _ _)
    · exact (State.reg_ledgerTj _ _ _).trans (s.reg_setBit_ne ha _ _)
  · obtain ⟨hot, he⟩ := execThermalRefresh_eq tj hb s
    refine ⟨_, he, ?_, ?_, ?_, fun a ha => ?_⟩
    · rw [State.fld_of_reg (State.reg_ledgerTj _ _ _), State.tj_thermShown]
    · rw [State.fld_of_reg (State.reg_ledgerTj _ _ _), State.hbm_thermShown]
      split <;> rfl
    · rw [State.bit_of_reg (State.reg_ledgerTj _ _ _), State.trip_thermShown]
    · rw [State.reg_ledgerTj, State.reg_thermShown_ne _ _ _ _ ha]

end

section
/-!
Switching power domains (R401, R402, Table 14.3): what a request answers, and how a ramp starts and ends.
-/

open Sys2Proof

namespace Sys2Proof.Machine

/-! ### The register of a domain -/

theorem domainOf_pwrDom (d : Fin 148) : domainOf (Reg.PWR_DOM d) = aonDomain := by
  revert d
  decide

theorem State.domState_setFld (s : State) (d : Nat) {st : Nat} (h : st < 8) :
    (s.setFld (Reg.PWR_DOM d) 29 27 st).domState d = st :=
  (s.fld_setFld _ _ _ _ (by decide)).trans (Nat.mod_eq_of_lt h)

/-- A switched domain is on in state ON alone. -/
theorem State.domOn_eq (s : State) (d : Fin 148) : s.domOn d = (s.domState d == 2) := by
  have h : decide (aonDomain ≤ d.val) = false := decide_eq_false (Nat.not_le.2 d.isLt)
  rw [State.domOn, h, Bool.false_or, State.domState]

/-! ### Requests (R401) -/

theorem domWriter_trusted {m : Master} {d : Nat} (h : domWriter m d = true) : m.trusted = true := by
  cases m with
  | vf n => cases h
  | pf => rfl
  | me k => rfl

section
variable (s : State) (d : Nat) (result : Nat) (req : Bool)

theorem State.result_domResult (h : result < 8) : (s.domResult d result req).fld (Reg.PWR_DOM d) 26 24 = result := by
  rw [State.domResult, State.setBit, State.fld_setFld_disjoint _ _ _ _ _ _ _ (by decide) (by decide),
    State.fld_setFld _ _ _ _ _ (by decide)]
  exact Nat.mod_eq_of_lt h

theorem State.req_domResult : (s.domResult d result req).bit (Reg.PWR_DOM d) 31 = req :=
  State.bit_setBit _ _ _ _ (by decide)

theorem State.reg_domResult_ne {a : Nat} (h : a ≠ Reg.PWR_DOM d) : (s.domResult d result req).reg a = s.reg a := by
  rw [State.domResult, State.reg_setBit_ne _ h, State.reg_setFld_ne _ h]

end

/-- A request waits for its ramp. -/
def State.waits (s : State) (d : Nat) (up : Bool) : State :=
  { s with pwr := { s.pwr with waiting := s.pwr.waiting ++ [(d, up)] } }

theorem State.domQueue_idle {s : State} (h : s.pwr.ramping = []) (d : Nat) (up : Bool) : s.domQueue d up = s.waits d up := by
  rw [State.domQueue, h]
  exact if_neg Bool.false_ne_true

section
variable {s : State} {m : Master} {d : Fin 148}

theorem execDomainOnRequest_trusted (hm : m.trusted = true) :
    execDomainOnRequest m d s = .next (s.domRequest m d true) :=
  congrArg Host.Outcome.next (State.gated_trusted_aon hm (domainOf_pwrDom d) _ _ _)

theorem execDomainOffRequest_trusted (hm : m.trusted = true) :
    execDomainOffRequest m d s = .next (s.domRequest m d false) :=
  congrArg Host.Outcome.next (State.gated_trusted_aon hm (domainOf_pwrDom d) _ _ _)

theorem State.domRequest_perm {d : Nat} (h : domWriter m d = false) (on : Bool) :
    s.domRequest m d on = s.domResult d 2 (s.bit (Reg.PWR_DOM d) 31) := by
  simp [State.domRequest, h]

section
variable {d : Nat} (hw : domWriter m d = true) (hs : s.domState d ≠ 4)
include hw hs

theorem State.domRequest_on (ha : s.domAsked d = false) : s.domRequest m d true = (s.domResult d 0 true).domQueue d true := by
  simp [State.domRequest, hw, hs, ha]

theorem State.domRequest_off (ha : s.domAsked d = true) (ho : s.offOk d = true) :
    s.domRequest m d false = (s.domResult d 0 false).domQueue d false := by
  simp [State.domRequest, hw, hs, ha, ho]

theorem State.domRequest_cond (ha : s.domAsked d = true) (ho : s.offOk d = false) :
    s.domRequest m d false = s.domResult d 1 true := by
  simp [State.domRequest, hw, hs, ha, ho]

end

end

/-! ### What a quadrant's domain holds -/

theorem regPlace_slice_lt {a n o : Nat} (h : regPlace a = (.slice, n, o)) : n < 32 := by
  rw [regPlace] at h
  split_ifs at h <;> cases h
  omega

theorem regPlace_port_lt {a p o : Nat} (h : regPlace a = (.port, p, o)) : p < 1024 := by
  rw [regPlace] at h
  split_ifs at h <;> cases h
  omega

/-- No register lies in the domain of a vat quadrant (Table 11.2). -/
theorem domainOf_ne_quadrant (a : Nat) {d : Nat} (h : 128 ≤ d) (h' : d < 132) : domainOf a ≠ d := by
  simp only [domainOf, aonDomain]
  split
  next n o hp =>
    have hn := regPlace_slice_lt hp
    repeat' split
    all_goals omega
  next p _ hp =>
    have hn := regPlace_port_lt hp
    omega
  next l _ hp =>
    split <;> omega
  next => omega
  next =>
    repeat' split
    all_goals omega

/-- Where no register satisfies `p`, a loss of registers loses none. -/
theorem State.loseRegs_none (s : State) {p : Nat → Bool} (h : ∀ a, p a = false) : s.loseRegs p = s := by
  have hf : s.regs.filter (fun e => p e.1 && keptBits e.1 != 0) = [] := by simp [h]
  have hk : Store.keep (fun a => !p a) s.regs = s.regs := by simp [Store.keep, h]
  rw [State.loseRegs, hf, State.resetRegs, hk]
  rfl

/-- A vat quadrant's domain holds nothing that a switch-off would lose (Table 14.3). -/
theorem State.domainLost_quadrant (s : State) {d : Nat} (h : 128 ≤ d) (h' : d < 132) : s.domainLost d = s := by
  have hr : s.loseRegs (fun a => domainOf a == d) = s :=
    s.loseRegs_none fun a => beq_eq_false_iff_ne.2 (domainOf_ne_quadrant a h h')
  rw [State.domainLost, hr, if_neg (Nat.not_lt.2 h), if_pos h']

/-- The domains of slices and quadrants bring nothing back when they come on. -/
theorem State.domainUp_low (s : State) {d : Nat} (h : d < 132) (woken : Bool) : s.domainUp d woken = s := by
  rw [State.domainUp, if_neg (by omega), if_neg (by omega), if_neg (by omega)]

/-! ### Ramps (R402) -/

/-- The state in which domain d begins its ramp, the requests of `rest` still waiting. -/
def State.rampBegun (s : State) (d : Nat) (up : Bool) (rest : List (Nat × Bool)) : State :=
  { s with pwr := { s.pwr with waiting := rest, ramping := s.pwr.ramping ++ [Ramp.mk d up s.time.mono] } }.setFld
    (Reg.PWR_DOM d) 29 27 (if up then 1 else 3)

section
variable {s : State} {d : Nat} {rest : List (Nat × Bool)} (hl : s.pwr.ramping.length < 4)
include hl

theorem execDomainRampStart_up (hn : s.nextRamp = some ((d, true), rest)) (hs : s.domState d = 0) :
    execDomainRampStart s = .next (s.rampBegun d true rest) := by
  have hd : State.domState { s with pwr := { s.pwr with waiting := rest } } d = 0 := hs
  simp only [execDomainRampStart, hn, hd, Nat.not_le.2 hl, if_false]
  rw [if_neg (by decide)]
  simp only [State.rampBegun, if_true]

theorem execDomainRampStart_down (hn : s.nextRamp = some ((d, false), rest)) (hs : s.domState d = 2) :
    execDomainRampStart s = .next ((s.rampBegun d false rest).domainLost d) := by
  have hd : State.domState { s with pwr := { s.pwr with waiting := rest } } d = 2 := hs
  simp only [execDomainRampStart, hn, hd, Nat.not_le.2 hl, if_false]
  rw [if_neg (by decide)]
  simp only [State.rampBegun, Bool.false_eq_true, if_false]

end

section
variable (s : State) (d st : Nat)

theorem State.domState_rampEnd (h : st < 8) : (s.rampEnd d st).domState d = st := State.domState_setFld _ _ h

theorem State.reg_rampEnd_ne {a : Nat} (h : a ≠ Reg.PWR_DOM d) : (s.rampEnd d st).reg a = s.reg a :=
  State.reg_setFld_ne _ h _ _ _

end

section
variable {s : State} {d : Fin 148} {e : Ramp} (he : s.pwr.ramping.find? (fun y => y.dom == d.val) = some e)
include he

/-- The wake that a domain's switch-on answered is no longer noted. -/
def State.wakeTaken (s : State) (d : Nat) : State := { s with pwr := { s.pwr with woken := NatSet.drop s.pwr.woken d } }

theorem execDomainRampDone_up (ht : s.time.mono < e.start + 100000) (hu : e.up = true) : execDomainRampDone d s =
    .next (((s.rampEnd d 2).wakeTaken d).domainUp d (s.pwr.woken.contains d.val)) := by
  have hlate : ¬ e.start + us 100 ≤ s.time.mono := Nat.not_le.2 ht
  simp only [execDomainRampDone, he, hlate, hu, if_false, if_true]
  rfl

theorem execDomainRampDone_down (ht : s.time.mono < e.start + 100000) (hu : e.up = false) :
    execDomainRampDone d s = .next (s.rampEnd d 0) := by
  have hlate : ¬ e.start + us 100 ≤ s.time.mono := Nat.not_le.2 ht
  simp only [execDomainRampDone, he, hlate, hu, if_false, Bool.false_eq_true]

/-- The requests that waited for a ramp, and the wake it answered, are dropped with it. -/
def State.rampDropped (s : State) (d : Nat) : State :=
  { s with pwr := { s.pwr with deferred := s.pwr.deferred.filter fun e => e.1 != d
                               woken := NatSet.drop s.pwr.woken d } }

theorem execDomainRampTimeout_late (ht : e.start + 100000 ≤ s.time.mono) : execDomainRampTimeout d s =
    .next ((((s.rampDropped d).rampEnd d 4).domainLost d).reportFault (srcId 4 (1 + d.val)) .cont .logic 0 0) := by
  have hlate : e.start + us 100 ≤ s.time.mono := ht
  simp only [execDomainRampTimeout, he, hlate, if_true]
  rfl

end

end Sys2Proof.Machine

open Sys2Proof.Machine

/-- Settles O20: a request by the branch that answers it, a ramp by its start and its end; a vat quadrant's domain loses
nothing when it is switched off. -/
theorem domainRequests : Obligations.DomainRequests := by
  intro d m up e rest s
  refine ⟨fun hw hs ha hr => ?_, fun hw hs ha hr => ⟨fun ho => ?_, fun ho => ?_⟩, fun hm hw => ?_,
    fun hl hn => ⟨?_, ?_⟩, fun he => ⟨fun ht => ⟨fun hu hd => ?_, fun hu => ?_⟩, fun ht h1 h2 => ?_⟩⟩
  · refine ⟨_, execDomainOnRequest_trusted (domWriter_trusted hw), ?_⟩
    rw [State.domRequest_on hw (by omega) ha, State.domQueue_idle (by exact hr)]
    exact ⟨rfl, s.result_domResult d 0 true (by decide), s.req_domResult d 0 true,
      fun a h => s.reg_domResult_ne d 0 true h⟩
  · refine ⟨_, execDomainOffRequest_trusted (domWriter_trusted hw), ?_⟩
    rw [State.domRequest_off hw (by omega) ha ho, State.domQueue_idle (by exact hr)]
    exact ⟨rfl, s.result_domResult d 0 false (by decide), s.req_domResult d 0 false,
      fun a h => s.reg_domResult_ne d 0 false h⟩
  · refine ⟨_, execDomainOffRequest_trusted (domWriter_trusted hw), ?_⟩
    rw [State.domRequest_cond hw (by omega) ha ho]
    exact ⟨rfl, s.result_domResult d 1 true (by decide), s.req_domResult d 1 true⟩
  · refine ⟨_, execDomainOnRequest_trusted hm, ?_⟩
    rw [State.domRequest_perm hw]
    exact ⟨rfl, s.result_domResult d 2 _ (by decide)⟩
  · rintro rfl hs
    exact ⟨_, execDomainRampStart_up hl hn hs, State.domState_setFld _ _ (by decide), rfl,
      fun a h => State.reg_setFld_ne _ h _ _ _⟩
  · rintro rfl hs h1 h2
    have hst : (s.rampBegun d false rest).domState d = 3 := State.domState_setFld _ _ (by decide)
    refine ⟨_, execDomainRampStart_down hl hn hs, ?_⟩
    rw [State.domainLost_quadrant _ h1 h2, State.domOn_eq, hst]
    exact ⟨rfl, rfl, rfl⟩
  · refine ⟨_, execDomainRampDone_up he ht hu, ?_⟩
    have hst : ((s.rampEnd d 2).wakeTaken d).domState d = 2 := s.domState_rampEnd d 2 (by decide)
    rw [State.domainUp_low _ hd, State.domOn_eq, hst]
    exact ⟨rfl, rfl, fun a h => s.reg_rampEnd_ne d 2 h⟩
  · exact ⟨_, execDomainRampDone_down he ht hu, s.domState_rampEnd d 0 (by decide), rfl,
      fun a h => s.reg_rampEnd_ne d 0 h⟩
  · refine ⟨_, execDomainRampTimeout_late he ht, ?_⟩
    rw [State.domainLost_quadrant _ h1 h2]
    exact ⟨(s.rampDropped d).domState_rampEnd d 4 (by decide), rfl, rfl⟩

end

section
/-!
Attestation (R417 to R419): a request taken from its mailbox, its report in the window, its reply, and what empties the
window or fills the bucket.
-/

open Sys2Proof

namespace Sys2Proof.Machine

theorem State.boot_of_apart {s t : State} (h : t.apart = s.apart) : t.boot = s.boot :=
  (congrArg State.boot h : t.apart.boot = s.apart.boot)

/-! ### The report (R418, Table 14.9) -/

/-- The length the report states of its signed part. -/
theorem State.length_attSigned (s : State) (q requester mask : Nat) (nonce : List Byte) :
    (s.attSigned q requester mask nonce).length = 4448 := by
  have he (k : Nat) : (s.attEngine k).length = 64 := by simp [State.attEngine]
  have hs (n : Nat) : (if mask.testBit n then s.attSlice n else List.replicate 128 0).length = 128 := by
    split
    · simp [State.attSlice]
    · exact List.length_replicate
  simp only [State.attSigned, Config.uid, List.length_append, List.length_flatMap, he, hs, length_toLE, length_bytesAt,
    List.length_map, List.length_finRange, List.length_replicate, List.map_const', List.length_range, List.sum_replicate]
  rfl

theorem State.length_attReport (s : State) (q requester mask : Nat) (nonce : List Byte) :
    (s.attReport q requester mask nonce).length = 6316 := by
  simp [State.attReport, State.length_attSigned]

/-! ### The window -/

/-- The window with a report's words in it. -/
def State.attWords (s : State) (report : List Byte) : State :=
  s.setRegs Reg.BOOT_ATTWIN (fun i => BitVec.ofNat 32 (leAt report (4 * i) 4)) (List.range ((report.length + 3) / 4))

section
variable (s : State) {report : List Byte} (holder : Nat)

theorem State.boot_attPlace : (s.attPlace report holder).boot =
    { s.boot with attDue := some (s.time.mono + ms 100) } := by
  have h : (s.attWords report).apart = s.apart := State.apart_setRegs _ _ _ s
  have hb : (s.attWords report).boot = s.boot := State.boot_of_apart h
  have ht : (s.attWords report).time = s.time := (congrArg State.time h : (s.attWords report).apart.time = s.apart.time)
  rw [← hb, ← ht]
  rfl

theorem State.reg_attCtl_attPlace :
    (s.attPlace report holder).reg Reg.BOOT_ATTCTL = BitVec.ofNat 32 (2 ^ 31 + holder) := State.reg_setReg_self _ _ _

/-- A report of at most 8 KiB lies within the window. -/
theorem State.reg_attPlace_high (hl : report.length ≤ 8192) {a : Nat} (ha : Reg.BOOT_ATTWIN 2048 ≤ a) :
    (s.attPlace report holder).reg a = s.reg a := by
  simp only [Reg.BOOT_ATTWIN] at ha
  have hw : (s.attWords report).reg a = s.reg a := by
    refine State.reg_setRegs_ne _ _ _ s fun j hj => ?_
    have := List.mem_range.1 hj
    simp only [Reg.BOOT_ATTWIN]
    omega
  refine (State.reg_setReg_ne _ ?_ _).trans hw
  simp only [Reg.BOOT_ATTCTL]
  omega

theorem State.attDue_attFree : s.attFree.boot.attDue = none := rfl

theorem State.attHeld_attFree : s.attFree.attHeld = false :=
  State.bit_of_reg (t := (State.reset.setReg Reg.BOOT_ATTCTL 0))
    ((State.reg_setReg_self _ _ _).trans (State.reg_setReg_self _ _ _).symm) 31 |>.trans (by decide)

theorem State.reg_attFree_window {a : Nat} (h : Reg.BOOT_ATTWIN 0 ≤ a ∧ a < Reg.BOOT_ATTWIN 2048)
    (hne : a ≠ Reg.BOOT_ATTCTL) : s.attFree.reg a = regReset a := by
  have hr := s.reg_resetRegs (fun a => decide (Reg.BOOT_ATTWIN 0 ≤ a ∧ a < Reg.BOOT_ATTWIN 2048)) a
  exact (State.reg_setReg_ne _ hne _).trans (hr.trans (if_pos (decide_eq_true h)))

theorem State.reg_attWin_attFree (j : Fin 2048) :
    s.attFree.reg (Reg.BOOT_ATTWIN j) = regReset (Reg.BOOT_ATTWIN j) := by
  have hj := j.isLt
  apply State.reg_attFree_window
  · simp only [Reg.BOOT_ATTWIN]
    omega
  · simp only [Reg.BOOT_ATTWIN, Reg.BOOT_ATTCTL]
    omega

end

/-! ### A request (R417, R419) -/

/-- Whether an attestation request stands in mailbox i and can be answered. -/
def State.attReady (s : State) (i : Nat) : Bool :=
  s.bit (Reg.MBX_STAT i) 30 && s.mbxUsed i && s.fld (Reg.MBX_CFG i) 15 0 == 0xC001 && s.engRuns (s.dutyEngine 1) &&
    leAt (s.mbxBytes i) 0 2 == 1 && !s.attHeld && s.boot.attReply.isNone

/-- Mailbox i emptied into its receiver's holding copy. -/
def State.mbxTaken (s : State) (i : Nat) : State :=
  let t := s.setBit (Reg.MBX_STAT i) 30 false
  { t with mbx := { hold := Store.set t.mbx.hold i (t.mbxMessage i), posted := Store.del t.mbx.posted i } }

/-- The reply that is still to be posted. -/
def State.attAnswered (s : State) (r : AttReply) : State := { s with boot := { s.boot with attReply := some r } }

/-- A token of the bucket and an index of the LMS key are used up (R416, R419). -/
def State.attSpent (s : State) : State := { s.lmsUse with boot := { s.boot with attTokens := s.boot.attTokens - 1 } }

theorem execAttestRequest_rate {s : State} {i : Fin 256} (h : s.attReady i = true) (ht : s.boot.attTokens = 0) :
    execAttestRequest i s = .next ((s.mbxTaken i).attAnswered ⟨leAt (s.mbxBytes i) 2 2, 1, 0, 0⟩) :=
  (if_pos h).trans (if_pos ht)

/-- With a token and an unused index a report of 6,316 bytes is made and placed. -/
theorem execAttestRequest_report {s : State} {i : Fin 256} (h : s.attReady i = true) (ht : 0 < s.boot.attTokens)
    (hq : s.lmsState.1 < 2 ^ 20) : ∃ report : List Byte, report.length = 6316 ∧ execAttestRequest i s =
      .next (((s.mbxTaken i).attSpent.attPlace report (s.fld (Reg.MBX_CFG i) 31 16)).attAnswered
        ⟨leAt (s.mbxBytes i) 2 2, 0, report.length, s.lmsState.1⟩) :=
  ⟨_, State.length_attReport _ _ _ _ _,
    (if_pos h).trans ((if_neg (Nat.ne_of_gt ht)).trans (if_neg (Nat.not_le.2 hq)))⟩

theorem State.full_mbxTaken (s : State) (i : Nat) : (s.mbxTaken i).bit (Reg.MBX_STAT i) 30 = false :=
  s.bit_setBit _ _ _ (by decide)

theorem mbxStat_ne_attCtl (i : Nat) : Reg.BOOT_ATTCTL ≠ Reg.MBX_STAT i := by
  simp only [Reg.BOOT_ATTCTL, Reg.MBX_STAT]
  omega

theorem State.attHeld_mbxTaken (s : State) (i : Nat) : (s.mbxTaken i).attHeld = s.attHeld :=
  State.bit_of_reg (s.reg_setBit_ne (mbxStat_ne_attCtl i) _ _) 31

/-- BOOT_ATTCTL with a report held: HELD and the holder's ID. -/
theorem attCtl_fields {holder : Nat} (h : holder < 2 ^ 16) :
    (BitVec.ofNat 32 (2 ^ 31 + holder)).getLsbD 31 = true ∧ fieldOf (BitVec.ofNat 32 (2 ^ 31 + holder)) 15 0 = holder := by
  constructor
  · rw [BitVec.getLsbD_ofNat, Nat.testBit_two_pow_add_eq, Nat.testBit_lt_two_pow (by omega)]
    rfl
  · simp only [fieldOf, bitsOf, BitVec.toNat_ofNat]
    omega

/-! ### The reply -/

theorem targetDomain_inl (n : Nat) : targetDomain (.inl n) < 148 := (by decide : 145 < 148)

/-- A target's power domain is the PCI Express one or a management one (R389). -/
theorem State.targetDomain_of_party {s : State} {id : Nat} {t : Nat ⊕ Nat} (h : s.partyTarget id = some t) :
    targetDomain t < 148 := by
  rw [State.partyTarget] at h
  split_ifs at h <;> cases h
  · exact targetDomain_inl _
  · exact targetDomain_inl _
  · simp only [targetDomain]
    omega
  · have := s.fld_lt Reg.MGE_DUTYMAP (2 * (id - 0xC000) + 1) (2 * (id - 0xC000))
    have hw : 2 * (id - 0xC000) + 1 + 1 - 2 * (id - 0xC000) = 2 := by omega
    rw [hw] at this
    simp only [targetDomain]
    omega

theorem State.targetDomain_of_source {s : State} {src : Nat} {t : Nat ⊕ Nat} (h : s.sourceTarget src = some t) :
    targetDomain t < 148 := by
  rw [State.sourceTarget] at h
  split_ifs at h
  iterate 2 cases h; exact targetDomain_inl _
  iterate 3 exact State.targetDomain_of_party h
  cases h
  exact targetDomain_inl _

theorem State.boot_wakeDomain (s : State) (t : Option (Nat ⊕ Nat)) : (s.wakeDomain t).boot = s.boot := by
  simp only [State.wakeDomain]
  repeat' split
  all_goals rfl

/-- A wake touches no register but PWR_DOMd (R403). -/
theorem State.reg_wakeDomain (s : State) {t : Option (Nat ⊕ Nat)} (ht : ∀ x ∈ t, targetDomain x < 148) {a : Nat}
    (ha : Reg.PWR_DOM 148 ≤ a) : (s.wakeDomain t).reg a = s.reg a := by
  simp only [State.wakeDomain]
  split
  · rfl
  next x =>
    have hne : a ≠ Reg.PWR_DOM (targetDomain x) := by
      have := ht x rfl
      simp only [Reg.PWR_DOM] at ha ⊢
      omega
    split
    · exact (State.reg_setBit_ne _ hne _ _).trans (State.reg_setBit_ne _ hne _ _)
    · rfl

/-- A mailbox with a posted message but for its FULL bit: the message copied, SRST cleared, COLL when one was unread. -/
def State.mbxMarked (s : State) (i : Nat) : State :=
  let t := (s.mbxCopy i).setBit (Reg.MBX_STAT i) 27 false
  if s.bit (Reg.MBX_STAT i) 30 then t.setBit (Reg.MBX_STAT i) 29 true else t

/-- The same with the message's timeout begun. -/
def State.mbxPosted (s : State) (i : Nat) : State :=
  let t := s.mbxMarked i
  { t with mbx := { t.mbx with posted := Store.set t.mbx.posted i t.time.mono } }

theorem State.reg_mbxPosted (s : State) (i a : Nat) : (s.mbxPosted i).reg a = (s.mbxMarked i).reg a := rfl

theorem State.boot_mbxMarked (s : State) (i : Nat) : (s.mbxMarked i).boot = (s.mbxCopy i).boot := by
  rw [State.mbxMarked]
  split
  · rw [State.boot_setBit, State.boot_setBit]
  · rw [State.boot_setBit]

theorem State.boot_mbxPosted (s : State) (i : Nat) : (s.mbxPosted i).boot = (s.mbxCopy i).boot := s.boot_mbxMarked i

theorem State.reg_mbxMarked_ne (s : State) (i : Nat) {a : Nat} (h : a ≠ Reg.MBX_STAT i) :
    (s.mbxMarked i).reg a = (s.mbxCopy i).reg a := by
  rw [State.mbxMarked]
  split
  · rw [State.reg_setBit_ne _ h, State.reg_setBit_ne _ h]
  · rw [State.reg_setBit_ne _ h]

theorem State.mbxPost_eq (s : State) (i : Nat) : s.mbxPost i =
    ((s.mbxPosted i).wakeDomain ((s.mbxPosted i).sourceTarget (512 + i))).raiseBit (Reg.MBX_STAT i) 30 := rfl

theorem State.boot_mbxCopy (s : State) (i : Nat) : (s.mbxCopy i).boot = s.boot :=
  State.boot_of_apart (State.apart_setRegs (Reg.MBX_MSG i) _ _ s)

theorem State.boot_mbxPost (s : State) (i : Nat) : (s.mbxPost i).boot = s.boot := by
  rw [State.mbxPost_eq, State.boot_of_apart (State.apart_raiseBit _ _ _), State.boot_wakeDomain, State.boot_mbxPosted,
    State.boot_mbxCopy]

theorem State.full_mbxPost (s : State) {i : Nat} (hi : i < 256) : (s.mbxPost i).bit (Reg.MBX_STAT i) 30 = true := by
  rw [State.mbxPost_eq]
  refine State.bit_raiseBit _ _ _ ?_ (by decide)
  simp only [Reg.MBX_STAT, Reg.HOST_STAT]
  omega

/-- A post shows the staged words. -/
theorem State.msg_mbxPost (s : State) {i j : Nat} (hi : i < 256) (hj : j < 16) :
    (s.mbxPost i).reg (Reg.MBX_MSG i j) = s.reg (Reg.MBX_STAGE i j) := by
  have hstat : Reg.MBX_MSG i j ≠ Reg.MBX_STAT i := by
    simp only [Reg.MBX_MSG, Reg.MBX_STAT]
    omega
  have hhost : Reg.MBX_MSG i j ≠ Reg.HOST_STAT := by
    simp only [Reg.MBX_MSG, Reg.HOST_STAT]
    omega
  have hdom : Reg.PWR_DOM 148 ≤ Reg.MBX_MSG i j := by
    simp only [Reg.MBX_MSG, Reg.PWR_DOM]
    omega
  have hinj : Function.Injective (Reg.MBX_MSG i) := fun k k' h => by
    simp only [Reg.MBX_MSG] at h
    omega
  rw [State.mbxPost_eq, State.reg_raiseBit_ne _ _ _ _ hstat hhost,
    State.reg_wakeDomain _ (fun x hx => State.targetDomain_of_source hx) hdom, State.reg_mbxPosted,
    State.reg_mbxMarked_ne _ _ hstat]
  exact State.reg_setRegs_mem (Reg.MBX_MSG i) (fun k => s.reg (Reg.MBX_STAGE i k)) (List.range 16) s hinj
    (List.mem_range.2 hj)

/-- The reply's two words staged, and no longer to be posted. -/
def State.replyStaged (s : State) (r : AttReply) : State :=
  (State.setReg { s with boot := { s.boot with attReply := none } } (Reg.MBX_STAGE r.box 0)
    (BitVec.ofNat 32 (0x81 + 256 * r.status + 65536 * r.len))).setReg (Reg.MBX_STAGE r.box 1) (BitVec.ofNat 32 r.q)

theorem execAttestReply_sender {s : State} {r : AttReply} (hr : s.boot.attReply = some r) (hb : r.box < 256)
    (hm : s.mbxSender r.box (.me (Fin.ofNat 4 (s.dutyEngine 1))) = true) :
    execAttestReply s = .next ((s.replyStaged r).mbxPost r.box) := by
  simp only [execAttestReply, hr]
  rw [if_neg (Nat.not_le.2 hb)]
  exact if_pos hm

theorem State.reg_stage0_replyStaged (s : State) (r : AttReply) : (s.replyStaged r).reg (Reg.MBX_STAGE r.box 0) =
    BitVec.ofNat 32 (0x81 + 256 * r.status + 65536 * r.len) := by
  refine (State.reg_setReg_ne _ ?_ _).trans (State.reg_setReg_self _ _ _)
  simp only [Reg.MBX_STAGE]
  omega

/-! ### What empties the window (R417) -/

theorem execAttestRelease_held {s : State} {m : Master} (hm : m.trusted = true) (h : s.attHeld = true) :
    execAttestRelease m s = .next s.attFree := by
  have hmay : s.attMay m = true := by rw [State.attMay, hm, Bool.true_or]
  rw [execAttestRelease, if_pos hmay, if_pos h]

theorem execAttestWindowTimeout_due {s : State} {tm : Nat} (h : s.boot.attDue = some tm) (ht : tm ≤ s.time.mono) :
    execAttestWindowTimeout s = .next s.attFree := by
  simp only [execAttestWindowTimeout, h, ht, if_true]

end Sys2Proof.Machine

open Sys2Proof.Machine

/-- Settles O59: a request by the branch that answers it; the report lies in the window, off every other register. -/
theorem attestation : Obligations.Attestation := by
  intro m i r tm s hm
  refine ⟨fun hf hu hc he hcode hfree hnone => ?_, fun hr hb hs => ?_, fun hh => ?_, fun hd ht => ?_, fun ht => ?_⟩
  · have ready : s.attReady i = true := by
      simp [State.attReady, hf, hu, hc, he, hcode, hfree, hnone]
    refine ⟨fun h0 => ⟨_, execAttestRequest_rate ready h0, s.full_mbxTaken i, rfl, ?_, rfl⟩, fun h0 hq => ?_⟩
    · exact (s.attHeld_mbxTaken i).trans hfree
    · obtain ⟨report, hl, hx⟩ := execAttestRequest_report ready h0 hq
      have hctl := (s.mbxTaken i).attSpent.reg_attCtl_attPlace (report := report) (s.fld (Reg.MBX_CFG i) 31 16)
      obtain ⟨hheld, hholder⟩ := attCtl_fields (s.fld_lt (Reg.MBX_CFG i) 31 16)
      have hboot := (s.mbxTaken i).attSpent.boot_attPlace (report := report) (s.fld (Reg.MBX_CFG i) 31 16)
      refine ⟨_, hx, ?_, ?_, ?_, rfl, ?_, ?_⟩
      · rw [State.attHeld, State.bit_eq]
        exact (congrArg (BitVec.getLsbD · 31) hctl).trans hheld
      · refine (State.bit_of_reg ?_ 30).trans (s.full_mbxTaken i)
        refine State.reg_attPlace_high (s.mbxTaken i).attSpent _ (by omega) ?_
        simp only [Reg.BOOT_ATTWIN, Reg.MBX_STAT]
        omega
      · exact (congrArg (fieldOf · 15 0) hctl).trans hholder
      · exact congrArg Boot.attTokens hboot
      · exact congrArg Boot.attDue hboot
  · have hpost (j : Nat) (hj : j < 16) := (s.replyStaged r).msg_mbxPost hb hj
    refine ⟨_, execAttestReply_sender hr hb hs, ?_, State.full_mbxPost _ hb, ?_, ?_⟩
    · rw [State.boot_mbxPost]
      rfl
    · rw [hpost 0 (by decide), State.reg_stage0_replyStaged]
    · rw [hpost 1 (by decide)]
      exact State.reg_setReg_self _ _ _
  · exact ⟨_, execAttestRelease_held hm hh, s.attHeld_attFree, s.attDue_attFree, s.reg_attWin_attFree⟩
  · exact ⟨_, execAttestWindowTimeout_due hd ht, s.attHeld_attFree, s.attDue_attFree⟩
  · exact ⟨_, if_pos ht, rfl, rfl, rfl⟩

end

section
/-!
The boot controller (R407 to R413, R420 to R422): its commands, how an operation's fetch and verification end, and what
is written.
-/

open Sys2Proof

namespace Sys2Proof

/-! ### Bytes written in a row -/

/-- A map after `n` bytes are written from `k` on: the bytes there, what was there before elsewhere. -/
theorem Store.read_foldl_put {α : Type} [DecidableEq α] (d : α) (m : Store α) (k n : Nat) (f : Nat → α) (a : Nat) :
    Store.read d ((List.range n).foldl (fun m i => Store.put d m (k + i) (f i)) m) a =
      if k ≤ a ∧ a < k + n then f (a - k) else Store.read d m a := by
  induction n with
  | zero => rw [if_neg (by omega), List.range_zero, List.foldl_nil]
  | succ n ih =>
    rw [List.range_succ, List.foldl_append, List.foldl_cons, List.foldl_nil, Store.read_put, ih]
    by_cases ha : a = k + n
    · rw [if_pos ha, if_pos (by omega), ha, Nat.add_sub_cancel_left]
    · rw [if_neg ha]
      exact if_congr (by omega) rfl rfl

end Sys2Proof

namespace Sys2Proof.Machine

/-! ### The codes -/

theorem State.fwCheck_lt (s : State) (w : BootBy) (b : List Byte) (len : Nat) : s.fwCheck w b len < 256 := by
  simp only [State.fwCheck]
  repeat' split
  all_goals decide

theorem State.fwVerify_lt (s : State) (b : List Byte) : s.fwVerify b < 256 := by
  have hs (k : List Byte) (so : Nat) : sigVerify k b so < 256 := by
    simp only [sigVerify]
    repeat' split
    all_goals decide
  simp only [State.fwVerify]
  split
  · exact hs _ _
  · split <;> decide

theorem State.requestCheck_lt (s : State) (b : List Byte) : s.requestCheck b < 256 := by
  simp only [State.requestCheck, State.reqCheck]
  repeat' split
  all_goals decide

/-! ### Commands (R422) -/

theorem domainOf_bootCmd : domainOf Reg.BOOT_CMD = aonDomain := by decide

theorem State.gated_bootCmd {m : Master} (hm : m.trusted = true) (s : State) (run : State → State) :
    s.gated m Reg.BOOT_CMD true run = run s := State.gated_trusted_aon hm domainOf_bootCmd s true run

section
variable {m : Master} (hm : m.trusted = true) (s : State)
include hm

theorem execBootLoad_trusted : execBootLoad m s = .next (s.bootCmd m 1 0) :=
  congrArg Host.Outcome.next (State.gated_bootCmd hm s _)

theorem execBootRequest_trusted : execBootRequest m s = .next (s.bootCmd m 2 0) :=
  congrArg Host.Outcome.next (State.gated_bootCmd hm s _)

theorem execInstall_trusted (a : Fin 16) : execInstall m a s = .next (s.bootCmd m 3 a) :=
  congrArg Host.Outcome.next (State.gated_bootCmd hm s _)

theorem execFlashWrite_trusted (a : Fin 16) : execFlashWrite m a s = .next (s.bootCmd m 4 a) :=
  congrArg Host.Outcome.next (State.gated_bootCmd hm s _)

theorem execBootVerify_trusted : execBootVerify m s = .next (s.bootCmd m 5 0) :=
  congrArg Host.Outcome.next (State.gated_bootCmd hm s _)

theorem execBootCmdReserved_trusted {cmd : Fin 16} (h : cmd.val = 0 ∨ 5 < cmd.val) :
    execBootCmdReserved m cmd s = .next (s.bootCmd m cmd 0) :=
  (if_neg (by omega)).trans (congrArg Host.Outcome.next (State.gated_bootCmd hm s _))

end

/-- A command that starts an operation on a container: LOAD, REQUEST, FLASH_WRITE into one of three slots, VERIFY. -/
def startsOp (cmd arg : Nat) : Prop := cmd = 1 ∨ cmd = 2 ∨ (cmd = 4 ∧ arg ≤ 2) ∨ cmd = 5

/-- The controller runs a command, and reads its container from host memory. -/
def State.opStarted (s : State) (m : Master) (cmd arg : Nat) : State :=
  let addr := (s.reg Reg.BOOT_ADDR_HI).toNat * 2 ^ 32 + s.fld Reg.BOOT_ADDR_LO 31 2 * 4
  let o : BootOp := { by_ := .command cmd arg, issuer := m, phase := .fetch, since := s.time.mono }
  ({ s with boot := { s.boot with op := some o } }.setBit Reg.BOOT_CMD 30 true).emit
    (.dmaRead ((hostFn m).getD 0) addr (s.fld Reg.BOOT_LEN 19 0))

theorem State.reg_opStarted_ne (s : State) (m : Master) (cmd arg : Nat) {b : Nat} (h : b ≠ Reg.BOOT_CMD) :
    (s.opStarted m cmd arg).reg b = s.reg b := by
  rw [State.opStarted, State.reg_emit, State.reg_setBit_ne _ h]
  rfl

theorem State.bit_opStarted (s : State) (m : Master) (cmd arg : Nat) :
    (s.opStarted m cmd arg).bit Reg.BOOT_CMD 30 = true :=
  (State.bit_of_reg (State.reg_emit _ _ _) 30).trans (State.bit_setBit _ _ _ _ (by decide))

theorem State.bootCmd_busy {s : State} (h : s.bit Reg.BOOT_CMD 30 = true) (m : Master) (cmd arg : Nat) :
    s.bootCmd m cmd arg = s.setBit Reg.BOOT_CMD 29 true := if_pos h

section
variable {s : State} (h : s.bit Reg.BOOT_CMD 30 = false) (m : Master)
include h

theorem State.bootCmd_install (arg : Nat) : s.bootCmd m 3 arg =
    (s.keyInstall arg s.keyWindow).1.setFld Reg.BOOT_CMD 23 16 (s.keyInstall arg s.keyWindow).2 := by
  simp [State.bootCmd, h]

theorem State.bootCmd_reserved {cmd : Nat} (hc : cmd = 0 ∨ 5 < cmd) (arg : Nat) :
    s.bootCmd m cmd arg = s.setFld Reg.BOOT_CMD 23 16 0x0D := by
  have h3 : cmd ≠ 3 := by omega
  have hr : cmd = 0 ∨ 5 < cmd ∨ s.bootReady = false ∨ (cmd = 4 ∧ 2 < arg) := by omega
  simp [State.bootCmd, h, h3, hr]

theorem State.bootCmd_notReady {cmd arg : Nat} (hc : startsOp cmd arg) (hr : s.bootReady = false) :
    s.bootCmd m cmd arg = s.setFld Reg.BOOT_CMD 23 16 0x0D := by
  have h3 : cmd ≠ 3 := by rw [startsOp] at hc; omega
  simp [State.bootCmd, h, h3, hr]

theorem State.bootCmd_starts {cmd arg : Nat} (hc : startsOp cmd arg) (hr : s.bootReady = true) :
    s.bootCmd m cmd arg = s.opStarted m cmd arg := by
  rw [startsOp] at hc
  have h3 : cmd ≠ 3 := by omega
  have hn : ¬ (cmd = 0 ∨ 5 < cmd ∨ s.bootReady = false ∨ (cmd = 4 ∧ 2 < arg)) := by
    rw [hr]
    simp only [Bool.true_eq_false, false_or]
    omega
  rw [State.bootCmd, if_neg (by rw [h]; decide), if_neg h3, if_neg hn]
  rfl

end

theorem State.keyInstall_ok {s : State} {slot : Nat} {keys : List Byte} (h1 : 1 ≤ slot)
    (hh : Store.at? s.boot.hashes slot = some (Config.sha384 keys)) (hr : s.boot.revoked.contains slot = false) :
    s.keyInstall slot keys = ({ s with boot := { s.boot with keys := Store.set s.boot.keys slot keys } }, 0) :=
  if_pos ⟨h1, hh, hr⟩

theorem State.keyInstall_empty {s : State} {slot : Nat} (h : Store.at? s.boot.hashes slot = none) (keys : List Byte) :
    s.keyInstall slot keys = (s, 0x0F) :=
  if_neg fun hc => by
    rw [h] at hc
    cases hc.2.1

/-- A code in BOOT_CMD reads back. -/
theorem State.code_setFld (s : State) {c : Nat} (h : c < 256) : (s.setFld Reg.BOOT_CMD 23 16 c).fld Reg.BOOT_CMD 23 16 = c :=
  (s.fld_setFld _ _ _ _ (by decide)).trans (Nat.mod_eq_of_lt h)

/-! ### The end of an operation -/

/-- A command other than REQUEST has ended with a code. -/
def State.bootClosed (s : State) (code : Nat) : State :=
  ({ s with boot := { s.boot with op := none } }.setBit Reg.BOOT_CMD 30 false).setFld Reg.BOOT_CMD 23 16 code

theorem State.bootEnd_command {s : State} {o : BootOp} {cmd arg : Nat} (hop : s.boot.op = some o)
    (hby : o.by_ = .command cmd arg) (hcmd : cmd ≠ 2) (code : Nat) : s.bootEnd code = s.bootClosed code := by
  obtain ⟨_, issuer, phase, bytes, since⟩ := o
  obtain rfl := hby
  rw [State.bootEnd, hop]
  split
  next h =>
    cases h
    exact absurd rfl hcmd
  next => rfl

section
variable (s : State) {code : Nat}

theorem State.code_bootClosed (h : code < 256) : (s.bootClosed code).fld Reg.BOOT_CMD 23 16 = code :=
  State.code_setFld _ h

theorem State.idle_bootClosed : (s.bootClosed code).bit Reg.BOOT_CMD 30 = false :=
  (State.bit_setFld_disjoint _ _ _ _ _ _ (by decide) (by decide)).trans (State.bit_setBit _ _ _ _ (by decide))

theorem State.reg_bootClosed_ne {a : Nat} (h : a ≠ Reg.BOOT_CMD) : (s.bootClosed code).reg a = s.reg a :=
  (State.reg_setFld_ne _ h _ _ _).trans (State.reg_setBit_ne _ h _ _)

end

theorem State.bootFail_verify {s : State} {o : BootOp} {e : Nat} (hop : s.boot.op = some o) (hby : o.by_ = .command 5 e)
    (code : Nat) : s.bootFail o code = s.bootClosed code := by
  simp only [State.bootFail, hby]
  rw [if_neg (by omega), State.bootEnd_command hop hby (by decide)]

theorem State.bootFail_slotA {o : BootOp} (hby : o.by_ = .flash 0) (s : State) (code : Nat) :
    s.bootFail o code = (s.setFld Reg.BOOT_STAT 27 20 code).readFlash 1 := by
  simp only [State.bootFail, hby]
  rfl

theorem State.bootState_readFlash (s : State) (slot : Nat) : (s.readFlash slot).bootState = 2 :=
  State.fld_setFld _ _ _ _ _ (by decide)

/-! ### The end of a fetch (R407, R410) -/

section
variable {s : State} {o : BootOp} (hop : s.boot.op = some o) (hph : o.phase = .fetch)
include hop hph

theorem execBootFetchDone_failed : execBootFetchDone none s = .next (s.bootFail o 1) := by
  simp only [execBootFetchDone, hop, hph, ne_eq, not_true_eq_false, if_false]

theorem execBootFetchDone_verify {e : Nat} {b : List Byte} (hby : o.by_ = .command 5 e)
    (hb : b.length = s.fld Reg.BOOT_LEN 19 0) : execBootFetchDone (some b) s =
      if s.fwCheck o.by_ b b.length ≠ 0 then .next (s.bootFail o (s.fwCheck o.by_ b b.length))
      else .next (s.bootPhase o .verify b) := by
  simp only [execBootFetchDone, hop, hph, ne_eq, not_true_eq_false, if_false]
  split
  next h => cases hby.symm.trans h
  next cmd arg h =>
    obtain ⟨rfl, rfl⟩ : 5 = cmd ∧ e = arg := by simpa using hby.symm.trans h
    rw [if_neg (not_not.2 hb), if_neg (by omega), ← hb, h]

end

/-! ### The end of a verification (R409) -/

/-- What VERIFY reports of a container. -/
def State.verdict (s : State) (b : List Byte) : Nat :=
  if s.fwVerify b = 0 ∧ fwType b = 2 then s.requestCheck b else s.fwVerify b

theorem State.verdict_lt (s : State) (b : List Byte) : s.verdict b < 256 := by
  rw [State.verdict]
  split
  · exact s.requestCheck_lt b
  · exact s.fwVerify_lt b

theorem execBootVerifyDone_verify {s : State} {o : BootOp} {e : Nat} (hop : s.boot.op = some o) (hph : o.phase = .verify)
    (hby : o.by_ = .command 5 e) (ok : Bool) : execBootVerifyDone ok s = .next (s.bootClosed (s.verdict o.bytes)) := by
  simp only [execBootVerifyDone, hop, hph, ne_eq, not_true_eq_false, if_false, hby]
  by_cases hv : s.fwVerify o.bytes = 0
  · simp only [hv, not_true_eq_false, if_false, State.bootEnd_command hop hby (by decide), State.verdict, true_and]
  · simp only [hv, not_false_eq_true, if_true, State.bootFail_verify hop hby, State.verdict, false_and, if_false]

/-! ### Engine images (R409, R420) -/

/-- One engine's share of a write: its image kept and loaded when TARGET names it; at boot it runs. -/
def State.writeEngine (b : List Byte) (run : Bool) (t : State) (k : Nat) : State :=
  if (fwTarget b).testBit k then
    let t := { t with boot := { t.boot with images := Store.set t.boot.images k (fwImage b) } }.loadImage k (fwImage b)
    if run then ((t.setBit (Reg.MGE_CTL k) 31 true).engStart k).rewake (t.engineParty k) else t
  else t

theorem State.boot_engStart (s : State) (k : Nat) : (s.engStart k).boot = s.boot := by
  simp only [State.engStart]
  split <;> rfl

theorem State.boot_rewake (s : State) (p : Nat → Bool) : (s.rewake p).boot = s.boot :=
  State.boot_of_apart (s.apart_rewake p)

theorem State.boot_writeEngine (b : List Byte) (run : Bool) (t : State) (k : Nat) : (t.writeEngine b run k).boot =
    if (fwTarget b).testBit k then { t.boot with images := Store.set t.boot.images k (fwImage b) } else t.boot := by
  rw [State.writeEngine]
  split
  · cases run
    · rfl
    · rw [if_pos rfl, State.boot_rewake, State.boot_engStart]
      rfl
  · rfl

/-- Without a start, a write of an engine's store changes no register but MGE_CTL. -/
theorem State.reg_writeEngine_stopped (b : List Byte) (t : State) (k : Nat) {a : Nat} (h : a < 0x80000) :
    (t.writeEngine b false k).reg a = t.reg a := by
  have hne : a ≠ Reg.MGE_CTL k := by
    simp only [Reg.MGE_CTL]
    omega
  rw [State.writeEngine]
  split
  · exact State.reg_setFld_ne _ hne _ _ _
  · rfl

theorem State.images_writeEngine (b : List Byte) (run : Bool) (t : State) (k j : Nat) :
    Store.at? (t.writeEngine b run k).boot.images j =
      if j = k ∧ (fwTarget b).testBit k then some (fwImage b) else Store.at? t.boot.images j := by
  rw [State.boot_writeEngine]
  cases (fwTarget b).testBit k
  · simp
  · simp [Store.at?_set]

section
variable (s : State) (b : List Byte) (run : Bool)

theorem State.op_writeEngines : (s.writeEngines b run).boot.op = s.boot.op :=
  State.foldl_keeps (f := State.writeEngine b run) (fun t => t.boot.op)
    (fun t k => by
      rw [congrArg Boot.op (t.boot_writeEngine b run k)]
      split <;> rfl) _ s

theorem State.reg_writeEngines_stopped {a : Nat} (h : a < 0x80000) : (s.writeEngines b false).reg a = s.reg a :=
  State.reg_foldl _ a (fun t k => t.reg_writeEngine_stopped b k h) _ s

theorem State.images_foldl_writeEngine {j : Nat} (hj : (fwTarget b).testBit j = true) (l : List Nat) :
    j ∈ l ∨ Store.at? s.boot.images j = some (fwImage b) →
      Store.at? (l.foldl (State.writeEngine b run) s).boot.images j = some (fwImage b) := by
  induction l generalizing s with
  | nil => exact fun h => h.resolve_left List.not_mem_nil
  | cons k r ih =>
    intro h
    refine ih _ ?_
    rw [State.images_writeEngine]
    by_cases hk : j = k
    · exact .inr (if_pos ⟨hk, hk ▸ hj⟩)
    · rw [if_neg fun hc => hk hc.1]
      exact h.imp_left fun hm => (List.mem_cons.1 hm).resolve_left hk

theorem State.images_writeEngines {j : Nat} (h4 : j < 4) (hj : (fwTarget b).testBit j = true) :
    Store.at? (s.writeEngines b run).boot.images j = some (fwImage b) :=
  s.images_foldl_writeEngine b run hj _ (.inl (List.mem_range.2 h4))

end

/-- The stores are written; at boot the voltage loop starts and STATE becomes RUN (Table 14.2, step 6). -/
def State.storesWritten (s : State) (b : List Byte) : State :=
  if s.bootState != 4 then
    let t := s.writeEngines b true
    { t with avs := { t.avs with released := true, lastEval := t.time.mono } }.setFld Reg.BOOT_STAT 31 28 4
  else s.writeEngines b false

theorem execBootWriteDone_load {s : State} {o : BootOp} {e : Nat} (hop : s.boot.op = some o) (hph : o.phase = .write)
    (hby : o.by_ = .command 1 e) : execBootWriteDone s = .next ((s.storesWritten o.bytes).bootClosed 0) := by
  have hw : (s.storesWritten o.bytes).boot.op = some o := by
    rw [← hop, State.storesWritten]
    split
    · exact s.op_writeEngines o.bytes true
    · exact s.op_writeEngines o.bytes false
  rw [← State.bootEnd_command hw hby (by decide)]
  simp only [execBootWriteDone, hop, hph, ne_eq, not_true_eq_false, if_false, hby, State.storesWritten]
  cases hb : s.bootState != 4
  · simp only [Bool.false_eq_true, if_false]
  · simp only [if_true]

theorem State.bootState_storesWritten (s : State) (b : List Byte) : (s.storesWritten b).bootState = 4 := by
  rw [State.storesWritten]
  split
  next => exact State.fld_setFld _ _ _ _ _ (by decide)
  next h =>
    rw [State.bootState, State.fld_of_reg (s.reg_writeEngines_stopped b (by decide))]
    simpa [State.bootState] using h

theorem State.images_storesWritten (s : State) (b : List Byte) {j : Nat} (h4 : j < 4)
    (hj : (fwTarget b).testBit j = true) : Store.at? (s.storesWritten b).boot.images j = some (fwImage b) := by
  rw [State.storesWritten]
  split
  · exact s.images_writeEngines b true h4 hj
  · exact s.images_writeEngines b false h4 hj

/-! ### Flash writes (R421) -/

/-- The flash with bytes written from an address on. -/
def State.flashPut (s : State) (at_ : Nat) (l : List Byte) : State :=
  let fl := (List.range l.length).foldl (fun (m : List Host.Cell) i => Store.put 0xFF m (at_ + i) (l.getD i 0)) s.boot.flash
  { s with boot := { s.boot with flash := fl } }

theorem execFlashWriteDone_slot {s : State} {o : BootOp} {c : Nat} (hop : s.boot.op = some o) (hph : o.phase = .flash)
    (hby : o.by_ = .command 4 c) (hfit : flashSlot c + o.bytes.length ≤ 0x200000) :
    execFlashWriteDone s = .next ((s.flashPut (flashSlot c) o.bytes).bootClosed 0) := by
  have ht : o.bytes.take (0x200000 - flashSlot c) = o.bytes := List.take_of_length_le (by omega)
  have hop' : (s.flashPut (flashSlot c) o.bytes).boot.op = some o := hop
  rw [← State.bootEnd_command hop' hby (by decide)]
  rw [execFlashWriteDone]
  split
  next h => cases hop.symm.trans h
  next o' h =>
    obtain rfl : o = o' := Option.some.inj (hop.symm.trans h)
    split
    next cmd arg hb _ =>
      obtain ⟨rfl, rfl⟩ : 4 = cmd ∧ c = arg := by simpa using hby.symm.trans hb
      exact congrArg (fun l => Host.Outcome.next ((s.flashPut (flashSlot c) l).bootEnd 0)) ht
    next hn => exact absurd hph (hn 4 c hby)

section
variable (s : State) (at_ : Nat) (l : List Byte)

theorem State.flash_flashPut (a : Nat) : Store.read 0xFF (s.flashPut at_ l).boot.flash a =
    if at_ ≤ a ∧ a < at_ + l.length then l.getD (a - at_) 0 else Store.read 0xFF s.boot.flash a :=
  Store.read_foldl_put 0xFF s.boot.flash at_ l.length (fun i => l.getD i 0) a

theorem State.flashBytes_flashPut : (s.flashPut at_ l).flashBytes at_ l.length = l := by
  apply List.ext_getElem
  · simp [State.flashBytes]
  · intro i _ h
    simp only [State.flashBytes, List.getElem_map, List.getElem_range]
    rw [State.flash_flashPut, if_pos (by omega), Nat.add_sub_cancel_left, List.getD_eq_getElem]

theorem State.flashBytes_flashPut_off {x : Nat} (h : x < at_ ∨ at_ + l.length ≤ x) :
    (s.flashPut at_ l).flashBytes x 1 = s.flashBytes x 1 := by
  have hn : ¬ (at_ ≤ x ∧ x < at_ + l.length) := by omega
  simp only [State.flashBytes]
  refine List.map_congr_left fun i hi => ?_
  obtain rfl : i = 0 := by simpa using hi
  rw [State.flash_flashPut, Nat.add_zero, if_neg hn]

end

/-! ### Boot from flash (R407) -/

theorem State.pwr_keyInstall (s : State) (slot : Nat) (keys : List Byte) : (s.keyInstall slot keys).1.pwr = s.pwr := by
  rw [State.keyInstall]
  split <;> rfl

theorem State.pwr_installKeyBlock (s : State) : s.installKeyBlock.pwr = s.pwr :=
  State.foldl_keeps State.pwr (fun t _ => t.pwr_keyInstall _ _) _ s

theorem execFlashBoot_starts {s : State} (hr : s.pwr.resetN = true) (hb : s.pwr.bootSel = false)
    (hs : s.pwr.bootStarted = false) (ha : s.allUp = true) : execFlashBoot s =
      .next (State.readFlash (State.installKeyBlock { s with pwr := { s.pwr with bootStarted := true } }) 0) := by
  rw [execFlashBoot, hr, hb, hs, ha]
  rfl

end Sys2Proof.Machine

open Sys2Proof.Machine

/-- Settles O58: a command by the branch of the controller that takes it, a step by the phase of its operation. -/
theorem bootAndFirmware : Obligations.BootAndFirmware := by
  intro m a cmd c b o ok s hm
  refine ⟨fun hbusy => ?_, fun hidle => ⟨fun ha => ?_, fun h1 hh hr => ?_, fun hh => ?_, fun hc => ?_⟩,
    fun hr hb hs ha => ?_, fun hop hph => ⟨fun e hby => ?_, fun hby => ?_, fun e hby hb => ⟨fun hc => ?_, fun hc => ?_⟩⟩,
    fun e hop hph hby => ?_, fun e hop hph hby => ?_, fun hop hph hby hc hfit => ?_⟩
  · have hx {cmd arg : Nat} {o : Out} (h : o = .next (s.bootCmd m cmd arg)) : ∃ t, o = .next t ∧
        t.bit Reg.BOOT_CMD 29 = true ∧ t.boot = s.boot ∧ t.out = s.out ∧ ∀ b, b ≠ Reg.BOOT_CMD → t.reg b = s.reg b :=
      ⟨_, h.trans (congrArg _ (State.bootCmd_busy hbusy m cmd arg)), s.bit_setBit _ _ _ (by decide), rfl, rfl,
        fun b hb => s.reg_setBit_ne hb _ _⟩
    simp only [List.forall_mem_cons]
    exact ⟨hx (execBootLoad_trusted hm s), hx (execBootRequest_trusted hm s), hx (execInstall_trusted hm s a),
      hx (execFlashWrite_trusted hm s a), hx (execBootVerify_trusted hm s), fun x hx => absurd hx List.not_mem_nil⟩
  · have hx {cmd arg : Nat} (hs : startsOp cmd arg) {o : Out} (h : o = .next (s.bootCmd m cmd arg)) : ∃ t, o = .next t ∧
        (∀ b, b ≠ Reg.BOOT_CMD → t.reg b = s.reg b) ∧
        (s.bootReady = true → t.bit Reg.BOOT_CMD 30 = true ∧ t.out.length = s.out.length + 1 ∧
          t.boot.op.map (fun y => (y.by_, y.phase, y.since)) = some (.command cmd arg, BootPhase.fetch, s.time.mono)) ∧
        (s.bootReady = false → t.fld Reg.BOOT_CMD 23 16 = 0x0D ∧ t.boot = s.boot ∧ t.out = s.out) := by
      cases hr : s.bootReady with
      | true => exact ⟨_, h.trans (congrArg _ (State.bootCmd_starts hidle m hs hr)),
          fun b hb => s.reg_opStarted_ne m cmd arg hb, fun _ => ⟨s.bit_opStarted m cmd arg, rfl, rfl⟩,
          fun h => absurd h (by decide)⟩
      | false => exact ⟨_, h.trans (congrArg _ (State.bootCmd_notReady hidle m hs hr)),
          fun b hb => s.reg_setFld_ne hb _ _ _, fun h => absurd h (by decide),
          fun _ => ⟨s.code_setFld (by decide), rfl, rfl⟩⟩
    simp only [List.forall_mem_cons]
    exact ⟨hx (.inl rfl) (execBootLoad_trusted hm s), hx (.inr (.inl rfl)) (execBootRequest_trusted hm s),
      hx (.inr (.inr (.inl ⟨rfl, ha⟩))) (execFlashWrite_trusted hm s a),
      hx (.inr (.inr (.inr rfl))) (execBootVerify_trusted hm s), fun x hx => absurd hx List.not_mem_nil⟩
  · refine ⟨_, execInstall_trusted hm s a, ?_⟩
    rw [State.bootCmd_install hidle, State.keyInstall_ok h1 hh hr]
    exact ⟨State.code_setFld _ (show 0 < 256 by decide), (Store.at?_set _ _ _ _).trans (if_pos rfl), rfl⟩
  · refine ⟨_, execInstall_trusted hm s a, ?_⟩
    rw [State.bootCmd_install hidle, State.keyInstall_empty hh]
    exact ⟨s.code_setFld (show 0x0F < 256 by decide), rfl⟩
  · refine ⟨_, execBootCmdReserved_trusted hm s hc, ?_⟩
    rw [State.bootCmd_reserved hidle m hc]
    exact ⟨State.code_setFld _ (by decide), rfl⟩
  · exact ⟨_, execFlashBoot_starts hr hb hs ha, congrArg Power.bootStarted (State.pwr_installKeyBlock _),
      State.bootState_readFlash _ _, rfl⟩
  · refine ⟨_, execBootFetchDone_failed hop hph, ?_⟩
    rw [State.bootFail_verify hop hby]
    exact ⟨s.code_bootClosed (by decide), s.idle_bootClosed, rfl⟩
  · refine ⟨_, execBootFetchDone_failed hop hph, ?_⟩
    rw [State.bootFail_slotA hby]
    exact ⟨(State.fld_setFld_disjoint _ _ _ _ _ _ _ (by decide) (by decide)).trans
      (s.fld_setFld _ _ _ _ (by decide)), rfl⟩
  · exact ⟨_, (execBootFetchDone_verify hop hph hby hb).trans (if_neg (not_not.2 hc)), rfl, rfl⟩
  · refine ⟨_, (execBootFetchDone_verify hop hph hby hb).trans (if_pos hc), ?_⟩
    rw [State.bootFail_verify hop hby]
    exact ⟨rfl, s.code_bootClosed (s.fwCheck_lt _ _ _)⟩
  · exact ⟨_, execBootVerifyDone_verify hop hph hby ok, s.code_bootClosed (s.verdict_lt _), rfl, rfl⟩
  · refine ⟨_, execBootWriteDone_load hop hph hby, rfl, State.idle_bootClosed _, ?_,
      fun j hj => s.images_storesWritten o.bytes j.isLt hj⟩
    exact (State.fld_of_reg (State.reg_bootClosed_ne _ (by decide)) _ _).trans (s.bootState_storesWritten _)
  · exact ⟨_, execFlashWriteDone_slot hop hph hby hfit, rfl, State.code_bootClosed _ (by decide),
      s.flashBytes_flashPut _ _, fun x hx => s.flashBytes_flashPut_off _ _ hx⟩

end

section
/-!
Queue pairs, their DMA and their messages, and the PCI Express link (R375 to R383, R398).
-/

open Sys2Proof

namespace Sys2Proof.Machine

/-! ### Addresses of a queue pair's registers -/

/-- A register of the queue pairs' block (Table 13.4). -/
def qpReg (a : Nat) : Prop := 0x210000 ≤ a ∧ a < 0x220000

theorem qpReg.ne_hostStat {a : Nat} (h : qpReg a) : a ≠ Reg.HOST_STAT := by
  rw [qpReg] at h
  simp only [Reg.HOST_STAT]
  omega

theorem qpReg.offVat {a : Nat} (h : qpReg a) : offVatReg a := by
  refine ⟨?_, h.ne_hostStat, .inl (by rw [qpReg] at h; omega)⟩
  rw [qpReg] at h
  simp only [Reg.VAT_STAT]
  omega

theorem regPlace_qpReg {a : Nat} (h : qpReg a) : regPlace a = (.global, 0, a) := by
  rw [qpReg] at h
  rw [regPlace, if_neg (by omega), if_neg (by omega), if_neg (by omega), if_neg (by omega)]

theorem domainOf_qpReg {a : Nat} (h : qpReg a) : domainOf a = 145 := by
  rw [domainOf, regPlace_qpReg h]
  rw [qpReg] at h
  exact (if_neg (by omega)).trans (if_pos (by omega))

theorem satBitOf_qpReg {a : Nat} (h : qpReg a) : satBitOf a = none := by
  rw [satBitOf, regPlace_qpReg h]
  rw [qpReg] at h
  exact (if_neg (by omega)).trans ((if_neg (by omega)).trans ((if_neg (by omega)).trans (if_neg (by omega))))

section
variable {h : Nat} (hh : h < 256)
include hh

theorem qpReg_ctl : qpReg (Reg.HOST_QP_CTL h) := by
  simp only [qpReg, Reg.HOST_QP_CTL]
  omega

theorem qpReg_txIdx : qpReg (Reg.HOST_QP_TXIDX h) := by
  simp only [qpReg, Reg.HOST_QP_TXIDX]
  omega

theorem qpReg_stat : qpReg (Reg.HOST_QP_STAT h) := by
  simp only [qpReg, Reg.HOST_QP_STAT]
  omega

theorem qpReg_txHead : qpReg (Reg.HOST_QP_TXHEAD h) := by
  simp only [qpReg, Reg.HOST_QP_TXHEAD]
  omega

theorem qpReg_rxHead : qpReg (Reg.HOST_QP_RXHEAD h) := by
  simp only [qpReg, Reg.HOST_QP_RXHEAD]
  omega

end

theorem qpStat_ne_hostStat (h : Nat) : Reg.HOST_QP_STAT h ≠ Reg.HOST_STAT := by
  simp only [Reg.HOST_QP_STAT, Reg.HOST_STAT]
  omega

theorem qpStat_ne_txHead (h k : Nat) : Reg.HOST_QP_STAT h ≠ Reg.HOST_QP_TXHEAD k := by
  simp only [Reg.HOST_QP_STAT, Reg.HOST_QP_TXHEAD]
  omega

theorem qpStat_ne_rxHead (h k : Nat) : Reg.HOST_QP_STAT h ≠ Reg.HOST_QP_RXHEAD k := by
  simp only [Reg.HOST_QP_STAT, Reg.HOST_QP_RXHEAD]
  omega

theorem qpStat_ne_ctl (h k : Nat) : Reg.HOST_QP_STAT h ≠ Reg.HOST_QP_CTL k := by
  simp only [Reg.HOST_QP_STAT, Reg.HOST_QP_CTL]
  omega

theorem qpStat_injective {h k : Nat} (e : Reg.HOST_QP_STAT h = Reg.HOST_QP_STAT k) : h = k := by
  simp only [Reg.HOST_QP_STAT] at e
  omega

/-! ### What a message adds and leaves -/

/-- `t` has sent everything `s` has, and its bits of HOST_STAT that were set stay (R382). -/
structure MessageStep (s t : State) : Prop where
  out : s.out.length ≤ t.out.length
  stat : ∀ i, s.bit Reg.HOST_STAT i = true → t.bit Reg.HOST_STAT i = true

namespace MessageStep

theorem refl (s : State) : MessageStep s s := ⟨Nat.le_refl _, fun _ h => h⟩

theorem trans {s t u : State} (h : MessageStep s t) (h' : MessageStep t u) : MessageStep s u :=
  ⟨h.out.trans h'.out, fun i hi => h'.stat i (h.stat i hi)⟩

theorem foldl {β : Type} {f : State → β → State} (hf : ∀ t x, MessageStep t (f t x)) (l : List β) (s : State) :
    MessageStep s (l.foldl f s) :=
  List.foldlRecOn (motive := MessageStep s) l f (refl s) fun t ht x _ => ht.trans (hf t x)

end MessageStep

theorem State.messageStep_sendMsix (s : State) (fn vec : Nat) : MessageStep s (s.sendMsix fn vec) := by
  refine ⟨?_, fun i h => (State.bit_of_reg (s.reg_sendMsix fn vec _) i).trans h⟩
  rw [State.sendMsix]
  split
  · exact Nat.le_refl _
  · split
    · exact Nat.le_succ _
    · exact Nat.le_refl _

theorem State.messageStep_setBit (s : State) (a : Nat) {j : Nat} (hj : j < 32) : MessageStep s (s.setBit a j true) := by
  refine ⟨Nat.le_refl _, fun i h => ?_⟩
  by_cases ha : Reg.HOST_STAT = a
  · subst ha
    by_cases hi : i = j
    · rw [hi]
      exact s.bit_setBit _ _ _ hj
    · exact (s.bit_setBit_ne _ _ _ _ hj hi).trans h
  · exact (State.bit_of_reg (s.reg_setBit_ne ha _ _) i).trans h

theorem State.messageStep_raiseHostStat (s : State) {j : Nat} (hj : j < 32) : MessageStep s (s.raiseHostStat j) := by
  have hb := s.messageStep_setBit Reg.HOST_STAT hj
  rw [State.raiseHostStat]
  split
  · exact hb
  · split
    · exact hb.trans (State.messageStep_sendMsix _ _ _)
    · exact hb

theorem State.messageStep_sendVector (s : State) (fn vec : Nat) : MessageStep s (s.sendVector fn vec) := by
  by_cases hv : vec < if fn = 0 then 512 else 16
  · rw [State.sendVector, if_pos hv]
    exact s.messageStep_sendMsix fn vec
  · rw [State.sendVector, if_neg hv]
    exact s.messageStep_raiseHostStat (show 29 < 32 by decide)

theorem State.messageStep_sendQpMessage (s : State) (src fn vec : Nat) :
    MessageStep s (s.sendQpMessage src fn vec) := by
  have hn (h : Nat) : MessageStep s ((s.noteMessage h).sendVector fn vec) :=
    ⟨((s.noteMessage h).messageStep_sendVector fn vec).out, ((s.noteMessage h).messageStep_sendVector fn vec).stat⟩
  rw [State.sendQpMessage]
  split
  · split
    · exact ⟨Nat.le_refl _, fun _ h => h⟩
    · exact hn _
  · exact hn _

/-- What an interrupt source sends to its own target, while its EN is 1 (R381, R383). -/
def State.toTarget (s : State) (src : Nat) : State :=
  let irt := s.reg (Reg.HOST_IRT src)
  if fieldOf irt 31 31 = 1 then
    match s.sourceTarget src with
    | some (.inl fn) => if src < 512 then s.sendQpMessage src fn (fieldOf irt 8 0) else s.sendVector fn (fieldOf irt 8 0)
    | some (.inr k) => s.raiseEngine k src
    | none => s
  else s

theorem State.messageStep_toTarget (s : State) (src : Nat) : MessageStep s (s.toTarget src) := by
  simp only [State.toTarget]
  split
  · split
    · split
      · exact s.messageStep_sendQpMessage _ _ _
      · exact s.messageStep_sendVector _ _
    · exact ⟨Nat.le_refl _, fun _ h => h⟩
    · exact .refl s
  · exact .refl s

/-- A slice's source goes to its VF as well. -/
theorem State.deliver_eq (s : State) (src : Nat) (new : Word) : s.deliver src new =
    if 1096 ≤ src ∧ s.fld (Reg.HOST_IRT src) 30 30 = 1 then
      let n := (src - 1096) / 4
      let vec := s.fld (Reg.HOST_IRT src) 29 26
      if src % 4 = 1 then
        if fieldOf new 23 16 &&& s.fld (Reg.SLC_RIND_CTL n) 31 24 ≠ 0 then (s.toTarget src).sendVector (1 + n) vec
        else s.toTarget src
      else (s.toTarget src).sendVector (1 + n) vec
    else s.toTarget src := rfl

theorem State.messageStep_deliver (s : State) (src : Nat) (new : Word) : MessageStep s (s.deliver src new) := by
  have h1 := s.messageStep_toTarget src
  have hv (fn vec : Nat) : MessageStep s ((s.toTarget src).sendVector fn vec) := h1.trans (State.messageStep_sendVector _ fn vec)
  rw [State.deliver_eq]
  split
  · dsimp only
    split
    · split
      · exact hv _ _
      · exact h1
    · exact hv _ _
  · exact h1

theorem State.messageStep_raise (s : State) (a : Nat) (mask : Word) :
    MessageStep (s.setReg a (s.reg a ||| mask)) (s.raise a mask) := by
  rw [State.raise]
  refine MessageStep.foldl (fun t c => ?_) _ _
  split
  · exact .refl t
  · exact t.messageStep_deliver _ _

/-- A status bit's rise takes no message back. -/
theorem State.out_le_raiseBit (s : State) (a i : Nat) : s.out.length ≤ (s.raiseBit a i).out.length :=
  (s.messageStep_raise a _).out

/-- A bit raised in HOST_STAT is set, whatever its own message does (R382). -/
theorem State.bit_raiseBit_hostStat (s : State) {i : Nat} (hi : i < 32) :
    (s.raiseBit Reg.HOST_STAT i).bit Reg.HOST_STAT i = true := by
  refine (s.messageStep_raise _ _).stat i ?_
  rw [State.bit_setReg, if_pos rfl, BitVec.getLsbD_or, BitVec.getLsbD_ofNat, Nat.testBit_two_pow]
  simp [hi]

/-- A message leaves what queue pairs hold back (R383). -/
theorem State.itr_sendVector (s : State) (fn vec : Nat) : (s.sendVector fn vec).intr.itrHeld = s.intr.itrHeld ∧
    (s.sendVector fn vec).intr.itrLast = s.intr.itrLast := by
  have hm (t : State) (fn vec : Nat) : (t.sendMsix fn vec).intr.itrHeld = t.intr.itrHeld ∧
      (t.sendMsix fn vec).intr.itrLast = t.intr.itrLast := by
    rw [State.sendMsix]
    repeat' split
    all_goals exact ⟨rfl, rfl⟩
  by_cases hv : vec < if fn = 0 then 512 else 16
  · rw [State.sendVector, if_pos hv]
    exact hm s fn vec
  · rw [State.sendVector, if_neg hv, State.raiseHostStat]
    split
    · exact ⟨rfl, rfl⟩
    · split
      · exact hm _ _ _
      · exact ⟨rfl, rfl⟩

/-! ### The release of a frame takes no message back (R197, R209) -/

theorem State.out_le_doubleFree (s : State) (cell : Nat) : s.out.length ≤ (s.doubleFree cell).out.length :=
  s.out_le_raiseBit _ _

theorem State.out_le_releaseCells (s : State) (l : List Nat) : s.out.length ≤ (s.releaseCells l).out.length := by
  induction l generalizing s with
  | nil => exact Nat.le_refl _
  | cons c r ih =>
    rw [State.releaseCells]
    split
    · exact ih (s.setLink c 0)
    · exact (s.out_le_doubleFree c).trans (ih _)

theorem State.out_le_dropCells (s : State) (f : Nat) : s.out.length ≤ (s.dropCells f).out.length := by
  rw [State.dropCells]
  split
  · exact Nat.le_refl _
  · exact s.out_le_releaseCells _

theorem State.out_le_unref (s : State) (f : Nat) : s.out.length ≤ (s.unref f).out.length := by
  rw [State.unref]
  split
  · exact Nat.le_refl _
  · split
    · exact s.out_le_doubleFree _
    · split
      · exact s.out_le_dropCells f
      · exact Nat.le_refl _

/-! ### Queue pairs through other changes -/

/-- `t` has the queue pairs of `s`, their registers among them. -/
structure QpKept (s t : State) : Prop where
  host : t.host = s.host
  reg : ∀ a, qpReg a → t.reg a = s.reg a

namespace QpKept

theorem refl (s : State) : QpKept s s := ⟨rfl, fun _ _ => rfl⟩

theorem trans {s t u : State} (h : QpKept s t) (h' : QpKept t u) : QpKept s u :=
  ⟨h'.host.trans h.host, fun a ha => (h'.reg a ha).trans (h.reg a ha)⟩

theorem of_vatOnly {s t : State} (h : VatOnly s t) : QpKept s t :=
  ⟨(congrArg State.host h.off : t.offVat.host = s.offVat.host), fun a ha => h.reg a ha.offVat⟩

theorem qp {s t : State} (h : QpKept s t) (k : Nat) : t.qp k = s.qp k := by
  rw [State.qp, State.qp, h.host]

end QpKept

theorem State.host_of_apart {s t : State} (h : t.apart = s.apart) : t.host = s.host :=
  (congrArg State.host h : t.apart.host = s.apart.host)

theorem State.qp_of_apart {s t : State} (h : t.apart = s.apart) (k : Nat) : t.qp k = s.qp k := by
  rw [State.qp, State.qp, State.host_of_apart h]

theorem State.qpKept_count (s : State) {a : Nat} (ha : 0x220000 ≤ a) : QpKept s (s.count a) := by
  refine ⟨State.host_of_apart (s.apart_count a), fun b hb => ?_⟩
  have hab : b ≠ a := by
    rw [qpReg] at hb
    omega
  refine s.reg_countFld_ne _ _ _ _ _ hab hb.ne_hostStat fun r i hs => ?_
  rw [qpReg] at hb
  obtain rfl | rfl | rfl | rfl := satBitOf_reg hs
  all_goals
    simp only [Reg.TBL_STAT, Reg.VAT_STAT, Reg.FLOW_STAT, Reg.FLT_STAT]
    omega

/-! ### A queue pair's reset (R380) -/

/-- A copy of the host queue is discarded under PORTDOWN. -/
def State.discardHost (t : State) (x : Copy) : State :=
  match t.frame? x.frame with
  | some f => ((t.count (Reg.VAT_PCNT 1056 4)).dropVat f 1056 x.queue Reason.portDown.row 0).unref x.frame
  | none => t

theorem State.qpKept_discardHost (t : State) (x : Copy) : QpKept t (t.discardHost x) := by
  rw [State.discardHost]
  split
  · exact ((t.qpKept_count (by decide)).trans (.of_vatOnly (State.vatOnly_dropVat _ _ _ _ _ _))).trans
      (.of_vatOnly (State.vatOnly_unref _ _))
  · exact .refl t

/-- A queue pair stopped at HEAD and TAIL 0, its EN, HALTED and CAUSE clear. -/
def State.qpCleared (s : State) (h : Nat) : State :=
  let s := (s.setReg (Reg.HOST_QP_RXIDX h) 0).setReg (Reg.HOST_QP_TXIDX h) 0
  let s := (s.setReg (Reg.HOST_QP_RXHEAD h) 0).setReg (Reg.HOST_QP_TXHEAD h) 0
  ((s.setFld (Reg.HOST_QP_STAT h) 31 27 0).setBit (Reg.HOST_QP_CTL h) 31 false).setQp h {}

theorem State.qpReset_eq (s : State) (h : Nat) : s.qpReset h =
    ((s.qpCleared h).queue (hostQid h)).foldl State.discardHost ((s.qpCleared h).setQueue (hostQid h) []) := rfl

theorem State.qpKept_qpReset (s : State) (h : Nat) : QpKept (s.qpCleared h) (s.qpReset h) := by
  rw [State.qpReset_eq]
  generalize s.qpCleared h = t
  exact List.foldlRecOn (motive := QpKept t) (t.queue (hostQid h)) State.discardHost ⟨rfl, fun _ _ => rfl⟩
    fun u hu x _ => hu.trans (u.qpKept_discardHost x)

section
variable (s : State) (h : Nat)

theorem State.reg_txHead_qpCleared : (s.qpCleared h).reg (Reg.HOST_QP_TXHEAD h) = 0 := by
  have hc : Reg.HOST_QP_TXHEAD h ≠ Reg.HOST_QP_CTL h := by
    simp only [Reg.HOST_QP_TXHEAD, Reg.HOST_QP_CTL]
    omega
  simp only [State.qpCleared, State.reg_setQp]
  rw [State.reg_setBit_ne _ hc, State.reg_setFld_ne _ (qpStat_ne_txHead h h).symm, State.reg_setReg_self]

theorem State.reg_rxHead_qpCleared : (s.qpCleared h).reg (Reg.HOST_QP_RXHEAD h) = 0 := by
  have hc : Reg.HOST_QP_RXHEAD h ≠ Reg.HOST_QP_CTL h := by
    simp only [Reg.HOST_QP_RXHEAD, Reg.HOST_QP_CTL]
    omega
  have ht : Reg.HOST_QP_RXHEAD h ≠ Reg.HOST_QP_TXHEAD h := by
    simp only [Reg.HOST_QP_RXHEAD, Reg.HOST_QP_TXHEAD]
    omega
  simp only [State.qpCleared, State.reg_setQp]
  rw [State.reg_setBit_ne _ hc, State.reg_setFld_ne _ (qpStat_ne_rxHead h h).symm, State.reg_setReg_ne _ ht,
    State.reg_setReg_self]

theorem State.halted_qpCleared : (s.qpCleared h).bit (Reg.HOST_QP_STAT h) 31 = false := by
  simp only [State.qpCleared, State.bit_eq, State.reg_setQp]
  rw [State.reg_setBit_ne _ (qpStat_ne_ctl h h), State.setFld, State.reg_setReg_self,
    getLsbD_withField _ _ _ _ _ (by decide), if_pos (by decide), Nat.zero_testBit]

theorem State.qp_qpCleared : (s.qpCleared h).qp h = {} := (State.qp_setQp _ _ _ _).trans (if_pos rfl)

end

/-- RESET acts and clears EN, whoever of the PF and the engines writes it. -/
theorem State.qpCtlWrite_reset {m : Master} (hm : m.trusted = true) (s : State) (h : Nat) (d : Word) :
    ∃ w : Word, s.qpCtlWrite m h (d ||| 0x40000000) = (s.qpReset h).setReg (Reg.HOST_QP_CTL h) w ∧ w.getLsbD 31 = false := by
  have hr (w : Word) (size : Nat) :
      (withField (withField (w &&& 0x3F0003FF) 31 31 false.toNat) 23 18 size).getLsbD 31 = false := by
    rw [getLsbD_withField _ _ _ _ _ (by decide), if_neg (by omega), getLsbD_withField _ _ _ _ _ (by decide),
      if_pos (by omega)]
    rfl
  have h30 : fieldOf (d ||| 0x40000000) 30 30 = 1 := by
    rw [bitsOf_one]
    simp
  have hk : fieldOf (((d ||| 0x40000000) &&& ~~~ 0x3F000000) ||| (s.reg (Reg.HOST_QP_CTL h) &&& 0x3F000000)) 30 30 = 1 := by
    rw [bitsOf_one]
    simp
  cases m with
  | vf n => cases hm
  | pf =>
    simp only [State.qpCtlWrite, State.pfBits, h30, if_true]
    exact ⟨_, rfl, hr _ _⟩
  | me k =>
    simp only [State.qpCtlWrite, State.pfBits, hk, if_true]
    exact ⟨_, rfl, hr _ _⟩

/-! ### A queue pair that halts (R379) -/

section
variable (s : State) (h : Nat) {cause : Nat}

theorem State.haltQp_of_running {s : State} {h : Nat} (hr : s.bit (Reg.HOST_QP_STAT h) 31 = false) (cause : Nat) :
    s.haltQp h cause = ((s.setBit (Reg.HOST_QP_STAT h) 31 true).setFld (Reg.HOST_QP_STAT h) 30 27 cause).raiseBit
      (Reg.HOST_QP_STAT h) 24 := if_neg (by rw [hr]; decide)

theorem State.apart_haltQp : (s.haltQp h cause).apart = s.apart := by
  rw [State.haltQp]
  split
  · rfl
  · exact State.apart_raiseBit _ _ _

theorem State.halted_haltQp : (s.haltQp h cause).bit (Reg.HOST_QP_STAT h) 31 = true := by
  cases hr : s.bit (Reg.HOST_QP_STAT h) 31 with
  | true => rwa [State.haltQp, if_pos hr]
  | false =>
    rw [State.haltQp_of_running hr, State.bit_raiseBit_ne _ _ _ _ (qpStat_ne_hostStat h) (by decide),
      State.bit_setFld_disjoint _ _ _ _ _ _ (by decide) (by decide), State.bit_setBit _ _ _ _ (by decide)]

theorem State.cause_haltQp (hr : s.bit (Reg.HOST_QP_STAT h) 31 = false) (hc : cause < 16) :
    (s.haltQp h cause).fld (Reg.HOST_QP_STAT h) 30 27 = cause := by
  rw [State.haltQp_of_running hr, State.fld_raiseBit_disjoint _ (qpStat_ne_hostStat h) (by decide),
    State.fld_setFld _ _ _ _ _ (by decide)]
  exact Nat.mod_eq_of_lt hc

theorem State.reg_haltQp_ne {a : Nat} (ha : a ≠ Reg.HOST_QP_STAT h) (hs : a ≠ Reg.HOST_STAT) :
    (s.haltQp h cause).reg a = s.reg a := by
  rw [State.haltQp]
  split
  · rfl
  · rw [State.reg_raiseBit_ne _ _ _ _ ha hs, State.reg_setFld_ne _ ha, State.reg_setBit_ne _ ha]

end

/-! ### TAIL (R375) -/

section
variable (s : State) (h : Nat) (d : Word)

/-- The transmit TAIL written. -/
def State.txTail (s : State) (h : Nat) (d : Word) : State :=
  s.setReg (Reg.HOST_QP_TXIDX h) (BitVec.ofNat 32 (fieldOf d 16 0))

theorem State.tail_txTail : (s.txTail h d).fld (Reg.HOST_QP_TXIDX h) 16 0 = fieldOf d 16 0 := by
  have hd := fieldOf_lt d 16 0
  rw [State.fld, State.txTail, State.reg_setReg_self, fieldOf, bitsOf, BitVec.toNat_ofNat]
  simp only [Nat.reduceAdd, Nat.reduceSub, Nat.reducePow] at hd ⊢
  omega

theorem State.tailWrite_tx : s.tailWrite h true d =
    if 2 ^ s.txLog h < posted (fieldOf d 16 0) (s.fld (Reg.HOST_QP_TXHEAD h) 16 0) then (s.txTail h d).haltQp h 3
    else s.txTail h d := by
  have hz : Reg.HOST_QP_SIZE h ≠ Reg.HOST_QP_TXIDX h := by
    simp only [Reg.HOST_QP_SIZE, Reg.HOST_QP_TXIDX]
    omega
  have hx : Reg.HOST_QP_TXHEAD h ≠ Reg.HOST_QP_TXIDX h := by
    simp only [Reg.HOST_QP_TXHEAD, Reg.HOST_QP_TXIDX]
    omega
  have hl : (s.txTail h d).txLog h = s.txLog h := congrArg ringLog (s.fld_setReg_ne hz _ _ _)
  rw [← hl, ← State.fld_of_reg (s.reg_setReg_ne hx (BitVec.ofNat 32 (fieldOf d 16 0)))]
  rfl

end

/-! ### The end of a transmit descriptor (R376) -/

/-- The descriptor at HEAD is written back and HEAD has moved on. -/
def State.txWritten (s : State) (h status : Nat) : State :=
  let head := s.fld (Reg.HOST_QP_TXHEAD h) 16 0
  let s1 := s.emit (.dmaWrite (s.qpOwner h) (s.txDesc h head + 11) [if status = 0 then 1 else 3, BitVec.ofNat 8 status])
  (s1.setQp h { s1.qp h with tx := none }).setFld (Reg.HOST_QP_TXHEAD h) 16 0 ((head + 1) % 131072)

/-- A descriptor that is not OK is counted. -/
theorem State.txComplete_bad (s : State) {h status : Nat} (hs : status ≠ 0) : s.txComplete h status =
    ((s.txWritten h status).countFld (Reg.HOST_QP_STAT h) 15 0 1).raiseBit (Reg.HOST_QP_STAT h) 25 := by
  simp only [State.txComplete, State.txWritten, if_neg hs]

theorem State.countFld_qpReg (s : State) {a : Nat} (ha : qpReg a) (hi lo n : Nat) :
    s.countFld a hi lo n = s.setFld a hi lo (min (2 ^ (hi + 1 - lo) - 1) (s.fld a hi lo + n)) := by
  simp only [State.countFld, satBitOf_qpReg ha, ite_self]

section
variable (s : State) {h status : Nat} (hh : h < 256) (hs : status ≠ 0)

theorem State.reg_stat_txWritten : (s.txWritten h status).reg (Reg.HOST_QP_STAT h) = s.reg (Reg.HOST_QP_STAT h) :=
  State.reg_setFld_ne _ (qpStat_ne_txHead h h) _ _ _

theorem State.qp_txWritten : ((s.txWritten h status).qp h).tx = none :=
  congrArg Qp.tx ((State.qp_setQp _ _ _ _).trans (if_pos rfl))

include hs

theorem State.apart_txComplete : (s.txComplete h status).apart = (s.txWritten h status).apart := by
  rw [State.txComplete_bad s hs, State.apart_raiseBit, State.apart_countFld]

theorem State.tx_txComplete : ((s.txComplete h status).qp h).tx = none := by
  rw [State.qp_of_apart (s.apart_txComplete hs), State.qp_txWritten]

theorem State.vat_txComplete : (s.txComplete h status).vat = s.vat :=
  (State.vat_of_apart (s.apart_txComplete hs)).trans (show (s.txWritten h status).vat = s.vat from rfl)

theorem State.txDone_txComplete : (s.txComplete h status).bit (Reg.HOST_QP_STAT h) 25 = true := by
  rw [State.txComplete_bad s hs, State.bit_raiseBit _ _ _ (qpStat_ne_hostStat h) (by decide)]

include hh

theorem State.halted_txComplete : (s.txComplete h status).bit (Reg.HOST_QP_STAT h) 31 = s.bit (Reg.HOST_QP_STAT h) 31 := by
  rw [State.txComplete_bad s hs, State.bit_raiseBit_ne _ _ _ _ (qpStat_ne_hostStat h) (by decide),
    State.countFld_qpReg _ (qpReg_stat hh), State.bit_setFld_disjoint _ _ _ _ _ _ (by decide) (by decide),
    State.bit_of_reg s.reg_stat_txWritten]

theorem State.head_txComplete : (s.txComplete h status).fld (Reg.HOST_QP_TXHEAD h) 16 0 =
    (s.fld (Reg.HOST_QP_TXHEAD h) 16 0 + 1) % 131072 := by
  have hr : (s.txComplete h status).reg (Reg.HOST_QP_TXHEAD h) = (s.txWritten h status).reg (Reg.HOST_QP_TXHEAD h) := by
    rw [State.txComplete_bad s hs, State.reg_raiseBit_ne _ _ _ _ (qpStat_ne_txHead h h).symm
      (qpReg_txHead hh).ne_hostStat, State.countFld_qpReg _ (qpReg_stat hh),
      State.reg_setFld_ne _ (qpStat_ne_txHead h h).symm]
  rw [State.fld_of_reg hr, State.txWritten, State.fld_setFld _ _ _ _ _ (by decide)]
  exact Nat.mod_mod _ _

theorem State.bad_txComplete : (s.txComplete h status).fld (Reg.HOST_QP_STAT h) 15 0 =
    min 65535 (s.fld (Reg.HOST_QP_STAT h) 15 0 + 1) := by
  rw [State.txComplete_bad s hs, State.fld_raiseBit_disjoint _ (qpStat_ne_hostStat h) (by decide),
    State.countFld_qpReg _ (qpReg_stat hh), State.fld_setFld _ _ _ _ _ (by decide),
    State.fld_of_reg s.reg_stat_txWritten]
  exact Nat.mod_eq_of_lt (by omega)

end

/-! ### Descriptor fetches and DMA reads (R376, R379) -/

/-- A fetched frame is read from host memory. -/
def State.txReading (s : State) (h addr len slice : Nat) : State :=
  (s.setQp h { tx := some { addr := addr, len := len, slice := slice, started := s.time.mono } }).emit
    (.dmaRead (s.qpOwner h) addr len)

section
variable {s : State} {h : Fin 256} {len sl : Nat} (hf : s.qpFetches h = true) (hr : s.returnReady sl (h % 4) = true)
  (hsl : sl < 32) (hlen : len < 65536)
include hf hr hsl hlen

theorem execHostTxFetch_short (addr : Nat) (h60 : len < 60) :
    execHostTxFetch h addr len sl s = .next (s.txComplete h 1) := by
  rw [execHostTxFetch, Nat.mod_eq_of_lt hlen, Nat.mod_eq_of_lt (show sl < 256 by omega)]
  simp only [hf, hr, Bool.or_true, Bool.and_true, if_true]
  exact if_pos (.inl h60)

theorem execHostTxFetch_reads {addr : Nat} (h60 : 60 ≤ len) (hmax : len ≤ 16380) (ha : addr < 2 ^ 64)
    (ho : s.qpOwner h = 0) : execHostTxFetch h addr len sl s = .next (s.txReading h addr len sl) := by
  have hok : txSliceOk (s.qpOwner h) sl = true := by
    rw [txSliceOk, ho, decide_eq_true hsl]
    rfl
  rw [execHostTxFetch, Nat.mod_eq_of_lt hlen, Nat.mod_eq_of_lt (show sl < 256 by omega), Nat.mod_eq_of_lt ha]
  simp only [hf, hr, Bool.or_true, Bool.and_true, if_true, hok, Bool.true_eq_false, if_false]
  exact if_neg (by omega)

end

/-- A read's bytes wait to be stored. -/
def State.txStored (s : State) (h : Nat) (x : TxFetch) (b : List Byte) : State :=
  (s.setQp h { tx := some { x with read := true } }).queueToStore 1056 (s.hostFrame h x.slice b)

section
variable {s : State} {h : Fin 256} {x : TxFetch} (hx : (s.qp h).tx = some x) (hr : x.read = false)
include hx hr

theorem State.reading_eq : (s.qp h).tx.filter (!·.read) = some x := by
  rw [hx, Option.filter_some, hr]
  rfl

theorem execDmaReadCompletion_bytes {b : List Byte} (hb : b.length = x.len) :
    execDmaReadCompletion h (some b) s = .next (s.txStored h x b) := by
  rw [execDmaReadCompletion, State.reading_eq hx hr]
  exact if_neg (not_not.2 hb)

theorem execDmaReadCompletion_failed : execDmaReadCompletion h none s = .next ((s.txComplete h 3).haltQp h 1) := by
  rw [execDmaReadCompletion, State.reading_eq hx hr]

theorem execDmaCompletionTimeout_reading :
    execDmaCompletionTimeout h s = .next ((s.txComplete h 3).haltQp h 2) := by
  rw [execDmaCompletionTimeout, State.reading_eq hx hr]

end

/-- A descriptor that failed halts its queue pair; nothing of the vat changes. -/
theorem State.haltQp_txComplete (s : State) (h : Fin 256) {cause : Nat} (hc : cause < 16)
    (hr : s.bit (Reg.HOST_QP_STAT h) 31 = false) : ((s.txComplete h 3).haltQp h cause).bit (Reg.HOST_QP_STAT h) 31 = true ∧
      ((s.txComplete h 3).haltQp h cause).fld (Reg.HOST_QP_STAT h) 30 27 = cause ∧
      ((s.txComplete h 3).haltQp h cause).vat = s.vat :=
  ⟨State.halted_haltQp _ _, State.cause_haltQp _ _ ((s.halted_txComplete h.isLt (by decide)).trans hr) hc,
    (State.vat_of_apart (State.apart_haltQp _ _)).trans (s.vat_txComplete (by decide))⟩

/-! ### Host delivery (R377) -/

section
variable (h : Nat) (l : List (List Byte))

theorem State.apart_writeBuffers (s : State) (first : Bool) (addrs : List Nat) :
    (s.writeBuffers h first addrs l).apart = s.apart := by
  induction l generalizing s first addrs with
  | nil => rfl
  | cons b r ih => exact ih _ _ _

theorem State.head_writeBuffers (s : State) (first : Bool) (addrs : List Nat) :
    (s.writeBuffers h first addrs l).fld (Reg.HOST_QP_RXHEAD h) 16 0 =
      (s.fld (Reg.HOST_QP_RXHEAD h) 16 0 + l.length) % 131072 := by
  induction l generalizing s first addrs with
  | nil => exact (Nat.mod_eq_of_lt (s.fld_lt _ 16 0)).symm
  | cons b r ih =>
    rw [State.writeBuffers]
    refine (ih _ _ _).trans ?_
    rw [State.fld_setFld _ _ _ _ _ (by decide), List.length_cons]
    simp only [Nat.reduceAdd, Nat.reduceSub, Nat.reducePow]
    omega

/-- Each piece is written with its descriptor's write-back. -/
theorem State.out_writeBuffers (s : State) (first : Bool) (addrs : List Nat) :
    (s.writeBuffers h first addrs l).out.length = s.out.length + 2 * l.length := by
  induction l generalizing s first addrs with
  | nil => rfl
  | cons b r ih =>
    rw [State.writeBuffers]
    refine (ih _ _ _).trans ?_
    rw [State.out_setFld]
    simp only [State.emit, List.length_cons]
    omega

end

/-- A host queue's head is delivered: its bytes in posted buffers, RX set, its reference given back. -/
def State.rxDelivered (s : State) (h : Nat) (addrs : List Nat) (l : List (List Byte)) (fr : Nat) : State :=
  ((s.writeBuffers h true addrs l).raiseBit (Reg.HOST_QP_STAT h) 26).unref fr

theorem execHostRxDelivery_head {s : State} {q h : Nat} {df : Store Nat} {y : Copy} {r : List Copy} {f : Frame}
    (hup : s.host.up = true) (hsafe : s.flt.deviceSafe = false) (hd : s.domOn 145 = true)
    (hp : s.pShaperOk 1056 = true) (hk : s.pick 1056 s.hostReady = some (q, df)) (hq : s.queue q = y :: r)
    (hf : s.frame? y.frame = some f) (he : q = 21140 + h) (addrs : List Nat) : execHostRxDelivery addrs s =
      .next ((s.popped 1056 q df y r).rxDelivered h addrs (chunks (s.bufBytes h) 65 (hostBytes y f)) y.frame) := by
  have hf' : (s.popped 1056 q df y r).frame? (s.leaving q y).frame = some f := hf
  have hqh : q - 21140 = h := by omega
  simp only [execHostRxDelivery, hup, hsafe, hd, hp, hk, State.popQueue_cons hq, hf', hqh]
  rfl

section
variable (s : State) {h : Nat} (addrs : List Nat) (l : List (List Byte)) (fr : Nat)

theorem State.vatOnly_rxDelivered :
    VatOnly ((s.writeBuffers h true addrs l).raiseBit (Reg.HOST_QP_STAT h) 26) (s.rxDelivered h addrs l fr) :=
  State.vatOnly_unref _ fr

theorem State.queue_rxDelivered (q : Nat) : (s.rxDelivered h addrs l fr).queue q = s.queue q := by
  rw [(s.vatOnly_rxDelivered addrs l fr).queue, State.queue, State.queue,
    State.vat_of_apart ((State.apart_raiseBit _ _ _).trans (s.apart_writeBuffers h l true addrs))]

theorem State.out_rxDelivered : s.out.length + 2 * l.length ≤ (s.rxDelivered h addrs l fr).out.length :=
  calc s.out.length + 2 * l.length
    _ = (s.writeBuffers h true addrs l).out.length := (s.out_writeBuffers h l true addrs).symm
    _ ≤ ((s.writeBuffers h true addrs l).raiseBit (Reg.HOST_QP_STAT h) 26).out.length := State.out_le_raiseBit _ _ _
    _ ≤ (s.rxDelivered h addrs l fr).out.length := State.out_le_unref _ _

variable (hh : h < 256)
include hh

theorem State.rx_rxDelivered : (s.rxDelivered h addrs l fr).bit (Reg.HOST_QP_STAT h) 26 = true := by
  rw [State.bit_of_reg ((s.vatOnly_rxDelivered addrs l fr).reg _ (qpReg_stat hh).offVat),
    State.bit_raiseBit _ _ _ (qpStat_ne_hostStat h) (by decide)]

theorem State.head_rxDelivered : (s.rxDelivered h addrs l fr).fld (Reg.HOST_QP_RXHEAD h) 16 0 =
    (s.fld (Reg.HOST_QP_RXHEAD h) 16 0 + l.length) % 131072 := by
  rw [State.fld_of_reg ((s.vatOnly_rxDelivered addrs l fr).reg _ (qpReg_rxHead hh).offVat),
    State.fld_of_reg (State.reg_raiseBit_ne _ _ _ _ (qpStat_ne_rxHead h h).symm (qpReg_rxHead hh).ne_hostStat),
    State.head_writeBuffers]

end

/-! ### Messages that wait (R383) -/

/-- One held message leaves queue pair h, and its time is noted. -/
def State.itrPopped (s : State) (h : Nat) (r : List Nat) : State :=
  { s with intr := { s.intr with itrHeld := Store.put [] s.intr.itrHeld h r } }.noteMessage h

theorem execItrHoldEnd_due {h : Fin 256} {s : State} {src tm : Nat} {r : List Nat}
    (hh : Store.read [] s.intr.itrHeld h = src :: r) (hl : Store.at? s.intr.itrLast h = some tm)
    (hd : tm + us (s.fld (Reg.HOST_QP_CTL h) 9 0) ≤ s.time.mono) : execItrHoldEnd h s =
      .next ((s.itrPopped h r).sendVector ((s.itrPopped h r).qpOwner h) ((s.itrPopped h r).fld (Reg.HOST_IRT src) 8 0)) := by
  rw [execItrHoldEnd, hh, hl]
  exact if_pos hd

theorem State.held_itrPopped (s : State) (h : Nat) (r : List Nat) :
    Store.read [] (s.itrPopped h r).intr.itrHeld h = r := (Store.read_put _ _ _ _ _).trans (if_pos rfl)

theorem State.last_itrPopped (s : State) (h : Nat) (r : List Nat) :
    Store.at? (s.itrPopped h r).intr.itrLast h = some s.time.mono := (Store.at?_set _ _ _ _).trans (if_pos rfl)

/-- The PF's vector is unmasked and no longer pending. -/
def State.unmasked (s : State) (vec : Nat) : State :=
  { s with intr := { s.intr with
      msix := Store.set s.intr.msix (0 * 0x8000 + 16 * vec + 12) (withField (s.msixWord 0 (16 * vec + 12)) 0 0 0)
      pba := NatSet.drop s.intr.pba (0 * 512 + vec) } }

section
variable (s : State) (vec : Nat)

theorem State.msixWord_unmasked (o : Nat) : (s.unmasked vec).msixWord 0 o =
    if o = 16 * vec + 12 then withField (s.msixWord 0 (16 * vec + 12)) 0 0 0 else s.msixWord 0 o := by
  rw [State.msixWord, State.unmasked, Store.at?_set]
  by_cases ho : o = 16 * vec + 12
  · rw [if_pos (by omega), if_pos ho]
    rfl
  · rw [if_neg (by omega), if_neg ho]
    rfl

theorem State.mask_unmasked : fieldOf ((s.unmasked vec).msixWord 0 (16 * vec + 12)) 0 0 = 0 := by
  rw [State.msixWord_unmasked, if_pos rfl, fieldOf_withField _ _ _ _ (by decide), Nat.zero_mod]

theorem State.pending_unmasked : (s.unmasked vec).intr.pba.contains vec = false := by
  rw [List.contains_eq_mem]
  exact decide_eq_false fun h => ((NatSet.mem_drop _ _ _).1 h).2 (by omega)

/-- A message on an unmasked vector goes out while the link is up. -/
theorem State.sendMsix_unmasked : (s.unmasked vec).sendMsix 0 vec =
    if s.host.up then (s.unmasked vec).emit (.msix 0 vec
      ((s.msixWord 0 (16 * vec)).toNat + 2 ^ 32 * (s.msixWord 0 (16 * vec + 4)).toNat) (s.msixWord 0 (16 * vec + 8)))
    else s.unmasked vec := by
  have h0 : (s.unmasked vec).msixWord 0 (16 * vec) = s.msixWord 0 (16 * vec) :=
    (s.msixWord_unmasked vec _).trans (if_neg (by omega))
  have h4 : (s.unmasked vec).msixWord 0 (16 * vec + 4) = s.msixWord 0 (16 * vec + 4) :=
    (s.msixWord_unmasked vec _).trans (if_neg (by omega))
  have h8 : (s.unmasked vec).msixWord 0 (16 * vec + 8) = s.msixWord 0 (16 * vec + 8) :=
    (s.msixWord_unmasked vec _).trans (if_neg (by omega))
  rw [State.sendMsix, s.mask_unmasked vec, h0, h4, h8]
  exact if_neg (by decide)

end

theorem execMsixUnmask_pf {s : State} (hd : s.domOn 145 = true) (vec : Fin 512) : execMsixUnmask .pf vec s =
    .next (if s.intr.pba.contains (0 * 512 + vec.val) then (s.unmasked vec).sendMsix 0 vec else s.unmasked vec) := by
  have hc : (s.domOn 145 && decide (vec.val < if 0 = 0 then 512 else 16)) = true := by
    rw [hd, if_pos rfl, decide_eq_true vec.isLt]
    rfl
  exact if_pos hc

/-! ### The link (R398) -/

/-- A queue pair halts as the link goes down. -/
def State.linkHalt (t : State) (h : Nat) : State := (t.setQp h {}).haltQp h 4

theorem State.halted_linkHalt (t : State) (h k : Nat) (hk : k = h ∨ t.bit (Reg.HOST_QP_STAT k) 31 = true) :
    (t.linkHalt h).bit (Reg.HOST_QP_STAT k) 31 = true := by
  by_cases e : k = h
  · exact e ▸ State.halted_haltQp _ _
  · exact (State.bit_of_reg (State.reg_haltQp_ne _ _ (fun c => e (qpStat_injective c)) (qpStat_ne_hostStat k)) 31).trans
      (hk.resolve_left e)

theorem State.halted_foldl_linkHalt (k : Nat) (l : List Nat) (s : State)
    (hk : k ∈ l ∨ s.bit (Reg.HOST_QP_STAT k) 31 = true) : (l.foldl State.linkHalt s).bit (Reg.HOST_QP_STAT k) 31 = true := by
  induction l generalizing s with
  | nil => exact hk.resolve_left List.not_mem_nil
  | cons h r ih =>
    refine ih _ ?_
    rw [List.mem_cons, or_assoc, or_left_comm] at hk
    exact hk.imp_right (s.halted_linkHalt h k)

/-- The link has gone down and every queue pair has halted. -/
def State.pcieDown (s : State) : State :=
  (List.range 256).foldl State.linkHalt { s with host := { s.host with up := false } }

theorem State.up_pcieDown (s : State) : s.pcieDown.host.up = false :=
  State.foldl_keeps (fun t => t.host.up)
    (fun t h => (congrArg HostLink.up (State.host_of_apart ((t.setQp h {}).apart_haltQp h (cause := 4))) :)) _ _

theorem execPcieLinkDown_up {s : State} (h : s.host.up = true) :
    execPcieLinkDown s = .next (s.pcieDown.raiseBit Reg.HOST_STAT 28) := if_pos h

end Sys2Proof.Machine

open Sys2Proof.Machine

/-- Settles O56: each clause by its command's one branch, and what interrupts and the release of a frame leave alone. -/
theorem hostQueuePairs : Obligations.HostQueuePairs := by
  intro m h d ad ln sl q src tm rest vec x b y r df f ads s hm hd
  have hgate {a : Nat} (ha : qpReg a) (run : State → State) : s.gated m a true run = run s :=
    State.gated_trusted hm (by rw [domainOf_qpReg ha, hd]) true run
  have htail : exec (.qpTailWrite m h true d) s = .next (s.tailWrite h true d) :=
    congrArg Host.Outcome.next (hgate (qpReg_txIdx h.isLt) _)
  refine ⟨?_, fun hp => ?_, fun hp hr => ?_, fun hf hr hsl ho hln => ⟨fun h60 hmax ha => ?_, fun h60 => ?_⟩,
    fun hx hxr => ⟨fun hb => ?_, fun hr => ⟨?_, ?_⟩⟩, fun hup hsafe hp hk hq hf he => ?_, fun hh hl hdue => ?_, ?_,
    fun hup => ?_, fun hp hr => ?_⟩
  · obtain ⟨w, hw, hw31⟩ := State.qpCtlWrite_reset hm s h d
    have hkept := s.qpKept_qpReset h
    have hne {a : Nat} (ha : a ≠ Reg.HOST_QP_CTL h) (hq : qpReg a) :
        ((s.qpReset h).setReg (Reg.HOST_QP_CTL h) w).reg a = (s.qpCleared h).reg a :=
      (State.reg_setReg_ne _ ha w).trans (hkept.reg a hq)
    refine ⟨_, (congrArg Host.Outcome.next (hgate (qpReg_ctl h.isLt) _)).trans (congrArg _ hw), ?_, ?_, ?_, ?_, ?_⟩
    · rw [State.bit_setReg, if_pos rfl, hw31]
    · rw [State.bit_of_reg (hne (qpStat_ne_ctl h h) (qpReg_stat h.isLt)), State.halted_qpCleared]
    · rw [State.fld, hne (by simp only [Reg.HOST_QP_TXHEAD, Reg.HOST_QP_CTL]; omega) (qpReg_txHead h.isLt),
        State.reg_txHead_qpCleared]
      rfl
    · rw [State.fld, hne (by simp only [Reg.HOST_QP_RXHEAD, Reg.HOST_QP_CTL]; omega) (qpReg_rxHead h.isLt),
        State.reg_rxHead_qpCleared]
      rfl
    · exact congrArg Qp.tx ((hkept.qp h).trans (s.qp_qpCleared h))
  · exact ⟨_, htail.trans (congrArg _ ((s.tailWrite_tx h d).trans (if_neg (Nat.not_lt.2 hp)))), s.tail_txTail h d,
      fun a ha => s.reg_setReg_ne ha _⟩
  · have hs : Reg.HOST_QP_STAT h ≠ Reg.HOST_QP_TXIDX h := by
      simp only [Reg.HOST_QP_STAT, Reg.HOST_QP_TXIDX]
      omega
    exact ⟨_, htail.trans (congrArg _ ((s.tailWrite_tx h d).trans (if_pos hp))), State.halted_haltQp _ _,
      State.cause_haltQp _ _ ((State.bit_of_reg (s.reg_setReg_ne hs _) 31).trans hr) (by decide)⟩
  · refine ⟨_, execHostTxFetch_reads hf hr hsl hln h60 hmax ha ho, rfl, ?_, ?_⟩
    · rw [← ho]
      rfl
    · exact congrArg (fun z : Qp => z.tx.map fun z => (z.addr, z.len, z.slice, z.started))
        ((State.qp_setQp _ _ _ _).trans (if_pos rfl))
  · exact ⟨_, execHostTxFetch_short hf hr hsl hln ad h60, s.tx_txComplete (by decide),
      s.head_txComplete h.isLt (by decide), s.txDone_txComplete (by decide), s.bad_txComplete h.isLt (by decide)⟩
  · exact ⟨_, execDmaReadCompletion_bytes hx hxr hb, rfl, congrArg Qp.tx ((State.qp_setQp _ _ _ _).trans (if_pos rfl)),
      (Store.read_set _ _ _ _ _).trans (if_pos rfl)⟩
  · exact ⟨_, execDmaReadCompletion_failed hx hxr, s.haltQp_txComplete h (by decide) hr⟩
  · exact ⟨_, execDmaCompletionTimeout_reading hx hxr, s.haltQp_txComplete h (by decide) hr⟩
  · refine ⟨_, execHostRxDelivery_head hup hsafe hd hp hk hq hf he ads, ?_, fun j hj => ?_, ?_, fun n hn => ⟨?_, ?_⟩⟩
    · rw [State.queue_rxDelivered, State.queue_popped, if_pos rfl]
    · rw [State.queue_rxDelivered, State.queue_popped, if_neg hj]
    · exact State.rx_rxDelivered _ _ _ _ h.isLt
    · rw [hn, State.head_rxDelivered _ _ _ _ h.isLt, State.fld_of_reg (s.reg_popped _ _ _ _ _ _)]
    · rw [hn]
      exact (s.popped 1056 q df y r).out_rxDelivered ads _ y.frame
  · obtain ⟨hheld, hlast⟩ := (s.itrPopped h rest).itr_sendVector ((s.itrPopped h rest).qpOwner h)
      ((s.itrPopped h rest).fld (Reg.HOST_IRT src) 8 0)
    refine ⟨_, execItrHoldEnd_due hh hl hdue, ?_, ?_⟩
    · rw [hheld, State.held_itrPopped]
    · rw [hlast, State.last_itrPopped]
  · refine ⟨_, execMsixUnmask_pf hd vec, ?_⟩
    rw [Nat.zero_mul, Nat.zero_add, s.sendMsix_unmasked vec]
    split
    · split
      · exact ⟨rfl, s.mask_unmasked vec, s.pending_unmasked vec, fun _ _ => rfl⟩
      · exact ⟨rfl, s.mask_unmasked vec, s.pending_unmasked vec, fun _ hup => absurd hup ‹_›⟩
    · exact ⟨rfl, s.mask_unmasked vec, s.pending_unmasked vec, fun hc => absurd hc ‹_›⟩
  · refine ⟨_, execPcieLinkDown_up hup, ?_, State.bit_raiseBit_hostStat _ (by decide), fun k => ?_⟩
    · rw [State.host_of_apart (State.apart_raiseBit _ _ _), State.up_pcieDown]
    · rw [State.bit_of_reg (State.reg_raiseBit_ne _ _ _ _ (qpStat_ne_hostStat k) (qpStat_ne_hostStat k))]
      exact State.halted_foldl_linkHalt k _ _ (.inl (List.mem_range.2 k.isLt))
  · refine ⟨_, if_pos ?_, rfl, rfl⟩
    rw [hd, hp, hr]
    rfl

end
